-- ==== Sys2Proof/Word.lean ====
section
/-! DEFINITION. The words of the SC-8 that the manual treats as bits: a byte of a telegram or of the configuration
image, and a 12-bit sample code of the external converter. Every other quantity of the manual is a number with a
stated range and is a `Nat` or an `Int` here. -/

namespace Sys2Proof

/-- One byte: a character's data byte (R25), a byte of the configuration image (R194). -/
abbrev Byte := BitVec 8

/-- One 12-bit code of the external converter, 0 to 4095 (chapter 8, section 8.2). -/
abbrev SampleCode := BitVec 12

end Sys2Proof
end

