-- ==== Sys2Proof/Syntax.lean ====
section
/-! DEFINITION. The commands of the block: one constructor for each row of spec/opcode_table.json, in the table's order.
The table gives its rows no operands; where the event that a row names carries data from outside (a strap value, a
byte, a sample, the content of a telegram, the level read in an ack slot) or names one record of several (a door
channel, a neighbour, a machine), the constructor carries it (assumption log 4, DESIGN CHOICE). -/

namespace Sys2Proof

/-- One of the two neighbour records of chapter 1, section 1.7. -/
inductive Edge where
  | below
  | above
deriving DecidableEq, Repr

/-- One of the three machine records of chapter 5. -/
inductive MachineId where
  | pusher
  | guide
  | qcar
deriving DecidableEq, Repr

/-- The contents of one complete telegram as a receiver hears it (section 2.9): the two identifier characters, the
destination character, the payload characters and the two CRC characters. The length character is the number of
payload characters. -/
structure Frame where
  ident   : BitVec 16
  dest    : Byte
  payload : List Byte
  crc     : BitVec 16
deriving DecidableEq, Repr

/-- The commands: the rows of spec/opcode_table.json. -/
inductive Instr where
  /-- POWER_ON_ASSERT (R197). -/
  | powerOnAssert
  /-- POWER_ON_RELEASE (R197): the five strap pins as they read at the entry to LOADING. -/
  | powerOnRelease (straps : BitVec 5)
  /-- RESTART_ASSERT (R198). -/
  | restartAssert
  /-- RESTART_RELEASE (R198): the five strap pins as they read at the entry to LOADING. -/
  | restartRelease (straps : BitVec 5)
  /-- CONFIG_BYTE_ARRIVAL (R194): the byte that the configuration memory delivers. -/
  | configByteArrival (b : Byte)
  /-- CONFIG_BYTE_TIMEOUT (R194). -/
  | configByteTimeout
  /-- LOAD_COMPLETE (R196). -/
  | loadComplete
  /-- LISTEN_TIMER_EXPIRY (R197). -/
  | listenTimerExpiry
  /-- TICK_10MS (R1): the levels of the present inputs DP0..DP15 and the latched inputs DL0..DL15, bit c for channel c. -/
  | tick10ms (present latched : BitVec 16)
  /-- SECOND_TICK (R1). -/
  | secondTick
  /-- MINUTE_TICK (R1): whether the round's evaluation of R55 reaches the oven records before the tick does (R55
  allows either order). -/
  | minuteTick (bidFirst : Bool)
  /-- DOOR_INPUT_ACCEPTED (R121): the door channel. -/
  | doorInputAccepted (channel : Nat)
  /-- DOOR_WARN (R125): the door channel. -/
  | doorWarn (channel : Nat)
  /-- DOOR_OVERDUE (R126): the door channel. -/
  | doorOverdue (channel : Nat)
  /-- JOB_LIMIT_REACHED (R94). -/
  | jobLimitReached
  /-- HOLD_TIMER_EXPIRY (R86). -/
  | holdTimerExpiry
  /-- NEIGHBOUR_LOST (R16): which neighbour record. -/
  | neighbourLost (e : Edge)
  /-- MACHINE_STALE (R104, R105): which machine record. -/
  | machineStale (m : MachineId)
  /-- MAIN_STALE (R163). -/
  | mainStale
  /-- CLAIM_EXPIRED (R68). -/
  | claimExpired
  /-- BID_WINDOW_EXPIRY (R58). -/
  | bidWindowExpiry
  /-- EDGE_PHASE_REFRESH (R18). -/
  | edgePhaseRefresh
  /-- MAIN_SEND_EXPIRY (R162). -/
  | mainSendExpiry
  /-- TRAVEL_TIMER_EXPIRY (R111). -/
  | travelTimerExpiry
  /-- CONTROL_PERIOD_EXPIRY (R151). -/
  | controlPeriodExpiry
  /-- SAMPLE_WORD (R151): the 12-bit code of the word. -/
  | sampleWord (code : SampleCode)
  /-- ANSWER_LIMIT_EXPIRY (R152). -/
  | answerLimitExpiry
  /-- CONVERTER_CYCLE_COMPLETE (R155). -/
  | converterCycleComplete
  /-- POSITIONER_FRAME_END (R169). -/
  | positionerFrameEnd
  /-- LEAK_GATE_START (R137). -/
  | leakGateStart
  /-- LEAK_GATE_EXPIRY (R139). -/
  | leakGateExpiry
  /-- TELEGRAM_RECEIVED (R33): what the receiver has heard. -/
  | telegramReceived (f : Frame)
  /-- TELEGRAM_START (R27). -/
  | telegramStart
  /-- ARBITRATION_LOST (R28). -/
  | arbitrationLost
  /-- LINE_ERROR (R29). -/
  | lineError
  /-- TELEGRAM_SENT (R31): whether the sender reads the line low in the ack slot. -/
  | telegramSent (ackLow : Bool)
  /-- HALT (R87). -/
  | halt
  /-- PUSHER (R102). -/
  | pusher
  /-- GUIDE (R103). -/
  | guide
  /-- QCAR (R105). -/
  | qcar
  /-- CHARGE_START (R4). -/
  | chargeStart
  /-- CHARGE_END (R5). -/
  | chargeEnd
  /-- CLAIM (R65). -/
  | claim
  /-- BID (R52). -/
  | bid
  /-- RELEASE (R67). -/
  | release
  /-- PERMIT (R66). -/
  | permit
  /-- CALL (R66). -/
  | call
  /-- PHASE (R15). -/
  | phase
  /-- MAIN (R163). -/
  | main
  /-- PLAN (R13). -/
  | plan
  /-- SEED (R6). -/
  | seed
  /-- CLEAR_STICKER (R185). -/
  | clearSticker
  /-- CLEAR_HARDCOUNT (R185). -/
  | clearHardcount
  /-- INHIBIT_SET (R186). -/
  | inhibitSet
  /-- INHIBIT_CLEAR (R186). -/
  | inhibitClear
  /-- MASK (R188). -/
  | mask
  /-- FRAMING_FAULT (R26). -/
  | framingFault
  /-- LINE_IDLE (R27). -/
  | lineIdle
  /-- LEAK_SENSOR_PULSE (R138). -/
  | leakSensorPulse
deriving DecidableEq, Repr

end Sys2Proof
end

