-- ==== Sys2Proof/Decode.lean ====
section
/-! DEFINITION. The commands that words spell. spec/opcode_table.json gives no row any bits: a command of the SC-8 is an
event or a telegram, not a word. So no word spells a command, and `decodeTableWord` answers none (assumption log 1). -/

namespace Sys2Proof

/-- The command that the word w of nbits bits spells by the table's bits: none, since the table gives no row bits. -/
def decodeTableWord (_nbits _w : Nat) : Option Instr := none

end Sys2Proof
end

