-- ==== Sys2Proof/Config.lean ====
section
/-! DEFINITION. What one section cabinet fixes: the values of the configuration image (section 11.4), as the image
delivers them after the corrections of R196, and the constants the manual states once for every SC-8. The controller
leaves no value open that an implementation fixes, so there is no opaque constant here. -/

namespace Sys2Proof

/-- Zero code Z and span S of one pressure channel (R174). -/
structure Channel where
  zero : Int
  span : Int
deriving DecidableEq, Repr

/-- One row of the profile table. The EARLY row has f = 0 (section 1.5); the UNKNOWN row has no B and no f, and
carries its A in both places. -/
structure Row where
  f    : Nat
  a    : Int
  b    : Int
  umin : Int
  umax : Int
deriving DecidableEq, Repr

/-- The configuration values of section 11.4, in the order of the layout table. -/
structure Config where
  first        : Nat            -- F
  count        : Nat            -- k, the oven count
  last         : Nat            -- N
  tap          : Bool           -- main tap
  source       : Nat            -- main source
  channels     : List Channel   -- Z, S of channels 1..8 and 17, in that order
  uchg         : Int
  unknownRow   : Row
  earlyRow     : Row
  mainRow      : Row
  lateRow      : Row
  finishRow    : Row
  refs         : List Nat       -- initial Ref, channels 0..15
  reportSet    : BitVec 32      -- default report-enable set, coded as MASK
  tower        : Nat
  rateCode     : Nat            -- 1, 2, 3
  tc           : Nat            -- ms
  shift        : Nat            -- filter shift k
  kp           : Int
  ki           : Int
  r            : Int
  riso         : Int
  dmin         : Int
  leakOffset   : Int            -- L
  tstale       : Nat            -- s
  tdw          : Nat            -- s
  tdo          : Nat            -- s
  tgCode       : Nat            -- 0..3
  margin       : Nat            -- M
  nchk         : Nat
  tw           : Nat            -- ms
  tclaim       : Nat            -- min
  jobLimit     : Nat            -- min
  holdLimit    : Nat            -- s
  staleLimit   : Nat            -- s
  tnb          : Nat            -- s
  tfix         : Nat            -- s
  tspot        : Nat            -- s
  hardPush     : Nat            -- kN
  planT        : Nat            -- min
  planE        : Nat            -- min
  planNmin     : Nat            -- min
deriving DecidableEq, Repr

/-- The line rates in bit/s that the line rate code names (section 11.4, byte 125). -/
def Config.bitRate (g : Config) : Nat :=
  if g.rateCode = 1 then 19200 else if g.rateCode = 3 then 76800 else 38400

/-- The leak gate time in 10 ms ticks that the Tg code names: 10, 20, 50 or 100 ms (R138, section 11.4). -/
def Config.gateTicks (g : Config) : Nat :=
  if g.tgCode = 0 then 1 else if g.tgCode = 2 then 5 else if g.tgCode = 3 then 10 else 2

/-- The control period Tc in 10 ms ticks (R2, R151). -/
def Config.periodTicks (g : Config) : Nat := (g.tc + 9) / 10

/-- The answer limit Tc/2 in 10 ms ticks, a part tick counted whole (R2, R151). -/
def Config.answerTicks (g : Config) : Nat := (g.tc + 19) / 20

/-- The values read where no configuration is in force. No record of the controller exists then (R24, R117, R135,
R150, R172), so that no rule reads them; the stale limit is the saturation value of the machine ages. -/
def Config.blank : Config where
  first := 0
  count := 0
  last := 0
  tap := false
  source := 0
  channels := []
  uchg := 0
  unknownRow := ⟨0, 0, 0, 0, 0⟩
  earlyRow := ⟨0, 0, 0, 0, 0⟩
  mainRow := ⟨0, 0, 0, 0, 0⟩
  lateRow := ⟨0, 0, 0, 0, 0⟩
  finishRow := ⟨0, 0, 0, 0, 0⟩
  refs := []
  reportSet := 0
  tower := 0
  rateCode := 2
  tc := 0
  shift := 0
  kp := 0
  ki := 0
  r := 0
  riso := 0
  dmin := 0
  leakOffset := 0
  tstale := 0
  tdw := 0
  tdo := 0
  tgCode := 1
  margin := 0
  nchk := 0
  tw := 0
  tclaim := 0
  jobLimit := 0
  holdLimit := 0
  staleLimit := 60
  tnb := 0
  tfix := 0
  tspot := 0
  hardPush := 0
  planT := 0
  planE := 0
  planNmin := 0

end Sys2Proof
end

