-- ==== Sys2Proof/Machine/State.lean ====
section
/-! DEFINITION. The state of the SC-8: the records of its eleven blocks (chapter 0, "Block overview"), each a structure
of plain data, gathered in `Controller`; and `State`, the controller beside the queue of the commands that wait.
The docstring of a field names the rule or section that gives it. -/

namespace Sys2Proof.Machine

open Sys2Proof

/-! ## Named values -/

/-- The station line states (chapter 11). -/
inductive LineState where
  | loading
  | configFault
  | listen
  | active
  | silent
deriving DecidableEq, Repr

/-- The phases of an oven (section 1.3). -/
inductive Phase where
  | unknown
  | empty
  | charging
  | coking
  | isolating
  | isolated
  | pushing
  | sticker
deriving DecidableEq, Repr

/-- The stages of the setpoint profile (section 1.5). -/
inductive Stage where
  | early
  | main
  | late
  | finish
deriving DecidableEq, Repr

/-- The valve modes (section 8.1). -/
inductive ValveMode where
  | regulate
  | hold
  | forced
  | isolating
  | closed
deriving DecidableEq, Repr

/-- The telegram kinds (section 2.9). -/
inductive Kind where
  | halt
  | pusher
  | guide
  | qcar
  | charge
  | claim
  | release
  | permit
  | call
  | bid
  | phase
  | main
  | plan
  | seed
  | clear
  | inhibit
  | mask
  | event
deriving DecidableEq, Repr

/-- The states of the push job (section 4.1). -/
inductive JobState where
  | idle
  | bidding
  | claiming
  | claimed
  | doors
  | staged
  | permitted
  | pushing
  | held
  | reclosing
deriving DecidableEq, Repr

/-- Why a job is HELD (section 4.1). -/
inductive HoldCause where
  | condition
  | supervisory
deriving DecidableEq, Repr

/-- The outcomes of a RELEASE (section 2.9). -/
inductive PushOutcome where
  | pushed
  | abandoned
  | aborted
deriving DecidableEq, Repr

/-- The abort reasons (R93). -/
inductive AbortReason where
  | doorOverdue
  | jobLimit
  | holdLimit
  | inhibited
  | qcarLate
  | supervisoryHalt
deriving DecidableEq, Repr

/-- The states of the pusher (section 5.1). -/
inductive PusherState where
  | travel
  | atSpot
  | pushing
  | returned
  | ready
  | fault
deriving DecidableEq, Repr

/-- The states of the guide car (section 5.1). -/
inductive GuideState where
  | travel
  | atSpot
  | guideSet
  | fault
deriving DecidableEq, Repr

/-- The places of the quench car (section 5.2). -/
inductive CarPlace where
  | oven
  | tower
  | wharf
  | transit
deriving DecidableEq, Repr

/-- The states of the quench car (section 5.2). -/
inductive CarState where
  | empty
  | loading
  | loaded
  | quenching
  | dumping
  | fault
deriving DecidableEq, Repr

/-- The steps of the quench car call (section 5.3). -/
inductive CallStep where
  | none
  | pending
  | sent
deriving DecidableEq, Repr

/-- The states of a door (section 6.2). -/
inductive DoorState where
  | tight
  | leaking
  | checking
  | unlatched
  | removed
deriving DecidableEq, Repr

/-- The thirty event kinds of section 10.2, in the order of their numbers. -/
inductive EventKind where
  | rxOverrun
  | crcError
  | loneTelegram
  | lineError
  | duplicateId
  | txDropped
  | seedNeeded          -- kind 7: SEED NEEDED; CONFIG CLAMPED at a load
  | seedRefused         -- kind 8: SEED REFUSED; CONFIG CLAMPED from PLAN
  | doubleCharge
  | chargeDoors
  | neighbourLost
  | claimConflictLost
  | lateRelease
  | claimExpired
  | earlyDoor
  | unauthorisedDoor
  | doorInputConflict
  | doorWarn
  | doorOverdue
  | doorLeak
  | leakSensorDead
  | leakOverrange
  | qcarLate
  | jobAborted
  | pushHeld
  | hardPush
  | sticker
  | sensor              -- kind 28: SENSOR INVALID, VALVE STUCK
  | draw                -- kind 29: MAIN STALE, NO DRAW
  | sampleOverrun
deriving DecidableEq, Repr

/-! ## Time base (R1) -/

/-- The 10 ms ticks since the last second tick, and the second ticks since the last minute tick. -/
structure TimeBase where
  ticks   : Nat
  seconds : Nat
deriving DecidableEq, Repr

/-! ## Oven table (chapter 1) and the valve fields of its records (chapter 8) -/

/-- One oven record (section 1.2) with the valve fields of the oven (section 8.1). -/
structure Oven where
  number     : Nat
  phase      : Phase
  minutes    : Nat            -- coking minutes m
  target     : Nat            -- T
  allowance  : Nat            -- E
  stage      : Option Stage
  inhibited  : Bool
  hardCount  : Nat
  mode       : ValveMode
  command    : Int            -- U, per mille
  integrator : Int            -- I, 1/1024 per mille
  filtered   : Option Int     -- Pf, Pa
  invalid    : Nat
  feedback   : Option Int     -- fb, per mille
  stuck      : Bool
  stuckCount : Nat
  noDraw     : Nat
  isoCount   : Nat
deriving DecidableEq, Repr

/-- One neighbour record (section 1.7). -/
structure Neighbour where
  oven    : Nat
  heard   : Phase
  minutes : Nat
  age     : Nat
  known   : Bool
deriving DecidableEq, Repr

/-- The records of the oven table: oven records, neighbour records (absent at a battery end, R14), pending plan and
Nmin (section 1.6), the second ticks left to the edge-PHASE refresh (R18; absent while it stands), and whether SEED
NEEDED is still to be counted at the first entry to ACTIVE (R20). -/
structure OvenTable where
  ovens      : List Oven
  below      : Option Neighbour
  above      : Option Neighbour
  pendT      : Nat
  pendE      : Nat
  nmin       : Nat
  edge       : Option Nat
  seedNeeded : Bool
deriving DecidableEq, Repr

/-! ## Line unit (chapter 2) -/

/-- The contents of one telegram: class, sub, source, destination and payload (section 2.9). -/
structure Telegram where
  cls     : Nat
  sub     : Nat
  src     : Nat
  dest    : Nat
  payload : List Byte
deriving DecidableEq, Repr

/-- One entry of the transmit queue (section 2.7): its telegram, and whether that telegram is the one on the line. -/
structure TxEntry where
  tel    : Telegram
  onLine : Bool
deriving DecidableEq, Repr

/-- What has become, in the transmit queue, of the entry whose telegram is on the line: it stands there; its contents
were replaced (R40); it was withdrawn (R43); it was dropped (R41). -/
inductive Fate where
  | queued
  | replaced
  | withdrawn
  | dropped
deriving DecidableEq, Repr

/-- Where the line unit stands on the line: it counts 12 released bit times and takes no start bit before their end
(after a telegram it abandoned or aborted and at the entry to LISTEN: R26, R27, R29); a telegram has ended, and it counts 12
released bit times but receives a telegram that another station begins before their end (R27); the line is idle; it
receives after a lost arbitration (R28); it sends a telegram of its own. -/
inductive LinePhase where
  | counting
  | ended
  | idle
  | receiving
  | sending (t : Telegram) (fate : Fate)
deriving DecidableEq, Repr

/-- The line unit's records: the station number in force (0 before the first entry to LISTEN), the position on the
line, the receive queue (R37), the transmit queue (R39), and whether the station drives the ack slot of the telegram
last received (R31). -/
structure LineUnit where
  number : Nat
  phase  : LinePhase
  rx     : List Telegram
  tx     : List TxEntry
  ack    : Bool
deriving DecidableEq, Repr

/-! ## Pushing order unit (chapter 3) -/

/-- One entry of the bid list (section 3.3). -/
structure Bid where
  src   : Nat
  oven  : Nat
  ident : Nat
deriving DecidableEq, Repr

/-- The round record (section 3.3); `window` is the window remaining in ms. -/
structure Round where
  opened  : Bool
  window  : Nat
  ownBid  : Option Nat
  ownSent : Bool
  bids    : List Bid
deriving DecidableEq, Repr

/-- The holder, oven and claim identifier of a held claim (section 3.5). -/
structure HeldClaim where
  holder : Nat
  oven   : Nat
  ident  : Nat
deriving DecidableEq, Repr

/-- The held-claim record (section 3.5). The oven and claim identifier are meaningful only while a holder is present,
so the three stand together. -/
structure HeldRecord where
  claim     : Option HeldClaim
  age       : Nat
  limit     : Nat
  expHolder : Option Nat
  expOven   : Option Nat
deriving DecidableEq, Repr

/-! ## Push job unit (chapter 4) -/

/-- A RELEASE the station still has to send (section 4.1). -/
structure OwedRelease where
  oven    : Nat
  outcome : PushOutcome
deriving DecidableEq, Repr

/-- The push job record (section 4.1) and the two field outputs PERMIT and HOLD that it drives (R72). -/
structure Job where
  state     : JobState
  oven      : Option Nat
  ownClaim  : Option Nat
  started   : Bool
  ended     : Bool
  minutes   : Nat
  holdSecs  : Nat
  cause     : Option HoldCause
  owed      : Option OwedRelease
  permitOut : Bool
  holdOut   : Bool
deriving DecidableEq, Repr

/-! ## Machine tracker (chapter 5) -/

/-- The pusher record (section 5.1). -/
structure PusherRecord where
  spot  : Option Nat
  state : Option PusherState
  age   : Nat
  stale : Bool
deriving DecidableEq, Repr

/-- The guide car record (section 5.1). -/
structure GuideRecord where
  spot  : Option Nat
  state : Option GuideState
  age   : Nat
  stale : Bool
deriving DecidableEq, Repr

/-- The quench car record (section 5.2). -/
structure CarRecord where
  place  : Option CarPlace
  spot   : Option Nat
  state  : Option CarState
  target : Option Nat
  age    : Nat
  stale  : Bool
deriving DecidableEq, Repr

/-- The quench car call (section 5.3). -/
structure Call where
  step      : CallStep
  oven      : Option Nat
  queued    : Bool
  limit     : Nat
  remaining : Nat
  expiries  : Nat
deriving DecidableEq, Repr

/-- The records of the machine tracker. -/
structure Tracker where
  pusher : PusherRecord
  guide  : GuideRecord
  car    : CarRecord
  call   : Call
deriving DecidableEq, Repr

/-! ## Door unit (chapter 6) and the leak fields of its records (chapter 7) -/

/-- The debounce of one door input (R120). The accepted value is absent until the first 10 ms tick. -/
structure DoorInput where
  accepted : Option Bool
  run      : Nat
deriving DecidableEq, Repr

/-- One door record (section 6.2) with its leak fields (chapter 7). The channel is the record's place in the list and
the side the channel's parity. -/
structure Door where
  present  : Bool
  latched  : Bool
  state    : DoorState
  openSecs : Nat
  warned   : Bool
  overdue  : Bool
  conflict : Bool
  score    : Nat
  ref      : Nat
  last     : Option Nat
  checks   : Nat
  dead     : Nat
deriving DecidableEq, Repr

/-- The door unit: the debounce of the 16 present and 16 latched inputs, and the door records in channel order (empty
until they are formed, R131). -/
structure DoorUnit where
  presentIn : List DoorInput
  latchedIn : List DoorInput
  doors     : List Door
deriving DecidableEq, Repr

/-- The leak scanner's own record (chapter 7). The channel is also what the channel select lines LKS0..LKS3 show
(R147). `ticksLeft` is what is left of the leak gate timer, and `startNext` says that a gate starts at the next 10 ms
tick (R137, R148, R149). -/
structure Scanner where
  running   : Bool
  channel   : Nat
  count     : Nat
  spoiled   : Bool
  ticksLeft : Nat
  startNext : Bool
deriving DecidableEq, Repr

/-! ## Regulation unit (chapter 8) -/

/-- A converter cycle in flight (R151): the channels requested and the samples received so far, in channel order. -/
structure Cycle where
  wanted : Nat
  got    : List SampleCode
deriving DecidableEq, Repr

/-- The main pressure record (section 8.4). -/
structure MainRecord where
  tap     : Bool
  value   : Option Int
  invalid : Nat
  age     : Nat
  stale   : Bool
  queued  : Bool
deriving DecidableEq, Repr

/-- The regulation unit's own records: the converter cycle in flight, the ticks left to the control period and the
answer limit, the seconds left to the MAIN send (absent while a timer stands), the positioner frame being sent, whether
a frame request is held, whether frames are sent at present (R169 to R172), and the main pressure record. -/
structure Regulation where
  cycle     : Option Cycle
  period    : Option Nat
  answer    : Option Nat
  mainSend  : Option Nat
  frame     : Option (List Int)
  frameHeld : Bool
  framesOn  : Bool
  main      : MainRecord
deriving DecidableEq, Repr

/-! ## Event table (chapter 10) -/

/-- One entry of the event table (section 10.2). -/
structure EventEntry where
  count : Nat
  first : Option Nat
deriving DecidableEq, Repr

/-- The event table: the entry of kind j at place j − 1, the report-enable set coded as MASK, EVENT queued and the
carried kind (section 10.2). -/
structure EventTable where
  entries : List EventEntry
  enable  : BitVec 32
  queued  : Bool
  carried : Option Nat
deriving DecidableEq, Repr

/-! ## Start-up unit (chapter 11) -/

/-- The start-up unit: the reset inputs POWER-ON and RESTART (true while asserted), the station line state, the
configuration in force, whether the image is being read, the bytes read so far (of the last image read, once the read
is over), the 10 ms ticks left of the 100 ms allowed for the requested byte (R194), the straps read at the last entry
to LOADING (R193), and the second ticks left of the LISTEN period (R197). -/
structure StartUp where
  powerOn  : Bool
  restart  : Bool
  line     : LineState
  config   : Option Config
  reading  : Bool
  image    : List Byte
  byteLeft : Option Nat
  straps   : BitVec 5
  listen   : Option Nat
deriving DecidableEq, Repr

/-! ## Events that have come due -/

/-- The MODEL's own field: the events that the ticks and arrivals so far have made due and that have not been taken
yet (R1: the expiry of a timer is itself an event). A channel list names the doors concerned. -/
structure Due where
  loadComplete  : Bool
  byteTimeout   : Bool
  doorInput     : List Nat
  gateExpiry    : Bool
  gateStart     : Bool
  answerLimit   : Bool
  cycleComplete : Bool
  controlPeriod : Bool
  bidWindow     : Bool
  second        : Bool
  doorWarn      : List Nat
  doorOverdue   : List Nat
  lostBelow     : Bool
  lostAbove     : Bool
  stalePusher   : Bool
  staleGuide    : Bool
  staleCar      : Bool
  mainStale     : Bool
  holdTimer     : Bool
  travelTimer   : Bool
  listenTimer   : Bool
  edgeRefresh   : Bool
  mainSend      : Bool
  minute        : Bool
  jobLimit      : Bool
  claimExpired  : Bool
deriving DecidableEq, Repr

/-- Nothing is due. -/
def Due.nothing : Due :=
  ⟨false, false, [], false, false, false, false, false, false, false, [], [], false, false, false, false, false,
    false, false, false, false, false, false, false, false, false⟩

/-! ## The whole -/

/-- The records of the eleven blocks, and the events that have come due. -/
structure Controller where
  start  : StartUp
  time   : TimeBase
  line   : LineUnit
  table  : OvenTable
  round  : Round
  held   : HeldRecord
  job    : Job
  track  : Tracker
  doors  : DoorUnit
  scan   : Scanner
  reg    : Regulation
  events : EventTable
  due    : Due
deriving DecidableEq, Repr

/-- The state: the commands that wait, first in, first out, and the controller. -/
structure State where
  pending : List Instr
  ctl     : Controller
deriving DecidableEq, Repr

/-- The faults of the machine: none. The manual gives the SC-8 no state in which it stops: every event that a command
names either acts as the manual says or finds nothing to act on. -/
inductive Fault where
deriving DecidableEq, Repr

/-- The refusals of the machine. -/
inductive Refusal where
  /-- Raised by an arm of `exec` whose command has no meaning yet; safe, the run stops there. No arm raises it now. -/
  | notModelled (mnemonic : String)
deriving DecidableEq, Repr

/-! ## Reset values -/

/-- A job record in IDLE (R71), with no release owed (R99). -/
def Job.idleRecord : Job :=
  ⟨.idle, none, none, false, false, 0, 0, none, none, false, false⟩

/-- A call that stands unused (R117). -/
def Call.unused : Call := ⟨.none, none, false, 0, 0, 0⟩

/-- The records of the tracker with every machine unknown, at the given age (R117). -/
def Tracker.unknown (age : Nat) : Tracker :=
  ⟨⟨none, none, age, true⟩, ⟨none, none, age, true⟩, ⟨none, none, none, none, age, true⟩, Call.unused⟩

/-- A closed round (R69). -/
def Round.closedRecord : Round := ⟨false, 0, none, false, []⟩

/-- A held-claim record without a holder (R69). -/
def HeldRecord.emptyRecord (limit : Nat) : HeldRecord := ⟨none, 0, limit, none, none⟩

/-- An idle scanner showing channel 0 (R148, R150). -/
def Scanner.idleRecord : Scanner := ⟨false, 0, 0, false, 0, false⟩

/-- The main pressure record at the start (R170). -/
def MainRecord.fresh (tap : Bool) : MainRecord := ⟨tap, none, 0, if tap then 0 else 60, true, false⟩

/-- An empty entry of the event table (R192). -/
def EventEntry.emptied : EventEntry := ⟨0, none⟩

/-- The controller held at its reset by POWER-ON (R197), with the RESTART input at the given level. The values the manual
does not give before the first tick or the first load, the accepted values and run counts of the door inputs among them, are
the model's (assumption log 13, DESIGN CHOICE). -/
def Controller.atReset (restart : Bool) : Controller where
  start := ⟨true, restart, .loading, none, false, [], none, 0, none⟩
  time := ⟨0, 0⟩
  line := ⟨0, .counting, [], [], false⟩
  table := ⟨[], none, none, 0, 0, 0, none, false⟩
  round := Round.closedRecord
  held := HeldRecord.emptyRecord 0
  job := Job.idleRecord
  track := Tracker.unknown 60
  doors := ⟨List.replicate 16 ⟨none, 0⟩, List.replicate 16 ⟨none, 0⟩, []⟩
  scan := Scanner.idleRecord
  reg := ⟨none, none, none, none, none, false, false, MainRecord.fresh false⟩
  events := ⟨List.replicate 30 EventEntry.emptied, 0, false, none⟩
  due := Due.nothing

/-- The machine at reset: POWER-ON asserted, every block held at its reset (R197), RESTART not asserted, no command
waiting (assumption log 1). -/
def State.reset : State := ⟨[], Controller.atReset false⟩

end Sys2Proof.Machine
end

