-- ==== Sys2Proof/Machine/Arith.lean ====
section
/-! DEFINITION. The arithmetic the manual uses everywhere: rounding to nearest with halves away from zero, Clamp
(chapter 0, "Conventions"; R173), and the 16-bit check of R30, which is also the image check of R194. -/

namespace Sys2Proof.Machine

open Sys2Proof

/-- Division rounded to the nearest whole number, a half rounded away from zero (chapter 0, "Arithmetic"; R173).
The divisor is above 0 wherever the manual divides. -/
def roundDiv (a : Int) (b : Nat) : Int :=
  let q : Int := ((2 * a.natAbs + b) / (2 * b) : Nat)
  if a < 0 then -q else q

/-- Clamp(x, a, b) of chapter 0: a if x is below a, b if x is above b, and x otherwise. -/
def clampInt (x lo hi : Int) : Int := if x < lo then lo else if hi < x then hi else x

/-- Clamp on natural numbers. -/
def clampNat (x lo hi : Nat) : Nat := if x < lo then lo else if hi < x then hi else x

/-- One bit step of the check register of R30: generator x^16 + x^12 + x^5 + 1. -/
def crcBit (r : Nat) : Nat :=
  if 32768 ≤ r then ((r * 2) % 65536) ^^^ 4129 else r * 2

/-- One byte of the check, most significant bit first (R30). -/
def crcByte (r : Nat) (b : Byte) : Nat :=
  (crcBit ∘ crcBit ∘ crcBit ∘ crcBit ∘ crcBit ∘ crcBit ∘ crcBit ∘ crcBit) (r ^^^ (b.toNat * 256))

/-- The 16-bit check over a run of bytes: the register starts at all ones and is not inverted at the end (R30). -/
def crc16 (bs : List Byte) : Nat := bs.foldl crcByte 65535

end Sys2Proof.Machine
end

