-- ==== Sys2Proof/Machine/Operands.lean ====
section
/-! DEFINITION. What telegrams carry: identifiers, the kinds with their sources and lengths (section 2.9), the payload
characters as numbers, the codes of the named payload values, and the telegrams the controller builds. -/

namespace Sys2Proof.Machine

open Sys2Proof

/-! ## Identifier and frame -/

/-- The identifier's value: class × 8192 + sub × 32 + source (section 2.9). -/
def Telegram.ident (t : Telegram) : Nat := t.cls * 8192 + t.sub * 32 + t.src

/-- The telegram that a frame spells: the class in the three highest bits of the identifier, the sub in the next eight
and the source in the five lowest (section 2.9). -/
def telegramOf (f : Frame) : Telegram where
  cls := f.ident.toNat / 8192
  sub := f.ident.toNat / 32 % 256
  src := f.ident.toNat % 32
  dest := f.dest.toNat
  payload := f.payload

/-- The bytes the check of R30 runs over: identifier high byte first, destination, length, payload. -/
def checkedBytes (ident : Nat) (dest : Byte) (payload : List Byte) : List Byte :=
  BitVec.ofNat 8 (ident / 256) :: BitVec.ofNat 8 ident :: dest :: BitVec.ofNat 8 payload.length :: payload

/-- The check of a frame as received agrees with its two CRC characters (R30). -/
def frameCheckAgrees (f : Frame) : Bool :=
  crc16 (checkedBytes f.ident.toNat f.dest f.payload) == f.crc.toNat

/-- The frame a sender puts on the line for a telegram (R30, section 2.9). -/
def frameOf (t : Telegram) : Frame where
  ident := BitVec.ofNat 16 t.ident
  dest := BitVec.ofNat 8 t.dest
  payload := t.payload
  crc := BitVec.ofNat 16 (crc16 (checkedBytes t.ident (BitVec.ofNat 8 t.dest) t.payload))

/-- The characters of a frame in the order they are sent, as bytes (section 2.9). -/
def frameBytes (f : Frame) : List Byte :=
  checkedBytes f.ident.toNat f.dest f.payload
    ++ [BitVec.ofNat 8 (f.crc.toNat / 256), BitVec.ofNat 8 f.crc.toNat]

/-- One character of R25 as the line carries it, first bit first in the highest place: the start bit (driven, 0), the
byte most significant bit first, the mark bit, the stop bit (released, 1). -/
def characterBits (marked : Bool) (b : Byte) : BitVec 11 :=
  (0#1 ++ b) ++ (BitVec.ofBool marked ++ 1#1)

/-- The characters of a frame as the line carries them: the mark bit is set in the two identifier characters and clear
in every later one (R25). -/
def frameCharacters (f : Frame) : List (BitVec 11) :=
  (frameBytes f).mapIdx fun i b => characterBits (decide (i < 2)) b

/-! ## Kinds (section 2.9, R32) -/

/-- The kind a class and sub name, if they name one (R32: in class 2 and class 4 every sub names CLAIM and BID). -/
def kindOf (cls sub : Nat) : Option Kind :=
  match cls, sub with
  | 0, 1 => some .halt
  | 1, 1 => some .pusher
  | 1, 2 => some .guide
  | 1, 3 => some .qcar
  | 1, 4 => some .charge
  | 2, _ => some .claim
  | 3, 1 => some .release
  | 3, 2 => some .permit
  | 3, 3 => some .call
  | 4, _ => some .bid
  | 5, 1 => some .phase
  | 5, 2 => some .main
  | 6, 1 => some .plan
  | 6, 2 => some .seed
  | 6, 3 => some .clear
  | 6, 4 => some .inhibit
  | 6, 5 => some .mask
  | 7, 1 => some .event
  | _, _ => none

/-- The kind of a telegram. -/
def Telegram.kind (t : Telegram) : Option Kind := kindOf t.cls t.sub

/-- A source number is a section controller's: 1 to 24. -/
def isSection (src : Nat) : Bool := decide (1 ≤ src) && decide (src ≤ 24)

/-- The sources the payload table allows for a kind (section 2.9, R32). -/
def sourceAllowed (k : Kind) (src : Nat) : Bool :=
  match k with
  | .halt => isSection src || src == 30
  | .pusher => src == 25
  | .guide => src == 26
  | .qcar => src == 27
  | .charge => src == 28
  | .claim | .release | .permit | .call | .bid | .phase | .main | .event => isSection src
  | .plan | .seed | .clear | .inhibit | .mask => src == 30

/-- The length the payload table gives for a kind (section 2.9, R32). -/
def kindLength (k : Kind) : Nat :=
  match k with
  | .halt => 2
  | .pusher => 5
  | .guide => 2
  | .qcar => 4
  | .charge => 2
  | .claim => 3
  | .release => 2
  | .permit => 2
  | .call => 1
  | .bid => 3
  | .phase => 5
  | .main => 2
  | .plan => 5
  | .seed => 6
  | .clear => 2
  | .inhibit => 2
  | .mask => 4
  | .event => 3

/-! ## Payload characters -/

/-- The number in payload character i (section 2.9: unsigned). The acceptance filter has judged the length (R32). -/
def Telegram.at (t : Telegram) (i : Nat) : Nat := (t.payload.getD i 0).toNat

/-- The number in payload characters i and i + 1, high byte first (section 2.9). -/
def Telegram.at2 (t : Telegram) (i : Nat) : Nat := t.at i * 256 + t.at (i + 1)

/-- A signed number of two characters, two's complement (section 2.9: the MAIN pressure). -/
def signed16 (n : Nat) : Int := if n < 32768 then (n : Int) else (n : Int) - 65536

/-- The oven field of every kind that carries one: payload character 0 (section 2.9). -/
def Telegram.oven (t : Telegram) : Nat := t.at 0

/-- The two characters of a number, high byte first. -/
def bytes2 (n : Nat) : List Byte := [BitVec.ofNat 8 (n / 256), BitVec.ofNat 8 n]

/-- An oven field that may be absent: 0 means none (section 2.9). -/
def ovenField (n : Nat) : Option Nat := if n = 0 then none else some n

/-! ## Codes of the named payload values (section 2.9) -/

/-- PUSHER state, codes 1 to 6. -/
def pusherStateOf (n : Nat) : Option PusherState :=
  match n with
  | 1 => some .travel
  | 2 => some .atSpot
  | 3 => some .pushing
  | 4 => some .returned
  | 5 => some .ready
  | 6 => some .fault
  | _ => none

/-- GUIDE state, codes 1 to 4. -/
def guideStateOf (n : Nat) : Option GuideState :=
  match n with
  | 1 => some .travel
  | 2 => some .atSpot
  | 3 => some .guideSet
  | 4 => some .fault
  | _ => none

/-- QCAR place, codes 1 to 4. -/
def carPlaceOf (n : Nat) : Option CarPlace :=
  match n with
  | 1 => some .oven
  | 2 => some .tower
  | 3 => some .wharf
  | 4 => some .transit
  | _ => none

/-- QCAR state, codes 1 to 6. -/
def carStateOf (n : Nat) : Option CarState :=
  match n with
  | 1 => some .empty
  | 2 => some .loading
  | 3 => some .loaded
  | 4 => some .quenching
  | 5 => some .dumping
  | 6 => some .fault
  | _ => none

/-- The phase codes of PHASE and SEED, 0 to 7. -/
def phaseOf (n : Nat) : Option Phase :=
  match n with
  | 0 => some .unknown
  | 1 => some .empty
  | 2 => some .charging
  | 3 => some .coking
  | 4 => some .isolating
  | 5 => some .isolated
  | 6 => some .pushing
  | 7 => some .sticker
  | _ => none

/-- The code of a phase. -/
def Phase.code (p : Phase) : Nat :=
  match p with
  | .unknown => 0
  | .empty => 1
  | .charging => 2
  | .coking => 3
  | .isolating => 4
  | .isolated => 5
  | .pushing => 6
  | .sticker => 7

/-- The phases a SEED may name (R6). -/
def seedPhaseOf (n : Nat) : Option Phase :=
  match n with
  | 1 => some .empty
  | 3 => some .coking
  | 7 => some .sticker
  | _ => none

/-- The code of a RELEASE outcome. -/
def PushOutcome.code (o : PushOutcome) : Nat :=
  match o with
  | .pushed => 1
  | .abandoned => 2
  | .aborted => 3

/-- The RELEASE outcome of a code; the controller's own RELEASEs carry 1, 2 or 3. -/
def outcomeOf (n : Nat) : PushOutcome :=
  if n = 1 then .pushed else if n = 2 then .abandoned else .aborted

/-- The code of an abort reason (R93). -/
def AbortReason.code (r : AbortReason) : Nat :=
  match r with
  | .doorOverdue => 1
  | .jobLimit => 2
  | .holdLimit => 3
  | .inhibited => 4
  | .qcarLate => 5
  | .supervisoryHalt => 6

/-- CHARGE codes. -/
def chargeStartCode : Nat := 1

/-- CHARGE END. -/
def chargeEndCode : Nat := 2

/-- CLEAR STICKER. -/
def clearStickerCode : Nat := 1

/-- CLEAR HARDCOUNT. -/
def clearHardcountCode : Nat := 2

/-- INHIBIT SET. -/
def inhibitSetCode : Nat := 1

/-- INHIBIT CLEAR. -/
def inhibitClearCode : Nat := 2

/-- PERMIT DOORS. -/
def permitDoorsCode : Nat := 1

/-- PERMIT PUSH. -/
def permitPushCode : Nat := 2

/-- HALT reason CONDITION. -/
def haltConditionCode : Nat := 1

/-- The supervisory station's number. -/
def supervisor : Nat := 30

/-! ## The telegrams the controller sends (R39, R48, R73, section 2.9) -/

/-- HALT with reason CONDITION (R73). -/
def haltTelegram (src oven : Nat) : Telegram :=
  ⟨0, 1, src, 0, [BitVec.ofNat 8 oven, BitVec.ofNat 8 haltConditionCode]⟩

/-- CLAIM: class 2, sub 255 − u (R48). -/
def claimTelegram (src sub oven minutes : Nat) : Telegram :=
  ⟨2, sub, src, 0, BitVec.ofNat 8 oven :: bytes2 minutes⟩

/-- RELEASE (R73). -/
def releaseTelegram (src oven : Nat) (o : PushOutcome) : Telegram :=
  ⟨3, 1, src, 0, [BitVec.ofNat 8 oven, BitVec.ofNat 8 o.code]⟩

/-- PERMIT with code DOORS or PUSH (R73). -/
def permitTelegram (src oven code : Nat) : Telegram :=
  ⟨3, 2, src, 0, [BitVec.ofNat 8 oven, BitVec.ofNat 8 code]⟩

/-- CALL, addressed to the quench car, station 27 (R39, section 5.3). -/
def callTelegram (src oven : Nat) : Telegram := ⟨3, 3, src, 27, [BitVec.ofNat 8 oven]⟩

/-- BID: class 4, sub 255 − u (R48). -/
def bidTelegram (src sub oven minutes : Nat) : Telegram :=
  ⟨4, sub, src, 0, BitVec.ofNat 8 oven :: bytes2 minutes⟩

/-- PHASE: the oven's number, phase, coking minutes and inhibited flag as they stand (R17). -/
def phaseTelegram (src : Nat) (o : Oven) : Telegram :=
  ⟨5, 1, src, 0, BitVec.ofNat 8 o.number :: BitVec.ofNat 8 o.phase.code :: bytes2 o.minutes
    ++ [if o.inhibited then 1 else 0]⟩

/-- MAIN: the main value in two's complement (R162). -/
def mainTelegram (src : Nat) (value : Int) : Telegram :=
  ⟨5, 2, src, 0, bytes2 (value % 65536).toNat⟩

/-- EVENT without its payload, addressed to station 30 (R39, R189). -/
def eventTelegram (src : Nat) : Telegram := ⟨7, 1, src, 30, []⟩

/-- The payload of an EVENT: kind, first oven (0 when absent), count (R189). -/
def eventPayload (kind : Nat) (e : EventEntry) : List Byte :=
  [BitVec.ofNat 8 kind, BitVec.ofNat 8 (e.first.getD 0), BitVec.ofNat 8 e.count]

end Sys2Proof.Machine
end

