-- ==== Sys2Proof/Machine/Flags.lean ====
section
/-! DEFINITION. The event table's own operations (chapter 10): the numbers of the kinds, raising an entry, emptying it,
which entries are reportable and which is the lowest. Queuing the EVENT is in Ops.lean. -/

namespace Sys2Proof.Machine

open Sys2Proof

/-- The number of an event kind (section 10.2). -/
def EventKind.number (k : EventKind) : Nat :=
  match k with
  | .rxOverrun => 1
  | .crcError => 2
  | .loneTelegram => 3
  | .lineError => 4
  | .duplicateId => 5
  | .txDropped => 6
  | .seedNeeded => 7
  | .seedRefused => 8
  | .doubleCharge => 9
  | .chargeDoors => 10
  | .neighbourLost => 11
  | .claimConflictLost => 12
  | .lateRelease => 13
  | .claimExpired => 14
  | .earlyDoor => 15
  | .unauthorisedDoor => 16
  | .doorInputConflict => 17
  | .doorWarn => 18
  | .doorOverdue => 19
  | .doorLeak => 20
  | .leakSensorDead => 21
  | .leakOverrange => 22
  | .qcarLate => 23
  | .jobAborted => 24
  | .pushHeld => 25
  | .hardPush => 26
  | .sticker => 27
  | .sensor => 28
  | .draw => 29
  | .sampleOverrun => 30

/-- The flag of kind j in a report-enable set: bit 7 − ((j − 1) mod 8) of character ((j − 1) / 8) + 1 (section 2.9),
which is bit 32 − j of the four characters read as one word. -/
def kindEnabled (set : BitVec 32) (j : Nat) : Bool := set.getLsbD (32 - j)

/-- R187: the count rises by 1, holding at 255, and an absent first oven takes the event's. -/
def EventEntry.raised (first : Option Nat) (e : EventEntry) : EventEntry where
  count := min 255 (e.count + 1)
  first := if e.first.isNone then first else e.first

/-- The entry of kind j. -/
def EventTable.entry (t : EventTable) (j : Nat) : EventEntry := (t.entries[j - 1]?).getD EventEntry.emptied

/-- R187 on the table: the entry of the kind is raised. -/
def EventTable.raise (k : EventKind) (first : Option Nat) (t : EventTable) : EventTable :=
  { t with entries := t.entries.modify (k.number - 1) (EventEntry.raised first) }

/-- R190: the entry of kind j is emptied. -/
def EventTable.emptyEntry (j : Nat) (t : EventTable) : EventTable :=
  { t with entries := t.entries.modify (j - 1) (fun _ => EventEntry.emptied) }

/-- An entry is reportable while its count is above 0 and its kind is enabled (R188). -/
def EventTable.reportable (t : EventTable) (j : Nat) : Bool :=
  decide (0 < (t.entry j).count) && kindEnabled t.enable j

/-- The lowest-numbered reportable kind (R189). -/
def EventTable.lowest (t : EventTable) : Option Nat :=
  ((List.range 30).map (· + 1)).find? t.reportable

/-- Some entry is reportable. -/
def EventTable.anyReportable (t : EventTable) : Bool := t.lowest.isSome

end Sys2Proof.Machine
end

