-- ==== Sys2Proof/Machine/Ops.lean ====
section
/-! DEFINITION. The operations the blocks share: reading the configuration, the oven and door records; counting an event
and queuing the EVENT (chapter 10); the transmit queue (section 2.7): placing, replacing, dropping, withdrawing an entry,
and what the block that queued it is told. -/

namespace Sys2Proof.Machine

open Sys2Proof

/-! ## Configuration and station line state -/

/-- The values of the configuration in force (R197, R198). -/
def cfg (c : Controller) : Config := c.start.config.getD Config.blank

/-- The station takes part in line traffic as a receiver: LISTEN, ACTIVE or SILENT (section 2.5). -/
def receiving (c : Controller) : Bool :=
  c.start.line == .listen || c.start.line == .active || c.start.line == .silent

/-- The station line state is ACTIVE. -/
def isActive (c : Controller) : Bool := c.start.line == .active

/-- The station number in force. -/
def ownNumber (c : Controller) : Nat := c.line.number

/-! ## Oven records -/

/-- The index of an oven of the section (R3): its number minus F, for an oven numbered F to F + k − 1. -/
def ovenIndex (c : Controller) (oven : Nat) : Option Nat :=
  if (cfg c).first ≤ oven ∧ oven < (cfg c).first + (cfg c).count then some (oven - (cfg c).first) else none

/-- The oven number of an index. -/
def ovenNumber (c : Controller) (i : Nat) : Nat := (cfg c).first + i

/-- The oven record at index i. -/
def ovenAt (c : Controller) (i : Nat) : Option Oven := c.table.ovens[i]?

/-- The phase of the oven at index i. -/
def phaseAt (c : Controller) (i : Nat) : Option Phase := (ovenAt c i).map (·.phase)

/-- The command of the oven at index i. -/
def commandAt (c : Controller) (i : Nat) : Option Int := (ovenAt c i).map (·.command)

/-- The oven record at index i is changed by f. -/
def modifyOven (i : Nat) (f : Oven → Oven) (c : Controller) : Controller :=
  { c with table := { c.table with ovens := c.table.ovens.modify i f } }

/-! ## Door records -/

/-- The state of the door of a channel; absent where no record exists. -/
def doorAt (c : Controller) (ch : Nat) : Option DoorState := (c.doors.doors[ch]?).map (·.state)

/-- The door record of a channel is changed by f. -/
def modifyDoor (ch : Nat) (f : Door → Door) (c : Controller) : Controller :=
  { c with doors := { c.doors with doors := c.doors.doors.modify ch f } }

/-- Both door records of the oven at index i are REMOVED. -/
def bothRemoved (c : Controller) (i : Nat) : Bool :=
  doorAt c (2 * i) == some .removed && doorAt c (2 * i + 1) == some .removed

/-- A door record of the oven at index i is REMOVED: the forced-close demand of R127 is raised. -/
def anyRemoved (c : Controller) (i : Nat) : Bool :=
  doorAt c (2 * i) == some .removed || doorAt c (2 * i + 1) == some .removed

/-- A door state that counts as latched: TIGHT, LEAKING or CHECKING (R89); these are also the scannable states (R136). -/
def DoorState.latchedState (d : DoorState) : Bool := d == .tight || d == .leaking || d == .checking

/-- Both door records of the oven at index i are TIGHT, LEAKING or CHECKING (R89). -/
def bothLatched (c : Controller) (i : Nat) : Bool :=
  (doorAt c (2 * i)).any DoorState.latchedState && (doorAt c (2 * i + 1)).any DoorState.latchedState

/-- Both door records of the oven at index i are TIGHT or LEAKING (R45, R4). -/
def bothSettled (c : Controller) (i : Nat) : Bool :=
  (doorAt c (2 * i)).any (fun d => d == .tight || d == .leaking)
    && (doorAt c (2 * i + 1)).any (fun d => d == .tight || d == .leaking)

/-- A door record of the oven at index i is LEAKING (R178). -/
def anyLeaking (c : Controller) (i : Nat) : Bool :=
  doorAt c (2 * i) == some .leaking || doorAt c (2 * i + 1) == some .leaking

/-! ## The push job record -/

/-- The state is entered and the two outputs follow it: permit in PERMITTED and PUSHING, hold in HELD (R72). -/
def Job.enter (s : JobState) (j : Job) : Job :=
  { j with state := s, permitOut := s == .permitted || s == .pushing, holdOut := s == .held }

/-- The record enters IDLE: every field but the release owed takes the values of R71. -/
def Job.toIdle (j : Job) : Job := { Job.idleRecord with owed := j.owed }

/-- The index of the job oven. -/
def jobIndex (c : Controller) : Option Nat := c.job.oven.bind (ovenIndex c)

/-- The job is in a state from CLAIMED to RECLOSING (R129). -/
def JobState.beyondClaiming (s : JobState) : Bool :=
  match s with
  | .idle | .bidding | .claiming => false
  | _ => true

/-- The job is in a state from CLAIMED to HELD (R76). -/
def JobState.claimedToHeld (s : JobState) : Bool :=
  match s with
  | .idle | .bidding | .claiming | .reclosing => false
  | _ => true

/-! ## The transmit queue: order and places -/

/-- An entry takes its place in ascending order of identifier, behind entries of its own identifier (R39). -/
def insertEntry (e : TxEntry) : List TxEntry → List TxEntry
  | [] => [e]
  | x :: xs => if x.tel.ident ≤ e.tel.ident then x :: insertEntry e xs else e :: x :: xs

/-- Two telegrams contend for one place (R40): two BIDs, two CLAIMs, or two PHASEs or HALTs of one oven. -/
def samePlace (a b : Telegram) : Bool :=
  a.kind == b.kind &&
    match a.kind with
    | some .bid | some .claim => true
    | some .phase | some .halt => a.oven == b.oven
    | _ => false

/-- The queue holds fewer than 8 entries (R41). -/
def txRoom (c : Controller) : Bool := decide (c.line.tx.length < 8)

/-- The transmit queue becomes the given list. -/
def setTx (q : List TxEntry) (c : Controller) : Controller := { c with line := { c.line with tx := q } }

/-- The entry whose telegram is on the line meets the given fate; nothing changes while no telegram of the station is
on the line. -/
def setFate (f : Fate) (c : Controller) : Controller :=
  match c.line.phase with
  | .sending t _ => { c with line := { c.line with phase := .sending t f } }
  | _ => c

/-! ## Counting an event (R187) and queuing the EVENT (R189) -/

/-- R189: while the station is ACTIVE, EVENT queued is no and an entry is reportable, an EVENT is offered; the queue
takes it if it has room and refuses it without a count if it has none (R41). That an EVENT offered within a command's work (at a
count, a MASK or a sending report) takes the only free place before a RELEASE owed (R92), which waits for the end of the command,
is the model's choice (assumption log 38, DESIGN CHOICE). -/
def offerEvent (c : Controller) : Controller :=
  if isActive c && !c.events.queued && c.events.anyReportable && txRoom c then
    setTx (insertEntry ⟨eventTelegram (ownNumber c), false⟩ c.line.tx)
      { c with events := { c.events with queued := true } }
  else c

/-- A block counts an event: its entry is raised (R187), and the event table offers an EVENT where R189 calls for it. -/
def count (k : EventKind) (first : Option Nat) (c : Controller) : Controller :=
  offerEvent { c with events := c.events.raise k first }

/-! ## What the queuing block is told -/

/-- The block that queued a telegram is told that it was refused or dropped: the BID (R56), the RELEASE (R92), the
CALL (R106, R107), the MAIN (R162) and the EVENT (R189). Every other telegram is lost (R17, R73). -/
def notTaken (t : Telegram) (c : Controller) : Controller :=
  match t.kind with
  | some .bid => if c.job.state = .bidding then { c with job := c.job.toIdle } else c
  | some .release => { c with job := { c.job with owed := some ⟨t.oven, outcomeOf (t.at 1)⟩ } }
  | some .call =>
    if c.track.call.oven = some t.oven then
      { c with track := { c.track with call := { c.track.call with queued := false } } }
    else c
  | some .main => { c with reg := { c.reg with main := { c.reg.main with queued := false } } }
  | some .event => { c with events := { c.events with queued := false } }
  | _ => c

/-! ## Offering an entry (R35, R36, R40, R41) -/

/-- R40: the new contents of a PHASE or HALT take the replaced entry's place. -/
def replaceInPlace (t : Telegram) (q : List TxEntry) : List TxEntry :=
  q.map fun e => if samePlace t e.tel then ⟨t, false⟩ else e

/-- R40: the entry of its own place is replaced, in place for a PHASE or HALT and moved to the place of its identifier
for a BID or CLAIM. A replaced entry whose telegram is on the line stays with the new contents. -/
def replaceEntry (t : Telegram) (c : Controller) : Controller :=
  let onLine := c.line.tx.any fun e => samePlace t e.tel && e.onLine
  let q :=
    if t.kind = some .bid ∨ t.kind = some .claim then
      insertEntry ⟨t, false⟩ (c.line.tx.filter fun e => !samePlace t e.tel)
    else replaceInPlace t c.line.tx
  let c := setTx q c
  if onLine then setFate .replaced c else c

/-- R41: the last entry of a full queue is dropped for a lower identifier. A dropped entry whose telegram is on the line
completes, and its block is told of no drop. -/
def displaceLast (t : Telegram) (c : Controller) : Controller :=
  let q := insertEntry ⟨t, false⟩ c.line.tx
  match q.getLast? with
  | none => c
  | some e =>
    let c := setTx q.dropLast c
    let c := if e.onLine then setFate .dropped c else notTaken e.tel c
    count .txDropped none c

/-- A block offers a telegram to the transmit queue. It is refused where the station line state is not ACTIVE (R35,
R36), replaces an entry of its own place (R40), takes a new place where there is room, and in a full queue is dropped
or displaces the last entry (R41). -/
def offer (t : Telegram) (c : Controller) : Controller :=
  if !isActive c then notTaken t c
  else if c.line.tx.any (fun e => samePlace t e.tel) then replaceEntry t c
  else if txRoom c then setTx (insertEntry ⟨t, false⟩ c.line.tx) c
  else if c.line.tx.all (fun e => decide (e.tel.ident ≤ t.ident)) then count .txDropped none (notTaken t c)
  else displaceLast t c

/-- R43: the entries that p names are withdrawn. A withdrawn entry whose telegram is on the line is reported to no
block. -/
def withdraw (p : Telegram → Bool) (c : Controller) : Controller :=
  let onLine := c.line.tx.any fun e => p e.tel && e.onLine
  let c := setTx (c.line.tx.filter fun e => !p e.tel) c
  if onLine then setFate .withdrawn c else c

/-- The entries of one kind are withdrawn. -/
def withdrawKind (k : Kind) (c : Controller) : Controller := withdraw (fun t => t.kind == some k) c

/-- The HALT for an oven is withdrawn (R85). -/
def withdrawHalt (oven : Nat) (c : Controller) : Controller :=
  withdraw (fun t => t.kind == some .halt && t.oven == oven) c

/-- The oven table queues a PHASE for the oven at index i with its state as it stands (R17). -/
def queuePhase (i : Nat) (c : Controller) : Controller :=
  match ovenAt c i with
  | some o => offer (phaseTelegram (ownNumber c) o) c
  | none => c

/-- The push job offers a PERMIT after withdrawing one it queued (R73). -/
def offerPermit (oven code : Nat) (c : Controller) : Controller :=
  offer (permitTelegram (ownNumber c) oven code) (withdrawKind .permit c)

/-- The push job offers a HALT, reason CONDITION, after withdrawing a PERMIT it queued (R73). -/
def offerHalt (oven : Nat) (c : Controller) : Controller :=
  offer (haltTelegram (ownNumber c) oven) (withdrawKind .permit c)

/-- The push job offers a RELEASE after withdrawing a PERMIT it queued (R73). -/
def offerRelease (oven : Nat) (o : PushOutcome) (c : Controller) : Controller :=
  offer (releaseTelegram (ownNumber c) oven o) (withdrawKind .permit c)

/-! ## A free place (R41, R92, R189) -/

/-- R92: while the station is ACTIVE, a release owed is offered again when the queue has a free place. -/
def offerOwed (c : Controller) : Controller :=
  match c.job.owed with
  | some w =>
    if isActive c && txRoom c then
      offerRelease w.oven w.outcome { c with job := { c.job with owed := none } }
    else c
  | none => c

/-- What waits for a free place is offered once a command has done its work: the release owed first, then the EVENT
(assumption log 9, DESIGN CHOICE: the manual gives no order between the two). -/
def freePlace (c : Controller) : Controller := offerEvent (offerOwed c)

end Sys2Proof.Machine
end

