-- ==== Sys2Proof/Machine/Valve.lean ====
section
/-! DEFINITION. The profile stage (section 1.5), the valve modes and their entries (section 8.3), the positioner frame
(section 8.8), and the change of an oven's phase with all that follows it in the oven table and the regulation unit. -/

namespace Sys2Proof.Machine

open Sys2Proof

/-! ## Stages (R12) -/

/-- The profile row of a stage. -/
def stageRow (g : Config) (s : Stage) : Row :=
  match s with
  | .early => g.earlyRow
  | .main => g.mainRow
  | .late => g.lateRow
  | .finish => g.finishRow

/-- start_s = round(T × f_s / 1000); f_EARLY is 0 (R12). -/
def stageStart (g : Config) (t : Nat) (s : Stage) : Nat :=
  match s with
  | .early => 0
  | s => (roundDiv ((t * (stageRow g s).f : Nat) : Int) 1000).toNat

/-- The end of a stage: the start of the stage that follows it, and T for FINISH (R12). -/
def stageEnd (g : Config) (t : Nat) (s : Stage) : Nat :=
  match s with
  | .early => stageStart g t .main
  | .main => stageStart g t .late
  | .late => stageStart g t .finish
  | .finish => t

/-- One step of the choice of R12: a later stage is taken where its start is at or below m and not below the start of
the stage taken so far. -/
def laterStage (g : Config) (t m : Nat) (best s : Stage) : Stage :=
  if stageStart g t s ≤ m ∧ stageStart g t best ≤ stageStart g t s then s else best

/-- The stage with the largest start at or below m, the later of those that share it (R12). -/
def stageFor (g : Config) (t m : Nat) : Stage :=
  [Stage.main, Stage.late, Stage.finish].foldl (laterStage g t m) .early

/-- The stage of an oven record: derived for a COKING oven, absent in every other phase (R12). -/
def derivedStage (g : Config) (o : Oven) : Option Stage :=
  if o.phase = .coking then some (stageFor g o.target o.minutes) else none

/-- The stage is derived afresh (R12). -/
def Oven.withStage (g : Config) (o : Oven) : Oven := { o with stage := derivedStage g o }

/-- The profile row in force for an oven: the row of the stage derived at that moment for a COKING oven, the UNKNOWN row
otherwise (R158, R176). -/
def rowInForce (g : Config) (o : Oven) : Row :=
  match derivedStage g o with
  | some s => stageRow g s
  | none => g.unknownRow

/-! ## Mode entries (R156, R158) -/

/-- Entry to CLOSED: command 0 at once, integrator, isolation count and no-draw count 0. -/
def Oven.enterClosed (o : Oven) : Oven :=
  { o with mode := .closed, command := 0, integrator := 0, isoCount := 0, noDraw := 0 }

/-- Entry to FORCED: command Uchg at once, no-draw count and isolation count 0, integrator kept. -/
def Oven.enterForced (g : Config) (o : Oven) : Oven :=
  { o with mode := .forced, command := g.uchg, isoCount := 0, noDraw := 0 }

/-- Entry to ISOLATING: command kept, isolation count and no-draw count 0. -/
def Oven.enterIsolating (o : Oven) : Oven := { o with mode := .isolating, isoCount := 0, noDraw := 0 }

/-- The bumpless preset: I = clamp(U × 1024, Umin × 1024, Umax × 1024) of the row in force (R158). -/
def presetIntegrator (g : Config) (o : Oven) : Int :=
  clampInt (o.command * 1024) ((rowInForce g o).umin * 1024) ((rowInForce g o).umax * 1024)

/-- Entry to REGULATE: the integrator takes the bumpless preset, the command is kept. -/
def Oven.enterRegulate (g : Config) (o : Oven) : Oven :=
  { o with mode := .regulate, integrator := presetIntegrator g o }

/-- The mode a phase gives while no demand is raised, with the effects of its entry (R156). -/
def Oven.enterMode (g : Config) (o : Oven) : Oven :=
  match o.phase with
  | .empty | .isolated | .pushing | .sticker => o.enterClosed
  | .charging => o.enterForced g
  | .isolating => o.enterIsolating
  | .coking | .unknown => o.enterRegulate g

/-- The entry that a phase gives sets a command at once: an entry to CLOSED or FORCED (R160). -/
def Phase.setsCommand (p : Phase) : Bool :=
  match p with
  | .empty | .isolated | .pushing | .sticker | .charging => true
  | .isolating | .coking | .unknown => false

/-! ## The positioner frame (R169) -/

/-- Position i + 1 carries the command of oven index i, the positions above k carry 0. -/
def buildFrame (c : Controller) : List Int := (List.range 8).map fun i => (commandAt c i).getD 0

/-- A frame request: a frame is built and sent if the link is free; a request made while a frame is being sent, or
while no frame is sent at all (R170, R172), is held. -/
def requestFrame (c : Controller) : Controller :=
  if c.reg.framesOn && c.reg.frame.isNone then
    { c with reg := { c.reg with frame := some (buildFrame c), frameHeld := false } }
  else { c with reg := { c.reg with frameHeld := true } }

/-! ## What moves a mode -/

/-- The valve of the oven at index i enters the mode its phase gives; an entry to CLOSED or FORCED requests a frame at
once (R156, R160). A demand withdrawn in a phase that keeps the valve CLOSED is taken as an entry to CLOSED as well, and
requests a frame (assumption log 32, DESIGN CHOICE). -/
def followPhase (i : Nat) (c : Controller) : Controller :=
  match phaseAt c i with
  | none => c
  | some p =>
    let c := modifyOven i (Oven.enterMode (cfg c)) c
    if p.setsCommand then requestFrame c else c

/-- The forced-close demand is raised: the valve is CLOSED whatever the phase (R127, R156). -/
def forceClose (i : Nat) (c : Controller) : Controller := requestFrame (modifyOven i Oven.enterClosed c)

/-- A change of the oven's phase, or a SEED taken for it: the mode follows the phase while no demand is raised and
stays CLOSED while one is (R156). -/
def takeUpPhase (i : Nat) (c : Controller) : Controller := if anyRemoved c i then c else followPhase i c

/-- The oven at index i moves to a phase: the stage is derived afresh (R12), a PHASE is queued (R17) and the regulation
unit takes up the phase (R156). -/
def setPhase (i : Nat) (p : Phase) (c : Controller) : Controller :=
  c |> modifyOven i (fun o => ({ o with phase := p }).withStage (cfg c)) |> queuePhase i |> takeUpPhase i

end Sys2Proof.Machine
end

