-- ==== Sys2Proof/Machine/Car.lean ====
section
/-! DEFINITION. The quench car call (section 5.3): the request, the offering of the CALL, the travel limit, the arrival,
the sending report and the drop. -/

namespace Sys2Proof.Machine

open Sys2Proof

/-- The call fields are changed by f. -/
def modifyCall (f : Call → Call) (c : Controller) : Controller :=
  { c with track := { c.track with call := f c.track.call } }

/-- The tracker offers a CALL for the call oven. A CALL taken into a place sets call queued to yes; one refused or
dropped leaves it no, since the tracker is then told (R106, R107). -/
def offerCall (c : Controller) : Controller :=
  match c.track.call.oven with
  | some n => offer (callTelegram (ownNumber c) n) (modifyCall (fun k => { k with queued := true }) c)
  | none => c

/-- The travel timer stops: nothing of it is due. -/
def stopTravel (c : Controller) : Controller := { c with due := { c.due with travelTimer := false } }

/-- R106: the push job asks for a call to its oven. -/
def requestCall (oven : Nat) (c : Controller) : Controller :=
  let c := stopTravel c
  let c := modifyCall (fun k =>
    { k with step := .pending, oven := some oven, queued := false, expiries := 0, remaining := 0 }) c
  if c.track.car.state = some .empty then offerCall c else c

/-- The call ends: on arrival (R110), at the second expiry (R111), at a drop (R114). The travel limit keeps its value. -/
def Call.ended (k : Call) : Call :=
  { k with step := .none, oven := none, queued := false, remaining := 0, expiries := 0 }

/-- R114: the push job asks the tracker to drop its call. With call NONE it changes nothing. -/
def dropCall (c : Controller) : Controller :=
  if c.track.call.step = .none then c else stopTravel (modifyCall Call.ended c)

/-- R110: the quench car has arrived. Call queued is not among the fields an arrival sets: it tells whether a CALL for
the call oven waits in the queue, and no call oven is left. -/
def arrive (c : Controller) : Controller := stopTravel (modifyCall Call.ended c)

/-- The car stands at the call oven, ready: place OVEN, spot equal to the call oven, state EMPTY (R110). -/
def carAtCall (c : Controller) : Bool :=
  c.track.car.place == some .oven && c.track.call.oven.isSome && c.track.car.spot == c.track.call.oven
    && c.track.car.state == some .empty

/-- From where the car's way is reckoned (R109). -/
def carFrom (g : Config) (r : CarRecord) : Nat :=
  match r.place, r.spot with
  | some .oven, some s => s
  | some .transit, some s => s
  | _, _ => g.tower

/-- The travel limit: Tfix + Tspot × |call oven − from| seconds, clamped to 3600 (R109). -/
def travelLimit (g : Config) (r : CarRecord) (oven : Nat) : Nat :=
  min 3600 (g.tfix + g.tspot * ((oven : Int) - (carFrom g r : Int)).natAbs)

/-- R108: the line unit reports that a CALL for an oven has been sent. -/
def callSent (oven : Nat) (c : Controller) : Controller :=
  if c.track.call.oven ≠ some oven then c
  else
    match c.track.call.step with
    | .none => c
    | .sent => modifyCall (fun k => { k with queued := false }) c
    | .pending =>
      let c := modifyCall (fun k => { k with step := .sent, queued := false }) c
      if carAtCall c && !c.track.car.stale then arrive c
      else
        let l := travelLimit (cfg c) c.track.car oven
        modifyCall (fun k => { k with limit := l, remaining := l }) c

/-- What the quench car call makes of a QCAR that the record has taken: a waiting call is offered when the car is EMPTY
(R107); with the CALL sent, the car has arrived (R110) or, EMPTY and without a target, is called once more (R113). -/
def callOnQcar (c : Controller) : Controller :=
  match c.track.call.step with
  | .none => c
  | .pending =>
    if !c.track.call.queued && c.track.car.state == some .empty then offerCall c else c
  | .sent =>
    if carAtCall c then arrive c
    else if c.track.car.state == some .empty && c.track.car.target.isNone && !c.track.call.queued then offerCall c
    else c

end Sys2Proof.Machine
end

