-- ==== Sys2Proof/Machine/Job.lean ====
section
/-! DEFINITION. The push job (chapter 4): the permit conditions and their evaluation, hold and resume, push start and
push end, reclosing, aborts, the reports of the other blocks, and the handing over of a sent CLAIM. -/

namespace Sys2Proof.Machine

open Sys2Proof

/-- The push job record is changed by f. -/
def modifyJob (f : Job → Job) (c : Controller) : Controller := { c with job := f c.job }

/-- The record enters a state and the outputs follow (R72). -/
def enterJob (s : JobState) (c : Controller) : Controller := modifyJob (Job.enter s) c

/-- The record enters IDLE (R71). -/
def idleJob (c : Controller) : Controller := modifyJob Job.toIdle c

/-- The push job takes reports in LISTEN, ACTIVE and SILENT and in no other station line state (R98, R101). -/
def jobRuns (c : Controller) : Bool := receiving c

/-- The oven at index i is the oven of the job. -/
def isJobOven (c : Controller) (i : Nat) : Bool := jobIndex c == some i

/-! ## Permit conditions (R80) -/

/-- The second form of a condition applies in PUSHING and in HELD with push started yes (R80). -/
def afterStart (c : Controller) : Bool :=
  c.job.state == .pushing || (c.job.state == .held && c.job.started)

/-- Condition 3: the pusher. -/
def pusherCondition (c : Controller) (oven : Nat) : Bool :=
  !c.track.pusher.stale && c.track.pusher.spot == some oven
    && (c.track.pusher.state == some .atSpot || (afterStart c && c.track.pusher.state == some .pushing))

/-- Condition 4: the guide car. -/
def guideCondition (c : Controller) (oven : Nat) : Bool :=
  !c.track.guide.stale && c.track.guide.spot == some oven && c.track.guide.state == some .guideSet

/-- Condition 5: the quench car. -/
def carCondition (c : Controller) (oven : Nat) : Bool :=
  !c.track.car.stale && c.track.car.place == some .oven && c.track.car.spot == some oven
    && (c.track.car.state == some .empty || (afterStart c && c.track.car.state == some .loading))

/-- The five permit conditions for the job oven, at index i (R80). -/
def permitConditions (c : Controller) (i oven : Nat) : Bool :=
  bothRemoved c i && commandAt c i == some 0
    && pusherCondition c oven && guideCondition c oven && carCondition c oven

/-! ## Hold and resume -/

/-- The hold timer stops: hold seconds 0, hold cause absent, nothing of it due. -/
def stopHold (c : Controller) : Controller :=
  { c with job := { c.job with holdSecs := 0, cause := none }, due := { c.due with holdTimer := false } }

/-- The push is held (R84, R87): the permit output released and the hold output asserted, hold seconds 0, the hold timer
started, PUSH HELD counted. A HALT is offered where the cause is CONDITION, before PUSH HELD is counted and its EVENT offered;
no rule gives that order, and it is the model's choice (assumption log 34, DESIGN CHOICE). -/
def holdPush (cause : HoldCause) (oven : Nat) (c : Controller) : Controller :=
  let c := stopHold c
  let c := if cause = .condition then offerHalt oven c else c
  let c := modifyJob (fun j => { j.enter .held with cause := some cause, holdSecs := 0 }) c
  count .pushHeld (some oven) c

/-- The push resumes (R85). That the HALT is withdrawn before the PERMIT is offered is the model's choice (assumption log 34,
DESIGN CHOICE). -/
def resumePush (oven : Nat) (c : Controller) : Controller :=
  let c := stopHold c
  let c := offerPermit oven permitPushCode (withdrawHalt oven c)
  if c.job.started then enterJob .pushing c else enterJob .permitted c

/-- The results of an evaluation for the job oven n at index i: R81 in STAGED, R84 in PERMITTED and PUSHING, R85 in HELD
with hold cause CONDITION; no other state evaluates. -/
def evaluateFor (i n : Nat) (c : Controller) : Controller :=
  match c.job.state with
  | .staged => if permitConditions c i n then enterJob .permitted (offerPermit n permitPushCode c) else c
  | .permitted | .pushing => if permitConditions c i n then c else holdPush .condition n c
  | .held => if c.job.cause = some .condition ∧ permitConditions c i n = true then resumePush n c else c
  | _ => c

/-- The permit conditions are evaluated (R81), in the station line states in which the push job takes reports (R98). -/
def evaluate (c : Controller) : Controller :=
  match c.job.oven, jobIndex c with
  | some n, some i => if jobRuns c then evaluateFor i n c else c
  | _, _ => c

/-! ## Reclosing, release and abort -/

/-- The phase an oven has when its job ends without being settled by a push end (R9). -/
def phaseAfterJob (p : Phase) : Phase :=
  match p with
  | .isolating | .isolated => .coking
  | .pushing => .sticker
  | p => p

/-- The oven leaves the job phases (R9); a phase that R9 keeps is no phase change. -/
def settlePhase (i : Nat) (c : Controller) : Controller :=
  match phaseAt c i with
  | some p => if phaseAfterJob p = p then c else setPhase i (phaseAfterJob p) c
  | none => c

/-- Reclosing is complete: RELEASE PUSHED or ABORTED, the oven's phase settled, the record IDLE (R89). -/
def completeReclosing (i oven : Nat) (c : Controller) : Controller :=
  let o : PushOutcome := if c.job.ended then .pushed else .aborted
  c |> offerRelease oven o |> settlePhase i |> idleJob

/-- Reclosing is complete once both door records of the job oven are TIGHT, LEAKING or CHECKING (R89). -/
def checkReclosing (c : Controller) : Controller :=
  match c.job.oven, jobIndex c with
  | some n, some i => if c.job.state = .reclosing ∧ bothLatched c i = true then completeReclosing i n c else c
  | _, _ => c

/-- Entry to RECLOSING (R89). -/
def enterReclosing (c : Controller) : Controller :=
  c |> enterJob .reclosing |> stopHold |> withdrawKind .permit |> dropCall |> checkReclosing

/-- An abort (R93). The caller has judged that the cause aborts in the state of the job. R93 counts JOB ABORTED first. That the
PHASE of the return to COKING comes before the RELEASE, and the HALT of an abort from PERMITTED before what RECLOSING offers, is
the model's choice (assumption log 34, DESIGN CHOICE). -/
def abortJob (r : AbortReason) (c : Controller) : Controller :=
  let c := count .jobAborted (some r.code) c
  match c.job.oven, jobIndex c with
  | some n, some i =>
    if (c.job.state = .claimed ∨ c.job.state = .doors) ∧ anyRemoved c i = false then
      c |> settlePhase i |> dropCall |> offerRelease n .aborted |> idleJob
    else if c.job.state = .permitted then enterReclosing (offerHalt n c)
    else enterReclosing c
  | _, _ => c

/-- The states in which the causes of R94, R96's first two and R97 abort. -/
def beforePermit (s : JobState) : Bool := s == .claimed || s == .doors || s == .staged

/-! ## Push start and push end -/

/-- Push started becomes yes and the oven moves to PUSHING (R82, R83). -/
def startPush (i : Nat) (c : Controller) : Controller :=
  setPhase i .pushing (modifyJob (fun j => { j with started := true }) c)

/-- The oven table takes a push end (R8): hard push, then the phase of an oven in PUSHING or STICKER. R8 and R88 give no order
among the HARD PUSH count, the PHASE of the change and the STICKER count, each count with its EVENT. That HARD PUSH is counted
first, then the PHASE queued, and then STICKER counted is the model's choice (assumption log 34, DESIGN CHOICE). -/
def tablePushEnd (i oven force : Nat) (completed : Bool) (c : Controller) : Controller :=
  let c :=
    if (cfg c).hardPush ≤ force then
      count .hardPush (some oven) (modifyOven i (fun o => { o with hardCount := min 15 (o.hardCount + 1) }) c)
    else c
  match phaseAt c i with
  | some .pushing =>
    if completed then setPhase i .empty (modifyOven i (fun o => { o with minutes := 0 }) c)
    else count .sticker (some oven) (setPhase i .sticker c)
  | some .sticker =>
    if completed then setPhase i .empty (modifyOven i (fun o => { o with minutes := 0 }) c)
    else count .sticker (some oven) c
  | _ => c

/-- The push end is taken by the oven table, and push end taken becomes yes (R88, R91). -/
def takePushEnd (i oven force : Nat) (completed : Bool) (c : Controller) : Controller :=
  modifyJob (fun j => { j with ended := true }) (tablePushEnd i oven force completed c)

/-- A PUSHER PUSHING at the job oven (R82, R83): a push start in PERMITTED, STAGED, and HELD with push started no. From STAGED
the PHASE of the change to PUSHING is queued before the hold offers its HALT and counts PUSH HELD; R83 gives no order, and this
one is the model's choice (assumption log 34, DESIGN CHOICE). In PUSHING, and in HELD after the start, it is no second push
start and changes the pusher record alone (R82); that the conditions are then evaluated on that record (R81, R115) is read from
the rules (assumption log 36, DEDUCED). -/
def pusherPushing (i oven : Nat) (c : Controller) : Controller :=
  match c.job.state with
  | .permitted => enterJob .pushing (startPush i c)
  | .staged => holdPush .condition oven (startPush i c)
  | .held => if c.job.started then c else startPush i c
  | _ => c

/-- A PUSHER RETURNED at the job oven: a push end (R88), a push start directly followed by a push end (R83), a late
push end (R91), or nothing. The PHASE and the counts of the push end come before RECLOSING withdraws the PERMIT; R88 gives no
order, and this one is the model's choice (assumption log 34, DESIGN CHOICE). -/
def pusherReturned (i oven force : Nat) (completed : Bool) (c : Controller) : Controller :=
  match c.job.state with
  | .pushing => enterReclosing (takePushEnd i oven force completed c)
  | .staged | .permitted => enterReclosing (takePushEnd i oven force completed (startPush i c))
  | .held =>
    if c.job.started then enterReclosing (takePushEnd i oven force completed c)
    else enterReclosing (takePushEnd i oven force completed (startPush i c))
  | .reclosing => if c.job.started && !c.job.ended then takePushEnd i oven force completed c else c
  | _ => c

/-! ## Reports to the push job -/

/-- The machine tracker reports a PUSHER telegram: a push start or push end for the job oven first, then the evaluation
in the state that results (R81, R82, R83, R88, R91). -/
def jobOnPusher (spot : Option Nat) (st : PusherState) (force : Nat) (completed : Bool) (c : Controller) : Controller :=
  match c.job.oven, jobIndex c with
  | some n, some i =>
    if spot = some n then
      match st with
      | .pushing => evaluate (pusherPushing i n c)
      | .returned => evaluate (pusherReturned i n force completed c)
      | _ => evaluate c
    else evaluate c
  | _, _ => c

/-- R78: a door of the job oven has come off in CLAIMED. That EARLY DOOR is counted first, with its EVENT, then the PHASE queued
and then the PERMIT offered is the model's choice; R78 gives no order (assumption log 34, DESIGN CHOICE). -/
def earlyDoor (i oven : Nat) (c : Controller) : Controller :=
  let c := count .earlyDoor (some oven) c
  let c := enterJob .doors (offerPermit oven permitDoorsCode (setPhase i .isolated c))
  if bothRemoved c i then evaluate (enterJob .staged c) else c

/-- The door unit reports a change of a door record of the oven at index i, which is then in the given state (R78, R79,
R81, R89). -/
def jobOnDoor (i : Nat) (d : DoorState) (c : Controller) : Controller :=
  if jobRuns c && isJobOven c i then
    match c.job.oven, c.job.state with
    | some n, .claimed => if d = .removed then earlyDoor i n c else c
    | some _, .doors => if bothRemoved c i then evaluate (enterJob .staged c) else c
    | some _, .reclosing => checkReclosing c
    | _, _ => evaluate c
  else c

/-- The door unit reports DOOR OVERDUE for a door of the oven at index i (R95). -/
def jobOnOverdue (i : Nat) (c : Controller) : Controller :=
  if jobRuns c && isJobOven c i
      && (beforePermit c.job.state || c.job.state == .permitted || (c.job.state == .held && !c.job.started)) then
    abortJob .doorOverdue c
  else c

/-- The regulation unit reports isolation complete for the oven at index i (R77). That the PHASE of the change to ISOLATED is
queued before the PERMIT is the model's choice (assumption log 34, DESIGN CHOICE). -/
def jobOnIsolated (i : Nat) (c : Controller) : Controller :=
  if jobRuns c && isJobOven c i && c.job.state == .claimed then
    match c.job.oven with
    | some n => enterJob .doors (offerPermit n permitDoorsCode (setPhase i .isolated c))
    | none => c
  else c

/-- The regulation unit reports the command of the oven at index i where it differs from a former value (R160, R81). -/
def jobOnCommand (i : Nat) (before : Option Int) (c : Controller) : Controller :=
  if jobRuns c && isJobOven c i && commandAt c i != before then evaluate c else c

/-- The oven table reports that it has set the inhibited flag of the oven at index i (R96). -/
def jobOnInhibit (i : Nat) (c : Controller) : Controller :=
  if jobRuns c && isJobOven c i && (c.job.state == .claimed || c.job.state == .doors) then abortJob .inhibited c
  else c

/-- The machine tracker reports the second expiry of the travel timer (R97). -/
def jobOnLateCar (c : Controller) : Controller :=
  if jobRuns c && beforePermit c.job.state then abortJob .qcarLate c else c

/-- A HALT from the supervisory station that names the job oven (R87). -/
def jobOnHalt (src oven : Nat) (c : Controller) : Controller :=
  if src = supervisor ∧ c.job.oven = some oven then
    match c.job.state with
    | .claimed | .doors | .staged => abortJob .supervisoryHalt c
    | .permitted | .pushing => holdPush .supervisory oven c
    | .held => modifyJob (fun j => { j with cause := some .supervisory }) c
    | _ => c
  else c

/-! ## The sent CLAIM (R60, R74, R75) -/

/-- R74: the job enters CLAIMED. -/
def enterClaimed (i oven : Nat) (c : Controller) : Controller :=
  let c := modifyJob (fun j =>
    { j.enter .claimed with minutes := 0, started := false, ended := false, cause := none, holdSecs := 0 }) c
  let c := requestCall oven (setPhase i .isolating c)
  if anyRemoved c i then earlyDoor i oven c else c

/-- R75: the oven is inhibited, so the claim is released ABANDONED and the job is IDLE. -/
def abandonClaim (oven : Nat) (c : Controller) : Controller := idleJob (offerRelease oven .abandoned c)

/-- The pushing order unit hands over a sent CLAIM (R60). -/
def claimSent (ident : Nat) (c : Controller) : Controller :=
  if c.job.state = .claiming ∧ c.job.ownClaim = some ident then
    match c.job.oven, jobIndex c with
    | some n, some i =>
      if (ovenAt c i).any (·.inhibited) then abandonClaim n c else enterClaimed i n c
    | _, _ => c
  else c

/-- R62: the job is abandoned on a more urgent foreign CLAIM. R62 gives no order among the PHASE of the return to COKING, the
PERMIT's withdrawal and the count of CLAIM CONFLICT LOST with its EVENT. That the PHASE is queued first, the PERMIT withdrawn
then, and the count made last is the model's choice (assumption log 34, DESIGN CHOICE). -/
def abandonJob (i oven : Nat) (c : Controller) : Controller :=
  c |> settlePhase i |> dropCall |> withdrawKind .permit |> idleJob |> count .claimConflictLost (some oven)

end Sys2Proof.Machine
end

