-- ==== Sys2Proof/Machine/Leak.lean ====
section
/-! DEFINITION. The leak scanner (chapter 7): the scan ring, the gate, the judging of a sample and the leak fields. -/

namespace Sys2Proof.Machine

open Sys2Proof

/-- The scanner's record is changed by f. -/
def modifyScan (f : Scanner → Scanner) (c : Controller) : Controller := { c with scan := f c.scan }

/-! ## The scan ring (R136, R137) -/

/-- A channel is in the ring: its door record is TIGHT, LEAKING or CHECKING. -/
def inRing (c : Controller) (ch : Nat) : Bool := (doorAt c ch).any DoorState.latchedState

/-- The ring: the scannable channels in ascending order (R136). -/
def scanRing (c : Controller) : List Nat := (List.range c.doors.doors.length).filter (inRing c)

/-- The channel after ch in the rotation: the lowest in the ring above it, or else the lowest in the ring (R137). -/
def nextChannel (c : Controller) (ch : Nat) : Option Nat :=
  match (scanRing c).find? (fun x => decide (ch < x)) with
  | some x => some x
  | none => (scanRing c).head?

/-- A gate starts on a channel: count 0, not spoiled, the timer of Tg started (R137, R138). -/
def startGate (ch : Nat) (c : Controller) : Controller :=
  { c with scan := ⟨true, ch, 0, false, (cfg c).gateTicks, false⟩ }

/-- The gate state becomes IDLE; the select lines keep showing the channel last measured (R137). -/
def idleScanner (c : Controller) : Controller :=
  modifyScan (fun s => { s with running := false, startNext := false, ticksLeft := 0 }) c

/-- R149: the gate in flight is abandoned and its count discarded. That gate spoiled becomes no here is the model's value
(assumption log 13, DESIGN CHOICE): the manual does not give it after a RESTART. -/
def abandonGate (c : Controller) : Controller :=
  { modifyScan (fun s => { s with running := false, count := 0, spoiled := false, ticksLeft := 0, startNext := false }) c
    with due := { c.due with gateExpiry := false, gateStart := false } }

/-- A gate starts at the next 10 ms tick (R148, R149, R150). -/
def startAtNextTick (c : Controller) : Controller := modifyScan (fun s => { s with startNext := true }) c

/-! ## What a door change brings the scanner -/

/-- R144: a door has entered CHECKING; with the scanner IDLE a gate starts at the next tick (R137). -/
def scanEntersChecking (ch : Nat) (c : Controller) : Controller :=
  let n := (cfg c).nchk
  let c := modifyDoor ch (fun d => { d with score := 0, checks := n }) c
  if c.scan.running then c else startAtNextTick c

/-- R144, R138: a door has left the scannable states; its check is abandoned and a gate on its channel is spoiled. -/
def scanLeaves (ch : Nat) (c : Controller) : Controller :=
  let c := modifyDoor ch (fun d => { d with checks := 0 }) c
  if c.scan.running && c.scan.channel == ch then modifyScan (fun s => { s with spoiled := true }) c else c

/-! ## Judging a sample (R140 to R146) -/

/-- The classes of a sample (R140). -/
inductive SampleClass where
  | dead
  | ordinary
  | exceeding
deriving DecidableEq, Repr

/-- Thr = Ref + round(Ref × M / 256) (R140). -/
def leakThreshold (margin ref : Nat) : Nat := ref + (roundDiv ((ref * margin : Nat) : Int) 256).toNat

/-- The class of a count against Ref and M (R140): a saturated sample is exceeding. -/
def classify (margin ref n : Nat) : SampleClass :=
  if n = 65535 ∨ leakThreshold margin ref < n then .exceeding
  else if n < ref / 4 then .dead
  else .ordinary

/-- R142: an exceeding sample adds 2, holding at 15; an ordinary one takes 1, holding at 0. -/
def scoreAfter (k : SampleClass) (score : Nat) : Nat :=
  match k with
  | .exceeding => min 15 (score + 2)
  | .ordinary => score - 1
  | .dead => score

/-- The state a non-dead sample leaves a door in, from its state and the new score and check samples (R143, R145). -/
def stateAfter (d : DoorState) (score checks : Nat) : DoorState :=
  match d with
  | .tight => if 8 ≤ score then .leaking else .tight
  | .leaking => if score = 0 then .tight else .leaking
  | .checking => if checks = 0 then (if 4 ≤ score then .leaking else .tight) else .checking
  | d => d

/-- R146: Ref moves by one sixty-fourth of the difference, clamped to 1..65535. -/
def driftRef (ref n : Nat) : Nat :=
  (clampInt ((ref : Int) + roundDiv ((n : Int) - (ref : Int)) 64) 1 65535).toNat

/-- One judged sample of n counts applied to a door record (R140 to R146). -/
def judgeDoor (margin n : Nat) (d : Door) : Door :=
  let k := classify margin d.ref n
  match k with
  | .dead => { d with last := some n, dead := min 4 (d.dead + 1) }
  | k =>
    let score := scoreAfter k d.score
    let checks := if d.state = .checking then d.checks - 1 else d.checks
    { d with
      last := some n
      dead := 0
      score := score
      checks := checks
      state := stateAfter d.state score checks
      ref := if k = .ordinary ∧ d.state = .tight then driftRef d.ref n else d.ref }

/-- The dead count of the sample reaches 4: LEAK SENSOR DEAD is counted (R141). -/
def reachesDead (d d' : Door) : Bool := d'.dead == 4 && d.dead != 4

/-- The sample makes the door LEAKING: DOOR LEAK is counted (R143, R145). -/
def turnsLeaking (d d' : Door) : Bool := d'.state == .leaking && d.state != .leaking

/-- A gate result judged for a channel: the record is changed, and LEAK OVERRANGE, LEAK SENSOR DEAD and DOOR LEAK are
counted for the oven of the channel as due. -/
def judgeSample (ch : Nat) (c : Controller) : Controller :=
  match c.doors.doors[ch]? with
  | none => c
  | some d =>
    let n := c.scan.count
    let d' := judgeDoor (cfg c).margin n d
    let oven := some (ovenNumber c (ch / 2))
    let c := modifyDoor ch (fun _ => d') c
    let c := if n = 65535 then count .leakOverrange oven c else c
    let c := if reachesDead d d' then count .leakSensorDead oven c else c
    if turnsLeaking d d' then count .doorLeak oven c else c

/-! ## The scanner's events -/

/-- R139: a gate expires; its result is discarded or judged, and the next channel's gate starts (R137). -/
def gateExpires (c : Controller) : Controller :=
  let ch := c.scan.channel
  let c := if c.scan.spoiled || !inRing c ch then c else judgeSample ch c
  match nextChannel c ch with
  | some x => startGate x c
  | none => idleScanner c

/-- R137, R148, R149: with the scanner IDLE a gate starts on the lowest channel of the ring. R137 speaks of doors that enter
CHECKING before the tick of the start; that one which enters at that very tick, and is taken before the start, takes part is the
model's choice (assumption log 37, DESIGN CHOICE). -/
def gateStarts (c : Controller) : Controller :=
  match (scanRing c).head? with
  | some x => startGate x c
  | none => idleScanner c

/-- R138: a pulse raises the gate count by 1, holding at 65535, while a gate is running. -/
def leakPulse (c : Controller) : Controller :=
  if c.scan.running then modifyScan (fun s => { s with count := min 65535 (s.count + 1) }) c else c

end Sys2Proof.Machine
end

