-- ==== Sys2Proof/Machine/Doors.lean ====
section
/-! DEFINITION. The door unit (chapter 6): debounce, the derivation of the door states and the effects of a change, the
open timer's two points, and the forming of the records. -/

namespace Sys2Proof.Machine

open Sys2Proof

/-! ## Debounce (R120) -/

/-- One sample of one input. -/
def DoorInput.sample (x : Bool) (d : DoorInput) : DoorInput :=
  match d.accepted with
  | none => ⟨some x, 0⟩
  | some a => if x = a then ⟨some a, 0⟩ else if d.run = 4 then ⟨some x, 0⟩ else ⟨some a, d.run + 1⟩

/-- All inputs of one kind take the sample of their channel. -/
def sampleInputs (levels : BitVec 16) (l : List DoorInput) : List DoorInput :=
  l.mapIdx fun ch d => d.sample (levels.getLsbD ch)

/-- The accepted value of an input list at a channel; no where none has been accepted yet (records exist only after the
first 10 ms tick, R131). -/
def acceptedAt (l : List DoorInput) (ch : Nat) : Bool := ((l[ch]?).bind (·.accepted)).getD false

/-- The channel's accepted value differs between two lists. -/
def acceptedChanged (old new : List DoorInput) (ch : Nat) : Bool :=
  ((old[ch]?).bind (·.accepted)) != ((new[ch]?).bind (·.accepted))

/-- The accepted values of R120 exist: the first 10 ms tick has come. -/
def inputsAccepted (c : Controller) : Bool :=
  c.doors.presentIn.all (·.accepted.isSome) && c.doors.latchedIn.all (·.accepted.isSome)

/-! ## Derivation (R121) -/

/-- The state derived from the accepted pair and the state held (the table of R121). -/
def deriveState (present latched : Bool) (d : DoorState) : DoorState :=
  match present, latched, d with
  | true, true, .unlatched => .checking
  | true, true, .removed => .checking
  | true, true, d => d
  | true, false, _ => .unlatched
  | false, _, _ => .removed

/-- The job oven of R129: the oven of a push job from CLAIMED to RECLOSING. -/
def authorised (c : Controller) (i : Nat) : Bool := c.job.state.beyondClaiming && isJobOven c i

/-- R122: a derivation leaves the door REMOVED with latched yes; the conflict is counted once in a stay. -/
def countConflict (ch : Nat) (c : Controller) : Controller :=
  match c.doors.doors[ch]? with
  | some d =>
    if d.state = .removed ∧ d.latched = true ∧ d.conflict = false then
      count .doorInputConflict (some (ovenNumber c (ch / 2))) (modifyDoor ch (fun d => { d with conflict := true }) c)
    else c
  | none => c

/-- R129: a door has entered REMOVED on an oven that is not the job oven. -/
def countUnauthorised (ch : Nat) (c : Controller) : Controller :=
  if authorised c (ch / 2) then c else count .unauthorisedDoor (some (ovenNumber c (ch / 2))) c

/-- What the record itself takes at a change of state: the conflict flag returns to no on leaving REMOVED (R122), and the
opening ends on entry to CHECKING (R123). -/
def Door.changed (s : DoorState) (d : Door) : Door :=
  { d with
    state := s
    conflict := d.conflict && s == .removed
    openSecs := if s = .checking then 0 else d.openSecs
    warned := d.warned && s != .checking
    overdue := d.overdue && s != .checking }

/-- A door record changes state, with the effects of R128 in their order. -/
def changeDoor (ch : Nat) (old new : DoorState) (c : Controller) : Controller :=
  let i := ch / 2
  let was := anyRemoved c i
  let c := modifyDoor ch (Door.changed new) c
  let c := countConflict ch c
  let c := if new = .removed then countUnauthorised ch c else c
  let now := anyRemoved c i
  let c := if !was && now then forceClose i c else if was && !now then followPhase i c else c
  let c := if new = .checking then scanEntersChecking ch c else c
  let c := if old.latchedState && !new.latchedState then scanLeaves ch c else c
  jobOnDoor i new c

/-- The derivation of R121 for a channel whose accepted pair has changed. -/
def deriveDoor (ch : Nat) (c : Controller) : Controller :=
  match c.doors.doors[ch]? with
  | none => c
  | some d =>
    let p := acceptedAt c.doors.presentIn ch
    let l := acceptedAt c.doors.latchedIn ch
    let new := deriveState p l d.state
    let c := modifyDoor ch (fun d => { d with present := p, latched := l }) c
    if new = d.state then countConflict ch c else changeDoor ch d.state new c

/-! ## The open timer (R124 to R126) -/

/-- The door is in an opening: UNLATCHED or REMOVED. -/
def Door.opened (d : Door) : Bool := d.state == .unlatched || d.state == .removed

/-- R125: DOOR WARN is due for a record. -/
def warnsAt (g : Config) (d : Door) : Bool := d.opened && decide (g.tdw ≤ d.openSecs) && !d.warned

/-- R126: DOOR OVERDUE is due for a record. -/
def overdueAt (g : Config) (d : Door) : Bool := d.opened && decide (g.tdo ≤ d.openSecs) && !d.overdue

/-- R125: warned is set and DOOR WARN counted, once in an opening. -/
def doorWarns (ch : Nat) (c : Controller) : Controller :=
  if (c.doors.doors[ch]?).any (warnsAt (cfg c)) then
    count .doorWarn (some (ovenNumber c (ch / 2))) (modifyDoor ch (fun d => { d with warned := true }) c)
  else c

/-- R126: overdue reported is set, DOOR OVERDUE counted, and the overdue reported to the push job. That DOOR OVERDUE is counted,
and its EVENT offered, before the abort of R95 acts is the model's choice (assumption log 34, DESIGN CHOICE). -/
def doorOverdues (ch : Nat) (c : Controller) : Controller :=
  if (c.doors.doors[ch]?).any (overdueAt (cfg c)) then
    let c := modifyDoor ch (fun d => { d with overdue := true }) c
    jobOnOverdue (ch / 2) (count .doorOverdue (some (ovenNumber c (ch / 2))) c)
  else c

/-! ## Forming the records (R131, R148) -/

/-- The state that follows from the accepted pair alone. -/
def formedState (present latched : Bool) : DoorState :=
  if present then (if latched then .checking else .unlatched) else .removed

/-- The record formed for a channel. -/
def formedDoor (c : Controller) (ch : Nat) : Door :=
  let p := acceptedAt c.doors.presentIn ch
  let l := acceptedAt c.doors.latchedIn ch
  { present := p, latched := l, state := formedState p l, openSecs := 0, warned := false, overdue := false,
    conflict := false, score := 0, ref := (cfg c).refs.getD ch 1, last := none,
    checks := if formedState p l = .checking then (cfg c).nchk else 0, dead := 0 }

/-- The further effects of the forming of one channel: conflict and UNAUTHORISED DOOR counted, and the demand raised by
the first door of the oven found off (R131). -/
def formingEffects (ch : Nat) (c : Controller) : Controller :=
  if doorAt c ch = some .removed then
    let c := countUnauthorised ch (countConflict ch c)
    if ch % 2 = 1 ∧ doorAt c (ch - 1) = some .removed then c else forceClose (ch / 2) c
  else c

/-- The door records of channels 0 to 2k − 1 are formed from the accepted inputs as they stand, in channel order (R131);
the scanner starts at the next 10 ms tick (R148). -/
def formDoors (c : Controller) : Controller :=
  let n := 2 * (cfg c).count
  let c := { c with doors := { c.doors with doors := (List.range n).map (formedDoor c) } }
  startAtNextTick ((List.range n).foldl (fun c ch => formingEffects ch c) c)

end Sys2Proof.Machine
end

