-- ==== Sys2Proof/Machine/Order.lean ====
section
/-! DEFINITION. The pushing order unit (chapter 3): eligibility, urgency, the round and its bid list, the claim decision,
claim conflict and the held-claim record. -/

namespace Sys2Proof.Machine

open Sys2Proof

/-! ## Eligibility (R45, R46) -/

/-- A neighbouring oven in a phase and at its minutes passes the series rule: COKING at or above Nmin, or STICKER. -/
def seriesPasses (nmin : Nat) (p : Phase) (minutes : Nat) : Bool :=
  (p == .coking && decide (nmin ≤ minutes)) || p == .sticker

/-- An oven record of the section as a neighbour. -/
def ownPasses (c : Controller) (i : Nat) : Bool :=
  (ovenAt c i).any fun o => seriesPasses c.table.nmin o.phase o.minutes

/-- A neighbour record: an absent one is not checked, one that is not known fails (R46). -/
def recordPasses (c : Controller) (r : Option Neighbour) : Bool :=
  match r with
  | none => true
  | some n => n.known && seriesPasses c.table.nmin n.heard n.minutes

/-- The series rule for the oven at index i (R46). -/
def seriesRule (c : Controller) (i : Nat) : Bool :=
  (if i = 0 then recordPasses c c.table.below else ownPasses c (i - 1))
    && (if i + 1 < c.table.ovens.length then ownPasses c (i + 1) else recordPasses c c.table.above)

/-- What the oven record itself must show: COKING with m at or above T − E, not inhibited, hard push count below 15,
stuck flag clear (R45). -/
def Oven.ready (o : Oven) : Bool :=
  o.phase == .coking && decide (o.target - o.allowance ≤ o.minutes) && !o.inhibited && decide (o.hardCount < 15)
    && !o.stuck

/-- The oven at index i is eligible (R45). -/
def eligible (c : Controller) (i : Nat) : Bool :=
  (ovenAt c i).any Oven.ready && bothSettled c i && seriesRule c i

/-- u = clamp(m − T + 64, 0, 255) (R48). -/
def urgency (o : Oven) : Nat := min 255 (o.minutes + 64 - o.target)

/-- R49: of two candidates, the later one by index is taken only for a higher urgency. -/
def betterOven (c : Controller) (best : Option (Nat × Oven)) (i : Nat) : Option (Nat × Oven) :=
  match ovenAt c i with
  | none => best
  | some o =>
    if !eligible c i then best
    else
      match best with
      | none => some (i, o)
      | some (j, b) => if urgency b < urgency o then some (i, o) else some (j, b)

/-- R49: the eligible oven with the highest urgency, the lowest oven number among equals. -/
def chooseOven (c : Controller) : Option (Nat × Oven) :=
  (List.range c.table.ovens.length).foldl (betterOven c) none

/-! ## The round -/

/-- The round record is changed by f. -/
def modifyRound (f : Round → Round) (c : Controller) : Controller := { c with round := f c.round }

/-- The BID for an oven record (R48). -/
def bidFor (c : Controller) (o : Oven) : Telegram :=
  bidTelegram (ownNumber c) (255 - urgency o) o.number o.minutes

/-- The BID is queued: own bid identifier is set and the push job record is BIDDING (R50, R55); a BID refused or dropped
at once returns the record to IDLE (R56). -/
def queueBid (o : Oven) (c : Controller) : Controller :=
  let t := bidFor c o
  let c := modifyRound (fun r => { r with ownBid := some t.ident }) c
  offer t (enterJob .bidding c)

/-- A bid takes its place in the list by identifier (R52). -/
def insertBid (b : Bid) : List Bid → List Bid
  | [] => [b]
  | x :: xs => if x.ident ≤ b.ident then x :: insertBid b xs else b :: x :: xs

/-- R52: the bid list takes a bid. An entry of the same source is removed first; a list of 16 does not take a bid above
every entry, and loses its last entry to a lower one. -/
def enterBid (b : Bid) (l : List Bid) : List Bid :=
  let rest := l.filter fun x => x.src != b.src
  if rest.length < 16 then insertBid b rest
  else if rest.all (fun x => decide (x.ident ≤ b.ident)) then rest
  else (insertBid b rest).dropLast

/-- The round closes: the window timer stops, the list is emptied, the own bid is forgotten (R57, R58, R64). -/
def closeRound (c : Controller) : Controller :=
  { c with round := Round.closedRecord, due := { c.due with bidWindow := false } }

/-- R50: a round opens on a PUSHER READY, if the conditions hold; one oven is bid if one is eligible. -/
def openRound (c : Controller) : Controller :=
  if isActive c && c.job.state == .idle && c.held.claim.isNone && !c.round.opened then
    let c := { c with round := ⟨true, (cfg c).tw, none, false, []⟩ }
    match chooseOven c with
    | some (_, o) => queueBid o c
    | none => c
  else c

/-- R55: at a minute tick of an open round, an oven is bid if it beats the head of the bid list. -/
def minuteBid (c : Controller) : Controller :=
  if c.round.opened && isActive c && c.job.state == .idle && c.round.ownBid.isNone then
    match chooseOven c with
    | none => c
    | some (_, o) =>
      match c.round.bids.head? with
      | none => queueBid o c
      | some h => if (bidFor c o).ident < h.ident then queueBid o c else c
  else c

/-- R53: the BID has been sent. -/
def bidSent (t : Telegram) (c : Controller) : Controller :=
  if c.round.ownBid = some t.ident ∧ c.round.opened = true then
    modifyRound (fun r => { r with ownSent := true, bids := enterBid ⟨t.src, t.oven, t.ident⟩ r.bids }) c
  else c

/-- R52, R54: a BID is taken from the receive queue. A BID whose oven field is 0 or above 192 enters the list as it stands; R32
leaves the value to this unit, chapter 3 does not judge it, and that is the model's choice (assumption log 35, DESIGN
CHOICE). -/
def takeBid (t : Telegram) (c : Controller) : Controller :=
  if c.round.opened then
    let yields := c.job.state == .bidding && !c.round.ownSent && c.round.ownBid.any (fun own => decide (t.ident < own))
    let c := if yields then idleJob (withdrawKind .bid c) else c
    modifyRound (fun r => { r with bids := enterBid ⟨t.src, t.oven, t.ident⟩ r.bids }) c
  else c

/-- The round yields a claim: BIDDING, own bid sent, the station's own entry at the head, and its oven still eligible
(R58). The answer is the head entry and the oven record. -/
def winningBid (c : Controller) : Option (Bid × Oven) :=
  if c.job.state = .bidding ∧ c.round.ownSent = true then
    match c.round.bids.head? with
    | some h =>
      if h.src = ownNumber c then
        match ovenIndex c h.oven with
        | some i =>
          match ovenAt c i with
          | some o => if eligible c i then some (h, o) else none
          | none => none
        | none => none
      else none
    | none => none
  else none

/-- R58: the CLAIM is queued and the push job record is CLAIMING with the CLAIM's oven and identifier (R71). -/
def queueClaim (h : Bid) (o : Oven) (c : Controller) : Controller :=
  let t := claimTelegram (ownNumber c) (h.ident / 32 % 256) h.oven o.minutes
  offer t (modifyJob (fun j => { j.enter .claiming with oven := some h.oven, ownClaim := some t.ident }) c)

/-- R58: the bid window expires. -/
def windowExpires (c : Controller) : Controller :=
  match winningBid c with
  | some (h, o) => closeRound (queueClaim h o c)
  | none => closeRound (if c.job.state = .bidding then idleJob (withdrawKind .bid c) else c)

/-! ## The held-claim record -/

/-- The held-claim record is changed by f. -/
def modifyHeld (f : HeldRecord → HeldRecord) (c : Controller) : Controller := { c with held := f c.held }

/-- R65: the record takes a foreign CLAIM. A CLAIM whose oven field is 0 or above 192 is recorded as it stands; R32 leaves the
value to this unit, chapter 3 does not judge it, and that is the model's choice (assumption log 35, DESIGN CHOICE). -/
def HeldRecord.take (t : Telegram) (h : HeldRecord) : HeldRecord :=
  match h.claim with
  | none => { h with claim := some ⟨t.src, t.oven, t.ident⟩, age := 0 }
  | some k =>
    if k.holder = t.src ∨ t.ident < k.ident then { h with claim := some ⟨t.src, t.oven, t.ident⟩, age := 0 } else h

/-- A foreign CLAIM reaches the held-claim record (R65). -/
def recordClaim (t : Telegram) (c : Controller) : Controller := modifyHeld (HeldRecord.take t) c

/-- A telegram is more urgent than the own claim (R48, R60). -/
def beatsOwnClaim (t : Telegram) (c : Controller) : Bool := c.job.ownClaim.any fun own => decide (t.ident < own)

/-- R57: a foreign CLAIM closes an open round. -/
def claimClosesRound (c : Controller) : Controller :=
  closeRound (if c.job.state = .bidding then idleJob (withdrawKind .bid c) else c)

/-- R57, R61, R62, R63, R65: a foreign CLAIM is taken. -/
def takeClaim (t : Telegram) (c : Controller) : Controller :=
  if c.round.opened then recordClaim t (claimClosesRound c)
  else
    match c.job.state with
    | .idle | .bidding => recordClaim t c
    | .claiming =>
      if beatsOwnClaim t c then recordClaim t (idleJob (withdrawKind .claim c)) else c
    | .claimed | .doors =>
      if beatsOwnClaim t c then
        match c.job.oven, jobIndex c with
        | some n, some i =>
          if anyRemoved c i then recordClaim t c else recordClaim t (abandonJob i n c)
        | _, _ => recordClaim t c
      else c
    | _ => if beatsOwnClaim t c then recordClaim t c else c

/-- R66: the age returns to 0 on a class 3 telegram of the holder. -/
def holderSpeaks (src : Nat) (c : Controller) : Controller :=
  if c.held.claim.any (fun k => k.holder == src) then modifyHeld (fun h => { h with age := 0 }) c else c

/-- R67: a RELEASE is taken. -/
def takeRelease (t : Telegram) (c : Controller) : Controller :=
  if c.held.claim.any (fun k => k.holder == t.src) then
    if c.held.claim.any (fun k => k.oven == t.oven) then modifyHeld (fun h => { h with claim := none, age := 0 }) c
    else holderSpeaks t.src c
  else if c.held.expHolder = some t.src ∧ c.held.expOven = some t.oven then
    count .lateRelease (some t.oven) (modifyHeld (fun h => { h with expHolder := none, expOven := none }) c)
  else c

/-- R68: the claim held expires. -/
def claimExpires (c : Controller) : Controller :=
  match c.held.claim with
  | none => c
  | some k =>
    count .claimExpired (some k.oven)
      (modifyHeld (fun h => { h with claim := none, age := 0, expHolder := some k.holder, expOven := some k.oven }) c)

/-- R66: the age at a minute tick; it counts while a holder is present, holding at 90. -/
def HeldRecord.minute (h : HeldRecord) : HeldRecord :=
  if h.claim.isSome then { h with age := min 90 (h.age + 1) } else h

/-- R68: the age has reached the limit. -/
def HeldRecord.overLimit (h : HeldRecord) : Bool := h.claim.isSome && decide (h.limit ≤ h.age)

end Sys2Proof.Machine
end

