-- ==== Sys2Proof/Machine/Tracker.lean ====
section
/-! DEFINITION. The machine tracker (chapter 5): the records learned from PUSHER, GUIDE and QCAR, their ageing, and the
travel timer's expiries. -/

namespace Sys2Proof.Machine

open Sys2Proof

/-! ## Telegrams of the machines -/

/-- The payload of a PUSHER that the tracker does not discard (R102): spot, state, force and completed. -/
def pusherPayload (t : Telegram) : Option (Option Nat × PusherState × Nat × Bool) :=
  match pusherStateOf (t.at 1) with
  | some st =>
    if t.at 0 ≤ 192 ∧ t.at 4 ≤ 1 then some (ovenField (t.at 0), st, t.at2 2, t.at 4 == 1) else none
  | none => none

/-- R102: a PUSHER is taken: the record first, then the report to the push job, and for READY to the pushing order
unit. -/
def takePusher (t : Telegram) (c : Controller) : Controller :=
  match pusherPayload t with
  | none => c
  | some (spot, st, force, completed) =>
    let c := { c with track := { c.track with pusher := ⟨spot, some st, 0, false⟩ } }
    let c := jobOnPusher spot st force completed c
    if st = .ready then openRound c else c

/-- R103: a GUIDE is taken. -/
def takeGuide (t : Telegram) (c : Controller) : Controller :=
  match guideStateOf (t.at 1) with
  | some st =>
    if t.at 0 ≤ 192 then evaluate { c with track := { c.track with guide := ⟨ovenField (t.at 0), some st, 0, false⟩ } }
    else c
  | none => c

/-- The record spot after a QCAR (the table of R105). -/
def carSpotAfter (place : CarPlace) (spot : Nat) (before : Option Nat) : Option Nat :=
  if spot ≠ 0 then some spot else if place = .oven then none else before

/-- R105: a QCAR is taken: the record, then the call, then the report to the push job. -/
def takeQcar (t : Telegram) (c : Controller) : Controller :=
  match carPlaceOf (t.at 0), carStateOf (t.at 2) with
  | some p, some st =>
    if t.at 1 ≤ 192 ∧ t.at 3 ≤ 192 then
      let r : CarRecord := ⟨some p, carSpotAfter p (t.at 1) c.track.car.spot, some st, ovenField (t.at 3), 0, false⟩
      evaluate (callOnQcar { c with track := { c.track with car := r } })
    else c
  | _, _ => c

/-! ## Ageing (R104, R105) -/

/-- Every machine age rises by 1, holding at 60. -/
def Tracker.aged (k : Tracker) : Tracker :=
  { k with
    pusher := { k.pusher with age := min 60 (k.pusher.age + 1) }
    guide := { k.guide with age := min 60 (k.guide.age + 1) }
    car := { k.car with age := min 60 (k.car.age + 1) } }

/-- A record is due to become stale: not stale yet, and its age at the machine stale limit. -/
def staleDue (g : Config) (age : Nat) (stale : Bool) : Bool := !stale && decide (g.staleLimit ≤ age)

/-- The record of a machine becomes stale. -/
def Tracker.withStale (m : MachineId) (k : Tracker) : Tracker :=
  match m with
  | .pusher => { k with pusher := { k.pusher with stale := true } }
  | .guide => { k with guide := { k.guide with stale := true } }
  | .qcar => { k with car := { k.car with stale := true } }

/-- A machine's record is due to become stale. -/
def machineStaleDue (m : MachineId) (c : Controller) : Bool :=
  match m with
  | .pusher => staleDue (cfg c) c.track.pusher.age c.track.pusher.stale
  | .guide => staleDue (cfg c) c.track.guide.age c.track.guide.stale
  | .qcar => staleDue (cfg c) c.track.car.age c.track.car.stale

/-- R104, R105: a machine's record becomes stale and the push job is told. -/
def machineGoesStale (m : MachineId) (c : Controller) : Controller :=
  if machineStaleDue m c then evaluate { c with track := Tracker.withStale m c.track } else c

/-! ## The travel timer (R111) -/

/-- The travel seconds remaining at a second tick while the CALL is sent. -/
def Call.secondTick (k : Call) : Call :=
  if k.step = .sent then { k with remaining := k.remaining - 1 } else k

/-- The timer stands at 0 while the CALL is sent: an expiry is due. -/
def Call.expired (k : Call) : Bool := k.step == .sent && k.remaining == 0

/-- R111: the travel timer expires. -/
def travelExpires (c : Controller) : Controller :=
  if c.track.call.step = .sent then
    if c.track.call.expiries = 0 then
      count .qcarLate c.track.call.oven (modifyCall (fun k => { k with expiries := 1, remaining := k.limit }) c)
    else jobOnLateCar (modifyCall Call.ended c)
  else c

end Sys2Proof.Machine
end

