-- ==== Sys2Proof/Machine/Table.lean ====
section
/-! DEFINITION. The oven table (chapter 1) and the supervisory telegrams (chapter 10): CHARGE, SEED, CLEAR, INHIBIT,
PLAN, PHASE and MASK, the coking minutes and the neighbour records. -/

namespace Sys2Proof.Machine

open Sys2Proof

/-- A phase change made by the oven table on a telegram: the change with its effects, and the report of a changed
command to the push job (R156, R160). -/
def tableSetPhase (i : Nat) (p : Phase) (c : Controller) : Controller :=
  jobOnCommand i (commandAt c i) (setPhase i p c)

/-! ## CHARGE (R4, R5) -/

/-- R4: CHARGE START for the oven at index i. CHARGE DOORS is counted, and its EVENT offered, before the PHASE of the change is
queued; R4 gives no order between the two, and this one is the model's choice (assumption log 30, DESIGN CHOICE). -/
def chargeStartAt (i : Nat) (c : Controller) : Controller :=
  match phaseAt c i with
  | some .empty =>
    let c := if bothSettled c i then c else count .chargeDoors (some (ovenNumber c i)) c
    tableSetPhase i .charging c
  | some _ => count .doubleCharge (some (ovenNumber c i)) c
  | none => c

/-- R5: CHARGE END for the oven at index i: coking minutes 0, T and E from the pending plan, then the phase. -/
def chargeEndAt (i : Nat) (c : Controller) : Controller :=
  match phaseAt c i with
  | some .charging =>
    tableSetPhase i .coking
      (modifyOven i (fun o => { o with minutes := 0, target := c.table.pendT, allowance := c.table.pendE }) c)
  | some _ => count .doubleCharge (some (ovenNumber c i)) c
  | none => c

/-- A CHARGE START taken (R3, R4); a code that is neither START nor END changes nothing and counts nothing. -/
def takeChargeStart (t : Telegram) (c : Controller) : Controller :=
  if t.at 1 = chargeStartCode then
    match ovenIndex c t.oven with
    | some i => chargeStartAt i c
    | none => c
  else c

/-- A CHARGE END taken (R3, R5). -/
def takeChargeEnd (t : Telegram) (c : Controller) : Controller :=
  if t.at 1 = chargeEndCode then
    match ovenIndex c t.oven with
    | some i => chargeEndAt i c
    | none => c
  else c

/-! ## SEED (R6, R184) -/

/-- A SEED is refused: its oven is the oven of a push job from CLAIMING to RECLOSING (R184). -/
def seedRefused (c : Controller) (oven : Nat) : Bool :=
  c.job.state != .idle && c.job.state != .bidding && c.job.oven == some oven

/-- What a SEED that is taken sets: T, E, and the coking minutes by the phase it names (R6). -/
def Oven.seeded (p : Phase) (minutes target allowance : Nat) (o : Oven) : Oven :=
  { o with
    minutes := if p = .empty then 0 else clampNat minutes 0 4095
    target := clampNat target 600 2400
    allowance := allowance }

/-- R6, R184: a SEED is taken. -/
def takeSeed (t : Telegram) (c : Controller) : Controller :=
  match ovenIndex c t.oven, seedPhaseOf (t.at 1) with
  | some i, some p =>
    if seedRefused c t.oven then count .seedRefused (some t.oven) c
    else tableSetPhase i p (modifyOven i (Oven.seeded p (t.at2 2) (t.at2 4) c.table.pendE) c)
  | _, _ => c

/-! ## CLEAR and INHIBIT (R185, R186) -/

/-- R185: CLEAR STICKER moves an oven in STICKER to EMPTY with coking minutes 0. -/
def takeClearSticker (t : Telegram) (c : Controller) : Controller :=
  if t.at 1 = clearStickerCode then
    match ovenIndex c t.oven with
    | some i =>
      if phaseAt c i = some .sticker then tableSetPhase i .empty (modifyOven i (fun o => { o with minutes := 0 }) c)
      else c
    | none => c
  else c

/-- R185: CLEAR HARDCOUNT sets the hard push count to 0. -/
def takeClearHardcount (t : Telegram) (c : Controller) : Controller :=
  if t.at 1 = clearHardcountCode then
    match ovenIndex c t.oven with
    | some i => modifyOven i (fun o => { o with hardCount := 0 }) c
    | none => c
  else c

/-- R186: the flag changes to the given value and a PHASE is queued; a flag already there changes nothing. -/
def setInhibited (i : Nat) (x : Bool) (c : Controller) : Controller :=
  if (ovenAt c i).any (fun o => o.inhibited != x) then
    queuePhase i (modifyOven i (fun o => { o with inhibited := x }) c)
  else c

/-- R186, R96: INHIBIT SET. R186, R17, R96 and R93 give no order between the PHASE of the flag's change and the abort of a CLAIMED
or DOORS job with its JOB ABORTED count. That the PHASE is queued before the abort is the model's choice (assumption log 34,
DESIGN CHOICE). -/
def takeInhibitSet (t : Telegram) (c : Controller) : Controller :=
  if t.at 1 = inhibitSetCode then
    match ovenIndex c t.oven with
    | some i => if (ovenAt c i).any (fun o => !o.inhibited) then jobOnInhibit i (setInhibited i true c) else c
    | none => c
  else c

/-- R186: INHIBIT CLEAR. -/
def takeInhibitClear (t : Telegram) (c : Controller) : Controller :=
  if t.at 1 = inhibitClearCode then
    match ovenIndex c t.oven with
    | some i => setInhibited i false c
    | none => c
  else c

/-! ## PLAN (R13) -/

/-- CONFIG CLAMPED from PLAN is counted once where a field had to be clamped (R13, kind 8 of section 10.2). -/
def countPlanClamp (x y : Nat) (c : Controller) : Controller := if x = y then c else count .seedRefused none c

/-- R13: a PLAN is taken. -/
def takePlan (t : Telegram) (c : Controller) : Controller :=
  let pt := clampNat (t.at2 0) 600 2400
  let pe := clampNat (t.at 2) 0 64
  let pn := clampNat (t.at2 3) 0 600
  { c with table := { c.table with pendT := pt, pendE := pe, nmin := pn } }
    |> countPlanClamp (t.at2 0) pt |> countPlanClamp (t.at 2) pe |> countPlanClamp (t.at2 3) pn

/-! ## Neighbour records (R14 to R16) -/

/-- R15: a neighbour record hears a PHASE for its oven. -/
def Neighbour.hear (oven : Nat) (p : Phase) (minutes : Nat) (n : Neighbour) : Neighbour :=
  if n.oven = oven then ⟨n.oven, p, clampNat minutes 0 4095, 0, true⟩ else n

/-- R15: a PHASE is taken. -/
def takePhase (t : Telegram) (c : Controller) : Controller :=
  match phaseOf (t.at 1) with
  | some p =>
    { c with table :=
      { c.table with
        below := c.table.below.map (Neighbour.hear t.oven p (t.at2 2))
        above := c.table.above.map (Neighbour.hear t.oven p (t.at2 2)) } }
  | none => c

/-- R16: the minutes of a known COKING neighbour at a minute tick. -/
def Neighbour.minute (n : Neighbour) : Neighbour :=
  if n.known = true ∧ n.heard = .coking then { n with minutes := min 4095 (n.minutes + 1) } else n

/-- R16: the age at a second tick. -/
def Neighbour.second (n : Neighbour) : Neighbour := { n with age := min 900 (n.age + 1) }

/-- R16: a known record whose age is at or above Tnb is due to be lost. -/
def Neighbour.lostAt (g : Config) (n : Neighbour) : Bool := n.known && decide (g.tnb ≤ n.age)

/-- One of the two neighbour records. -/
def neighbourAt (c : Controller) (e : Edge) : Option Neighbour :=
  match e with
  | .below => c.table.below
  | .above => c.table.above

/-- One of the two neighbour records is changed by f. -/
def modifyNeighbour (e : Edge) (f : Neighbour → Neighbour) (c : Controller) : Controller :=
  match e with
  | .below => { c with table := { c.table with below := c.table.below.map f } }
  | .above => { c with table := { c.table with above := c.table.above.map f } }

/-- R16: a neighbour is marked not known and NEIGHBOUR LOST is counted. -/
def neighbourIsLost (e : Edge) (c : Controller) : Controller :=
  match neighbourAt c e with
  | some n =>
    if n.lostAt (cfg c) then
      count .neighbourLost (some n.oven) (modifyNeighbour e (fun n => { n with known := false }) c)
    else c
  | none => c

/-- R14: the neighbour records that F, k and N give, unknown as at a cold start (R20). -/
def neighboursOf (g : Config) : Option Neighbour × Option Neighbour :=
  ( if 1 < g.first then some ⟨g.first - 1, .unknown, 0, 900, false⟩ else none,
    if g.first + g.count - 1 < g.last then some ⟨g.first + g.count, .unknown, 0, 900, false⟩ else none )

/-! ## Coking minutes (R10) -/

/-- R10, R12: the coking minutes of a COKING oven rise by 1, holding at 4095, and the stage is derived afresh. -/
def Oven.minute (g : Config) (o : Oven) : Oven :=
  if o.phase = .coking then ({ o with minutes := min 4095 (o.minutes + 1) }).withStage g else o

/-! ## PHASE broadcasting (R18) -/

/-- A PHASE for the first and one for the last oven of the section; one where k is 1 (R18). That the first oven's is queued before
the last oven's is the model's choice (assumption log 34, DESIGN CHOICE). -/
def queueEdgePhases (c : Controller) : Controller :=
  let n := c.table.ovens.length
  if n ≤ 1 then queuePhase 0 c else queuePhase (n - 1) (queuePhase 0 c)

/-! ## MASK (R188, R190) -/

/-- The four payload characters of a MASK as one word, the first character highest (section 2.9). -/
def maskWord (t : Telegram) : BitVec 32 := BitVec.ofNat 32 (t.at2 0 * 65536 + t.at2 2)

/-- R188 to R190: a MASK replaces the report-enable set. A queued EVENT with nothing left to report is withdrawn. -/
def takeMask (t : Telegram) (c : Controller) : Controller :=
  let c := { c with events := { c.events with enable := maskWord t } }
  if c.events.queued && !c.events.anyReportable then
    withdrawKind .event { c with events := { c.events with queued := false } }
  else offerEvent c

end Sys2Proof.Machine
end

