-- ==== Sys2Proof/Machine/Regulate.lean ====
section
/-! DEFINITION. The regulation unit's converter cycle and computation (chapters 8 and 9): the samples, scaling and
filtering, the setpoint, the control computation, the stuck and isolation checks, the main pressure record and the
MAIN broadcast. -/

namespace Sys2Proof.Machine

open Sys2Proof

/-- The regulation unit's own records are changed by f. -/
def modifyReg (f : Regulation → Regulation) (c : Controller) : Controller := { c with reg := f c.reg }

/-- The main pressure record is changed by f. -/
def modifyMain (f : MainRecord → MainRecord) (c : Controller) : Controller :=
  modifyReg (fun r => { r with main := f r.main }) c

/-! ## Samples (R154) -/

/-- A code is valid: above 8 and below 4087. -/
def validCode (x : SampleCode) : Bool := decide (8 < x.toNat) && decide (x.toNat < 4087)

/-- The sample of a channel (1 to 17) in a cycle: the code that arrived, if it is valid. -/
def sampleAt (k : Cycle) (ch : Nat) : Option Nat :=
  match k.got[ch - 1]? with
  | some x => if validCode x then some x.toNat else none
  | none => none

/-- R174: P = round((c − Z) × S / 2048), clamped to −3000..+3000 Pa. -/
def scalePressure (z : Channel) (code : Nat) : Int :=
  clampInt (roundDiv (((code : Int) - z.zero) * z.span) 2048) (-3000) 3000

/-- R175: the filter stage; an absent Pf is seeded from P. -/
def filterPressure (shift : Nat) (pf : Option Int) (p : Int) : Int :=
  match pf with
  | none => p
  | some f => f + roundDiv (p - f) (2 ^ shift)

/-- R183: fb = round(c × 1000 / 4095). -/
def scaleFeedback (code : Nat) : Int := roundDiv ((code * 1000 : Nat) : Int) 4095

/-- Z and S of pressure channel 1 to 8 or 17 (the image gives them in that order). -/
def channelOf (g : Config) (ch : Nat) : Channel :=
  g.channels.getD (if ch = 17 then 8 else ch - 1) ⟨0, 0⟩

/-- R154: the pressure sample of an oven. -/
def Oven.takePressure (g : Config) (z : Channel) (x : Option Nat) (o : Oven) : Oven :=
  match x with
  | some code => { o with invalid := 0, filtered := some (filterPressure g.shift o.filtered (scalePressure z code)) }
  | none =>
    let n := min 255 (o.invalid + 1)
    { o with invalid := n, filtered := if n = 3 then none else o.filtered }

/-- R166: the feedback sample of an oven; an invalid one leaves fb as it was. -/
def Oven.takeFeedback (x : Option Nat) (o : Oven) : Oven :=
  match x with
  | some code => { o with feedback := some (scaleFeedback code) }
  | none => o

/-! ## The stuck check (R167) -/

/-- The deviation |fb − U_prev| is above 50. -/
def deviates (fb uPrev : Int) : Bool := decide (50 < (fb - uPrev).natAbs)

/-- R167: the check at a completion with a valid feedback. While the flag is clear a deviation counts, while it is set
an agreement counts; the third in a row turns the flag. -/
def Oven.stuckCheck (fb : Int) (o : Oven) : Oven :=
  if deviates fb o.command != o.stuck then
    if 3 ≤ o.stuckCount + 1 then { o with stuck := !o.stuck, stuckCount := 0 }
    else { o with stuckCount := o.stuckCount + 1 }
  else { o with stuckCount := 0 }

/-! ## The control computation (chapter 9) -/

/-- R176, R177: the setpoint before the leak offset. -/
def setpoint (g : Config) (o : Oven) : Int :=
  match derivedStage g o with
  | none => g.unknownRow.a
  | some s =>
    let row := stageRow g s
    let start := stageStart g o.target s
    let len := stageEnd g o.target s - start
    let d := min (o.minutes - start) len
    if len = 0 then row.b else row.a + roundDiv ((row.b - row.a) * (d : Int)) len

/-- R178: the setpoint with the leak offset of an oven with a LEAKING door, clamped to −700..+500. -/
def setpointWithLeak (g : Config) (leaking : Bool) (o : Oven) : Int :=
  clampInt (setpoint g o - if leaking then g.leakOffset else 0) (-700) 500

/-- R165: draw is sufficient when the main value is at or below Pf − Dmin. -/
def drawSufficient (g : Config) (pf main : Int) : Bool := decide (main ≤ pf - g.dmin)

/-- R179: the error. -/
def controlError (pf sp : Int) : Int := clampInt (pf - sp) (-1000) 1000

/-- R180: the integral stage. -/
def integralStage (g : Config) (row : Row) (draws : Bool) (e i : Int) : Int :=
  clampInt (if draws then i + g.ki * e else i) (row.umin * 1024) (row.umax * 1024)

/-- R181: the output before slew. -/
def outputStage (g : Config) (row : Row) (e i : Int) : Int :=
  clampInt (roundDiv i 1024 + roundDiv (g.kp * e) 16) row.umin row.umax

/-- R182: the slew stage. -/
def slewStage (g : Config) (uPrev u : Int) : Int := uPrev + clampInt (u - uPrev) (-g.r) g.r

/-- The control computation for an oven in REGULATE (R173): a new integrator, command and no-draw count. Pf and the main
value are present whenever an oven is in REGULATE (R157, R179). -/
def Oven.compute (g : Config) (leaking : Bool) (main : Option Int) (o : Oven) : Oven :=
  match o.filtered, main with
  | some pf, some mv =>
    let row := rowInForce g o
    let e := controlError pf (setpointWithLeak g leaking o)
    let draws := drawSufficient g pf mv
    let i := integralStage g row draws e o.integrator
    { o with
      integrator := i
      command := slewStage g o.command (outputStage g row e i)
      noDraw := if draws then 0 else min 255 (o.noDraw + 1) }
  | _, _ => o

/-! ## Modes at a completion (R157, R159) -/

/-- R157: the choice between REGULATE and HOLD, for an oven whose mode is one of the two. -/
def Oven.chooseMode (g : Config) (trusted : Bool) (o : Oven) : Oven :=
  match o.mode with
  | .hold => if trusted then o.enterRegulate g else o
  | .regulate => if trusted then o else { o with mode := .hold }
  | _ => o

/-- R159: the work of the oven's mode. -/
def Oven.modeWork (g : Config) (leaking : Bool) (main : Option Int) (o : Oven) : Oven :=
  match o.mode with
  | .closed => { o with command := 0, integrator := 0 }
  | .forced => { o with command := g.uchg }
  | .isolating => { o with command := max 0 (o.command - g.riso) }
  | .hold => o
  | .regulate => o.compute g leaking main

/-- R168: the isolation check, with this completion's feedback if it is valid. -/
def Oven.isolationCheck (fb : Option Int) (o : Oven) : Oven :=
  if o.mode = .isolating then
    if o.command = 0 ∧ fb.any (fun x => decide (x ≤ 10)) = true then { o with isoCount := min 2 (o.isoCount + 1) }
    else { o with isoCount := 0 }
  else o

/-! ## One oven's work at a completion (R155, step 2) -/

/-- The oven record after its whole work: pressure and feedback sample, stuck check against the command as it stood,
mode choice, mode work, isolation check. -/
def ovenCompletion (g : Config) (z : Channel) (leaking : Bool) (main : MainRecord)
    (press fb : Option Nat) (o : Oven) : Oven :=
  let o := (o.takePressure g z press).takeFeedback fb
  let fbv := fb.map scaleFeedback
  let o := match fbv with
    | some f => o.stuckCheck f
    | none => o
  let o := o.chooseMode g (press.isSome && !main.stale)
  (o.modeWork g leaking main.value).isolationCheck fbv

/-- SENSOR INVALID is counted: the invalid count reaches 3 (R154). -/
def sensorInvalid (o o' : Oven) : Bool := o'.invalid == 3 && o.invalid != 3

/-- VALVE STUCK is counted: the flag is set (R167). -/
def turnsStuck (o o' : Oven) : Bool := o'.stuck && !o.stuck

/-- NO DRAW is counted: the count reaches 10 (R165). -/
def reachesNoDraw (o o' : Oven) : Bool := o'.noDraw == 10 && o.noDraw != 10

/-- Isolation complete is reported: the count becomes 2 (R168). -/
def becomesIsolated (o o' : Oven) : Bool := o'.isoCount == 2 && o.isoCount != 2

/-- The oven at index i at a completion, with the counts and the reports to the push job (R155, R160). R155 gives no order between
the two; that the counts, with their EVENT, come before the report of isolation complete is the model's choice (assumption log
34, DESIGN CHOICE). -/
def completeOven (k : Cycle) (c : Controller) (i : Nat) : Controller :=
  match ovenAt c i with
  | none => c
  | some o =>
    let g := cfg c
    let o' := ovenCompletion g (channelOf g (i + 1)) (anyLeaking c i) c.reg.main
      (sampleAt k (i + 1)) (sampleAt k (i + 9)) o
    let n := some (ovenNumber c i)
    let c := modifyOven i (fun _ => o') c
    let c := if sensorInvalid o o' then count .sensor n c else c
    let c := if turnsStuck o o' then count .sensor n c else c
    let c := if reachesNoDraw o o' then count .draw n c else c
    let c := if becomesIsolated o o' then jobOnIsolated i c else c
    jobOnCommand i (some o.command) c

/-! ## The main pressure record (R161) -/

/-- R161: the channel 17 sample at a tap station, taken as an oven's pressure sample is. -/
def MainRecord.takeSample (g : Config) (x : Option Nat) (m : MainRecord) : MainRecord :=
  match x with
  | some code =>
    { m with invalid := 0, stale := false,
             value := some (filterPressure g.shift m.value (scalePressure (channelOf g 17) code)) }
  | none =>
    let n := min 255 (m.invalid + 1)
    if n = 3 then { m with invalid := n, value := none, stale := true } else { m with invalid := n }

/-- Step 1 of R155; MAIN STALE is counted at the change from not stale to stale (R161, R164). -/
def completeMain (k : Cycle) (c : Controller) : Controller :=
  if c.reg.main.tap then
    let m' := c.reg.main.takeSample (cfg c) (sampleAt k 17)
    let turns := m'.stale && !c.reg.main.stale
    let c := modifyMain (fun _ => m') c
    if turns then count .draw none c else c
  else c

/-! ## The cycle (R151 to R155) -/

/-- R155: a converter cycle completes. -/
def cycleCompletes (c : Controller) : Controller :=
  match c.reg.cycle with
  | none => c
  | some k =>
    let c := modifyReg (fun r => { r with cycle := none, answer := none }) c
    let c := completeMain k c
    let c := (List.range c.table.ovens.length).foldl (completeOven k) c
    requestFrame c

/-- R151, R153: the control period expires: a cycle starts, or the expiry is skipped and counted. -/
def periodExpires (c : Controller) : Controller :=
  match c.reg.cycle with
  | some _ => count .sampleOverrun none c
  | none =>
    let n := if c.reg.main.tap then 17 else 16
    modifyReg (fun r => { r with cycle := some ⟨n, []⟩, answer := some (cfg c).answerTicks }) c

/-- The cycle has all the samples it asked for. -/
def Cycle.full (k : Cycle) : Bool := decide (k.wanted ≤ k.got.length)

/-- R151, R152: a sample word is the sample of the next channel and restarts the answer limit; the last one completes
the cycle. A word that finds no cycle in flight is discarded. -/
def sampleArrives (x : SampleCode) (c : Controller) : Controller :=
  match c.reg.cycle with
  | none => c
  | some k =>
    if k.full then c
    else
      let k' : Cycle := { k with got := k.got ++ [x] }
      if k'.full then
        { modifyReg (fun r => { r with cycle := some k', answer := none }) c with
          due := { c.due with cycleComplete := true, answerLimit := false } }
      else
        { modifyReg (fun r => { r with cycle := some k', answer := some (cfg c).answerTicks }) c with
          due := { c.due with answerLimit := false } }

/-- R152: the answer limit expires; the samples that have not arrived are invalid and the cycle completes. -/
def answerExpires (c : Controller) : Controller :=
  match c.reg.cycle with
  | none => c
  | some _ => { modifyReg (fun r => { r with answer := none }) c with due := { c.due with cycleComplete := true } }

/-- R169: a positioner frame ends; one new frame serves the requests held. -/
def frameEnds (c : Controller) : Controller :=
  match c.reg.frame with
  | none => c
  | some _ =>
    let c := modifyReg (fun r => { r with frame := none }) c
    if c.reg.frameHeld && c.reg.framesOn then requestFrame c else c

/-! ## MAIN (R162, R163) -/

/-- R162: the MAIN send timer expires. MAIN queued becomes yes when the queue takes the MAIN into a place. -/
def mainSendExpires (c : Controller) : Controller :=
  match c.reg.main.value with
  | some v =>
    if isActive c && c.reg.main.tap && !c.reg.main.stale && !c.reg.main.queued then
      offer (mainTelegram (ownNumber c) v) (modifyMain (fun m => { m with queued := true }) c)
    else c
  | none => c

/-- R163: a MAIN is taken at a remote station. -/
def takeMain (t : Telegram) (c : Controller) : Controller :=
  modifyMain (fun m =>
    { m with value := some (clampInt (signed16 (t.at2 0)) (-3000) 3000), age := 0, stale := false }) c

/-- R163: the age at a second tick, at a remote station. -/
def MainRecord.second (m : MainRecord) : MainRecord := if m.tap then m else { m with age := min 60 (m.age + 1) }

/-- R163: the main is due to become stale. -/
def MainRecord.staleDue (g : Config) (m : MainRecord) : Bool := !m.tap && !m.stale && decide (g.tstale ≤ m.age)

/-- R163: the main becomes stale at a remote station and MAIN STALE is counted. -/
def mainGoesStale (c : Controller) : Controller :=
  if c.reg.main.staleDue (cfg c) then count .draw none (modifyMain (fun m => { m with stale := true }) c) else c

end Sys2Proof.Machine
end

