-- ==== Sys2Proof/Machine/Image.lean ====
section
/-! DEFINITION. The configuration image (chapter 11): its length and CRC (R194), the judging of its structure (R195),
the fields of the layout table with their defaults (section 11.4), and the corrections of R196 with their counts. -/

namespace Sys2Proof.Machine

open Sys2Proof

/-! ## Reading fields (section 11.4) -/

/-- Byte i of the image. -/
def imageByte (b : List Byte) (i : Nat) : Nat := (b.getD i 0).toNat

/-- The two-byte field at byte i, high byte first. -/
def imageWord (b : List Byte) (i : Nat) : Nat := imageByte b i * 256 + imageByte b (i + 1)

/-- The signed two-byte field at byte i. -/
def imageSigned (b : List Byte) (i : Nat) : Int := signed16 (imageWord b i)

/-- The number n of content bytes (R194). -/
def imageN (b : List Byte) : Nat := imageByte b 0

/-- The bytes 0 to n + 2 have all arrived (R194). -/
def imageComplete (b : List Byte) : Bool := !b.isEmpty && decide (imageN b + 3 ≤ b.length)

/-- The image CRC over bytes 0 to n agrees with bytes n + 1 and n + 2 (R194). -/
def imageCrcAgrees (b : List Byte) : Bool :=
  crc16 (b.take (imageN b + 1)) == imageWord b (imageN b + 1)

/-- A defaulted field of one byte is read when its last byte lies at or below n (R196). -/
def byteOr (b : List Byte) (i dflt : Nat) : Nat := if i ≤ imageN b then imageByte b i else dflt

/-- A defaulted field of two bytes is read when its last byte lies at or below n (R196). -/
def wordOr (b : List Byte) (i dflt : Nat) : Nat := if i + 1 ≤ imageN b then imageWord b i else dflt

/-- Z and S at byte i. -/
def imageChannel (b : List Byte) (i : Nat) : Channel := ⟨imageWord b i, imageWord b (i + 2)⟩

/-- A, B, Umin, Umax at byte i, with the stage's fraction. -/
def imageRow (b : List Byte) (f i : Nat) : Row :=
  ⟨f, imageSigned b i, imageSigned b (i + 2), imageWord b (i + 4), imageWord b (i + 6)⟩

/-- The fields of the image as they read, with the defaults of the fields it does not reach (section 11.4). -/
def rawConfig (b : List Byte) : Config where
  first := imageByte b 1
  count := imageByte b 2
  last := imageByte b 3
  tap := imageByte b 4 != 0
  source := imageByte b 5
  channels := (List.range 9).map fun i => imageChannel b (6 + 4 * i)
  uchg := imageWord b 42
  unknownRow := ⟨0, imageSigned b 44, imageSigned b 44, imageWord b 46, imageWord b 48⟩
  earlyRow := imageRow b 0 50
  mainRow := imageRow b (imageWord b 58) 60
  lateRow := imageRow b (imageWord b 68) 70
  finishRow := imageRow b (imageWord b 78) 80
  refs := (List.range 16).map fun i => imageWord b (88 + 2 * i)
  reportSet := BitVec.ofNat 32 (imageWord b 120 * 65536 + imageWord b 122)
  tower := imageByte b 124
  rateCode := byteOr b 125 2
  tc := wordOr b 126 500
  shift := byteOr b 128 2
  kp := byteOr b 129 16
  ki := byteOr b 130 20
  r := wordOr b 131 20
  riso := wordOr b 133 100
  dmin := wordOr b 135 50
  leakOffset := byteOr b 137 30
  tstale := byteOr b 138 5
  tdw := wordOr b 139 480
  tdo := wordOr b 141 900
  tgCode := byteOr b 143 1
  margin := byteOr b 144 64
  nchk := byteOr b 145 8
  tw := wordOr b 146 1500
  tclaim := byteOr b 148 45
  jobLimit := byteOr b 149 20
  holdLimit := wordOr b 150 120
  staleLimit := byteOr b 152 30
  tnb := wordOr b 153 300
  tfix := wordOr b 155 90
  tspot := byteOr b 157 4
  hardPush := wordOr b 158 600
  planT := wordOr b 160 1080
  planE := byteOr b 162 30
  planNmin := wordOr b 163 180

/-! ## Structure (R195) -/

/-- The structure of the image is sound. -/
def structureSound (b : List Byte) : Bool :=
  let g := rawConfig b
  decide (124 ≤ imageN b) && decide (imageN b ≤ 253)
    && decide (1 ≤ g.count) && decide (g.count ≤ 8)
    && decide (1 ≤ g.first) && decide (g.first ≤ 192)
    && decide (g.first + g.count - 1 ≤ g.last) && decide (g.last ≤ 192)
    && (g.tap || isSection g.source)

/-! ## Corrections (R196) -/

/-- Z within 0..4095 and S within 100..4000. -/
def channelInRange (z : Channel) : Channel := ⟨clampInt z.zero 0 4095, clampInt z.span 100 4000⟩

/-- A and B within −500..+500, Umin and Umax within 0..1000, f within 0..1000. -/
def rowInRange (r : Row) : Row :=
  ⟨clampNat r.f 0 1000, clampInt r.a (-500) 500, clampInt r.b (-500) 500, clampInt r.umin 0 1000,
    clampInt r.umax 0 1000⟩

/-- Step 1: each numeric field but the line rate code and the Tg code takes the nearer limit of its range. -/
def fixRanges (g : Config) : Config :=
  { g with
    channels := g.channels.map channelInRange
    uchg := clampInt g.uchg 0 1000
    unknownRow := rowInRange g.unknownRow
    earlyRow := rowInRange g.earlyRow
    mainRow := rowInRange g.mainRow
    lateRow := rowInRange g.lateRow
    finishRow := rowInRange g.finishRow
    refs := g.refs.map fun x => clampNat x 1 65535
    tower := clampNat g.tower 0 200
    tc := clampNat g.tc 250 2000
    shift := clampNat g.shift 0 3
    kp := clampInt g.kp 0 255
    ki := clampInt g.ki 0 255
    r := clampInt g.r 1 1000
    riso := clampInt g.riso 1 1000
    dmin := clampInt g.dmin 0 500
    leakOffset := clampInt g.leakOffset 0 200
    tstale := clampNat g.tstale 2 10
    tdw := clampNat g.tdw 60 1800
    tdo := clampNat g.tdo 120 3600
    margin := clampNat g.margin 0 255
    nchk := clampNat g.nchk 4 16
    tw := clampNat g.tw 500 5000
    tclaim := clampNat g.tclaim 10 90
    jobLimit := clampNat g.jobLimit 5 60
    holdLimit := clampNat g.holdLimit 10 300
    staleLimit := clampNat g.staleLimit 5 60
    tnb := clampNat g.tnb 120 900
    tfix := clampNat g.tfix 30 600
    tspot := clampNat g.tspot 1 30
    hardPush := clampNat g.hardPush 100 2000
    planT := clampNat g.planT 600 2400
    planE := clampNat g.planE 0 64
    planNmin := clampNat g.planNmin 0 600 }

/-- Step 2: Tc is rounded to the nearest multiple of 50, halves up. -/
def fixPeriod (g : Config) : Config := { g with tc := (g.tc + 25) / 50 * 50 }

/-- Step 3: a line rate code other than 1, 2 or 3 becomes 2. -/
def fixRate (g : Config) : Config :=
  { g with rateCode := if g.rateCode = 1 ∨ g.rateCode = 2 ∨ g.rateCode = 3 then g.rateCode else 2 }

/-- Step 4: a Tg code above 3 becomes 1. -/
def fixGate (g : Config) : Config := { g with tgCode := if 3 < g.tgCode then 1 else g.tgCode }

/-- Step 5, first half: f_LATE below f_MAIN is raised to f_MAIN. -/
def fixLate (g : Config) : Config := { g with lateRow := { g.lateRow with f := max g.lateRow.f g.mainRow.f } }

/-- Step 5, second half: f_FINISH below f_LATE is raised to f_LATE. -/
def fixFinish (g : Config) : Config :=
  { g with finishRow := { g.finishRow with f := max g.finishRow.f g.lateRow.f } }

/-- Step 6 on one row: Umin above Umax sets Umax to Umin. -/
def rowOrdered (r : Row) : Row := { r with umax := max r.umin r.umax }

/-- Step 6: every profile row is ordered. -/
def fixRows (g : Config) : Config :=
  { g with
    unknownRow := rowOrdered g.unknownRow
    earlyRow := rowOrdered g.earlyRow
    mainRow := rowOrdered g.mainRow
    lateRow := rowOrdered g.lateRow
    finishRow := rowOrdered g.finishRow }

/-- Step 7: Tdo below Tdw is raised to Tdw. -/
def fixOverdue (g : Config) : Config := { g with tdo := max g.tdo g.tdw }

/-- The numeric fields of a row that a correction may change; A stands for B in the UNKNOWN row. -/
def rowFields (r : Row) : List Int := [r.f, r.a, r.b, r.umin, r.umax]

/-- The numeric fields that a correction may change, each once, in a fixed order. -/
def configFields (g : Config) : List Int :=
  g.channels.flatMap (fun z => [z.zero, z.span])
    ++ [g.uchg, g.unknownRow.a, g.unknownRow.umin, g.unknownRow.umax]
    ++ rowFields g.earlyRow ++ rowFields g.mainRow ++ rowFields g.lateRow ++ rowFields g.finishRow
    ++ g.refs.map Int.ofNat
    ++ [g.kp, g.ki, g.r, g.riso, g.dmin, g.leakOffset]
    ++ [g.tower, g.rateCode, g.tc, g.shift, g.tstale, g.tdw, g.tdo, g.tgCode, g.margin, g.nchk, g.tw, g.tclaim,
        g.jobLimit, g.holdLimit, g.staleLimit, g.tnb, g.tfix, g.tspot, g.hardPush, g.planT, g.planE,
        g.planNmin].map Int.ofNat

/-- How many fields one step has corrected (R196: each correction counts CONFIG CLAMPED once). -/
def corrections (before after : Config) : Nat :=
  (((configFields before).zip (configFields after)).filter fun p => p.1 != p.2).length

/-- The seven steps of R196 in their order (step 5 in its two halves). -/
def fixSteps : List (Config → Config) :=
  [fixRanges, fixPeriod, fixRate, fixGate, fixLate, fixFinish, fixRows, fixOverdue]

/-- One step, with the count of the corrections so far. -/
def applyFix (p : Config × Nat) (f : Config → Config) : Config × Nat := (f p.1, p.2 + corrections p.1 (f p.1))

/-- The values an image delivers, and how often CONFIG CLAMPED is counted for it (R196). -/
def loadedConfig (b : List Byte) : Config × Nat := fixSteps.foldl applyFix (rawConfig b, 0)

/-- A strap value names a section controller: 1 to 24 (R193). -/
def strapsValid (s : BitVec 5) : Bool := isSection s.toNat

/-- The load succeeds: valid straps (R193), an image CRC that agrees (R194) and a sound structure (R195). -/
def loadSucceeds (u : StartUp) : Bool :=
  strapsValid u.straps && imageComplete u.image && imageCrcAgrees u.image && structureSound u.image

end Sys2Proof.Machine
end

