-- ==== Sys2Proof/Machine/StartUp.lean ====
section
/-! DEFINITION. The start-up unit (chapter 11) and what each block takes at POWER-ON, RESTART, the completion of a load
and the entries to LISTEN, ACTIVE and CONFIG FAULT. -/

namespace Sys2Proof.Machine

open Sys2Proof

/-- The start-up unit's record is changed by f. -/
def modifyStart (f : StartUp → StartUp) (c : Controller) : Controller := { c with start := f c.start }

/-! ## Reading the image (R193, R194) -/

/-- The 10 ms ticks allowed for a requested byte: 100 ms (R194). -/
def byteTicks : Nat := 10

/-- LOADING is entered with the straps read and the image read begun from address 0 (R193, R194). -/
def beginRead (straps : BitVec 5) (c : Controller) : Controller :=
  modifyStart (fun u =>
    { u with line := .loading, straps := straps, reading := true, image := [], byteLeft := some byteTicks }) c

/-- R194: a requested byte arrives; the next is requested, or the image is complete. -/
def byteArrives (b : Byte) (c : Controller) : Controller :=
  if c.start.reading then
    let image := c.start.image ++ [b]
    let full := imageComplete image
    { modifyStart (fun u =>
        { u with image := image, reading := !full, byteLeft := if full then none else some byteTicks }) c with
      due := { c.due with byteTimeout := false, loadComplete := full } }
  else c

/-- CONFIG FAULT is entered (R195, R199): the configuration in force stays as it was, and no frame is sent. -/
def enterConfigFault (c : Controller) : Controller :=
  let c := modifyStart (fun u => { u with line := .configFault, reading := false, byteLeft := none }) c
  modifyReg (fun r => { r with framesOn := false }) c

/-- R194: the memory has given no answer. -/
def byteTimesOut (c : Controller) : Controller := if c.start.reading then enterConfigFault c else c

/-! ## Cold values -/

/-- The oven record of index i at a cold start (R20, R170). -/
def coldOven (g : Config) (i : Nat) : Oven :=
  let o : Oven :=
    { number := g.first + i, phase := .unknown, minutes := 0, target := g.planT, allowance := g.planE, stage := none,
      inhibited := false, hardCount := 0, mode := .hold, command := g.unknownRow.umin, integrator := 0,
      filtered := none, invalid := 0, feedback := none, stuck := false, stuckCount := 0, noDraw := 0, isoCount := 0 }
  { o with integrator := presetIntegrator g o }

/-- The oven table at a cold start (R20). -/
def coldTable (g : Config) : OvenTable where
  ovens := (List.range g.count).map (coldOven g)
  below := (neighboursOf g).1
  above := (neighboursOf g).2
  pendT := g.planT
  pendE := g.planE
  nmin := g.planNmin
  edge := none
  seedNeeded := true

/-- The regulation unit's own records set afresh: no cycle, no timer, the main pressure record for the role in the image;
a positioner frame on the link completes (R170, R171). -/
def freshRegulation (g : Config) (framesOn : Bool) (r : Regulation) : Regulation :=
  { r with cycle := none, period := none, answer := none, mainSend := none, framesOn := framesOn,
           main := MainRecord.fresh g.tap }

/-- Every block takes its cold values, with the image in force (R20, R69, R99, R117, R131, R148, R170), at a cold start
and at a warm start whose image changes F, k or N or follows no configuration (R23, R101, R134, R150, R171). The door
records are formed at once if the inputs have accepted values, and otherwise at the first 10 ms tick (R131). -/
def coldStart (g : Config) (c : Controller) : Controller :=
  let c := abandonGate c
  let c : Controller :=
    { c with
      table := coldTable g
      round := Round.closedRecord
      held := HeldRecord.emptyRecord g.tclaim
      job := Job.idleRecord
      track := Tracker.unknown g.staleLimit
      doors := { c.doors with doors := [] }
      reg := freshRegulation g false c.reg
      due := Due.nothing }
  if inputsAccepted c then formDoors c else c

/-! ## Warm start with the same geometry -/

/-- Push started and push end taken after the settlement of a job with a door REMOVED (the table of R100; a phase the
table does not name is taken as EMPTY or STICKER, assumption log 14). -/
def settledFlags (p : Phase) : Bool × Bool :=
  match p with
  | .isolating | .isolated => (false, false)
  | .pushing => (true, false)
  | _ => (true, true)

/-- The outcome owed after the settlement of a job with neither door REMOVED (the table of R100). -/
def settledOutcome (p : Phase) : PushOutcome :=
  match p with
  | .isolating | .isolated | .pushing => .aborted
  | _ => .pushed

/-- The settlement of a job from CLAIMED to RECLOSING, for its oven at index i in phase p (R22, R100). -/
def settleJobAt (i oven : Nat) (p : Phase) (c : Controller) : Controller :=
  if anyRemoved c i then
    let c := modifyJob (fun j =>
      { j.enter .reclosing with
        started := (settledFlags p).1, ended := (settledFlags p).2, minutes := 0, holdSecs := 0, cause := none }) c
    if p = .pushing then setPhase i .sticker c else c
  else
    let c := modifyJob (fun j => { j.toIdle with owed := some ⟨oven, settledOutcome p⟩ }) c
    settlePhase i c

/-- The settlement of the push job at a warm start (R100): a record in IDLE stays, one in BIDDING or CLAIMING is IDLE,
one beyond is settled by the job oven's doors and phase. -/
def settleJob (c : Controller) : Controller :=
  if c.job.state.beyondClaiming then
    match c.job.oven, jobIndex c with
    | some n, some i =>
      match phaseAt c i with
      | some p => settleJobAt i n p c
      | none => idleJob c
    | _, _ => idleJob c
  else idleJob c

/-- R149: check samples remaining above the new Nchk are set to it. -/
def Door.capChecks (n : Nat) (d : Door) : Door :=
  if d.state = .checking then { d with checks := min d.checks n } else d

/-- A warm start that loads an image of the same F, k and N: the records are kept (R21, R133, R149, R171) but for those
that a RESTART empties (R70, R118, R171), and the push job and its oven are settled (R22, R100). -/
def warmStart (g : Config) (c : Controller) : Controller :=
  let c := settleJob c
  { c with
    table := { c.table with edge := none, seedNeeded := false }
    round := Round.closedRecord
    held := HeldRecord.emptyRecord g.tclaim
    track := Tracker.unknown g.staleLimit
    doors := { c.doors with doors := c.doors.doors.map (Door.capChecks g.nchk) }
    reg := freshRegulation g c.reg.framesOn c.reg
    due := { c.due with stalePusher := false, staleGuide := false, staleCar := false, mainStale := false,
                        bidWindow := false, travelTimer := false } }

/-! ## The completion of a load (R196 to R198) -/

/-- The LISTEN period: 10 second ticks (R197). -/
def listenTicks : Nat := 10

/-- The entry to LISTEN (R170, R171, R193, R197): the station number of the load and the line's footing afresh, the
LISTEN timer, a positioner frame requested and the control period started. -/
def enterListen (c : Controller) : Controller :=
  let c := modifyStart (fun u => { u with line := .listen, listen := some listenTicks }) c
  let c := { c with line := { c.line with number := c.start.straps.toNat, phase := .counting, ack := false } }
  requestFrame (modifyReg (fun r => { r with framesOn := true, period := some (cfg c).periodTicks }) c)

/-- CONFIG CLAMPED is counted n times under kind 7 (R196). -/
def countClamps (n : Nat) (c : Controller) : Controller :=
  (List.range n).foldl (fun c _ => count .seedNeeded none c) c

/-- The new image has the geometry of the configuration in force: the same F, k and N (R198). -/
def sameGeometry (old : Option Config) (g : Config) : Bool :=
  old.any fun o => o.first == g.first && o.count == g.count && o.last == g.last

/-- R192: the default report-enable set is taken at the first load since POWER-ON. -/
def takeReportSet (g : Config) (c : Controller) : Controller :=
  if c.start.config.isNone then { c with events := { c.events with enable := g.reportSet } } else c

/-- A successful load: the corrections are counted, the values come into force, the blocks keep their records or take
cold values, and the station enters LISTEN (R196 to R198). -/
def loadInForce (g : Config) (clamps : Nat) (c : Controller) : Controller :=
  let keeps := sameGeometry c.start.config g
  let c := countClamps clamps (takeReportSet g c)
  let c := modifyStart (fun u => { u with config := some g, reading := false, byteLeft := none }) c
  enterListen (if keeps then warmStart g c else coldStart g c)

/-- The last image byte has arrived: CONFIG FAULT or a successful load (R193 to R198). -/
def loadCompletes (c : Controller) : Controller :=
  if loadSucceeds c.start then
    loadInForce (loadedConfig c.start.image).1 (loadedConfig c.start.image).2 c
  else enterConfigFault c

/-! ## The entry to ACTIVE (R197) -/

/-- The edge-PHASE refresh: 60 second ticks (R18). -/
def edgeTicks : Nat := 60

/-- SEED NEEDED is counted for the oven at index i if it is UNKNOWN (R20). -/
def countSeedNeeded (c : Controller) (i : Nat) : Controller :=
  if phaseAt c i = some .unknown then count .seedNeeded (some (ovenNumber c i)) c else c

/-- SEED NEEDED is counted once for each UNKNOWN oven, in oven order, at the first entry to ACTIVE after a cold start
(R20, R23). -/
def countSeedsNeeded (c : Controller) : Controller :=
  if c.table.seedNeeded then
    (List.range c.table.ovens.length).foldl countSeedNeeded { c with table := { c.table with seedNeeded := false } }
  else c

/-- The LISTEN timer expires and the station becomes ACTIVE; each block takes up its part (R18, R20, R162, R197). R197 leaves the
order open; that the PHASEs of R18 are queued before SEED NEEDED is counted is the model's choice (assumption log 34, DESIGN
CHOICE). -/
def listenExpires (c : Controller) : Controller :=
  if c.start.line = .listen then
    let c := modifyStart (fun u => { u with line := .active, listen := none }) c
    let c := { c with table := { c.table with edge := some edgeTicks } }
    let c := modifyReg (fun r => { r with mainSend := if r.main.tap then some 1 else none }) c
    countSeedsNeeded (queueEdgePhases c)
  else c

/-! ## RESTART and POWER-ON (R44, R197, R198) -/

/-- The push job record at a RESTART: BIDDING and CLAIMING become IDLE (R70), and both outputs are released (R100). -/
def Job.atRestart (j : Job) : Job :=
  match j.state with
  | .bidding | .claiming => j.toIdle
  | _ => { j with permitOut := false, holdOut := false }

/-- RESTART is asserted: the station is held in LOADING without reading and each block acts as its chapter gives (R18,
R44, R70, R72, R100, R118, R149, R171, R192, R198). Frames are sent in the LOADING of a warm start (R172). That CONFIG FAULT
and SILENT end at the assertion of RESTART, by R198, and not at its release, by R199 and the table of section 11.3, is the
model's choice between the two (assumption log 33, DESIGN CHOICE). -/
def restartAsserts (c : Controller) : Controller :=
  let hasDoors := !c.doors.doors.isEmpty
  let g := cfg c
  let c := abandonGate c
  let c : Controller :=
    { c with
      start := { c.start with restart := true, line := .loading, reading := false, image := [], byteLeft := none,
                              listen := none }
      line := { c.line with phase := .counting, rx := [], tx := [], ack := false }
      table := { c.table with edge := none }
      round := Round.closedRecord
      held := HeldRecord.emptyRecord c.held.limit
      job := c.job.atRestart
      track := Tracker.unknown g.staleLimit
      reg := { c.reg with cycle := none, period := none, answer := none, mainSend := none,
                          framesOn := c.start.config.isSome, main := { c.reg.main with queued := false } }
      events := { c.events with queued := false }
      due := Due.nothing }
  if hasDoors then startAtNextTick c else c

end Sys2Proof.Machine
end

