-- ==== Sys2Proof/Machine/Line.lean ====
section
/-! DEFINITION. The line unit (chapter 2): acceptance of a telegram, the receive queue, the duplicate number and the entry
to SILENT, the start and the end of the station's own telegram, and the handing on of a received telegram. -/

namespace Sys2Proof.Machine

open Sys2Proof

/-- The line unit's record is changed by f. -/
def modifyLine (f : LineUnit → LineUnit) (c : Controller) : Controller := { c with line := f c.line }

/-! ## Acceptance (R32 to R34) -/

/-- What the acceptance filter makes of a telegram that passes the check of R30. -/
inductive Verdict where
  | discard
  | badLength
  | duplicate
  | accept
deriving DecidableEq, Repr

/-- A PHASE is accepted when its oven field names the oven of an existing neighbour record (R33). -/
def namesNeighbour (c : Controller) (oven : Nat) : Bool :=
  c.table.below.any (fun n => n.oven == oven) || c.table.above.any (fun n => n.oven == oven)

/-- The class rule of R33 for a telegram of a named kind. -/
def classAccepts (c : Controller) (k : Kind) (t : Telegram) : Bool :=
  match k with
  | .phase => namesNeighbour c t.oven
  | .main => !(cfg c).tap && t.src == (cfg c).source
  | .plan | .seed | .clear | .inhibit | .mask => t.dest == 0 || t.dest == ownNumber c
  | .event => false
  | _ => true

/-- The acceptance filter, in the order of R32, R33 and R34. -/
def acceptance (c : Controller) (t : Telegram) : Verdict :=
  if t.src = 0 ∨ t.src = 29 ∨ t.src = 31 then .discard
  else if t.src = ownNumber c then .duplicate
  else
    match t.kind with
    | none => .discard
    | some k =>
      if !sourceAllowed k t.src then .discard
      else if t.payload.length ≠ kindLength k then .badLength
      else if classAccepts c k t then .accept
      else .discard

/-! ## Entry to SILENT (R34, R36, R64, R107) -/

/-- What the end of the station's part in line traffic stops: the LISTEN timer (R197), the edge-PHASE refresh (R18) and
the MAIN send timer (R162). -/
def stopLineTimers (c : Controller) : Controller :=
  { c with
    start := { c.start with listen := none }
    table := { c.table with edge := none }
    reg := { c.reg with mainSend := none }
    due := { c.due with listenTimer := false, edgeRefresh := false, mainSend := false } }

/-- The transmit queue is emptied and its entries are reported to no block; the CALL is lost (R36, R107), MAIN queued
and EVENT queued become no (R162, R190). A telegram of the station on the line is broken off. -/
def emptyTx (c : Controller) : Controller :=
  let c := modifyLine (fun l =>
    { l with tx := [], phase := match l.phase with
        | .sending _ _ => .counting
        | p => p }) c
  { c with
    track := { c.track with call := { c.track.call with queued := false } }
    reg := { c.reg with main := { c.reg.main with queued := false } }
    events := { c.events with queued := false } }

/-- R36, R64: the station becomes SILENT. -/
def enterSilent (c : Controller) : Controller :=
  let c := closeRound (emptyTx (stopLineTimers (modifyStart (fun u => { u with line := .silent }) c)))
  if c.job.state = .bidding ∨ c.job.state = .claiming then idleJob c else c

/-- R34: a telegram bears the station's own number. -/
def duplicateHeard (c : Controller) : Controller :=
  if c.start.line = .silent then c else enterSilent (count .duplicateId none c)

/-! ## Receiving (R26, R30 to R37) -/

/-- A telegram that begins is received: the line is idle, or a telegram has ended and the count of 12 released bit times is
not over (R27), or the station has just lost an arbitration (R28). -/
def LinePhase.footing (p : LinePhase) : Bool := p == .idle || p == .ended || p == .receiving

/-- The receiver has its footing, in a station line state in which the line unit receives (R26 to R28, section 2.5). -/
def hasFooting (c : Controller) : Bool := receiving c && c.line.phase.footing

/-- The telegram is over, and the line unit goes to the given position; no ack slot is driven as yet. -/
def endReception (p : LinePhase) (c : Controller) : Controller := modifyLine (fun l => { l with phase := p, ack := false }) c

/-- R37: an accepted telegram is stored if the receive queue holds fewer than 4; the station drives the ack slot for it
in LISTEN and ACTIVE (R31, section 2.5). -/
def storeTelegram (t : Telegram) (c : Controller) : Controller :=
  if c.line.rx.length < 4 then
    modifyLine (fun l => { l with rx := l.rx ++ [t], ack := c.start.line != .silent }) c
  else count .rxOverrun none c

/-- A telegram whose check agrees is judged by the acceptance filter. -/
def judgeTelegram (t : Telegram) (c : Controller) : Controller :=
  match acceptance c t with
  | .discard => c
  | .badLength => count .crcError none c
  | .duplicate => duplicateHeard c
  | .accept => storeTelegram t c

/-- R26: the receiver abandons the telegram it is building, and takes no start bit before 12 released bit times. -/
def abandonTelegram (c : Controller) : Controller := count .crcError none (endReception .counting c)

/-- R26: a framing fault. -/
def framingFaults (c : Controller) : Controller := if hasFooting c then abandonTelegram c else c

/-- R26, R30, R32: a telegram has been heard. One with a length above 8 is abandoned (R26); any other has been heard whole,
and its check is compared (R30). -/
def receiveFrame (f : Frame) (c : Controller) : Controller :=
  if hasFooting c then
    if 8 < f.payload.length then abandonTelegram c
    else
      let c := endReception .ended c
      if frameCheckAgrees f then judgeTelegram (telegramOf f) c else count .crcError none c
  else c

/-- The line unit counts 12 released bit times (R26, R27, R29). -/
def LinePhase.counts (p : LinePhase) : Bool := p == .counting || p == .ended

/-- R27: 12 released bit times have passed, and the line is idle. -/
def lineIdles (c : Controller) : Controller :=
  if receiving c && c.line.phase.counts then modifyLine (fun l => { l with phase := .idle, ack := false }) c else c

/-! ## Sending (R27 to R31, R39) -/

/-- The telegram of the head entry as it goes out: the EVENT is built from the lowest reportable kind, which becomes the
carried kind (R189). Nothing is sent of an EVENT with nothing to report. -/
def buildHead (t : Telegram) (c : Controller) : Option (Telegram × Controller) :=
  if t.kind = some .event then
    match c.events.lowest with
    | some j =>
      some ({ t with payload := eventPayload j (c.events.entry j) },
        { c with events := { c.events with carried := some j } })
    | none => none
  else some (t, c)

/-- R27: on an idle line the station starts the head entry's telegram. -/
def telegramStarts (c : Controller) : Controller :=
  if isActive c && c.line.phase == .idle then
    match c.line.tx with
    | [] => c
    | e :: rest =>
      match buildHead e.tel c with
      | some (t, c) => modifyLine (fun l => { l with tx := ⟨e.tel, true⟩ :: rest, phase := .sending t .queued }) c
      | none => c
  else c

/-- The entry on the line is an ordinary entry again (R28, R29). -/
def clearOnLine (q : List TxEntry) : List TxEntry := q.map fun e => { e with onLine := false }

/-- The station's telegram has not completed: the line unit goes to the given position, the entry stays as it stands in
the queue (R42), and an entry that was dropped while its telegram was on the line is now lost (assumption log 8). -/
def breakOff (p : LinePhase) (t : Telegram) (f : Fate) (c : Controller) : Controller :=
  let c := modifyLine (fun l => { l with phase := p, tx := clearOnLine l.tx }) c
  if f = .dropped then notTaken t c else c

/-- R28: the station has lost arbitration and goes on as a receiver. -/
def losesArbitration (c : Controller) : Controller :=
  match c.line.phase with
  | .sending t f => breakOff .receiving t f c
  | _ => c

/-- R29: the station aborts its telegram. That a block told of a drop (assumption log 8) is told before LINE ERROR is counted is
the model's choice (assumption log 34, DESIGN CHOICE). -/
def lineErrs (c : Controller) : Controller :=
  match c.line.phase with
  | .sending t f => count .lineError none (breakOff .counting t f c)
  | _ => c

/-- R190: the sending report of the EVENT: the carried kind's entry is emptied, and the next EVENT may be offered (R189). That it
takes the place freed before a RELEASE owed (R92) is the model's choice (assumption log 38, DESIGN CHOICE). -/
def eventSent (c : Controller) : Controller :=
  match c.events.carried with
  | some j => offerEvent { c with events := { c.events.emptyEntry j with queued := false } }
  | none => offerEvent { c with events := { c.events with queued := false } }

/-- The line unit reports a sending to the block that queued the entry (R31). -/
def reportSent (t : Telegram) (c : Controller) : Controller :=
  match t.kind with
  | some .bid => bidSent t c
  | some .claim => claimSent t.ident c
  | some .call => callSent t.oven c
  | some .main => modifyMain (fun m => { m with queued := false }) c
  | some .event => eventSent c
  | _ => c

/-- R31, R43: the ack slot of the station's telegram ends: the entry leaves the queue, the sending is reported unless the
entry was withdrawn, and LONE TELEGRAM is counted if the line read released. The report acts before the count: R190 says so
for an EVENT, and for every other kind the order is the model's choice (assumption log 31, DESIGN CHOICE). -/
def telegramCompletes (ackLow : Bool) (c : Controller) : Controller :=
  match c.line.phase with
  | .sending t f =>
    let c := modifyLine (fun l => { l with phase := .ended, tx := l.tx.filter fun e => !e.onLine }) c
    let c := if f = .withdrawn then c else reportSent t c
    if ackLow then c else count .loneTelegram none c
  | _ => c

/-! ## Handing on (R38) -/

/-- The oldest telegram of the receive queue is handed to the block that takes it, and leaves the queue, where it is of
the kind named and p holds of it (assumption log 6). -/
def handOn (k : Kind) (p : Telegram → Bool) (f : Telegram → Controller → Controller) (c : Controller) : Controller :=
  match c.line.rx with
  | t :: rest =>
    if receiving c = true ∧ t.kind = some k ∧ p t = true then f t (modifyLine (fun l => { l with rx := rest }) c) else c
  | [] => c

/-- Any telegram of the kind. -/
def anyOf (_ : Telegram) : Bool := true

end Sys2Proof.Machine
end

