-- ==== Sys2Proof/Machine/Time.lean ====
section
/-! DEFINITION. The time base (R1, R2): what the 10 ms tick, the second tick and the minute tick do to the timers and age
counters, which events they make due, the taking of a due event, and the default order in which the events still due are
taken before the next command from outside (assumption log 5, DESIGN CHOICE). -/

namespace Sys2Proof.Machine

open Sys2Proof

/-- The due record is changed by f. -/
def modifyDue (f : Due → Due) (c : Controller) : Controller := { c with due := f c.due }

/-- A one-shot or repeating countdown at a tick: what is left of it, and whether it expires. -/
def countdown (reload : Option Nat) (t : Option Nat) : Option Nat × Bool :=
  match t with
  | none => (none, false)
  | some n => if n ≤ 1 then (reload, true) else (some (n - 1), false)

/-! ## The 10 ms tick (R1) -/

/-- The bid window (R50, R58): it counts its ms in ticks of 10 and expires at 0. -/
def windowTick (c : Controller) : Controller :=
  if c.round.opened then
    { c with
      round := { c.round with window := c.round.window - 10 }
      due := { c.due with bidWindow := decide (c.round.window ≤ 10) } }
  else c

/-- The leak gate timer (R138), and the start of a gate that waits for this tick (R137). -/
def gateTick (c : Controller) : Controller :=
  if c.scan.running then
    { c with
      scan := { c.scan with ticksLeft := c.scan.ticksLeft - 1 }
      due := { c.due with gateExpiry := decide (c.scan.ticksLeft ≤ 1) } }
  else { c with due := { c.due with gateStart := c.scan.startNext } }

/-- The control period and the answer limit (R151). -/
def converterTick (c : Controller) : Controller :=
  let p := countdown (some (cfg c).periodTicks) c.reg.period
  let a := countdown none c.reg.answer
  { c with
    reg := { c.reg with period := p.1, answer := a.1 }
    due := { c.due with controlPeriod := p.2, answerLimit := a.2 } }

/-- The 100 ms allowed for the requested byte (R194). -/
def byteTick (c : Controller) : Controller :=
  let b := countdown none c.start.byteLeft
  { c with start := { c.start with byteLeft := b.1 }, due := { c.due with byteTimeout := b.2 } }

/-- The sampling of the door inputs (R119, R120): DOOR_INPUT_ACCEPTED is due for each door record whose accepted pair has
changed (R121). -/
def doorTick (present latched : BitVec 16) (c : Controller) : Controller :=
  let p := sampleInputs present c.doors.presentIn
  let l := sampleInputs latched c.doors.latchedIn
  { c with
    doors := { c.doors with presentIn := p, latchedIn := l }
    due := { c.due with
      doorInput := (List.range c.doors.doors.length).filter fun ch =>
        acceptedChanged c.doors.presentIn p ch || acceptedChanged c.doors.latchedIn l ch } }

/-- The door records are formed at the first tick where an image was loaded before it (R131). -/
def lateForming (c : Controller) : Controller :=
  if c.start.config.isSome && c.doors.doors.isEmpty && inputsAccepted c then formDoors c else c

/-- The time base counts the tick; a second tick falls together with every 100th (R1). -/
def timeTick (c : Controller) : Controller :=
  if 100 ≤ c.time.ticks + 1 then
    { c with time := { c.time with ticks := 0 }, due := { c.due with second := true } }
  else { c with time := { c.time with ticks := c.time.ticks + 1 } }

/-- The 10 ms tick at every block that keeps a timer on it. -/
def tickBase (present latched : BitVec 16) (c : Controller) : Controller :=
  c |> windowTick |> gateTick |> converterTick |> byteTick |> doorTick present latched |> lateForming |> timeTick

/-! ## The second tick -/

/-- R124: the open seconds of a door in an opening rise by 1, holding at 3600. -/
def Door.second (d : Door) : Door := if d.opened then { d with openSecs := min 3600 (d.openSecs + 1) } else d

/-- The channels whose door record satisfies p. -/
def channelsWhere (p : Door → Bool) (l : List Door) : List Nat :=
  (List.range l.length).filter fun ch => (l[ch]?).any p

/-- The open timers (R124 to R126). -/
def doorsSecond (c : Controller) : Controller :=
  let l := c.doors.doors.map Door.second
  { c with
    doors := { c.doors with doors := l }
    due := { c.due with
      doorWarn := channelsWhere (warnsAt (cfg c)) l
      doorOverdue := channelsWhere (overdueAt (cfg c)) l } }

/-- The neighbour ages (R16). -/
def neighboursSecond (c : Controller) : Controller :=
  let b := c.table.below.map Neighbour.second
  let a := c.table.above.map Neighbour.second
  { c with
    table := { c.table with below := b, above := a }
    due := { c.due with
      lostBelow := b.any (Neighbour.lostAt (cfg c))
      lostAbove := a.any (Neighbour.lostAt (cfg c)) } }

/-- The machine ages and the travel timer, in the states in which the station receives (R104, R105, R111). -/
def trackerSecond (c : Controller) : Controller :=
  if receiving c then
    let k := c.track.aged
    let k := { k with call := k.call.secondTick }
    { c with
      track := k
      due := { c.due with
        stalePusher := staleDue (cfg c) k.pusher.age k.pusher.stale
        staleGuide := staleDue (cfg c) k.guide.age k.guide.stale
        staleCar := staleDue (cfg c) k.car.age k.car.stale
        travelTimer := k.call.expired } }
  else c

/-- The main age of a remote station (R163, R172); there is no main pressure record before the first load. -/
def mainSecond (c : Controller) : Controller :=
  if c.start.config.isSome then
    let m := c.reg.main.second
    { c with
      reg := { c.reg with main := m }
      due := { c.due with mainStale := m.staleDue (cfg c) } }
  else c

/-- The hold seconds of a HELD job; the hold timer expires when they reach the hold limit (R86). -/
def holdSecond (c : Controller) : Controller :=
  if receiving c && c.job.state == .held then
    { c with
      job := { c.job with holdSecs := min 300 (c.job.holdSecs + 1) }
      due := { c.due with holdTimer := decide ((cfg c).holdLimit ≤ min 300 (c.job.holdSecs + 1)) } }
  else c

/-- The LISTEN period, the edge-PHASE refresh and the MAIN send timer (R197, R18, R162). -/
def lineSecond (c : Controller) : Controller :=
  let l := countdown none c.start.listen
  let e := countdown (some edgeTicks) c.table.edge
  let m := countdown (some 1) c.reg.mainSend
  { c with
    start := { c.start with listen := l.1 }
    table := { c.table with edge := e.1 }
    reg := { c.reg with mainSend := m.1 }
    due := { c.due with listenTimer := l.2, edgeRefresh := e.2, mainSend := m.2 } }

/-- The time base counts the second tick; a minute tick falls together with every 60th (R1). -/
def timeSecond (c : Controller) : Controller :=
  if 60 ≤ c.time.seconds + 1 then
    { c with time := { c.time with seconds := 0 }, due := { c.due with minute := true } }
  else { c with time := { c.time with seconds := c.time.seconds + 1 } }

/-- The second tick at every block that keeps a timer or an age counter on it. -/
def secondBase (c : Controller) : Controller :=
  c |> doorsSecond |> neighboursSecond |> trackerSecond |> mainSecond |> holdSecond |> lineSecond |> timeSecond

/-! ## The minute tick -/

/-- The coking minutes of the section and of the neighbours (R10, R16). That both rise on the same side of R55's evaluation is
the model's choice (assumption log 11, DESIGN CHOICE). -/
def tableMinute (c : Controller) : Controller :=
  { c with table :=
    { c.table with
      ovens := c.table.ovens.map (Oven.minute (cfg c))
      below := c.table.below.map Neighbour.minute
      above := c.table.above.map Neighbour.minute } }

/-- The held-claim age (R66, R68). -/
def heldMinute (c : Controller) : Controller :=
  { c with held := c.held.minute, due := { c.due with claimExpired := c.held.minute.overLimit } }

/-- The job minutes rise in CLAIMED to HELD, holding at 255 (R76); the job limit is due in CLAIMED, DOORS and STAGED
(R94). -/
def jobMinute (c : Controller) : Controller :=
  if receiving c && c.job.state.claimedToHeld then
    { c with
      job := { c.job with minutes := min 255 (c.job.minutes + 1) }
      due := { c.due with
        jobLimit := beforePermit c.job.state && decide ((cfg c).jobLimit ≤ min 255 (c.job.minutes + 1)) } }
  else c

/-- The minute tick at every block that keeps an age counter on it; R55's evaluation reaches the oven records before or
after the tick. R55 does not say on which side of the evaluation the neighbours' minutes (R16) rise; that they go with the
section's ovens is the model's choice (assumption log 11, DESIGN CHOICE). -/
def minuteBase (bidFirst : Bool) (c : Controller) : Controller :=
  if bidFirst then c |> minuteBid |> tableMinute |> heldMinute |> jobMinute
  else c |> tableMinute |> minuteBid |> heldMinute |> jobMinute

/-! ## Expiries whose effect lies at one block -/

/-- R86: the hold timer expires. -/
def holdExpires (c : Controller) : Controller :=
  if receiving c && c.job.state == .held then
    abortJob (if c.job.cause = some .supervisory then .supervisoryHalt else .holdLimit) c
  else c

/-- R94: the job limit is reached. -/
def jobLimitReached (c : Controller) : Controller :=
  if receiving c && beforePermit c.job.state && decide ((cfg c).jobLimit ≤ c.job.minutes) then abortJob .jobLimit c else c

/-- R18: the edge-PHASE refresh expires. -/
def edgeRefreshes (c : Controller) : Controller := if isActive c then queueEdgePhases c else c

/-! ## Taking a due event -/

/-- An event that is due is taken and is due no more; one that is not due does nothing (assumption log 3). What waits for
a free place is offered when the event has done its work. -/
def takeDue (due : Bool) (clear : Due → Due) (event : Controller → Controller) (c : Controller) : Controller :=
  if due then freePlace (event (modifyDue clear c)) else c

/-- LOAD_COMPLETE. -/
def takeLoadComplete (c : Controller) : Controller :=
  takeDue c.due.loadComplete (fun d => { d with loadComplete := false }) loadCompletes c

/-- CONFIG_BYTE_TIMEOUT. -/
def takeByteTimeout (c : Controller) : Controller :=
  takeDue c.due.byteTimeout (fun d => { d with byteTimeout := false }) byteTimesOut c

/-- DOOR_WARN of a channel. -/
def takeDoorWarn (ch : Nat) (c : Controller) : Controller :=
  takeDue (c.due.doorWarn.contains ch) (fun d => { d with doorWarn := d.doorWarn.filter (· != ch) }) (doorWarns ch) c

/-- DOOR_OVERDUE of a channel, the warning of the channel first where both are due (R126). -/
def takeDoorOverdue (ch : Nat) (c : Controller) : Controller :=
  if c.due.doorOverdue.contains ch then
    let c := takeDoorWarn ch c
    takeDue true (fun d => { d with doorOverdue := d.doorOverdue.filter (· != ch) }) (doorOverdues ch) c
  else c

/-- DOOR_INPUT_ACCEPTED of a channel. The checks that a second tick has made due for the door are made first, at the open
seconds that the tick left (R124, assumption log 27). -/
def takeDoorInput (ch : Nat) (c : Controller) : Controller :=
  if c.due.doorInput.contains ch then
    let c := takeDoorOverdue ch (takeDoorWarn ch c)
    takeDue true (fun d => { d with doorInput := d.doorInput.filter (· != ch) }) (deriveDoor ch) c
  else c

/-- LEAK_GATE_EXPIRY. -/
def takeGateExpiry (c : Controller) : Controller :=
  takeDue c.due.gateExpiry (fun d => { d with gateExpiry := false }) gateExpires c

/-- LEAK_GATE_START. -/
def takeGateStart (c : Controller) : Controller :=
  takeDue c.due.gateStart (fun d => { d with gateStart := false }) gateStarts c

/-- ANSWER_LIMIT_EXPIRY. -/
def takeAnswerLimit (c : Controller) : Controller :=
  takeDue c.due.answerLimit (fun d => { d with answerLimit := false }) answerExpires c

/-- CONVERTER_CYCLE_COMPLETE. -/
def takeCycleComplete (c : Controller) : Controller :=
  takeDue c.due.cycleComplete (fun d => { d with cycleComplete := false }) cycleCompletes c

/-- CONTROL_PERIOD_EXPIRY. -/
def takeControlPeriod (c : Controller) : Controller :=
  takeDue c.due.controlPeriod (fun d => { d with controlPeriod := false }) periodExpires c

/-- BID_WINDOW_EXPIRY. -/
def takeBidWindow (c : Controller) : Controller :=
  takeDue c.due.bidWindow (fun d => { d with bidWindow := false }) windowExpires c

/-- SECOND_TICK. -/
def takeSecond (c : Controller) : Controller :=
  takeDue c.due.second (fun d => { d with second := false }) secondBase c

/-- NEIGHBOUR_LOST. -/
def takeNeighbourLost (e : Edge) (c : Controller) : Controller :=
  match e with
  | .below => takeDue c.due.lostBelow (fun d => { d with lostBelow := false }) (neighbourIsLost .below) c
  | .above => takeDue c.due.lostAbove (fun d => { d with lostAbove := false }) (neighbourIsLost .above) c

/-- MACHINE_STALE. -/
def takeMachineStale (m : MachineId) (c : Controller) : Controller :=
  match m with
  | .pusher => takeDue c.due.stalePusher (fun d => { d with stalePusher := false }) (machineGoesStale .pusher) c
  | .guide => takeDue c.due.staleGuide (fun d => { d with staleGuide := false }) (machineGoesStale .guide) c
  | .qcar => takeDue c.due.staleCar (fun d => { d with staleCar := false }) (machineGoesStale .qcar) c

/-- MAIN_STALE. -/
def takeMainStale (c : Controller) : Controller :=
  takeDue c.due.mainStale (fun d => { d with mainStale := false }) mainGoesStale c

/-- HOLD_TIMER_EXPIRY. -/
def takeHoldTimer (c : Controller) : Controller :=
  takeDue c.due.holdTimer (fun d => { d with holdTimer := false }) holdExpires c

/-- TRAVEL_TIMER_EXPIRY. -/
def takeTravelTimer (c : Controller) : Controller :=
  takeDue c.due.travelTimer (fun d => { d with travelTimer := false }) travelExpires c

/-- LISTEN_TIMER_EXPIRY. -/
def takeListenTimer (c : Controller) : Controller :=
  takeDue c.due.listenTimer (fun d => { d with listenTimer := false }) listenExpires c

/-- EDGE_PHASE_REFRESH. -/
def takeEdgeRefresh (c : Controller) : Controller :=
  takeDue c.due.edgeRefresh (fun d => { d with edgeRefresh := false }) edgeRefreshes c

/-- MAIN_SEND_EXPIRY. -/
def takeMainSend (c : Controller) : Controller :=
  takeDue c.due.mainSend (fun d => { d with mainSend := false }) mainSendExpires c

/-- MINUTE_TICK. -/
def takeMinute (bidFirst : Bool) (c : Controller) : Controller :=
  takeDue c.due.minute (fun d => { d with minute := false }) (minuteBase bidFirst) c

/-- JOB_LIMIT_REACHED. -/
def takeJobLimit (c : Controller) : Controller :=
  takeDue c.due.jobLimit (fun d => { d with jobLimit := false }) jobLimitReached c

/-- CLAIM_EXPIRED. -/
def takeClaimExpired (c : Controller) : Controller :=
  takeDue c.due.claimExpired (fun d => { d with claimExpired := false }) claimExpires c

/-! ## The default order -/

/-- What is due at the blocks that count 10 ms ticks, and what the arrivals have made due. -/
def settleTick (c : Controller) : Controller :=
  let c := c |> takeCycleComplete |> takeLoadComplete |> takeByteTimeout
  let c := c.due.doorInput.foldl (fun c ch => takeDoorInput ch c) c
  c |> takeGateExpiry |> takeGateStart |> takeAnswerLimit |> takeCycleComplete |> takeControlPeriod |> takeBidWindow

/-- What is due at the blocks that count second ticks. -/
def settleSecond (c : Controller) : Controller :=
  let c := takeSecond c
  let c := c.due.doorWarn.foldl (fun c ch => takeDoorWarn ch c) c
  let c := c.due.doorOverdue.foldl (fun c ch => takeDoorOverdue ch c) c
  c |> takeNeighbourLost .below |> takeNeighbourLost .above
    |> takeMachineStale .pusher |> takeMachineStale .guide |> takeMachineStale .qcar
    |> takeMainStale |> takeHoldTimer |> takeTravelTimer |> takeListenTimer |> takeEdgeRefresh |> takeMainSend

/-- What is due at the blocks that count minute ticks. -/
def settleMinute (c : Controller) : Controller := c |> takeMinute false |> takeJobLimit |> takeClaimExpired

/-- Everything still due is taken, in the default order, before a command from outside acts. -/
def settle (c : Controller) : Controller :=
  if c.due = Due.nothing then c else settleMinute (settleSecond (settleTick c))

/-! ## The two shapes of a command -/

/-- A command from outside: nothing acts while POWER-ON is asserted (R197); otherwise what is still due is taken first,
the command does its work, and what waits for a free place is offered. -/
def act (f : Controller → Controller) (s : State) : Host.Outcome State Fault Refusal :=
  .next (if s.ctl.start.powerOn then s else { s with ctl := freePlace (f (settle s.ctl)) })

/-- A command that takes an event the controller has made due. -/
def event (f : Controller → Controller) (s : State) : Host.Outcome State Fault Refusal :=
  .next (if s.ctl.start.powerOn then s else { s with ctl := f s.ctl })

end Sys2Proof.Machine
end

