-- ==== Sys2Proof/Machine/StartCommands.lean ====
section
/-! DEFINITION. The meanings of the reset, configuration and time commands: POWER_ON_ASSERT to MINUTE_TICK. -/

namespace Sys2Proof.Machine

open Sys2Proof

/-- POWER_ON_ASSERT (R197): every block is held at its reset, whatever the state; the RESTART input stays as it is. -/
def execPowerOnAssert (s : State) : Host.Outcome State Fault Refusal :=
  .next { s with ctl := Controller.atReset s.ctl.start.restart }

/-- The release of POWER-ON: LOADING with the straps and the image read begun, or, with RESTART asserted, LOADING without
reading until its release (R193, R197, R198, assumption log 25). -/
def releasePowerOn (straps : BitVec 5) (c : Controller) : Controller :=
  let c := modifyStart (fun u => { u with powerOn := false }) c
  if c.start.restart then modifyStart (fun u => { u with line := .loading, straps := straps }) c
  else beginRead straps c

/-- POWER_ON_RELEASE (R197): a cold start begins; with POWER-ON not asserted there is nothing to release. -/
def execPowerOnRelease (straps : BitVec 5) (s : State) : Host.Outcome State Fault Refusal :=
  .next (if s.ctl.start.powerOn then { s with ctl := releasePowerOn straps s.ctl } else s)

/-- The RESTART input is recorded as asserted. -/
def notedRestart (c : Controller) : Controller := modifyStart (fun u => { u with restart := true }) c

/-- RESTART_ASSERT (R198, R44): what is still due is taken, then every block acts as its chapter gives. While POWER-ON is
asserted the blocks stay at their reset and the input alone is noted; an input already asserted changes nothing. -/
def execRestartAssert (s : State) : Host.Outcome State Fault Refusal :=
  .next
    (if s.ctl.start.powerOn then { s with ctl := notedRestart s.ctl }
     else if s.ctl.start.restart then s
     else { s with ctl := restartAsserts (settle s.ctl) })

/-- The release of RESTART: the straps and the whole image are read afresh, unless POWER-ON is asserted (R197, R198). -/
def releaseRestart (straps : BitVec 5) (c : Controller) : Controller :=
  let held := c.start.powerOn
  let c := modifyStart (fun u => { u with restart := false }) c
  if held then c else beginRead straps c

/-- RESTART_RELEASE (R198); with RESTART not asserted there is nothing to release. -/
def execRestartRelease (straps : BitVec 5) (s : State) : Host.Outcome State Fault Refusal :=
  .next (if s.ctl.start.restart then { s with ctl := releaseRestart straps (settle s.ctl) } else s)

/-- CONFIG_BYTE_ARRIVAL (R194). -/
def execConfigByteArrival (b : Byte) (s : State) : Host.Outcome State Fault Refusal := act (byteArrives b) s

/-- CONFIG_BYTE_TIMEOUT (R194). -/
def execConfigByteTimeout (s : State) : Host.Outcome State Fault Refusal := event takeByteTimeout s

/-- LOAD_COMPLETE (R193 to R198). -/
def execLoadComplete (s : State) : Host.Outcome State Fault Refusal := event takeLoadComplete s

/-- LISTEN_TIMER_EXPIRY (R197). -/
def execListenTimerExpiry (s : State) : Host.Outcome State Fault Refusal := event takeListenTimer s

/-- TICK_10MS (R1). -/
def execTick10ms (present latched : BitVec 16) (s : State) : Host.Outcome State Fault Refusal :=
  act (tickBase present latched) s

/-- SECOND_TICK (R1). -/
def execSecondTick (s : State) : Host.Outcome State Fault Refusal := event takeSecond s

/-- MINUTE_TICK (R1, R55). -/
def execMinuteTick (bidFirst : Bool) (s : State) : Host.Outcome State Fault Refusal := event (takeMinute bidFirst) s

end Sys2Proof.Machine
end

