-- ==== Sys2Proof/Machine/BlockCommands.lean ====
section
/-! DEFINITION. The meanings of the commands that name an event inside a block: the expiries of the blocks' timers and
limits, the doors, the converter, the positioner and the leak scanner. -/

namespace Sys2Proof.Machine

open Sys2Proof

/-- DOOR_INPUT_ACCEPTED (R121, R128). -/
def execDoorInputAccepted (channel : Nat) (s : State) : Host.Outcome State Fault Refusal :=
  event (takeDoorInput channel) s

/-- DOOR_WARN (R125). -/
def execDoorWarn (channel : Nat) (s : State) : Host.Outcome State Fault Refusal := event (takeDoorWarn channel) s

/-- DOOR_OVERDUE (R126, R95). -/
def execDoorOverdue (channel : Nat) (s : State) : Host.Outcome State Fault Refusal := event (takeDoorOverdue channel) s

/-- JOB_LIMIT_REACHED (R94). -/
def execJobLimitReached (s : State) : Host.Outcome State Fault Refusal := event takeJobLimit s

/-- HOLD_TIMER_EXPIRY (R86). -/
def execHoldTimerExpiry (s : State) : Host.Outcome State Fault Refusal := event takeHoldTimer s

/-- NEIGHBOUR_LOST (R16). -/
def execNeighbourLost (e : Edge) (s : State) : Host.Outcome State Fault Refusal := event (takeNeighbourLost e) s

/-- MACHINE_STALE (R104, R105). -/
def execMachineStale (m : MachineId) (s : State) : Host.Outcome State Fault Refusal := event (takeMachineStale m) s

/-- MAIN_STALE (R163). -/
def execMainStale (s : State) : Host.Outcome State Fault Refusal := event takeMainStale s

/-- CLAIM_EXPIRED (R68). -/
def execClaimExpired (s : State) : Host.Outcome State Fault Refusal := event takeClaimExpired s

/-- BID_WINDOW_EXPIRY (R58). -/
def execBidWindowExpiry (s : State) : Host.Outcome State Fault Refusal := event takeBidWindow s

/-- EDGE_PHASE_REFRESH (R18). -/
def execEdgePhaseRefresh (s : State) : Host.Outcome State Fault Refusal := event takeEdgeRefresh s

/-- MAIN_SEND_EXPIRY (R162). -/
def execMainSendExpiry (s : State) : Host.Outcome State Fault Refusal := event takeMainSend s

/-- TRAVEL_TIMER_EXPIRY (R111). -/
def execTravelTimerExpiry (s : State) : Host.Outcome State Fault Refusal := event takeTravelTimer s

/-- CONTROL_PERIOD_EXPIRY (R151, R153). -/
def execControlPeriodExpiry (s : State) : Host.Outcome State Fault Refusal := event takeControlPeriod s

/-- SAMPLE_WORD (R151, R152). -/
def execSampleWord (code : SampleCode) (s : State) : Host.Outcome State Fault Refusal := act (sampleArrives code) s

/-- ANSWER_LIMIT_EXPIRY (R152). -/
def execAnswerLimitExpiry (s : State) : Host.Outcome State Fault Refusal := event takeAnswerLimit s

/-- CONVERTER_CYCLE_COMPLETE (R155). -/
def execConverterCycleComplete (s : State) : Host.Outcome State Fault Refusal := event takeCycleComplete s

/-- POSITIONER_FRAME_END (R169). -/
def execPositionerFrameEnd (s : State) : Host.Outcome State Fault Refusal := act frameEnds s

/-- LEAK_GATE_START (R137). -/
def execLeakGateStart (s : State) : Host.Outcome State Fault Refusal := event takeGateStart s

/-- LEAK_GATE_EXPIRY (R139). -/
def execLeakGateExpiry (s : State) : Host.Outcome State Fault Refusal := event takeGateExpiry s

/-- LEAK_SENSOR_PULSE (R138). -/
def execLeakSensorPulse (s : State) : Host.Outcome State Fault Refusal := act leakPulse s

end Sys2Proof.Machine
end

