-- ==== Sys2Proof/Machine/LineCommands.lean ====
section
/-! DEFINITION. The meanings of the line commands (chapter 2) and of the taking of each telegram kind by the block that
owns it (R38). -/

namespace Sys2Proof.Machine

open Sys2Proof

/-! ## The line -/

/-- TELEGRAM_RECEIVED (R30 to R34, R37). -/
def execTelegramReceived (f : Frame) (s : State) : Host.Outcome State Fault Refusal := act (receiveFrame f) s

/-- TELEGRAM_START (R27, R39). -/
def execTelegramStart (s : State) : Host.Outcome State Fault Refusal := act telegramStarts s

/-- ARBITRATION_LOST (R28). -/
def execArbitrationLost (s : State) : Host.Outcome State Fault Refusal := act losesArbitration s

/-- LINE_ERROR (R29). -/
def execLineError (s : State) : Host.Outcome State Fault Refusal := act lineErrs s

/-- TELEGRAM_SENT (R31). -/
def execTelegramSent (ackLow : Bool) (s : State) : Host.Outcome State Fault Refusal := act (telegramCompletes ackLow) s

/-- FRAMING_FAULT (R26). -/
def execFramingFault (s : State) : Host.Outcome State Fault Refusal := act framingFaults s

/-- LINE_IDLE (R27). -/
def execLineIdle (s : State) : Host.Outcome State Fault Refusal := act lineIdles s

/-! ## The telegrams, at the block that takes them -/

/-- HALT (R87). -/
def execHalt (s : State) : Host.Outcome State Fault Refusal :=
  act (handOn .halt anyOf fun t c => jobOnHalt t.src t.oven c) s

/-- PUSHER (R102). -/
def execPusher (s : State) : Host.Outcome State Fault Refusal := act (handOn .pusher anyOf takePusher) s

/-- GUIDE (R103). -/
def execGuide (s : State) : Host.Outcome State Fault Refusal := act (handOn .guide anyOf takeGuide) s

/-- QCAR (R105). -/
def execQcar (s : State) : Host.Outcome State Fault Refusal := act (handOn .qcar anyOf takeQcar) s

/-- The second payload character does not carry the given code. A CHARGE, CLEAR or INHIBIT whose code names neither of
the two commands of its kind leaves the queue with either, and changes nothing (R3, R185, R186, assumption log 6). -/
def codeIsNot (code : Nat) (t : Telegram) : Bool := t.at 1 != code

/-- CHARGE_START (R4). -/
def execChargeStart (s : State) : Host.Outcome State Fault Refusal :=
  act (handOn .charge (codeIsNot chargeEndCode) takeChargeStart) s

/-- CHARGE_END (R5). -/
def execChargeEnd (s : State) : Host.Outcome State Fault Refusal :=
  act (handOn .charge (codeIsNot chargeStartCode) takeChargeEnd) s

/-- CLAIM (R57, R61 to R65). -/
def execClaim (s : State) : Host.Outcome State Fault Refusal := act (handOn .claim anyOf takeClaim) s

/-- BID (R52, R54). -/
def execBid (s : State) : Host.Outcome State Fault Refusal := act (handOn .bid anyOf takeBid) s

/-- RELEASE (R67). -/
def execRelease (s : State) : Host.Outcome State Fault Refusal := act (handOn .release anyOf takeRelease) s

/-- PERMIT (R66). -/
def execPermit (s : State) : Host.Outcome State Fault Refusal :=
  act (handOn .permit anyOf fun t c => holderSpeaks t.src c) s

/-- CALL (R66). -/
def execCall (s : State) : Host.Outcome State Fault Refusal :=
  act (handOn .call anyOf fun t c => holderSpeaks t.src c) s

/-- PHASE (R15). -/
def execPhase (s : State) : Host.Outcome State Fault Refusal := act (handOn .phase anyOf takePhase) s

/-- MAIN (R163). -/
def execMain (s : State) : Host.Outcome State Fault Refusal := act (handOn .main anyOf takeMain) s

/-- PLAN (R13). -/
def execPlan (s : State) : Host.Outcome State Fault Refusal := act (handOn .plan anyOf takePlan) s

/-- SEED (R6, R184). -/
def execSeed (s : State) : Host.Outcome State Fault Refusal := act (handOn .seed anyOf takeSeed) s

/-- CLEAR_STICKER (R185). -/
def execClearSticker (s : State) : Host.Outcome State Fault Refusal :=
  act (handOn .clear (codeIsNot clearHardcountCode) takeClearSticker) s

/-- CLEAR_HARDCOUNT (R185). -/
def execClearHardcount (s : State) : Host.Outcome State Fault Refusal :=
  act (handOn .clear (codeIsNot clearStickerCode) takeClearHardcount) s

/-- INHIBIT_SET (R186, R96). -/
def execInhibitSet (s : State) : Host.Outcome State Fault Refusal :=
  act (handOn .inhibit (codeIsNot inhibitClearCode) takeInhibitSet) s

/-- INHIBIT_CLEAR (R186). -/
def execInhibitClear (s : State) : Host.Outcome State Fault Refusal :=
  act (handOn .inhibit (codeIsNot inhibitSetCode) takeInhibitClear) s

/-- MASK (R188, R190). -/
def execMask (s : State) : Host.Outcome State Fault Refusal := act (handOn .mask anyOf takeMask) s

end Sys2Proof.Machine
end

