-- ==== Sys2Proof/Machine/Dispatch.lean ====
section
/-! DEFINITION. The dispatch: one arm for each command of spec/opcode_table.json. -/

namespace Sys2Proof.Machine

open Sys2Proof

def exec (i : Instr) (s : State) : Host.Outcome State Fault Refusal :=
  match i with
  | .powerOnAssert => Sys2Proof.Machine.execPowerOnAssert s
  | .powerOnRelease straps => Sys2Proof.Machine.execPowerOnRelease straps s
  | .restartAssert => Sys2Proof.Machine.execRestartAssert s
  | .restartRelease straps => Sys2Proof.Machine.execRestartRelease straps s
  | .configByteArrival b => Sys2Proof.Machine.execConfigByteArrival b s
  | .configByteTimeout => Sys2Proof.Machine.execConfigByteTimeout s
  | .loadComplete => Sys2Proof.Machine.execLoadComplete s
  | .listenTimerExpiry => Sys2Proof.Machine.execListenTimerExpiry s
  | .tick10ms present latched => Sys2Proof.Machine.execTick10ms present latched s
  | .secondTick => Sys2Proof.Machine.execSecondTick s
  | .minuteTick bidFirst => Sys2Proof.Machine.execMinuteTick bidFirst s
  | .doorInputAccepted channel => Sys2Proof.Machine.execDoorInputAccepted channel s
  | .doorWarn channel => Sys2Proof.Machine.execDoorWarn channel s
  | .doorOverdue channel => Sys2Proof.Machine.execDoorOverdue channel s
  | .jobLimitReached => Sys2Proof.Machine.execJobLimitReached s
  | .holdTimerExpiry => Sys2Proof.Machine.execHoldTimerExpiry s
  | .neighbourLost e => Sys2Proof.Machine.execNeighbourLost e s
  | .machineStale m => Sys2Proof.Machine.execMachineStale m s
  | .mainStale => Sys2Proof.Machine.execMainStale s
  | .claimExpired => Sys2Proof.Machine.execClaimExpired s
  | .bidWindowExpiry => Sys2Proof.Machine.execBidWindowExpiry s
  | .edgePhaseRefresh => Sys2Proof.Machine.execEdgePhaseRefresh s
  | .mainSendExpiry => Sys2Proof.Machine.execMainSendExpiry s
  | .travelTimerExpiry => Sys2Proof.Machine.execTravelTimerExpiry s
  | .controlPeriodExpiry => Sys2Proof.Machine.execControlPeriodExpiry s
  | .sampleWord code => Sys2Proof.Machine.execSampleWord code s
  | .answerLimitExpiry => Sys2Proof.Machine.execAnswerLimitExpiry s
  | .converterCycleComplete => Sys2Proof.Machine.execConverterCycleComplete s
  | .positionerFrameEnd => Sys2Proof.Machine.execPositionerFrameEnd s
  | .leakGateStart => Sys2Proof.Machine.execLeakGateStart s
  | .leakGateExpiry => Sys2Proof.Machine.execLeakGateExpiry s
  | .telegramReceived f => Sys2Proof.Machine.execTelegramReceived f s
  | .telegramStart => Sys2Proof.Machine.execTelegramStart s
  | .arbitrationLost => Sys2Proof.Machine.execArbitrationLost s
  | .lineError => Sys2Proof.Machine.execLineError s
  | .telegramSent ackLow => Sys2Proof.Machine.execTelegramSent ackLow s
  | .halt => Sys2Proof.Machine.execHalt s
  | .pusher => Sys2Proof.Machine.execPusher s
  | .guide => Sys2Proof.Machine.execGuide s
  | .qcar => Sys2Proof.Machine.execQcar s
  | .chargeStart => Sys2Proof.Machine.execChargeStart s
  | .chargeEnd => Sys2Proof.Machine.execChargeEnd s
  | .claim => Sys2Proof.Machine.execClaim s
  | .bid => Sys2Proof.Machine.execBid s
  | .release => Sys2Proof.Machine.execRelease s
  | .permit => Sys2Proof.Machine.execPermit s
  | .call => Sys2Proof.Machine.execCall s
  | .phase => Sys2Proof.Machine.execPhase s
  | .main => Sys2Proof.Machine.execMain s
  | .plan => Sys2Proof.Machine.execPlan s
  | .seed => Sys2Proof.Machine.execSeed s
  | .clearSticker => Sys2Proof.Machine.execClearSticker s
  | .clearHardcount => Sys2Proof.Machine.execClearHardcount s
  | .inhibitSet => Sys2Proof.Machine.execInhibitSet s
  | .inhibitClear => Sys2Proof.Machine.execInhibitClear s
  | .mask => Sys2Proof.Machine.execMask s
  | .framingFault => Sys2Proof.Machine.execFramingFault s
  | .lineIdle => Sys2Proof.Machine.execLineIdle s
  | .leakSensorPulse => Sys2Proof.Machine.execLeakSensorPulse s

end Sys2Proof.Machine
end

