-- ==== Sys2Proof/Safety.lean ====
section
/-! DEFINITION. The terms in which the claims about the SC-8 are stated: when a state is ready for a command, and the
properties of a state that every step keeps. -/

namespace Sys2Proof.Machine

open Sys2Proof

/-! ## Ready states -/

/-- POWER-ON is not asserted, and nothing that the ticks and arrivals have made due still waits. -/
abbrev Ready (c : Controller) : Prop := c.start.powerOn = false ∧ c.due = Due.nothing

/-- Nothing waits that could be offered to the transmit queue now: no RELEASE owed (R92) and no EVENT to report (R189)
while the station is ACTIVE and the queue has a free place. -/
def nothingWaits (c : Controller) : Bool :=
  !(isActive c && txRoom c && (c.job.owed.isSome || (!c.events.queued && c.events.anyReportable)))

/-- The controller is ready, the station receives, and t, a telegram of kind k, is the oldest of the receive queue (R38);
behind it stand the telegrams of rest. -/
abbrev Hands (c : Controller) (k : Kind) (t : Telegram) (rest : List Telegram) : Prop :=
  Ready c ∧ receiving c = true ∧ c.line.rx = t :: rest ∧ t.kind = some k

/-- The controller with the given receive queue. -/
def withRx (rest : List Telegram) (c : Controller) : Controller := { c with line := { c.line with rx := rest } }

/-- The event table has its thirty entries (section 10.2). -/
abbrev thirtyEntries (c : Controller) : Prop := c.events.entries.length = 30

/-- Between c and d the entry of kind k has been raised once, its count holding at 255 (R187). -/
abbrev countedOnce (k : Nat) (c d : Controller) : Prop :=
  (d.events.entry k).count = min 255 ((c.events.entry k).count + 1)

/-- An entry of the transmit queue that is not on the line holds the telegram. -/
abbrev waitsInTx (t : Telegram) (c : Controller) : Prop := (⟨t, false⟩ : TxEntry) ∈ c.line.tx

/-- From c to d telegrams were at most offered and withdrawn and events counted: d differs from c only in the transmit queue
and the fate of the entry on the line, in the entries of the event table and EVENT queued, and in what the block that
queued a telegram is told when it finds no place: a release owed (R92), CALL queued (R107), MAIN queued (R162), and a
BIDDING record that becomes IDLE (R56). -/
structure OnlyOffers (c d : Controller) : Prop where
  start : d.start = c.start
  time : d.time = c.time
  table : d.table = c.table
  round : d.round = c.round
  held : d.held = c.held
  doors : d.doors = c.doors
  scan : d.scan = c.scan
  due : d.due = c.due
  line : d.line = { c.line with tx := d.line.tx, phase := d.line.phase }
  phase : d.line.phase = c.line.phase ∨ ∃ t f f', c.line.phase = .sending t f ∧ d.line.phase = .sending t f'
  track : d.track = { c.track with call := { c.track.call with queued := d.track.call.queued } }
  reg : d.reg = { c.reg with main := { c.reg.main with queued := d.reg.main.queued } }
  events : d.events = { c.events with entries := d.events.entries, queued := d.events.queued }
  job : d.job = { c.job with owed := d.job.owed }
    ∨ c.job.state = .bidding ∧ d.job = { Job.idleRecord with owed := d.job.owed }

/-- The transmit queue has room for n more entries. -/
abbrev roomFor (n : Nat) (c : Controller) : Prop := c.line.tx.length + n ≤ 8

/-- R10, R12, R16: the oven table after a minute tick: the coking minutes of the COKING ovens, with their stage, and of the known
COKING neighbours have risen. -/
def minutesRisen (c : Controller) : OvenTable :=
  { c.table with
    ovens := c.table.ovens.map (Oven.minute (cfg c))
    below := c.table.below.map Neighbour.minute
    above := c.table.above.map Neighbour.minute }

/-- How many ovens of the section are such that p holds of their records in c and in d. -/
def ovensWhere (p : Oven → Oven → Prop) [DecidableRel p] (c d : Controller) : Nat :=
  (List.range c.table.ovens.length).countP fun j =>
    (ovenAt c j).any fun a => (ovenAt d j).any fun b => decide (p a b)

/-! ## The ends of a push job (R8, R9, R71, R89, R93) -/

/-- R9: the record of an oven that a push job leaves without a push end, no door of it REMOVED: from ISOLATING or ISOLATED it is
COKING in REGULATE with the bumpless preset, its minutes and command kept; from PUSHING it is STICKER; any other phase stays. -/
def Oven.afterJob (g : Config) (o : Oven) : Oven :=
  let s := stageFor g o.target o.minutes
  match o.phase with
  | .isolating | .isolated =>
    { o with phase := .coking, stage := some s, mode := .regulate,
             integrator := clampInt (o.command * 1024) ((stageRow g s).umin * 1024) ((stageRow g s).umax * 1024) }
  | .pushing => { o with phase := .sticker, stage := none, mode := .closed, command := 0, integrator := 0, isoCount := 0, noDraw := 0 }
  | _ => o

/-- The job for oven n, whose record at index i is o, has ended with a RELEASE of the outcome: the job is IDLE (R71), the
oven has left the job phases (R9), the RELEASE waits, as does a PHASE where the phase changed (R17), or the RELEASE is owed
where the queue takes none (R92). -/
structure JobEnds (n i : Nat) (o : Oven) (out : PushOutcome) (c d : Controller) : Prop where
  job : d.job = { Job.idleRecord with owed := d.job.owed }
  oven : ovenAt d i = some (o.afterJob (cfg c))
  release : isActive c = true → roomFor 4 c → waitsInTx (releaseTelegram (ownNumber c) n out) d
  phase : isActive c = true → roomFor 4 c → (o.afterJob (cfg c)).phase ≠ o.phase →
    waitsInTx (phaseTelegram (ownNumber c) (o.afterJob (cfg c))) d
  owed : isActive c = false → n < 256 → d.job.owed = some ⟨n, out⟩

/-- R93: the job for oven n, whose record at index i is o, is aborted with the code of the reason. From CLAIMED or DOORS with
no door REMOVED it ends with a RELEASE ABORTED; otherwise it is RECLOSING (R89), which is complete at once where both doors are
latched. -/
structure AbortsJob (code n i : Nat) (o : Oven) (c d : Controller) : Prop where
  counted : countedOnce 24 c d
  reason : (c.events.entry 24).first = none → (d.events.entry 24).first = some code
  call : d.track.call.step = .none
  permit : ∀ e ∈ d.line.tx, e.tel.kind ≠ some .permit
  others : ∀ j, j ≠ i → ovenAt d j = ovenAt c j
  table : d.table = { c.table with ovens := d.table.ovens }
  round : d.round = c.round
  held : d.held = c.held
  back : (c.job.state = .claimed ∨ c.job.state = .doors) → anyRemoved c i = false → JobEnds n i o .aborted c d
  waits : ¬ ((c.job.state = .claimed ∨ c.job.state = .doors) ∧ anyRemoved c i = false) → bothLatched c i = false →
    d.job = { c.job with state := .reclosing, holdSecs := 0, cause := none, permitOut := false, holdOut := false,
                         owed := d.job.owed }
      ∧ ovenAt d i = some o
  atOnce : c.job.state ≠ .claimed → c.job.state ≠ .doors → bothLatched c i = true →
    JobEnds n i o (if c.job.ended then .pushed else .aborted) c d

/-- R77, R168: the completion at which the oven of index i, with record o before it and the feedback sample f, is reported
isolated to a CLAIMED job of that oven: the second in a row that finds the command at 0 and the feedback at or below 10. -/
def IsolationReported (c : Controller) (i : Nat) (o : Oven) (f : Option Nat) : Prop :=
  c.job.state = .claimed ∧ receiving c = true ∧ jobIndex c = some i ∧ o.mode = .isolating ∧ o.isoCount = 1
    ∧ o.command ≤ (cfg c).riso ∧ ∃ v, f = some v ∧ scaleFeedback v ≤ 10

/-- R8: from c to d a push end, reported by the PUSHER t, has settled an oven in PUSHING or STICKER from record o to o'. -/
structure PushEndTaken (t : Telegram) (o o' : Oven) (c d : Controller) : Prop where
  completed : t.at 4 = 1 → o'.phase = .empty ∧ o'.minutes = 0
  failed : t.at 4 = 0 → o'.phase = .sticker ∧ o'.minutes = o.minutes ∧ countedOnce 27 c d
  hard : (cfg c).hardPush ≤ t.at2 2 → o'.hardCount = min 15 (o.hardCount + 1) ∧ countedOnce 26 c d
  soft : t.at2 2 < (cfg c).hardPush → o'.hardCount = o.hardCount
  plan : o'.target = o.target ∧ o'.allowance = o.allowance

/-! ## Loads -/

/-- The conditions of R193, R194 and R195 on a complete image b and the straps, n being byte 0, F byte 1, k byte 2 and N
byte 3: the station number is 1 to 24, the CRC over bytes 0 to n agrees with bytes n + 1 and n + 2, n is 124 to 253, k is
1 to 8, F is 1 to 192, N is F + k − 1 to 192, and the main source is 1 to 24 unless the station is the tap. -/
abbrev soundLoad (straps : BitVec 5) (b : List Byte) : Prop :=
  (1 ≤ straps.toNat ∧ straps.toNat ≤ 24)
    ∧ crc16 (b.take (imageByte b 0 + 1)) = imageByte b (imageByte b 0 + 1) * 256 + imageByte b (imageByte b 0 + 2)
    ∧ (124 ≤ imageByte b 0 ∧ imageByte b 0 ≤ 253) ∧ (1 ≤ imageByte b 2 ∧ imageByte b 2 ≤ 8)
    ∧ (1 ≤ imageByte b 1 ∧ imageByte b 1 ≤ 192)
    ∧ (imageByte b 1 + imageByte b 2 - 1 ≤ imageByte b 3 ∧ imageByte b 3 ≤ 192)
    ∧ (imageByte b 4 = 0 → 1 ≤ imageByte b 5 ∧ imageByte b 5 ≤ 24)

/-! ## The outputs (R72) and the reset inputs (R197, R198) -/

/-- R72: in LISTEN, ACTIVE and SILENT the permit output is asserted in PERMITTED and PUSHING only, and the hold output in
HELD only; in LOADING and CONFIG FAULT both are released. -/
def OutputsRight (c : Controller) : Prop :=
  if receiving c then
    c.job.permitOut = (c.job.state == .permitted || c.job.state == .pushing) ∧ c.job.holdOut = (c.job.state == .held)
  else c.job.permitOut = false ∧ c.job.holdOut = false

/-- R106, R114: a quench car call stands only for the oven of a push job in CLAIMED to HELD. -/
def CallInv (c : Controller) : Prop :=
  c.track.call.step ≠ .none →
    c.job.state.claimedToHeld = true ∧ ∃ n, c.job.oven = some n ∧ c.track.call.oven = some n

/-- R71: a record in IDLE holds nothing but a release owed. -/
def IdleRight (c : Controller) : Prop := c.job.state = .idle → c.job = { Job.idleRecord with owed := c.job.owed }

/-- R194, R197, R198: while POWER-ON is asserted every block is at its reset; while RESTART is asserted the station is in
LOADING without reading; the image is read, and a load completes, in LOADING alone, and a load completes when the read is
over. -/
def StartRight (c : Controller) : Prop :=
  (c.start.powerOn = true → c = Controller.atReset c.start.restart)
    ∧ (c.start.restart = true → c.start.line = .loading ∧ c.start.reading = false ∧ c.due.loadComplete = false)
    ∧ (c.start.reading = true ∨ c.due.loadComplete = true → c.start.line = .loading)
    ∧ (c.due.loadComplete = true → c.start.reading = false)

/-- The invariant of the outputs. -/
def OutputsInv (c : Controller) : Prop := OutputsRight c ∧ IdleRight c ∧ StartRight c

/-! ## The valves (R156) -/

/-- A number of per mille. -/
def PerMille (x : Int) : Prop := 0 ≤ x ∧ x ≤ 1000

/-- The limits of a profile row are per mille. -/
def Row.limited (r : Row) : Prop := PerMille r.umin ∧ PerMille r.umax

/-- The configuration values that set a command lie in their ranges (section 11.4). -/
def ValveLimits (g : Config) : Prop :=
  PerMille g.uchg ∧ Row.limited g.unknownRow ∧ Row.limited g.earlyRow ∧ Row.limited g.mainRow ∧ Row.limited g.lateRow
    ∧ Row.limited g.finishRow ∧ 0 ≤ g.r ∧ 0 ≤ g.riso

/-- A phase that closes the valve (R156). -/
def Phase.closes (p : Phase) : Bool := p == .empty || p == .isolated || p == .pushing || p == .sticker

/-- R156, for one oven with a door REMOVED or none: the command is a number of per mille; the valve is CLOSED while a door
is REMOVED and in a phase that closes it; a CLOSED valve has command 0 and integrator 0. -/
def Oven.valveRight (removed : Bool) (o : Oven) : Prop :=
  PerMille o.command ∧ (removed = true ∨ o.phase.closes = true → o.mode = .closed)
    ∧ (o.mode = .closed → o.command = 0 ∧ o.integrator = 0)

/-- The invariant of the valves. -/
def ValvesInv (c : Controller) : Prop :=
  (∀ i o, ovenAt c i = some o → o.valveRight (anyRemoved c i)) ∧ (∀ g, c.start.config = some g → ValveLimits g)

/-! ## The queues and the bid list (R35 to R37, R39, R52) -/

/-- The entries stand in ascending order of identifier (R39). -/
def txAscending (q : List TxEntry) : Prop := q.Pairwise fun a b => a.tel.ident ≤ b.tel.ident

/-- The invariant of the two queues: at most 4 telegrams received (R37); at most 8 entries to send, all of the station's
own number, in ascending order of identifier (R39); none outside ACTIVE (R35, R36, R44). -/
def QueuesInv (c : Controller) : Prop :=
  c.line.rx.length ≤ 4 ∧ c.line.tx.length ≤ 8 ∧ txAscending c.line.tx ∧ (∀ e ∈ c.line.tx, e.tel.src = ownNumber c)
    ∧ (isActive c = false → c.line.tx = []) ∧ StartRight c

/-- The invariant of the round record: the bid list holds at most 16 entries, no two from the same source, in ascending
identifier order (R52); a CLOSED round has an empty list, no window, no own bid (R57, R58, R64, R69). -/
def RoundInv (c : Controller) : Prop :=
  c.round.bids.length ≤ 16 ∧ c.round.bids.Pairwise (fun a b => a.ident ≤ b.ident)
    ∧ c.round.bids.Pairwise (fun a b => a.src ≠ b.src) ∧ (c.round.opened = false → c.round = Round.closedRecord)

/-! ## Ranges of counters -/

/-- A door record's counters: the leak score within 0..15 (R142), the dead count within 0..4 (R141), the open seconds
within 0..3600 and 0 outside an opening (R124), the check samples 0 outside CHECKING (R144), Ref within 1..65535 (R146), the
last count within 0..65535 (R138). -/
def Door.countersRight (d : Door) : Prop :=
  d.score ≤ 15 ∧ d.dead ≤ 4 ∧ d.openSecs ≤ 3600 ∧ (d.opened = false → d.openSecs = 0)
    ∧ (d.state ≠ .checking → d.checks = 0) ∧ (1 ≤ d.ref ∧ d.ref ≤ 65535) ∧ (∀ n, d.last = some n → n ≤ 65535)

/-- The coking minutes within 0..4095 (R10), the hard push count within 0..15 (R8), the stuck count within 0..3 and the
isolation count within 0..2 (section 8.1), the invalid count (R154) and the no-draw count (R165) within 0..255. -/
def Oven.countersRight (o : Oven) : Prop :=
  o.minutes ≤ 4095 ∧ o.hardCount ≤ 15 ∧ o.stuckCount ≤ 3 ∧ o.isoCount ≤ 2 ∧ o.invalid ≤ 255 ∧ o.noDraw ≤ 255

/-- A neighbour's coking minutes within 0..4095 and its age within 0..900 (R16). -/
def Neighbour.countersRight (n : Neighbour) : Prop := n.minutes ≤ 4095 ∧ n.age ≤ 900

/-- The configuration values that a counter takes lie in its range (section 11.4): the initial references within 1..65535
and the machine stale limit within 0..60. -/
def CounterLimits (g : Config) : Prop := (∀ r ∈ g.refs, 1 ≤ r ∧ r ≤ 65535) ∧ g.staleLimit ≤ 60

/-- The invariant of the counters; the event table has thirty entries, each count within 0..255 (R187); the job minutes
stay within 0..255 (R76) and the hold seconds within 0..300 (section 4.1), the machine ages within 0..60 (R104), the main age
within 0..60 (R163) and its invalid count within 0..255 (R161), the held-claim age within 0..90 (R66), the gate count within
0..65535 (R138). -/
def CountersInv (c : Controller) : Prop :=
  c.events.entries.length = 30 ∧ (∀ e ∈ c.events.entries, e.count ≤ 255)
    ∧ (∀ d ∈ c.doors.doors, d.countersRight) ∧ (∀ o ∈ c.table.ovens, o.countersRight)
    ∧ (∀ n, c.table.below = some n → n.countersRight) ∧ (∀ n, c.table.above = some n → n.countersRight)
    ∧ (c.job.minutes ≤ 255 ∧ c.job.holdSecs ≤ 300)
    ∧ (c.track.pusher.age ≤ 60 ∧ c.track.guide.age ≤ 60 ∧ c.track.car.age ≤ 60)
    ∧ (c.reg.main.age ≤ 60 ∧ c.reg.main.invalid ≤ 255) ∧ c.held.age ≤ 90 ∧ c.scan.count ≤ 65535
    ∧ (∀ g, c.start.config = some g → CounterLimits g)

/-! ## Door records formed -/

/-- R131, R148: from c to d the door records have been formed for the channels 0 to 2k − 1 of the configuration g, from the
inputs as d holds them accepted. -/
structure FormsDoors (g : Config) (c d : Controller) : Prop where
  length : d.doors.doors.length = 2 * g.count
  record : ∀ ch r, d.doors.doors[ch]? = some r →
    r.present = acceptedAt d.doors.presentIn ch ∧ r.latched = acceptedAt d.doors.latchedIn ch
      ∧ r.state = (if r.present then (if r.latched then .checking else .unlatched) else .removed)
      ∧ r.openSecs = 0 ∧ r.warned = false ∧ r.overdue = false ∧ r.conflict = (!r.present && r.latched)
      ∧ r.score = 0 ∧ r.dead = 0 ∧ r.last = none ∧ r.ref = g.refs.getD ch 1
      ∧ r.checks = (if r.state = .checking then g.nchk else 0)
  closed : ∀ i o, ovenAt d i = some o → anyRemoved d i = true → o.mode = .closed ∧ o.command = 0 ∧ o.integrator = 0
  starts : d.scan.startNext = true
  unauthorised : CountersInv c → (d.events.entry 16).count
    = min 255 ((c.events.entry 16).count + d.doors.doors.countP (fun r => r.state = .removed))
  conflicts : CountersInv c → (d.events.entry 17).count
    = min 255 ((c.events.entry 17).count + d.doors.doors.countP (fun r => r.conflict))

/-- R169 to R171: from c to d the entry to LISTEN has requested a positioner frame: it carries the commands of the section as d holds
them, or is held behind the frame that is still being sent. -/
structure ListenFrame (c d : Controller) : Prop where
  sent : c.reg.frame = none →
    d.reg.frame = some ((List.range 8).map fun j => ((ovenAt d j).map (·.command)).getD 0) ∧ d.reg.frameHeld = false
  waits : ∀ f, c.reg.frame = some f → d.reg.frame = some f ∧ d.reg.frameHeld = true

end Sys2Proof.Machine
end

