-- ==== Sys2Proof/Certificates/Slice0/Obligations.lean ====
section
/-! DEFINITION. The statements for the provers, each a proposition about the model, with the rules of spec/ it formalises in
its docstring. c is the controller before a command, d the controller after it, q the queue of the commands that wait. -/

open Sys2Proof Sys2Proof.Machine

/-! ## The queue of commands -/

/-- The step takes the command at the front of the queue and carries it out on the controller with the queue's rest. -/
def Obligations.StepTakesFront : Prop :=
  ∀ (i : Instr) (rest : List Instr) (c : Controller), step ⟨i :: rest, c⟩ = exec i ⟨rest, c⟩

/-! ## Reset inputs and the load -/

/-- R197, R72, R192, R44: asserting POWER-ON puts every block at its reset whatever the state, and no command but its
release moves a block from there (the RESTART input alone is noted).
The values the manual does not give for the reset, and the noting of RESTART alone, are the model's (assumption log 1, 13,
DESIGN CHOICE). -/
def Obligations.PowerOnHoldsReset : Prop :=
  (∀ q c, exec .powerOnAssert ⟨q, c⟩ = .next ⟨q, Controller.atReset c.start.restart⟩)
    ∧ (∀ r, (Controller.atReset r).start.powerOn = true ∧ (Controller.atReset r).start.line = .loading
        ∧ (Controller.atReset r).start.config = none ∧ (Controller.atReset r).time = ⟨0, 0⟩
        ∧ (Controller.atReset r).job.permitOut = false ∧ (Controller.atReset r).job.holdOut = false
        ∧ (Controller.atReset r).line.rx = [] ∧ (Controller.atReset r).line.tx = []
        ∧ (Controller.atReset r).table.ovens = [] ∧ (Controller.atReset r).doors.doors = []
        ∧ (Controller.atReset r).scan.running = false ∧ (Controller.atReset r).scan.channel = 0
        ∧ (Controller.atReset r).reg.frame = none ∧ (Controller.atReset r).events.queued = false
        ∧ (Controller.atReset r).events.carried = none
        ∧ (Controller.atReset r).events.entries = List.replicate 30 ⟨0, none⟩)
    ∧ (∀ i q r, (∀ x, i ≠ .powerOnRelease x) →
        ∃ r', exec i ⟨q, Controller.atReset r⟩ = .next ⟨q, Controller.atReset r'⟩)

/-- R193, R194, R197, R198: the release of POWER-ON, and of RESTART, enters LOADING, reads the straps and requests the
image's first byte, with 100 ms for its answer; nothing else changes. -/
def Obligations.ReleaseBeginsRead : Prop :=
  ∀ (q : List Instr) (c : Controller) (x : BitVec 5),
    (c.start.powerOn = true → c.start.restart = false →
      exec (.powerOnRelease x) ⟨q, c⟩ = .next ⟨q, { c with start :=
        { c.start with powerOn := false, line := .loading, straps := x, reading := true, image := [],
                       byteLeft := some 10 } }⟩)
    ∧ (Ready c → c.start.restart = true →
      exec (.restartRelease x) ⟨q, c⟩ = .next ⟨q, { c with start :=
        { c.start with restart := false, line := .loading, straps := x, reading := true, image := [],
                       byteLeft := some 10 } }⟩)

/-- What asserting RESTART does at once (R44, R70, R72, R100, R118, R149, R171, R192, R198), and what it leaves (R1, R21,
R98, R101, R119, R133, R171): a push job record beyond CLAIMING keeps all its fields but the two outputs.
That the held-claim limit and the carried kind stay is the model's choice (assumption log 13, 21, DESIGN CHOICE), and so are the
travel limit and the ages inside Tracker.unknown (assumption log 13, DESIGN CHOICE), and that CONFIG FAULT and SILENT are left,
and positioner frames sent again, at the assertion (assumption log 33, DESIGN CHOICE). That the release owed stays as it was
while the transmit queue is emptied, so that a RELEASE in it is lost and not owed, is read from R44 and R92 (assumption log 23,
DEDUCED). -/
def Obligations.RestartActs : Prop :=
  ∀ (q : List Instr) (c : Controller), Ready c → c.start.restart = false →
    ∃ d, exec .restartAssert ⟨q, c⟩ = .next ⟨q, d⟩
      ∧ d.start = { c.start with restart := true, line := .loading, reading := false, image := [], byteLeft := none,
                                 listen := none }
      ∧ d.time = c.time
      ∧ d.line = { c.line with phase := .counting, rx := [], tx := [], ack := false }
      ∧ d.table = { c.table with edge := none }
      ∧ d.round = ⟨false, 0, none, false, []⟩ ∧ d.held = ⟨none, 0, c.held.limit, none, none⟩
      ∧ d.job = (if c.job.state = .bidding ∨ c.job.state = .claiming then { Job.idleRecord with owed := c.job.owed }
          else { c.job with permitOut := false, holdOut := false })
      ∧ d.track = Tracker.unknown (cfg c).staleLimit
      ∧ d.doors = c.doors ∧ d.scan.running = false ∧ d.scan.channel = c.scan.channel
      ∧ (d.scan.startNext = !c.doors.doors.isEmpty)
      ∧ d.reg = { c.reg with cycle := none, period := none, answer := none, mainSend := none,
                             framesOn := c.start.config.isSome, main := { c.reg.main with queued := false } }
      ∧ d.events = { c.events with queued := false } ∧ d.due = Due.nothing

/-- R194: a requested byte joins the image; the next is requested with a fresh 100 ms, or, when byte n + 2 has arrived, n
being byte 0, the read is over and the load is due to complete.
Which events are due is a field of the model's own (assumption log 5, DESIGN CHOICE). -/
def Obligations.ImageByteTaken : Prop :=
  ∀ (q : List Instr) (c : Controller) (b : Byte), Ready c → nothingWaits c = true → c.start.reading = true →
    ((c.start.image ++ [b]).length < imageByte (c.start.image ++ [b]) 0 + 3 →
      exec (.configByteArrival b) ⟨q, c⟩ = .next ⟨q, { c with start :=
        { c.start with image := c.start.image ++ [b], byteLeft := some 10 } }⟩)
    ∧ (imageByte (c.start.image ++ [b]) 0 + 3 ≤ (c.start.image ++ [b]).length →
      exec (.configByteArrival b) ⟨q, c⟩ = .next ⟨q, { c with
        start := { c.start with image := c.start.image ++ [b], reading := false, byteLeft := none }
        due := { Due.nothing with loadComplete := true } }⟩)

/-- R193, R194, R195, R199: a memory that gives no answer, and an image or straps that break any of the conditions, end the load in
CONFIG FAULT, with the configuration in force as it was and no positioner frames; nothing else changes.
Which events are due is a field of the model's own (assumption log 5, DESIGN CHOICE). -/
def Obligations.FailedLoadFaults : Prop :=
  (∀ (q : List Instr) (c : Controller), c.start.powerOn = false → c.due.byteTimeout = true → c.start.reading = true →
      exec .configByteTimeout ⟨q, c⟩ = .next ⟨q, { c with
        start := { c.start with line := .configFault, reading := false, byteLeft := none }
        reg := { c.reg with framesOn := false }
        due := { c.due with byteTimeout := false } }⟩)
  ∧ (∀ (q : List Instr) (c : Controller), c.start.powerOn = false → c.due.loadComplete = true →
      imageByte c.start.image 0 + 3 ≤ c.start.image.length → ¬ soundLoad c.start.straps c.start.image →
      exec .loadComplete ⟨q, c⟩ = .next ⟨q, { c with
        start := { c.start with line := .configFault, reading := false, byteLeft := none }
        reg := { c.reg with framesOn := false }
        due := { c.due with loadComplete := false } }⟩)

/-- R20, R23, R69, R99, R117, R148, R170, R192, R193, R196, R197: what a sound load leaves where no configuration was in force or F,
k or N differs: LISTEN, the corrected values in force, and the cold records, with SEED NEEDED to be counted at the entry to
ACTIVE. A door found off closes its oven's valve. The positioner frame requested at the entry to LISTEN carries the commands of
the section as they then stand, or is held where a frame is still being sent. CONFIG CLAMPED is counted under kind 7 once for
each correction, and names no oven.
Which events are due is a field of the model's own (assumption log 5, DESIGN CHOICE). The main age of a tap station and the
travel limit (inside Tracker.unknown) are the model's values (assumption log 13, DESIGN CHOICE). -/
def Obligations.ColdLoad : Prop :=
  ∀ (q : List Instr) (c : Controller) (g : Config), c.start.powerOn = false → c.due.loadComplete = true →
    imageByte c.start.image 0 + 3 ≤ c.start.image.length →
    soundLoad c.start.straps c.start.image → g = (loadedConfig c.start.image).1 →
    (∀ old, c.start.config = some old → ¬ (old.first = g.first ∧ old.count = g.count ∧ old.last = g.last)) →
    ∃ d, exec .loadComplete ⟨q, c⟩ = .next ⟨q, d⟩
      ∧ d.start = { c.start with line := .listen, config := some g, reading := false, byteLeft := none,
                                 listen := some 10 }
      ∧ d.time = c.time ∧ d.line.number = c.start.straps.toNat ∧ d.line.phase = .counting
      ∧ d.table.ovens.length = g.count
      ∧ (∀ j o, d.table.ovens[j]? = some o →
          o.number = g.first + j ∧ o.phase = .unknown ∧ o.minutes = 0 ∧ o.target = g.planT ∧ o.allowance = g.planE
            ∧ o.stage = none ∧ o.inhibited = false ∧ o.hardCount = 0 ∧ o.filtered = none ∧ o.feedback = none
            ∧ o.stuck = false ∧ o.invalid = 0 ∧ o.stuckCount = 0 ∧ o.noDraw = 0 ∧ o.isoCount = 0
            ∧ (anyRemoved d j = false →
                o.mode = .hold ∧ o.command = g.unknownRow.umin ∧ o.integrator = g.unknownRow.umin * 1024)
            ∧ (anyRemoved d j = true → o.mode = .closed ∧ o.command = 0 ∧ o.integrator = 0))
      ∧ d.table.pendT = g.planT ∧ d.table.pendE = g.planE ∧ d.table.nmin = g.planNmin ∧ d.table.edge = none ∧ d.table.seedNeeded = true
      ∧ d.table.below = (if 1 < g.first then some ⟨g.first - 1, .unknown, 0, 900, false⟩ else none)
      ∧ d.table.above =
          (if g.first + g.count - 1 < g.last then some ⟨g.first + g.count, .unknown, 0, 900, false⟩ else none)
      ∧ d.round = ⟨false, 0, none, false, []⟩ ∧ d.held = ⟨none, 0, g.tclaim, none, none⟩
      ∧ d.job = ⟨.idle, none, none, false, false, 0, 0, none, none, false, false⟩
      ∧ d.track = Tracker.unknown g.staleLimit
      ∧ d.reg.cycle = none ∧ d.reg.answer = none ∧ d.reg.mainSend = none
      ∧ d.reg.period = some ((g.tc + 9) / 10) ∧ d.reg.framesOn = true ∧ ListenFrame c d
      ∧ d.reg.main = ⟨g.tap, none, 0, if g.tap then 0 else 60, true, false⟩
      ∧ (d.events.enable = if c.start.config.isNone then g.reportSet else c.events.enable)
      ∧ (CountersInv c →
          (d.events.entry 7).count = min 255 ((c.events.entry 7).count + (loadedConfig c.start.image).2)
            ∧ (d.events.entry 7).first = (c.events.entry 7).first)

/-- R131, R134, R148: the door records formed at a sound load where no configuration was in force, or F, k or N differs, from the
accepted inputs as they stand; and, where an image was loaded before the first 10 ms tick, at that tick, from the inputs as it
accepts them. One is formed for each channel 0 to 2k − 1, its state from the accepted pair alone, its open seconds, score and
dead count 0, its reference the image's; UNAUTHORISED DOOR is counted for each door found off, and DOOR INPUT CONFLICT for each
that reads latched; the valve of an oven with a door off is CLOSED; the scanner starts at the next 10 ms tick.
Which events are due is a field of the model's own (assumption log 5, DESIGN CHOICE). -/
def Obligations.DoorsFormed : Prop :=
  (∀ (q : List Instr) (c : Controller) (g : Config), c.start.powerOn = false → c.due.loadComplete = true →
    imageByte c.start.image 0 + 3 ≤ c.start.image.length →
    soundLoad c.start.straps c.start.image → g = (loadedConfig c.start.image).1 →
    (∀ old, c.start.config = some old → ¬ (old.first = g.first ∧ old.count = g.count ∧ old.last = g.last)) →
    inputsAccepted c = true →
    ∃ d, exec .loadComplete ⟨q, c⟩ = .next ⟨q, d⟩ ∧ d.scan.running = false ∧ FormsDoors g c d
      ∧ d.doors.presentIn = c.doors.presentIn ∧ d.doors.latchedIn = c.doors.latchedIn)
  ∧ (∀ (q : List Instr) (c : Controller) (g : Config) (p l : BitVec 16), Ready c → c.start.config = some g →
    c.doors.doors = [] → c.job.oven = none →
    ∃ d, exec (.tick10ms p l) ⟨q, c⟩ = .next ⟨q, d⟩ ∧ FormsDoors g c d ∧ d.due.doorInput = []
      ∧ (∀ ch i, c.doors.presentIn[ch]? = some i → i.accepted = none → acceptedAt d.doors.presentIn ch = p.getLsbD ch)
      ∧ (∀ ch i, c.doors.latchedIn[ch]? = some i → i.accepted = none → acceptedAt d.doors.latchedIn ch = l.getLsbD ch)
      ∧ (∀ j o, ovenAt c j = some o → anyRemoved d j = false → ovenAt d j = some o))

/-- R21, R70, R118, R133, R149, R171, R196, R197: what a sound load of the same F, k and N keeps where no push job stands beyond
CLAIMING: the oven records, the neighbour records, the pending plan, Nmin, the door records and the report-enable set;
and what it empties. The entry to LISTEN requests a positioner frame with the commands kept, which is held where a frame is still
being sent. CONFIG CLAMPED is counted under kind 7 once for each correction, and names no oven.
Which events are due is a field of the model's own (assumption log 5, DESIGN CHOICE). The end of the SEED NEEDED still to be
counted is read from R21 (assumption log 15, DEDUCED). The main age of a tap station and the travel limit (inside
Tracker.unknown) are the model's values (assumption log 13, DESIGN CHOICE). -/
def Obligations.WarmLoadKeeps : Prop :=
  ∀ (q : List Instr) (c : Controller) (old g : Config), c.start.powerOn = false → c.due.loadComplete = true →
    imageByte c.start.image 0 + 3 ≤ c.start.image.length →
    soundLoad c.start.straps c.start.image → g = (loadedConfig c.start.image).1 → c.start.config = some old →
    old.first = g.first → old.count = g.count → old.last = g.last → c.start.line = .loading →
    (c.job.state = .idle ∨ c.job.state = .bidding ∨ c.job.state = .claiming) →
    ∃ d, exec .loadComplete ⟨q, c⟩ = .next ⟨q, d⟩
      ∧ d.start = { c.start with line := .listen, config := some g, reading := false, byteLeft := none,
                                 listen := some 10 }
      ∧ d.time = c.time ∧ d.line.number = c.start.straps.toNat ∧ d.line.rx = c.line.rx ∧ d.line.tx = c.line.tx
      ∧ d.table = { c.table with edge := none, seedNeeded := false }
      ∧ d.doors.presentIn = c.doors.presentIn ∧ d.doors.latchedIn = c.doors.latchedIn
      ∧ d.doors.doors = c.doors.doors.map
          (fun r => if r.state = .checking then { r with checks := min r.checks g.nchk } else r)
      ∧ d.scan = c.scan
      ∧ d.round = ⟨false, 0, none, false, []⟩ ∧ d.held = ⟨none, 0, g.tclaim, none, none⟩
      ∧ d.job = ⟨.idle, none, none, false, false, 0, 0, none, c.job.owed, false, false⟩
      ∧ d.track = Tracker.unknown g.staleLimit
      ∧ d.reg.main = ⟨g.tap, none, 0, if g.tap then 0 else 60, true, false⟩
      ∧ d.reg.period = some ((g.tc + 9) / 10) ∧ d.events.enable = c.events.enable
      ∧ d.reg.framesOn = true ∧ ListenFrame c d
      ∧ (CountersInv c →
          (d.events.entry 7).count = min 255 ((c.events.entry 7).count + (loadedConfig c.start.image).2)
            ∧ (d.events.entry 7).first = (c.events.entry 7).first)

/-- R22, R100: the settlement of a push job beyond CLAIMING at a sound load of the same F, k and N, by the job oven's doors
and phase as they stand then.
Which events are due is a field of the model's own (assumption log 5, DESIGN CHOICE). -/
def Obligations.WarmLoadSettles : Prop :=
  ∀ (q : List Instr) (c : Controller) (old g : Config) (i n : Nat) (o : Oven), c.start.powerOn = false →
    c.due.loadComplete = true → imageByte c.start.image 0 + 3 ≤ c.start.image.length →
    soundLoad c.start.straps c.start.image → g = (loadedConfig c.start.image).1 → c.start.config = some old →
    old.first = g.first → old.count = g.count → old.last = g.last → c.start.line = .loading →
    c.job.state.beyondClaiming = true → c.job.oven = some n → ovenIndex c n = some i → ovenAt c i = some o →
    ∃ d o', exec .loadComplete ⟨q, c⟩ = .next ⟨q, d⟩ ∧ ovenAt d i = some o' ∧ o'.minutes = o.minutes
      ∧ (∀ j, j ≠ i → ovenAt d j = ovenAt c j)
      ∧ d.job.permitOut = false ∧ d.job.holdOut = false
      ∧ (anyRemoved c i = true →
          d.job.state = .reclosing ∧ d.job.oven = some n ∧ d.job.ownClaim = c.job.ownClaim ∧ d.job.owed = c.job.owed
            ∧ d.job.minutes = 0 ∧ d.job.holdSecs = 0 ∧ d.job.cause = none
            ∧ (o.phase = .isolating ∨ o.phase = .isolated →
                d.job.started = false ∧ d.job.ended = false ∧ o'.phase = o.phase)
            ∧ (o.phase = .pushing → d.job.started = true ∧ d.job.ended = false ∧ o'.phase = .sticker)
            ∧ (o.phase = .empty ∨ o.phase = .sticker →
                d.job.started = true ∧ d.job.ended = true ∧ o'.phase = o.phase))
      ∧ (anyRemoved c i = false →
          d.job.state = .idle ∧ d.job.oven = none
            ∧ (o.phase = .isolating ∨ o.phase = .isolated →
                d.job.owed = some ⟨n, .aborted⟩ ∧ o'.phase = .coking ∧ o'.mode = .regulate)
            ∧ (o.phase = .pushing → d.job.owed = some ⟨n, .aborted⟩ ∧ o'.phase = .sticker)
            ∧ (o.phase = .empty ∨ o.phase = .sticker →
                d.job.owed = some ⟨n, .pushed⟩ ∧ o'.phase = o.phase))

/-- R18, R20, R92, R162, R189, R197: the LISTEN timer's expiry makes the station ACTIVE, starts the edge-PHASE refresh and, at a tap
station, the MAIN send timer, and queues a PHASE for the first and the last oven of the section; the oven records stay. At
the first entry after a cold start SEED NEEDED is counted once for each UNKNOWN oven, the lowest the first oven of the entry.
A release owed is offered and, the queue having room, is owed no more; an EVENT is queued where a kind is then reportable.
Which events are due is a field of the model's own (assumption log 5, DESIGN CHOICE). -/
def Obligations.BecomesActive : Prop :=
  ∀ (q : List Instr) (c : Controller) (a z : Oven), c.start.powerOn = false → c.due.listenTimer = true →
    c.start.line = .listen → c.line.tx = [] → ovenAt c 0 = some a → c.table.ovens.getLast? = some z →
    c.table.ovens.length ≤ 8 → (a = z ∨ a.number ≠ z.number ∧ a.number ≤ 192 ∧ z.number ≤ 192) →
    ∃ d, exec .listenTimerExpiry ⟨q, c⟩ = .next ⟨q, d⟩
      ∧ d.start = { c.start with line := .active, listen := none }
      ∧ d.table = { c.table with edge := some 60, seedNeeded := false }
      ∧ d.reg.mainSend = (if c.reg.main.tap then some 1 else none)
      ∧ waitsInTx (phaseTelegram (ownNumber c) a) d ∧ waitsInTx (phaseTelegram (ownNumber c) z) d
      ∧ d.time = c.time ∧ d.round = c.round ∧ d.held = c.held ∧ d.doors = c.doors ∧ d.scan = c.scan
      ∧ d.line.rx = c.line.rx ∧ d.job = { c.job with owed := none }
      ∧ (∀ w, c.job.owed = some w → waitsInTx (releaseTelegram (ownNumber c) w.oven w.outcome) d)
      ∧ (∀ j, c.events.queued = false → 1 ≤ j → j ≤ 30 → d.events.reportable j = true →
          d.events.queued = true ∧ waitsInTx (eventTelegram (ownNumber c)) d)
      ∧ (CountersInv c → (d.events.entry 7).count = min 255 ((c.events.entry 7).count
          + (if c.table.seedNeeded then c.table.ovens.countP (fun o => o.phase = .unknown) else 0)))
      ∧ (c.table.seedNeeded = false → d.events.entry 7 = c.events.entry 7)
      ∧ (∀ i, thirtyEntries c → c.table.seedNeeded = true → (c.events.entry 7).first = none → phaseAt c i = some .unknown →
          (∀ j, j < i → phaseAt c j ≠ some .unknown) → (d.events.entry 7).first = some ((cfg c).first + i))

/-! ## Time -/

/-- R1, R2, R50, R120, R121, R138, R151, R194: a 10 ms tick raises the tick count, makes the second tick due at every 100th,
samples the door inputs, making DOOR_INPUT_ACCEPTED due for each door record whose accepted pair has changed, and counts down
the bid window, the leak gate, the control period, the answer limit and the image byte's 100 ms, making their expiries due;
nothing else is due, and nothing else changes but where the tick forms the door records (R131, which DoorsFormed states).
Which events are due is a field of the model's own (assumption log 5, DESIGN CHOICE). -/
def Obligations.TickCounts : Prop :=
  ∀ (q : List Instr) (c : Controller) (p l : BitVec 16), Ready c → nothingWaits c = true →
    ∃ d, exec (.tick10ms p l) ⟨q, c⟩ = .next ⟨q, d⟩
      ∧ (c.start.config = none ∨ c.doors.doors ≠ [] →
          d = { c with start := d.start, time := d.time, round := d.round, scan := d.scan, reg := d.reg, doors := d.doors,
                       due := d.due }
            ∧ d.scan = (if c.scan.running then { c.scan with ticksLeft := c.scan.ticksLeft - 1 } else c.scan)
            ∧ d.doors.doors = c.doors.doors
            ∧ d.reg = { c.reg with period := d.reg.period, answer := d.reg.answer })
      ∧ d.time = (if 100 ≤ c.time.ticks + 1 then ⟨0, c.time.seconds⟩ else ⟨c.time.ticks + 1, c.time.seconds⟩)
      ∧ d.due = { Due.nothing with
          second := d.due.second, bidWindow := d.due.bidWindow, gateExpiry := d.due.gateExpiry, gateStart := d.due.gateStart
          controlPeriod := d.due.controlPeriod, answerLimit := d.due.answerLimit, byteTimeout := d.due.byteTimeout
          doorInput := d.due.doorInput }
      ∧ d.due.second = decide (100 ≤ c.time.ticks + 1)
      ∧ d.round = (if c.round.opened then { c.round with window := c.round.window - 10 } else c.round)
      ∧ d.due.bidWindow = (c.round.opened && decide (c.round.window ≤ 10))
      ∧ d.due.gateExpiry = (c.scan.running && decide (c.scan.ticksLeft ≤ 1))
      ∧ d.due.gateStart = (!c.scan.running && c.scan.startNext)
      ∧ (∀ n, c.reg.period = some n →
          d.reg.period = some (if n ≤ 1 then ((cfg c).tc + 9) / 10 else n - 1) ∧ d.due.controlPeriod = decide (n ≤ 1))
      ∧ (∀ n, c.reg.answer = some n →
          d.reg.answer = (if n ≤ 1 then none else some (n - 1)) ∧ d.due.answerLimit = decide (n ≤ 1))
      ∧ (c.reg.period = none → d.reg.period = none ∧ d.due.controlPeriod = false)
      ∧ (c.reg.answer = none → d.reg.answer = none ∧ d.due.answerLimit = false)
      ∧ d.start = { c.start with byteLeft := d.start.byteLeft }
      ∧ (∀ n, c.start.byteLeft = some n →
          d.start.byteLeft = (if n ≤ 1 then none else some (n - 1)) ∧ d.due.byteTimeout = decide (n ≤ 1))
      ∧ (c.start.byteLeft = none → d.start.byteLeft = none ∧ d.due.byteTimeout = false)
      ∧ d.doors.presentIn.length = c.doors.presentIn.length ∧ d.doors.latchedIn.length = c.doors.latchedIn.length
      ∧ d.due.doorInput = (List.range c.doors.doors.length).filter (fun ch => decide (
          (d.doors.presentIn[ch]?).map (·.accepted) ≠ (c.doors.presentIn[ch]?).map (·.accepted)
            ∨ (d.doors.latchedIn[ch]?).map (·.accepted) ≠ (c.doors.latchedIn[ch]?).map (·.accepted)))

/-- R120, for both inputs of every channel: the first sample after POWER-ON is accepted; later a sample equal to the accepted
value sets the run count to 0, and a differing one raises it, and is accepted where the run count was already 4. Five
differing samples in a row are so accepted, and four are not. -/
def Obligations.InputsDebounced : Prop :=
  (∀ (q : List Instr) (c : Controller) (p l : BitVec 16) (ch : Nat) (i : DoorInput), Ready c →
    ∃ d, exec (.tick10ms p l) ⟨q, c⟩ = .next ⟨q, d⟩
      ∧ (c.doors.presentIn[ch]? = some i → d.doors.presentIn[ch]? = some (
          match i.accepted with
          | none => ⟨some (p.getLsbD ch), 0⟩
          | some a => if p.getLsbD ch = a then ⟨some a, 0⟩
              else if i.run = 4 then ⟨some (p.getLsbD ch), 0⟩ else ⟨some a, i.run + 1⟩))
      ∧ (c.doors.latchedIn[ch]? = some i → d.doors.latchedIn[ch]? = some (
          match i.accepted with
          | none => ⟨some (l.getLsbD ch), 0⟩
          | some a => if l.getLsbD ch = a then ⟨some a, 0⟩
              else if i.run = 4 then ⟨some (l.getLsbD ch), 0⟩ else ⟨some a, i.run + 1⟩)))
    ∧ (∀ (a : Bool) (xs : List Bool), xs.length ≤ 5 →
        (xs.foldl (fun i x => DoorInput.sample x i) ⟨some a, 0⟩).accepted = some (if xs = List.replicate 5 (!a) then !a else a))

/-- R16, R18, R86, R104, R105, R111, R124, R125, R126, R162, R163, R197: a second tick raises the ages, the open seconds and
the hold seconds and counts down the second timers, each holding at its limit; it makes due the minute tick at every 60th, the
warning and the overdue point of each opening that has reached them, the loss of each known neighbour and the staleness of
each machine and of the main whose age has reached its limit, and the expiries of the second timers. Nothing else changes.
Which events are due is a field of the model's own (assumption log 5, DESIGN CHOICE). -/
def Obligations.SecondTickCounts : Prop :=
  ∀ (q : List Instr) (c : Controller), c.start.powerOn = false → c.due.second = true → nothingWaits c = true →
    ∃ d, exec .secondTick ⟨q, c⟩ = .next ⟨q, d⟩
      ∧ d = { c with start := d.start, time := d.time, table := d.table, job := d.job, track := d.track, doors := d.doors,
                     reg := d.reg, due := d.due }
      ∧ d.due = { c.due with
          second := false, minute := d.due.minute, doorWarn := d.due.doorWarn, doorOverdue := d.due.doorOverdue
          lostBelow := d.due.lostBelow, lostAbove := d.due.lostAbove, stalePusher := d.due.stalePusher
          staleGuide := d.due.staleGuide, staleCar := d.due.staleCar, mainStale := d.due.mainStale
          holdTimer := d.due.holdTimer, travelTimer := d.due.travelTimer, listenTimer := d.due.listenTimer
          edgeRefresh := d.due.edgeRefresh, mainSend := d.due.mainSend }
      ∧ d.time = (if 60 ≤ c.time.seconds + 1 then ⟨c.time.ticks, 0⟩ else ⟨c.time.ticks, c.time.seconds + 1⟩)
      ∧ d.due.minute = (c.due.minute || decide (60 ≤ c.time.seconds + 1))
      ∧ d.doors = { c.doors with doors := c.doors.doors.map (fun r =>
          if r.state = .unlatched ∨ r.state = .removed then { r with openSecs := min 3600 (r.openSecs + 1) } else r) }
      ∧ (∀ ch, ch ∈ d.due.doorWarn ↔ ∃ r, d.doors.doors[ch]? = some r
          ∧ (r.state = .unlatched ∨ r.state = .removed) ∧ (cfg c).tdw ≤ r.openSecs ∧ r.warned = false)
      ∧ (∀ ch, ch ∈ d.due.doorOverdue ↔ ∃ r, d.doors.doors[ch]? = some r
          ∧ (r.state = .unlatched ∨ r.state = .removed) ∧ (cfg c).tdo ≤ r.openSecs ∧ r.overdue = false)
      ∧ d.table = { c.table with
          below := c.table.below.map (fun n => { n with age := min 900 (n.age + 1) })
          above := c.table.above.map (fun n => { n with age := min 900 (n.age + 1) })
          edge := d.table.edge }
      ∧ (d.due.lostBelow = true ↔ ∃ n, d.table.below = some n ∧ n.known = true ∧ (cfg c).tnb ≤ n.age)
      ∧ (d.due.lostAbove = true ↔ ∃ n, d.table.above = some n ∧ n.known = true ∧ (cfg c).tnb ≤ n.age)
      ∧ (∀ n, c.table.edge = some n → d.table.edge = some (if n ≤ 1 then 60 else n - 1) ∧ d.due.edgeRefresh = decide (n ≤ 1))
      ∧ (c.table.edge = none → d.table.edge = none ∧ d.due.edgeRefresh = false)
      ∧ d.start = { c.start with listen := d.start.listen }
      ∧ (∀ n, c.start.listen = some n →
          d.start.listen = (if n ≤ 1 then none else some (n - 1)) ∧ d.due.listenTimer = decide (n ≤ 1))
      ∧ (c.start.listen = none → d.start.listen = none ∧ d.due.listenTimer = false)
      ∧ (receiving c = true →
          d.track.pusher = { c.track.pusher with age := min 60 (c.track.pusher.age + 1) }
            ∧ d.track.guide = { c.track.guide with age := min 60 (c.track.guide.age + 1) }
            ∧ d.track.car = { c.track.car with age := min 60 (c.track.car.age + 1) }
            ∧ d.track.call = (if c.track.call.step = .sent
                then { c.track.call with remaining := c.track.call.remaining - 1 } else c.track.call)
            ∧ d.due.stalePusher = (!c.track.pusher.stale && decide ((cfg c).staleLimit ≤ d.track.pusher.age))
            ∧ d.due.staleGuide = (!c.track.guide.stale && decide ((cfg c).staleLimit ≤ d.track.guide.age))
            ∧ d.due.staleCar = (!c.track.car.stale && decide ((cfg c).staleLimit ≤ d.track.car.age))
            ∧ d.due.travelTimer = (c.track.call.step == .sent && decide (c.track.call.remaining ≤ 1)))
      ∧ (receiving c = false → d.track = c.track ∧ d.due.stalePusher = c.due.stalePusher ∧ d.due.staleGuide = c.due.staleGuide
          ∧ d.due.staleCar = c.due.staleCar ∧ d.due.travelTimer = c.due.travelTimer)
      ∧ d.job = (if receiving c = true ∧ c.job.state = .held
          then { c.job with holdSecs := min 300 (c.job.holdSecs + 1) } else c.job)
      ∧ d.due.holdTimer = (if receiving c = true ∧ c.job.state = .held
          then decide ((cfg c).holdLimit ≤ min 300 (c.job.holdSecs + 1)) else c.due.holdTimer)
      ∧ d.reg = { c.reg with
          mainSend := (match c.reg.mainSend with | none => none | some n => some (if n ≤ 1 then 1 else n - 1))
          main := { c.reg.main with
            age := if c.start.config.isSome ∧ c.reg.main.tap = false then min 60 (c.reg.main.age + 1) else c.reg.main.age } }
      ∧ d.due.mainSend = (match c.reg.mainSend with | none => false | some n => decide (n ≤ 1))
      ∧ d.due.mainStale = (if c.start.config.isSome
          then !c.reg.main.tap && !c.reg.main.stale && decide ((cfg c).tstale ≤ d.reg.main.age) else c.due.mainStale)

/-- R10, R12, R16, R55, R66, R68, R76, R94: a minute tick that queues no BID, because no round is open for one, because no oven is
eligible, or because the BID does not beat the head of the list, raises the coking minutes of the
COKING ovens (their stage derived afresh) and of the known COKING neighbours, the held-claim age and the job minutes, each
holding at its limit, and makes the job limit and the claim's expiry due; nothing else changes.
Which events are due is a field of the model's own (assumption log 5, DESIGN CHOICE). The
operand b says which of R55's two orders is taken; that the neighbours' minutes are read on the same side as the ovens' is the
model's choice too (assumption log 11, DESIGN CHOICE). -/
def Obligations.MinuteTickCounts : Prop :=
  ∀ (q : List Instr) (c : Controller) (b : Bool), c.start.powerOn = false → c.due.minute = true →
    nothingWaits c = true →
    (c.round.opened = false ∨ isActive c = false ∨ c.job.state ≠ .idle ∨ c.round.ownBid ≠ none
      ∨ (∀ i o, chooseOven (if b then c else { c with table := minutesRisen c }) = some (i, o) →
          ∃ h l, c.round.bids = h :: l
            ∧ h.ident ≤ (bidTelegram (ownNumber c) (255 - urgency o) o.number o.minutes).ident)) →
    ∃ d, exec (.minuteTick b) ⟨q, c⟩ = .next ⟨q, d⟩
      ∧ d = { c with table := d.table, held := d.held, job := d.job, due := d.due }
      ∧ d.table = { c.table with ovens := d.table.ovens, below := d.table.below, above := d.table.above }
      ∧ d.table.ovens.length = c.table.ovens.length
      ∧ (∀ i o, ovenAt c i = some o → ∃ o', ovenAt d i = some o'
          ∧ (o.phase ≠ .coking → o' = o)
          ∧ (o.phase = .coking → o' = { o with minutes := min 4095 (o.minutes + 1)
                                               stage := some (stageFor (cfg c) o.target (min 4095 (o.minutes + 1))) }))
      ∧ d.table.below = c.table.below.map (fun n =>
          if n.known = true ∧ n.heard = .coking then { n with minutes := min 4095 (n.minutes + 1) } else n)
      ∧ d.table.above = c.table.above.map (fun n =>
          if n.known = true ∧ n.heard = .coking then { n with minutes := min 4095 (n.minutes + 1) } else n)
      ∧ d.held = (if c.held.claim.isSome then { c.held with age := min 90 (c.held.age + 1) } else c.held)
      ∧ d.job = (if receiving c = true ∧ c.job.state.claimedToHeld = true
          then { c.job with minutes := min 255 (c.job.minutes + 1) } else c.job)
      ∧ d.due = { c.due with minute := false, claimExpired := d.due.claimExpired, jobLimit := d.due.jobLimit }
      ∧ d.due.claimExpired = (c.held.claim.isSome && decide (c.held.limit ≤ min 90 (c.held.age + 1)))
      ∧ d.due.jobLimit = (if receiving c = true ∧ c.job.state.claimedToHeld = true
          then decide (c.job.state = .claimed ∨ c.job.state = .doors ∨ c.job.state = .staged)
            && decide ((cfg c).jobLimit ≤ min 255 (c.job.minutes + 1))
          else c.due.jobLimit)

/-! ## Doors -/

/-- R121, R122, R123, R138, R144: the door record of a channel whose accepted pair has changed, derived from the pair as it
stands, and what a change of its state does to it and to the scanner; no other door record changes. DOOR INPUT CONFLICT is
counted for the oven where the derivation leaves the door REMOVED with latched yes for the first time in its stay, and not
otherwise.
Which events are due is a field of the model's own (assumption log 5, DESIGN CHOICE). -/
def Obligations.DoorDerived : Prop :=
  ∀ (q : List Instr) (c : Controller) (ch : Nat) (r : Door) (p l : Bool), c.start.powerOn = false →
    ch ∈ c.due.doorInput → ch ∉ c.due.doorWarn → ch ∉ c.due.doorOverdue → c.doors.doors[ch]? = some r →
    p = acceptedAt c.doors.presentIn ch → l = acceptedAt c.doors.latchedIn ch →
    ∃ d r', exec (.doorInputAccepted ch) ⟨q, c⟩ = .next ⟨q, d⟩ ∧ d.doors.doors[ch]? = some r'
      ∧ r'.present = p ∧ r'.latched = l
      ∧ r'.state = (if p = false then .removed else if l = false then .unlatched
          else if r.state = .unlatched ∨ r.state = .removed then .checking else r.state)
      ∧ (r'.state = .removed → r'.conflict = (r.conflict || l))
      ∧ (r'.state ≠ .removed → r.state = .removed → r'.conflict = false)
      ∧ (thirtyEntries c → r'.state = .removed → l = true → r.conflict = false → countedOnce 17 c d
          ∧ ((c.events.entry 17).first = none → (d.events.entry 17).first = some ((cfg c).first + ch / 2)))
      ∧ (r'.state ≠ .removed ∨ l = false ∨ r.conflict = true → d.events.entry 17 = c.events.entry 17)
      ∧ (r'.state = .checking → r.state ≠ .checking →
          r'.openSecs = 0 ∧ r'.warned = false ∧ r'.overdue = false ∧ r'.score = 0 ∧ r'.checks = (cfg c).nchk
            ∧ (c.scan.running = false → d.scan.startNext = true))
      ∧ (r'.state ≠ .checking ∨ r.state = .checking →
          r'.openSecs = r.openSecs ∧ r'.warned = r.warned ∧ r'.overdue = r.overdue ∧ r'.score = r.score)
      ∧ (r'.state = .unlatched ∨ r'.state = .removed → r.state.latchedState = true →
          r'.checks = 0 ∧ (c.scan.running = true → c.scan.channel = ch → d.scan.spoiled = true))
      ∧ r'.ref = r.ref ∧ r'.last = r.last ∧ r'.dead = r.dead
      ∧ (∀ j, j ≠ ch → d.doors.doors[j]? = c.doors.doors[j]?)
      ∧ d.start = c.start ∧ d.time = c.time ∧ d.round = c.round ∧ d.held = c.held ∧ d.line.rx = c.line.rx
      ∧ d.due = { c.due with doorInput := c.due.doorInput.filter (· != ch), holdTimer := d.due.holdTimer,
                             travelTimer := d.due.travelTimer }

/-- R127, R129, R156, R160: on an oven that is not the job's, the first door to enter REMOVED closes the valve at once and is
counted UNAUTHORISED DOOR, and the last REMOVED door to leave gives the valve back to the mode of the oven's phase.
R78, R79, R81, R84, R89: on the job's oven a door that comes off in CLAIMED closes the valve, is counted EARLY DOOR and not
UNAUTHORISED DOOR, and moves the oven to ISOLATED and the job to DOORS with a PERMIT DOORS; in DOORS the second door off moves
the job to STAGED, and at once to PERMITTED where the permit conditions hold; a door put back holds a PERMITTED or PUSHING
job; in RECLOSING the door that leaves both latched ends the job.
Which events are due is a field of the model's own (assumption log 5, DESIGN CHOICE). -/
def Obligations.DemandMovesValve : Prop :=
  (∀ (q : List Instr) (c : Controller) (ch : Nat) (r : Door) (o : Oven), c.start.powerOn = false →
    ch ∈ c.due.doorInput → ch ∉ c.due.doorWarn → ch ∉ c.due.doorOverdue → c.doors.doors[ch]? = some r →
    ovenAt c (ch / 2) = some o → jobIndex c ≠ some (ch / 2) → thirtyEntries c →
    ∃ d o', exec (.doorInputAccepted ch) ⟨q, c⟩ = .next ⟨q, d⟩ ∧ ovenAt d (ch / 2) = some o'
      ∧ (∀ j, j ≠ ch / 2 → ovenAt d j = ovenAt c j)
      ∧ o'.phase = o.phase ∧ o'.minutes = o.minutes ∧ o'.target = o.target
      ∧ (r.state ≠ .removed → acceptedAt c.doors.presentIn ch = false → countedOnce 16 c d)
      ∧ (anyRemoved c (ch / 2) = false → acceptedAt c.doors.presentIn ch = false →
          o' = { o with mode := .closed, command := 0, integrator := 0, isoCount := 0, noDraw := 0 }
            ∧ (c.reg.framesOn = true → c.reg.frame = none → ch < 16 →
                ∃ f, d.reg.frame = some f ∧ f[ch / 2]? = some 0))
      ∧ (anyRemoved c (ch / 2) = true → anyRemoved d (ch / 2) = false →
          (o.phase = .empty ∨ o.phase = .isolated ∨ o.phase = .pushing ∨ o.phase = .sticker →
              o'.mode = .closed ∧ o'.command = 0 ∧ o'.integrator = 0)
            ∧ (o.phase = .charging → o'.mode = .forced ∧ o'.command = (cfg c).uchg)
            ∧ (o.phase = .isolating → o'.mode = .isolating ∧ o'.command = o.command)
            ∧ (o.phase = .coking ∨ o.phase = .unknown → o'.mode = .regulate ∧ o'.command = o.command
                ∧ o'.integrator = clampInt (o.command * 1024) ((rowInForce (cfg c) o).umin * 1024)
                    ((rowInForce (cfg c) o).umax * 1024))))
  ∧ (∀ (q : List Instr) (c : Controller) (ch n : Nat) (r : Door) (o : Oven), c.start.powerOn = false →
    ch ∈ c.due.doorInput → ch ∉ c.due.doorWarn → ch ∉ c.due.doorOverdue → c.doors.doors[ch]? = some r →
    ovenAt c (ch / 2) = some o → receiving c = true → c.job.oven = some n → ovenIndex c n = some (ch / 2) → thirtyEntries c →
    (r.state ≠ .removed → acceptedAt c.doors.presentIn ch = false → c.job.state = .claimed → anyRemoved c (ch / 2) = false →
      ∃ d, exec (.doorInputAccepted ch) ⟨q, c⟩ = .next ⟨q, d⟩ ∧ countedOnce 15 c d
        ∧ ((c.events.entry 15).first = none → (d.events.entry 15).first = some n) ∧ d.events.entry 16 = c.events.entry 16
        ∧ d.job = { c.job with state := .doors, permitOut := false, holdOut := false, owed := d.job.owed }
        ∧ ovenAt d (ch / 2) = some { o with
            phase := .isolated, stage := none, mode := .closed, command := 0, integrator := 0, isoCount := 0, noDraw := 0 }
        ∧ (∀ j, j ≠ ch / 2 → ovenAt d j = ovenAt c j)
        ∧ (isActive c = true → roomFor 4 c → c.job.owed = none →
            waitsInTx (permitTelegram (ownNumber c) n permitDoorsCode) d
              ∧ waitsInTx (phaseTelegram (ownNumber c) { o with phase := .isolated }) d))
    ∧ (r.state ≠ .removed → acceptedAt c.doors.presentIn ch = false → c.job.state = .doors →
      ∃ d, exec (.doorInputAccepted ch) ⟨q, c⟩ = .next ⟨q, d⟩ ∧ (∀ j, j ≠ ch / 2 → ovenAt d j = ovenAt c j)
        ∧ (bothRemoved d (ch / 2) = false → d.job = { c.job with owed := d.job.owed })
        ∧ (bothRemoved d (ch / 2) = true → permitConditions d (ch / 2) n = false →
            d.job = { c.job with state := .staged, permitOut := false, holdOut := false, owed := d.job.owed })
        ∧ (bothRemoved d (ch / 2) = true → permitConditions d (ch / 2) n = true →
            d.job = { c.job with state := .permitted, permitOut := true, holdOut := false, owed := d.job.owed }
              ∧ (isActive c = true → roomFor 4 c → c.job.owed = none →
                  waitsInTx (permitTelegram (ownNumber c) n permitPushCode) d)))
    ∧ (r.state = .removed → acceptedAt c.doors.presentIn ch = true → (c.job.state = .permitted ∨ c.job.state = .pushing) →
      ∃ d, exec (.doorInputAccepted ch) ⟨q, c⟩ = .next ⟨q, d⟩ ∧ countedOnce 25 c d
        ∧ d.job = { c.job with state := .held, holdSecs := 0, cause := some .condition, permitOut := false, holdOut := true,
                               owed := d.job.owed }
        ∧ (isActive c = true → roomFor 4 c → waitsInTx (haltTelegram (ownNumber c) n) d))
    ∧ (r.state.latchedState = false → acceptedAt c.doors.presentIn ch = true → acceptedAt c.doors.latchedIn ch = true →
        c.job.state = .reclosing →
      ∃ d, exec (.doorInputAccepted ch) ⟨q, c⟩ = .next ⟨q, d⟩ ∧ (∀ j, j ≠ ch / 2 → ovenAt d j = ovenAt c j)
        ∧ (bothLatched d (ch / 2) = false → d.job = { c.job with owed := d.job.owed })
        ∧ (bothLatched d (ch / 2) = true →
            JobEnds n (ch / 2) (if r.state = .removed then o.enterMode (cfg c) else o)
              (if c.job.ended then .pushed else .aborted) c d)))

/-- R124, R125, R126: at the warning and the overdue point of an opening the flag is set and the event counted, once. The
overdue point moves no other block where the oven is not the job's or the ram is in the chamber (R90, R95); on the oven of a job
that is CLAIMED, DOORS, STAGED or PERMITTED, or HELD before the push has started, it aborts the job with reason 1 (R93, R95).
Which events are due is a field of the model's own (assumption log 5, DESIGN CHOICE). -/
def Obligations.OpeningPoints : Prop :=
  ∀ (q : List Instr) (c : Controller) (ch : Nat) (r : Door), c.start.powerOn = false → thirtyEntries c →
    c.doors.doors[ch]? = some r → (r.state = .unlatched ∨ r.state = .removed) →
    (ch ∈ c.due.doorWarn → (cfg c).tdw ≤ r.openSecs → r.warned = false →
      ∃ d, exec (.doorWarn ch) ⟨q, c⟩ = .next ⟨q, d⟩ ∧ countedOnce 18 c d
        ∧ OnlyOffers { c with
            doors := { c.doors with doors := c.doors.doors.set ch { r with warned := true } }
            due := { c.due with doorWarn := c.due.doorWarn.filter (· != ch) } } d)
    ∧ (ch ∈ c.due.doorOverdue → ch ∉ c.due.doorWarn → (cfg c).tdo ≤ r.openSecs → r.overdue = false →
        (jobIndex c ≠ some (ch / 2) ∨ c.job.state = .idle ∨ c.job.state = .bidding ∨ c.job.state = .claiming
          ∨ c.job.state = .pushing ∨ (c.job.state = .held ∧ c.job.started = true) ∨ c.job.state = .reclosing) →
      ∃ d, exec (.doorOverdue ch) ⟨q, c⟩ = .next ⟨q, d⟩ ∧ countedOnce 19 c d
        ∧ OnlyOffers { c with
            doors := { c.doors with doors := c.doors.doors.set ch { r with overdue := true } }
            due := { c.due with doorOverdue := c.due.doorOverdue.filter (· != ch) } } d)
    ∧ (∀ n o, ch ∈ c.due.doorOverdue → ch ∉ c.due.doorWarn → (cfg c).tdo ≤ r.openSecs → r.overdue = false →
        receiving c = true → c.job.oven = some n → ovenIndex c n = some (ch / 2) → ovenAt c (ch / 2) = some o →
        (c.job.state = .claimed ∨ c.job.state = .doors ∨ c.job.state = .staged ∨ c.job.state = .permitted
          ∨ (c.job.state = .held ∧ c.job.started = false)) →
      ∃ d, exec (.doorOverdue ch) ⟨q, c⟩ = .next ⟨q, d⟩ ∧ countedOnce 19 c d ∧ AbortsJob 1 n (ch / 2) o c d
        ∧ d.doors = { c.doors with doors := c.doors.doors.set ch { r with overdue := true } }
        ∧ (c.job.state = .permitted → isActive c = true → roomFor 4 c → waitsInTx (haltTelegram (ownNumber c) n) d))

/-! ## The ends of a push job -/

/-- R9, R86, R89, R93, R94: the job limit in CLAIMED, DOORS or STAGED, and the hold timer, abort the job: JOB ABORTED with the
code of the reason; with no door off, from CLAIMED or DOORS, the oven is COKING again and the job IDLE with a RELEASE ABORTED;
otherwise the job is RECLOSING while a door stands off or unlatched.
Which events are due is a field of the model's own (assumption log 5, DESIGN CHOICE). -/
def Obligations.TimersAbortJob : Prop :=
  (∀ (q : List Instr) (c : Controller) (n i : Nat) (o : Oven), c.start.powerOn = false → c.due.jobLimit = true →
      isActive c = true → (c.job.state = .claimed ∨ c.job.state = .doors ∨ c.job.state = .staged) →
      (cfg c).jobLimit ≤ c.job.minutes → c.job.oven = some n → ovenIndex c n = some i → ovenAt c i = some o →
      thirtyEntries c → roomFor 4 c →
      ∃ d o', exec .jobLimitReached ⟨q, c⟩ = .next ⟨q, d⟩ ∧ ovenAt d i = some o' ∧ countedOnce 24 c d
        ∧ ((c.events.entry 24).first = none → (d.events.entry 24).first = some 2)
        ∧ (∀ j, j ≠ i → ovenAt d j = ovenAt c j) ∧ o'.minutes = o.minutes ∧ d.track.call.step = .none
        ∧ d.doors = c.doors ∧ d.held = c.held ∧ d.round = c.round
        ∧ (c.job.state ≠ .staged → anyRemoved c i = false →
            d.job.state = .idle ∧ d.job.oven = none ∧ waitsInTx (releaseTelegram (ownNumber c) n .aborted) d
              ∧ (o.phase = .isolating ∨ o.phase = .isolated → o'.phase = .coking)
              ∧ (o.phase = .empty ∨ o.phase = .sticker → o'.phase = o.phase))
        ∧ (c.job.state = .staged ∨ anyRemoved c i = true → bothLatched c i = false →
            d.job.state = .reclosing ∧ d.job.oven = some n ∧ d.job.permitOut = false ∧ d.job.holdOut = false
              ∧ d.job.started = c.job.started ∧ d.job.ended = c.job.ended ∧ o' = o))
  ∧ (∀ (q : List Instr) (c : Controller) (n i : Nat), c.start.powerOn = false → c.due.holdTimer = true →
      receiving c = true → c.job.state = .held → c.job.oven = some n → ovenIndex c n = some i → bothLatched c i = false →
      thirtyEntries c →
      ∃ d, exec .holdTimerExpiry ⟨q, c⟩ = .next ⟨q, d⟩ ∧ countedOnce 24 c d
        ∧ ((c.events.entry 24).first = none →
            (d.events.entry 24).first = some (if c.job.cause = some .supervisory then 6 else 3))
        ∧ d.job = { c.job with state := .reclosing, holdSecs := 0, cause := none, permitOut := false, holdOut := false,
                               owed := d.job.owed }
        ∧ d.track.call.step = .none ∧ d.table = c.table ∧ d.doors = c.doors ∧ d.held = c.held ∧ d.round = c.round
        ∧ d.reg.frame = c.reg.frame ∧ d.due.holdTimer = false)

/-! ## Records that go stale, claims that expire -/

/-- R16, R104, R105, R163: a record whose age has reached its limit: a neighbour is not known, NEIGHBOUR LOST counted; a machine
is stale, no event counted; the main is stale at a remote station, MAIN STALE counted. The last report is kept.
R81, R84, R104, R105: the push job is told of a machine's staleness and evaluates its conditions: in PERMITTED and PUSHING the push
is held, with cause CONDITION, a HALT, and PUSH HELD counted; in every other state of the job nothing but the record changes.
When what waits for a free place is offered (freePlace) is the model's choice (assumption log 9, DESIGN CHOICE).
Which events are due is a field of the model's own (assumption log 5, DESIGN CHOICE). -/
def Obligations.RecordsGoStale : Prop :=
  (∀ (q : List Instr) (c : Controller) (n : Neighbour), c.start.powerOn = false → thirtyEntries c → n.known = true →
      (cfg c).tnb ≤ n.age →
      (c.due.lostBelow = true → c.table.below = some n →
        ∃ d, exec (.neighbourLost .below) ⟨q, c⟩ = .next ⟨q, d⟩ ∧ countedOnce 11 c d
          ∧ ((c.events.entry 11).first = none → (d.events.entry 11).first = some n.oven)
          ∧ OnlyOffers { c with table := { c.table with below := some { n with known := false } }
                                due := { c.due with lostBelow := false } } d)
      ∧ (c.due.lostAbove = true → c.table.above = some n →
        ∃ d, exec (.neighbourLost .above) ⟨q, c⟩ = .next ⟨q, d⟩ ∧ countedOnce 11 c d
          ∧ ((c.events.entry 11).first = none → (d.events.entry 11).first = some n.oven)
          ∧ OnlyOffers { c with table := { c.table with above := some { n with known := false } }
                                due := { c.due with lostAbove := false } } d))
  ∧ (∀ (q : List Instr) (c k : Controller) (m : MachineId), c.start.powerOn = false →
      (m = .pusher ∧ c.due.stalePusher = true ∧ c.track.pusher.stale = false ∧ (cfg c).staleLimit ≤ c.track.pusher.age
          ∧ k = { c with track := { c.track with pusher := { c.track.pusher with stale := true } }
                         due := { c.due with stalePusher := false } }
        ∨ m = .guide ∧ c.due.staleGuide = true ∧ c.track.guide.stale = false ∧ (cfg c).staleLimit ≤ c.track.guide.age
          ∧ k = { c with track := { c.track with guide := { c.track.guide with stale := true } }
                         due := { c.due with staleGuide := false } }
        ∨ m = .qcar ∧ c.due.staleCar = true ∧ c.track.car.stale = false ∧ (cfg c).staleLimit ≤ c.track.car.age
          ∧ k = { c with track := { c.track with car := { c.track.car with stale := true } }
                         due := { c.due with staleCar := false } }) →
      exec (.machineStale m) ⟨q, c⟩ = .next ⟨q, freePlace (evaluate k)⟩
      ∧ (nothingWaits c = true → c.job.state ≠ .permitted → c.job.state ≠ .pushing →
          exec (.machineStale m) ⟨q, c⟩ = .next ⟨q, k⟩)
      ∧ (∀ n i, receiving c = true → c.job.oven = some n → ovenIndex c n = some i → thirtyEntries c →
          (c.job.state = .permitted ∨ c.job.state = .pushing) →
          ∃ d, exec (.machineStale m) ⟨q, c⟩ = .next ⟨q, d⟩
            ∧ OnlyOffers { k with
                job := { c.job with state := .held, holdSecs := 0, cause := some .condition, permitOut := false, holdOut := true }
                due := { k.due with holdTimer := false } } d
            ∧ countedOnce 25 c d ∧ (isActive c = true → roomFor 3 c → waitsInTx (haltTelegram (ownNumber c) n) d)))
  ∧ (∀ (q : List Instr) (c : Controller), c.start.powerOn = false → c.due.mainStale = true → thirtyEntries c →
      c.reg.main.tap = false → c.reg.main.stale = false → (cfg c).tstale ≤ c.reg.main.age →
      ∃ d, exec .mainStale ⟨q, c⟩ = .next ⟨q, d⟩ ∧ countedOnce 29 c d
        ∧ OnlyOffers { c with reg := { c.reg with main := { c.reg.main with stale := true } }
                              due := { c.due with mainStale := false } } d)

/-- R58: the window's expiry. With the own bid sent, at the head, and its oven still eligible, the CLAIM is queued and the job
is CLAIMING with its oven and identifier; in every other case no CLAIM is queued, a BIDDING job is IDLE and its BID
withdrawn, and any other job and the transmit queue stay as they were. The round closes.
Which events are due is a field of the model's own (assumption log 5, DESIGN CHOICE). -/
def Obligations.WindowDecides : Prop :=
  (∀ (q : List Instr) (c : Controller) (h : Bid) (rest : List Bid) (i : Nat) (o : Oven), c.start.powerOn = false →
    c.due.bidWindow = true → isActive c = true → roomFor 1 c → c.job.state = .bidding → c.round.ownSent = true →
    c.round.bids = h :: rest → h.src = ownNumber c → ovenIndex c h.oven = some i → ovenAt c i = some o →
    eligible c i = true →
    ∃ d t, exec .bidWindowExpiry ⟨q, c⟩ = .next ⟨q, d⟩ ∧ t = claimTelegram (ownNumber c) (h.ident / 32 % 256) h.oven o.minutes
      ∧ waitsInTx t d
      ∧ d.job = { c.job with state := .claiming, oven := some h.oven, ownClaim := some t.ident, permitOut := false,
                             holdOut := false, owed := d.job.owed }
      ∧ d.round = ⟨false, 0, none, false, []⟩ ∧ d.table = c.table ∧ d.held = c.held ∧ d.doors = c.doors)
  ∧ (∀ (q : List Instr) (c : Controller), c.start.powerOn = false → c.due.bidWindow = true → winningBid c = none →
    nothingWaits c = true →
    ∃ d, exec .bidWindowExpiry ⟨q, c⟩ = .next ⟨q, d⟩
      ∧ d.round = ⟨false, 0, none, false, []⟩ ∧ d.table = c.table ∧ d.held = c.held ∧ d.doors = c.doors
      ∧ (∀ e ∈ d.line.tx, e.tel.kind = some .claim → e ∈ c.line.tx)
      ∧ (c.job.state = .bidding → d.job = { Job.idleRecord with owed := d.job.owed }
          ∧ ∀ e ∈ d.line.tx, e.tel.kind ≠ some .bid)
      ∧ (c.job.state ≠ .bidding → d.job = c.job ∧ d.line = c.line))

/-- R17, R18, R162: the edge-PHASE refresh queues a PHASE for the first and for the last oven of the section, as they stand; the
MAIN send timer queues a MAIN with the value at a tap station whose value is current, and MAIN queued is yes, and none where
one waits or the value is stale or absent.
Which events are due is a field of the model's own (assumption log 5, DESIGN CHOICE). -/
def Obligations.TimersQueueTelegrams : Prop :=
  (∀ (q : List Instr) (c : Controller) (a z : Oven), c.start.powerOn = false → c.due.edgeRefresh = true →
      isActive c = true → roomFor 2 c → ovenAt c 0 = some a → c.table.ovens.getLast? = some z →
      (a = z ∨ a.number ≠ z.number ∧ a.number ≤ 192 ∧ z.number ≤ 192) →
      ∃ d, exec .edgePhaseRefresh ⟨q, c⟩ = .next ⟨q, d⟩
        ∧ waitsInTx (phaseTelegram (ownNumber c) a) d ∧ waitsInTx (phaseTelegram (ownNumber c) z) d
        ∧ OnlyOffers { c with due := { c.due with edgeRefresh := false } } d)
  ∧ (∀ (q : List Instr) (c : Controller), c.start.powerOn = false → c.due.mainSend = true →
      (∀ v, isActive c = true → roomFor 1 c → c.reg.main.tap = true → c.reg.main.stale = false → c.reg.main.queued = false →
        c.reg.main.value = some v →
        ∃ d, exec .mainSendExpiry ⟨q, c⟩ = .next ⟨q, d⟩ ∧ waitsInTx (mainTelegram (ownNumber c) v) d
          ∧ d.reg.main.queued = true ∧ OnlyOffers { c with due := { c.due with mainSend := false } } d)
      ∧ (nothingWaits c = true →
          (c.reg.main.tap = false ∨ c.reg.main.stale = true ∨ c.reg.main.queued = true ∨ c.reg.main.value = none) →
        exec .mainSendExpiry ⟨q, c⟩ = .next ⟨q, { c with due := { c.due with mainSend := false } }⟩))

/-- R97, R111: the first expiry of the travel timer counts QCAR LATE and starts the same limit again; the second ends the call,
leaves a job past STAGED as it is, and aborts one in CLAIMED, DOORS or STAGED with reason 5 (R93).
Which events are due is a field of the model's own (assumption log 5, DESIGN CHOICE). -/
def Obligations.TravelTimerExpires : Prop :=
  ∀ (q : List Instr) (c : Controller), c.start.powerOn = false → c.due.travelTimer = true → c.track.call.step = .sent →
    thirtyEntries c →
    (c.track.call.expiries = 0 →
      ∃ d, exec .travelTimerExpiry ⟨q, c⟩ = .next ⟨q, d⟩ ∧ countedOnce 23 c d
        ∧ OnlyOffers { c with
            track := { c.track with call := { c.track.call with expiries := 1, remaining := c.track.call.limit } }
            due := { c.due with travelTimer := false } } d)
    ∧ (c.track.call.expiries ≠ 0 → beforePermit c.job.state = false →
      ∃ d, exec .travelTimerExpiry ⟨q, c⟩ = .next ⟨q, d⟩
        ∧ OnlyOffers { c with
            track := { c.track with call := ⟨.none, none, false, c.track.call.limit, 0, 0⟩ }
            due := { c.due with travelTimer := false } } d)
    ∧ (∀ n i o, c.track.call.expiries ≠ 0 → receiving c = true → c.job.oven = some n → ovenIndex c n = some i →
        ovenAt c i = some o → (c.job.state = .claimed ∨ c.job.state = .doors ∨ c.job.state = .staged) →
      ∃ d, exec .travelTimerExpiry ⟨q, c⟩ = .next ⟨q, d⟩ ∧ AbortsJob 5 n i o c d ∧ d.doors = c.doors
        ∧ d.events.entry 23 = c.events.entry 23)

/-! ## The converter and the regulation -/

/-- R2, R151, R153: the control period's expiry starts a cycle for 17 channels at a tap station and 16 elsewhere, with the
answer limit of Tc/2; an expiry that finds a cycle in flight is skipped and counted SAMPLE OVERRUN.
Which events are due is a field of the model's own (assumption log 5, DESIGN CHOICE). -/
def Obligations.PeriodStartsCycle : Prop :=
  ∀ (q : List Instr) (c : Controller), c.start.powerOn = false → c.due.controlPeriod = true →
    (c.reg.cycle = none → nothingWaits c = true →
      exec .controlPeriodExpiry ⟨q, c⟩ = .next ⟨q, { c with
        reg := { c.reg with cycle := some ⟨if c.reg.main.tap then 17 else 16, []⟩, answer := some (((cfg c).tc + 19) / 20) }
        due := { c.due with controlPeriod := false } }⟩)
    ∧ (c.reg.cycle ≠ none → thirtyEntries c →
      ∃ d, exec .controlPeriodExpiry ⟨q, c⟩ = .next ⟨q, d⟩ ∧ countedOnce 30 c d
        ∧ OnlyOffers { c with due := { c.due with controlPeriod := false } } d)

/-- R151, R152: a sample word is the sample of the next channel and restarts the answer limit; the last one, or the answer
limit's expiry, makes the cycle complete; a word without a cycle in flight is discarded.
Which events are due is a field of the model's own (assumption log 5, DESIGN CHOICE). -/
def Obligations.SamplesTakenInOrder : Prop :=
  ∀ (q : List Instr) (c : Controller) (x : SampleCode), nothingWaits c = true →
    (Ready c → c.reg.cycle = none → exec (.sampleWord x) ⟨q, c⟩ = .next ⟨q, c⟩)
    ∧ (∀ k, Ready c → c.reg.cycle = some k → k.got.length + 1 < k.wanted →
      exec (.sampleWord x) ⟨q, c⟩ = .next ⟨q, { c with reg :=
        { c.reg with cycle := some ⟨k.wanted, k.got ++ [x]⟩, answer := some (((cfg c).tc + 19) / 20) } }⟩)
    ∧ (∀ k, Ready c → c.reg.cycle = some k → k.got.length + 1 = k.wanted →
      exec (.sampleWord x) ⟨q, c⟩ = .next ⟨q, { c with
        reg := { c.reg with cycle := some ⟨k.wanted, k.got ++ [x]⟩, answer := none }
        due := { Due.nothing with cycleComplete := true } }⟩)
    ∧ (c.start.powerOn = false → c.due.answerLimit = true → c.reg.cycle ≠ none →
      exec .answerLimitExpiry ⟨q, c⟩ = .next ⟨q, { c with
        reg := { c.reg with answer := none }
        due := { c.due with answerLimit := false, cycleComplete := true } }⟩)

/-- R154, R155, R157, R159, R161, R165, R166, R167, R168, R173 to R182: what the completion of a cycle does to an oven: its
pressure and feedback samples, the stuck check, the choice between REGULATE and HOLD, the work of its mode (in REGULATE the
error, the integrator, the output, the slew and the no-draw count), the isolation count, and the events counted under kinds 28
and 29. Without a push under way nothing but the ovens, the cycle, the main record, the positioner frame, and what is offered
changes. Where the second qualifying completion reports isolation complete to a CLAIMED job (R77), its oven is ISOLATED and
CLOSED and the job is DOORS with a PERMIT DOORS.
That the choice between REGULATE and HOLD goes by the valve mode is read from R155 and R157 (assumption log 29, DEDUCED), and that
MAIN STALE is counted under kind 29 only on the change from not stale is read from R161 and R164 (assumption log 28, DEDUCED).
Which events are due is a field of the model's own (assumption log 5, DESIGN CHOICE). -/
def Obligations.CompletionWorks : Prop :=
  ∀ (q : List Instr) (c : Controller) (k : Cycle) (i : Nat) (o : Oven) (x f : Option Nat),
    c.start.powerOn = false → c.due.cycleComplete = true → c.reg.cycle = some k → ovenAt c i = some o →
    x = sampleAt k (i + 1) → f = sampleAt k (i + 9) →
    ∃ d o', exec .converterCycleComplete ⟨q, c⟩ = .next ⟨q, d⟩ ∧ ovenAt d i = some o'
      ∧ (c.job.oven = none → OnlyOffers { c with
          table := { c.table with ovens := d.table.ovens }
          reg := { c.reg with cycle := none, answer := none, frame := d.reg.frame, frameHeld := d.reg.frameHeld,
                              main := { d.reg.main with queued := c.reg.main.queued } }
          due := { c.due with cycleComplete := false } } d)
      ∧ ((c.job.state ≠ .claimed ∨ c.job.oven = none) → c.reg.framesOn = true → c.reg.frame = none →
          d.reg.frame = some ((List.range 8).map fun j => ((ovenAt d j).map (·.command)).getD 0))
      ∧ (c.reg.main.tap = false → d.reg.main = { c.reg.main with queued := d.reg.main.queued })
      ∧ (∀ v, c.reg.main.tap = true → sampleAt k 17 = some v →
          d.reg.main.stale = false ∧ d.reg.main.invalid = 0 ∧ d.reg.main.value
            = some (filterPressure (cfg c).shift c.reg.main.value (scalePressure (channelOf (cfg c) 17) v)))
      ∧ (c.reg.main.tap = true → sampleAt k 17 = none →
          d.reg.main.invalid = min 255 (c.reg.main.invalid + 1)
            ∧ (c.reg.main.invalid = 2 → d.reg.main.value = none ∧ d.reg.main.stale = true))
      ∧ (CountersInv c → (d.events.entry 28).count = min 255 ((c.events.entry 28).count
          + ovensWhere (fun a b => a.invalid = 2 ∧ b.invalid = 3) c d
          + ovensWhere (fun a b => a.stuck = false ∧ b.stuck = true) c d))
      ∧ (CountersInv c → (d.events.entry 29).count = min 255 ((c.events.entry 29).count
          + ovensWhere (fun a b => a.noDraw = 9 ∧ b.noDraw = 10) c d
          + (if c.reg.main.stale = false ∧ d.reg.main.stale = true then 1 else 0)))
      ∧ o'.number = o.number ∧ o'.minutes = o.minutes ∧ o'.target = o.target
      ∧ o'.inhibited = o.inhibited ∧ o'.hardCount = o.hardCount
      ∧ (∀ v, x = some v → o'.invalid = 0
          ∧ o'.filtered = some (filterPressure (cfg c).shift o.filtered (scalePressure (channelOf (cfg c) (i + 1)) v)))
      ∧ (x = none → o'.invalid = min 255 (o.invalid + 1)
          ∧ o'.filtered = (if min 255 (o.invalid + 1) = 3 then none else o.filtered))
      ∧ (∀ v, f = some v → o'.feedback = some (scaleFeedback v)) ∧ (f = none → o'.feedback = o.feedback)
      ∧ (f = none → o'.stuck = o.stuck ∧ o'.stuckCount = o.stuckCount)
      ∧ (∀ v, f = some v →
          (o.stuck = decide (50 < (scaleFeedback v - o.command).natAbs) → o'.stuck = o.stuck ∧ o'.stuckCount = 0)
            ∧ (o.stuck = decide ((scaleFeedback v - o.command).natAbs ≤ 50) →
                (o.stuckCount < 2 → o'.stuck = o.stuck ∧ o'.stuckCount = o.stuckCount + 1)
                  ∧ (2 ≤ o.stuckCount → o'.stuck = !o.stuck ∧ o'.stuckCount = 0)))
      ∧ (CountersInv c → ¬ IsolationReported c i o f → o'.phase = o.phase)
      ∧ (o.mode = .closed → o'.mode = .closed ∧ o'.command = 0 ∧ o'.integrator = 0)
      ∧ (o.mode = .forced → o'.mode = .forced ∧ o'.command = (cfg c).uchg ∧ o'.integrator = o.integrator)
      ∧ (o.mode = .isolating → CountersInv c → ¬ IsolationReported c i o f →
          o'.mode = .isolating ∧ o'.command = max 0 (o.command - (cfg c).riso)
          ∧ ((o'.command = 0 ∧ ∃ v, f = some v ∧ scaleFeedback v ≤ 10) → o'.isoCount = min 2 (o.isoCount + 1))
          ∧ (¬ (o'.command = 0 ∧ ∃ v, f = some v ∧ scaleFeedback v ≤ 10) → o'.isoCount = 0))
      ∧ (o.mode ≠ .isolating → o'.isoCount = o.isoCount)
      ∧ (o.mode = .hold ∨ o.mode = .regulate → (x = none ∨ d.reg.main.stale = true) →
          o'.mode = .hold ∧ o'.command = o.command ∧ o'.integrator = o.integrator ∧ o'.noDraw = o.noDraw)
      ∧ (o.mode = .hold ∨ o.mode = .regulate → x ≠ none → d.reg.main.stale = false → o'.mode = .regulate)
      ∧ (∀ (pf mv e former : Int) (row : Row), o.mode = .hold ∨ o.mode = .regulate → x ≠ none → d.reg.main.stale = false →
          o'.filtered = some pf → d.reg.main.value = some mv → row = rowInForce (cfg c) o →
          e = clampInt (pf - clampInt (setpoint (cfg c) o - if anyLeaking c i then (cfg c).leakOffset else 0) (-700) 500)
            (-1000) 1000 →
          former = (if o.mode = .hold then clampInt (o.command * 1024) (row.umin * 1024) (row.umax * 1024)
            else o.integrator) →
          o'.integrator = clampInt (if mv ≤ pf - (cfg c).dmin then former + (cfg c).ki * e else former)
              (row.umin * 1024) (row.umax * 1024)
            ∧ o'.command = o.command + clampInt
                (clampInt (roundDiv o'.integrator 1024 + roundDiv ((cfg c).kp * e) 16) row.umin row.umax - o.command)
                (-(cfg c).r) (cfg c).r
            ∧ o'.noDraw = (if mv ≤ pf - (cfg c).dmin then 0 else min 255 (o.noDraw + 1)))
      ∧ (IsolationReported c i o f → anyRemoved c i = false →
          o'.phase = .isolated ∧ o'.stage = none ∧ o'.mode = .closed ∧ o'.command = 0 ∧ o'.integrator = 0 ∧ o'.isoCount = 0
            ∧ d.job = { c.job with state := .doors, permitOut := false, holdOut := false, owed := d.job.owed }
            ∧ (∀ n, c.job.oven = some n → isActive c = true → roomFor 4 c → c.job.owed = none →
                waitsInTx (permitTelegram (ownNumber c) n permitDoorsCode) d ∧ waitsInTx (phaseTelegram (ownNumber c) o') d))

/-- R12, R173, R174, R175, R177, R180, R182, R183: the rounding; the scaled pressure lies within −3000..+3000 Pa, the filtered
pressure between the former one and the scaled one, the feedback of a valid code within 2..998 with 42 the last code of the
closed position, and the setpoint of a COKING oven between the A and the B of the row of its stage. After a computation the
integrator lies within the limits of its row, the command has moved by at most R, and stays within its row once there. -/
def Obligations.StagesStayWithin : Prop :=
  (∀ (g : Config) (leaking : Bool) (o : Oven) (pf mv : Int), o.filtered = some pf → 0 ≤ g.r →
      (rowInForce g o).umin ≤ (rowInForce g o).umax →
      (rowInForce g o).umin * 1024 ≤ (o.compute g leaking (some mv)).integrator
        ∧ (o.compute g leaking (some mv)).integrator ≤ (rowInForce g o).umax * 1024
        ∧ ((o.compute g leaking (some mv)).command - o.command).natAbs ≤ g.r.toNat
        ∧ ((rowInForce g o).umin ≤ o.command → o.command ≤ (rowInForce g o).umax →
            (rowInForce g o).umin ≤ (o.compute g leaking (some mv)).command
              ∧ (o.compute g leaking (some mv)).command ≤ (rowInForce g o).umax)
        ∧ (Row.limited (rowInForce g o) → PerMille o.command → PerMille (o.compute g leaking (some mv)).command))
  ∧ ((∀ (a : Int) (b : Nat), 0 < b → 2 * (roundDiv a b * b - a).natAbs ≤ b)
      ∧ (∀ (z : Channel) (n : Nat), -3000 ≤ scalePressure z n ∧ scalePressure z n ≤ 3000)
      ∧ (∀ (k : Nat) (f p : Int), (f ≤ p → f ≤ filterPressure k (some f) p ∧ filterPressure k (some f) p ≤ p)
          ∧ (p ≤ f → p ≤ filterPressure k (some f) p ∧ filterPressure k (some f) p ≤ f))
      ∧ (∀ n : Nat, 9 ≤ n → n ≤ 4086 → 2 ≤ scaleFeedback n ∧ scaleFeedback n ≤ 998 ∧ (scaleFeedback n ≤ 10 ↔ n ≤ 42)))
  ∧ (∀ (g : Config) (o : Oven) (s : Stage), o.phase = .coking → s = stageFor g o.target o.minutes →
      ((stageRow g s).a ≤ (stageRow g s).b → (stageRow g s).a ≤ setpoint g o ∧ setpoint g o ≤ (stageRow g s).b)
        ∧ ((stageRow g s).b ≤ (stageRow g s).a → (stageRow g s).b ≤ setpoint g o ∧ setpoint g o ≤ (stageRow g s).a))

/-- R169: at the end of a positioner frame one new frame serves the requests held, with the commands as they stand and 0
above the section's ovens; without a held request the link is free.
That a request is held while no frames are sent (framesOn no, in the second clause) is the model's choice (assumption log 16,
DESIGN CHOICE). -/
def Obligations.FrameEndServesHeld : Prop :=
  ∀ (q : List Instr) (c : Controller), Ready c → nothingWaits c = true → c.reg.frame ≠ none →
    (c.reg.frameHeld = true → c.reg.framesOn = true →
      exec .positionerFrameEnd ⟨q, c⟩ = .next ⟨q, { c with reg := { c.reg with
        frame := some ((List.range 8).map fun j => ((ovenAt c j).map (·.command)).getD 0), frameHeld := false } }⟩)
    ∧ (c.reg.frameHeld = false ∨ c.reg.framesOn = false →
      exec .positionerFrameEnd ⟨q, c⟩ = .next ⟨q, { c with reg := { c.reg with frame := none } }⟩)

/-! ## The leak scanner -/

/-- R136, R137, R138, R139: a gate that waits for its tick starts on the lowest channel whose door is TIGHT, LEAKING or CHECKING,
with count 0 and the timer of Tg; a pulse raises the count of a running gate, holding at 65535; a spoiled result, or one of a
door that is not scannable, changes no door record, and the gate goes to the next scannable channel, or else the lowest; where
no channel is scannable the scanner is IDLE, its select lines on the channel last measured, and no gate waits to start.
Which events are due is a field of the model's own (assumption log 5, DESIGN CHOICE). That a gate that starts reads the ring as it
stands when the start is taken, a door that entered CHECKING at that tick in it, is the model's choice (assumption log 37, DESIGN
CHOICE). -/
def Obligations.GatesGoRound : Prop :=
  (∀ (q : List Instr) (c : Controller), nothingWaits c = true →
      (∀ ch, c.start.powerOn = false → c.due.gateStart = true → ch < c.doors.doors.length → inRing c ch = true →
        (∀ j, j < ch → inRing c j = false) →
        exec .leakGateStart ⟨q, c⟩ = .next ⟨q, { c with
          scan := ⟨true, ch, 0, false, (cfg c).gateTicks, false⟩, due := { c.due with gateStart := false } }⟩)
      ∧ (c.start.powerOn = false → c.due.gateStart = true → (∀ j, inRing c j = false) →
        exec .leakGateStart ⟨q, c⟩ = .next ⟨q, { c with
          scan := { c.scan with running := false, startNext := false, ticksLeft := 0 }
          due := { c.due with gateStart := false } }⟩)
      ∧ (Ready c → c.scan.running = true → exec .leakSensorPulse ⟨q, c⟩ = .next ⟨q, { c with
          scan := { c.scan with count := min 65535 (c.scan.count + 1) } }⟩)
      ∧ (Ready c → c.scan.running = false → exec .leakSensorPulse ⟨q, c⟩ = .next ⟨q, c⟩))
  ∧ (∀ (q : List Instr) (c : Controller), c.start.powerOn = false → c.due.gateExpiry = true → nothingWaits c = true →
      (c.scan.spoiled = true ∨ inRing c c.scan.channel = false) →
      (∀ ch, inRing c ch = true → ch < c.doors.doors.length → c.scan.channel < ch →
        (∀ j, c.scan.channel < j → j < ch → inRing c j = false) →
        exec .leakGateExpiry ⟨q, c⟩ = .next ⟨q, { c with
          scan := ⟨true, ch, 0, false, (cfg c).gateTicks, false⟩, due := { c.due with gateExpiry := false } }⟩)
      ∧ (∀ ch, inRing c ch = true → ch < c.doors.doors.length → ch ≤ c.scan.channel →
        (∀ j, c.scan.channel < j → inRing c j = false) → (∀ j, j < ch → inRing c j = false) →
        exec .leakGateExpiry ⟨q, c⟩ = .next ⟨q, { c with
          scan := ⟨true, ch, 0, false, (cfg c).gateTicks, false⟩, due := { c.due with gateExpiry := false } }⟩)
      ∧ ((∀ j, inRing c j = false) →
        exec .leakGateExpiry ⟨q, c⟩ = .next ⟨q, { c with
          scan := { c.scan with running := false, startNext := false, ticksLeft := 0 }
          due := { c.due with gateExpiry := false } }⟩))

/-- R136 to R146: a gate result that is judged: the last count, the class of the count against the reference, and what each
class does to the door record; only the door of the channel changes, and DOOR LEAK, LEAK SENSOR DEAD and LEAK OVERRANGE are
counted where they are due. The gate then goes to the next scannable channel above, or else to the lowest, which is the same
channel where no other is scannable, with count 0, spoiled no and the timer of Tg.
Which events are due is a field of the model's own (assumption log 5, DESIGN CHOICE). -/
def Obligations.GateResultJudged : Prop :=
  ∀ (q : List Instr) (c : Controller) (ch n thr : Nat) (r : Door), c.start.powerOn = false → c.due.gateExpiry = true →
    thirtyEntries c → ch = c.scan.channel → n = c.scan.count → c.scan.spoiled = false → c.doors.doors[ch]? = some r →
    (r.state = .tight ∨ r.state = .leaking ∨ r.state = .checking) →
    thr = r.ref + (roundDiv ((r.ref * (cfg c).margin : Nat) : Int) 256).toNat →
    ∃ d r', exec .leakGateExpiry ⟨q, c⟩ = .next ⟨q, d⟩ ∧ d.doors.doors[ch]? = some r' ∧ r'.last = some n
      ∧ (∀ j, j ≠ ch → d.doors.doors[j]? = c.doors.doors[j]?)
      ∧ OnlyOffers { c with doors := { c.doors with doors := d.doors.doors }, scan := d.scan
                            due := { c.due with gateExpiry := false } } d
      ∧ d.scan.running = true
      ∧ (∀ x, inRing c x = true → ch < x → (∀ j, ch < j → j < x → inRing c j = false) →
          d.scan = ⟨true, x, 0, false, (cfg c).gateTicks, false⟩)
      ∧ (∀ x, inRing c x = true → x ≤ ch → (∀ j, ch < j → inRing c j = false) → (∀ j, j < x → inRing c j = false) →
          d.scan = ⟨true, x, 0, false, (cfg c).gateTicks, false⟩)
      ∧ (n < r.ref / 4 → n ≤ thr → n ≠ 65535 → r' = { r with last := some n, dead := min 4 (r.dead + 1) }
          ∧ (r.dead = 3 → countedOnce 21 c d))
      ∧ (r.ref / 4 ≤ n ∨ thr < n ∨ n = 65535 → r'.dead = 0)
      ∧ (thr < n ∨ n = 65535 → r'.score = min 15 (r.score + 2) ∧ r'.ref = r.ref)
      ∧ (r.ref / 4 ≤ n → n ≤ thr → n ≠ 65535 → r'.score = r.score - 1
          ∧ r'.ref = (if r.state = .tight
              then (clampInt ((r.ref : Int) + roundDiv ((n : Int) - (r.ref : Int)) 64) 1 65535).toNat else r.ref))
      ∧ (r.ref / 4 ≤ n ∨ thr < n ∨ n = 65535 →
          (r.state = .tight → r'.state = (if 8 ≤ r'.score then .leaking else .tight) ∧ r'.checks = r.checks)
            ∧ (r.state = .leaking → r'.state = (if r'.score = 0 then .tight else .leaking) ∧ r'.checks = r.checks)
            ∧ (r.state = .checking → r'.checks = r.checks - 1
                ∧ r'.state = (if r'.checks = 0 then (if 4 ≤ r'.score then .leaking else .tight) else .checking)))
      ∧ (n = 65535 → countedOnce 22 c d)
      ∧ (r.state ≠ .leaking → r'.state = .leaking → countedOnce 20 c d)

/-! ## The line unit -/

/-- R35, R36, R39, R40, R41, R43: a telegram offered to the transmit queue: refused outside ACTIVE; taking the place of the
entry it contends with; taking a place of its own where there is room; and in a full queue dropped, or displacing the last
entry, with TX DROPPED. A withdrawal removes the entries named. The order is kept.
R41, R92, R189: what waits for a free place: a release owed takes it, and is owed no more; a reportable EVENT takes one that is
left; outside ACTIVE and in a full queue both go on waiting. That they are offered at the end of a command, the release first, is
the model's choice (assumption log 9, DESIGN CHOICE); that the release withdraws a PERMIT is read from R73 (assumption log 10,
DEDUCED). -/
def Obligations.QueueTakesOffer : Prop :=
  ∀ (c : Controller) (t : Telegram), txAscending c.line.tx →
    (isActive c = false → (offer t c).line = c.line)
    ∧ (isActive c = true → (t.kind = some .phase ∨ t.kind = some .halt) → (∃ e ∈ c.line.tx, samePlace t e.tel = true) →
        (offer t c).line.tx = c.line.tx.map (fun e => if samePlace t e.tel then ⟨t, false⟩ else e))
    ∧ (isActive c = true → (t.kind = some .bid ∨ t.kind = some .claim) → (∃ e ∈ c.line.tx, samePlace t e.tel = true) →
        txAscending (offer t c).line.tx ∧ (∀ e, e ∈ (offer t c).line.tx ↔
          e = ⟨t, false⟩ ∨ (e ∈ c.line.tx ∧ samePlace t e.tel = false)))
    ∧ (isActive c = true → (∀ e ∈ c.line.tx, samePlace t e.tel = false) → c.line.tx.length < 8 →
        txAscending (offer t c).line.tx ∧ (offer t c).line.tx.length = c.line.tx.length + 1
          ∧ (∀ e, e ∈ (offer t c).line.tx ↔ e = ⟨t, false⟩ ∨ e ∈ c.line.tx))
    ∧ (isActive c = true → (∀ e ∈ c.line.tx, samePlace t e.tel = false) → c.line.tx.length = 8 →
        (∀ e ∈ c.line.tx, e.tel.ident ≤ t.ident) → thirtyEntries c →
        (offer t c).line = c.line ∧ countedOnce 6 c (offer t c))
    ∧ (∀ last e, isActive c = true → (∀ e ∈ c.line.tx, samePlace t e.tel = false) → c.line.tx.length = 8 →
        c.line.tx.getLast? = some last → e ∈ c.line.tx → t.ident < e.tel.ident → thirtyEntries c →
        (∀ x ∈ c.line.tx.dropLast, x ∈ (offer t c).line.tx) ∧ waitsInTx t (offer t c)
          ∧ (offer t c).line.tx.length = 8 ∧ countedOnce 6 c (offer t c))
    ∧ (∀ k, (withdrawKind k c).line.tx = c.line.tx.filter (fun e => e.tel.kind != some k))
    ∧ OnlyOffers c (freePlace c)
    ∧ (isActive c = false ∨ 8 ≤ c.line.tx.length → freePlace c = c)
    ∧ (∀ w, isActive c = true → c.line.tx.length < 8 → c.job.owed = some w →
        (freePlace c).job = { c.job with owed := none }
          ∧ waitsInTx (releaseTelegram (ownNumber c) w.oven w.outcome) (freePlace c))
    ∧ (∀ j, isActive c = true → (c.line.tx.length < 7 ∨ c.line.tx.length = 7 ∧ c.job.owed = none) → c.events.queued = false →
        1 ≤ j → j ≤ 30 → c.events.reportable j = true →
        (freePlace c).events.queued = true ∧ waitsInTx (eventTelegram (ownNumber c)) (freePlace c))

/-- R187, R188, R189: counting an event raises its entry by 1, holding at 255, and an absent first oven takes the event's;
while the station is ACTIVE, no EVENT waits and the kind is enabled, an EVENT is queued where there is room. That it is so where a RELEASE owed waits for the same place is the model's
choice (assumption log 38, DESIGN CHOICE). -/
def Obligations.EventCounted : Prop :=
  ∀ (k : EventKind) (first : Option Nat) (c : Controller), thirtyEntries c →
    countedOnce k.number c (count k first c)
    ∧ ((count k first c).events.entry k.number).first
        = (if ((c.events.entry k.number).first).isNone then first else (c.events.entry k.number).first)
    ∧ (∀ j, 1 ≤ j → j ≤ 30 → j ≠ k.number → (count k first c).events.entry j = c.events.entry j)
    ∧ OnlyOffers c (count k first c)
    ∧ (isActive c = true → c.events.queued = false → kindEnabled c.events.enable k.number = true →
        c.line.tx.length < 8 →
        (count k first c).events.queued = true ∧ waitsInTx (eventTelegram (ownNumber c)) (count k first c))

/-- R32, R33: which telegrams the filter accepts, by class: HALT, class 1, class 2, class 3 and class 4 from the sources of
the payload table; PHASE of a neighbour oven; MAIN from the main source at a station that is not the tap; class 6 addressed
to all or to the station; class 7 never. A wrong length is the receiver's error, a wrong source is discarded. -/
def Obligations.AcceptanceByClass : Prop :=
  ∀ (c : Controller) (t : Telegram) (k : Kind), t.kind = some k → t.src ≠ ownNumber c → t.src ≠ 0 → t.src ≠ 29 →
    t.src ≠ 31 →
    (sourceAllowed k t.src = false → acceptance c t = .discard)
    ∧ (sourceAllowed k t.src = true → t.payload.length ≠ kindLength k → acceptance c t = .badLength)
    ∧ (sourceAllowed k t.src = true → t.payload.length = kindLength k →
        (t.cls ≤ 4 → acceptance c t = .accept)
        ∧ (t.cls = 5 → t.sub = 1 → (acceptance c t = .accept ↔
            (∃ n, c.table.below = some n ∧ n.oven = t.oven) ∨ (∃ n, c.table.above = some n ∧ n.oven = t.oven)))
        ∧ (t.cls = 5 → t.sub = 2 → (acceptance c t = .accept ↔ (cfg c).tap = false ∧ t.src = (cfg c).source))
        ∧ (t.cls = 6 → (acceptance c t = .accept ↔ t.dest = 0 ∨ t.dest = ownNumber c))
        ∧ (t.cls = 7 → acceptance c t = .discard))

/-- R26, R27, R30, R31, R32, R37: a receiver has its footing while the line is idle, after a telegram that has ended even before
its own 12 released bit times are over, and after a lost arbitration. A telegram it then hears that is too long, whose check
differs, or of a wrong length is counted CRC ERROR, as is a framing fault; one that is accepted is stored, with the ack slot
driven in LISTEN and ACTIVE, or counted RX OVERRUN where 4 are held; one that is discarded leaves nothing. After a fault it has
no footing until 12 released bit times make the line idle, and what it hears till then changes nothing.
The positions on the line are the model's reading of R26 to R29 (assumption log 7, DEDUCED). -/
def Obligations.TelegramHeard : Prop :=
  (∀ c : Controller, hasFooting c = true ↔
      receiving c = true ∧ (c.line.phase = .idle ∨ c.line.phase = .ended ∨ c.line.phase = .receiving))
  ∧ (∀ (q : List Instr) (c : Controller) (f : Frame), Ready c → nothingWaits c = true → thirtyEntries c →
      hasFooting c = true →
      (8 < f.payload.length →
        ∃ d, exec (.telegramReceived f) ⟨q, c⟩ = .next ⟨q, d⟩ ∧ countedOnce 2 c d
          ∧ OnlyOffers { c with line := { c.line with phase := .counting, ack := false } } d)
      ∧ (f.payload.length ≤ 8 → frameCheckAgrees f = false →
        ∃ d, exec (.telegramReceived f) ⟨q, c⟩ = .next ⟨q, d⟩ ∧ countedOnce 2 c d
          ∧ OnlyOffers { c with line := { c.line with phase := .ended, ack := false } } d)
      ∧ (f.payload.length ≤ 8 → frameCheckAgrees f = true →
          (acceptance c (telegramOf f) = .badLength →
            ∃ d, exec (.telegramReceived f) ⟨q, c⟩ = .next ⟨q, d⟩ ∧ countedOnce 2 c d
              ∧ OnlyOffers { c with line := { c.line with phase := .ended, ack := false } } d)
          ∧ (acceptance c (telegramOf f) = .discard →
            exec (.telegramReceived f) ⟨q, c⟩ = .next ⟨q, { c with line := { c.line with phase := .ended, ack := false } }⟩)
          ∧ (acceptance c (telegramOf f) = .accept → c.line.rx.length < 4 →
            exec (.telegramReceived f) ⟨q, c⟩ = .next ⟨q, { c with line :=
              { c.line with phase := .ended, rx := c.line.rx ++ [telegramOf f], ack := c.start.line != .silent } }⟩)
          ∧ (acceptance c (telegramOf f) = .accept → 4 ≤ c.line.rx.length →
            ∃ d, exec (.telegramReceived f) ⟨q, c⟩ = .next ⟨q, d⟩ ∧ countedOnce 1 c d
              ∧ OnlyOffers { c with line := { c.line with phase := .ended, ack := false } } d)))
  ∧ (∀ (q : List Instr) (c : Controller), Ready c →
      (hasFooting c = true → thirtyEntries c →
        ∃ d, exec .framingFault ⟨q, c⟩ = .next ⟨q, d⟩ ∧ countedOnce 2 c d
          ∧ OnlyOffers { c with line := { c.line with phase := .counting, ack := false } } d)
      ∧ (hasFooting c = false → nothingWaits c = true →
          exec .framingFault ⟨q, c⟩ = .next ⟨q, c⟩ ∧ ∀ f, exec (.telegramReceived f) ⟨q, c⟩ = .next ⟨q, c⟩)
      ∧ (receiving c = true → (c.line.phase = .counting ∨ c.line.phase = .ended) → nothingWaits c = true →
          exec .lineIdle ⟨q, c⟩ = .next ⟨q, { c with line := { c.line with phase := .idle, ack := false } }⟩))

/-- R34, R36, R64, R107, R190: a telegram of the station's own number heard in LISTEN or ACTIVE makes the station SILENT:
DUPLICATE ID counted, the transmit queue emptied, the round closed, a BIDDING or CLAIMING job IDLE; in SILENT it is
discarded.
The position on the line is the model's reading of R26 to R29 (assumption log 7, DEDUCED). That the job beyond CLAIMING stays as it
was while the transmit queue is emptied, so that a RELEASE in it is lost and not owed, is read from R36 and R92 (assumption log
23, DEDUCED). -/
def Obligations.DuplicateSilences : Prop :=
  ∀ (q : List Instr) (c : Controller) (f : Frame), Ready c → thirtyEntries c → hasFooting c = true →
    f.payload.length ≤ 8 → frameCheckAgrees f = true → (telegramOf f).src = ownNumber c → ownNumber c ≠ 0 →
    ownNumber c ≤ 24 →
    (c.start.line ≠ .silent →
      ∃ d, exec (.telegramReceived f) ⟨q, c⟩ = .next ⟨q, d⟩ ∧ countedOnce 5 c d
        ∧ d.start = { c.start with line := .silent, listen := none }
        ∧ d.line = { c.line with phase := .ended, tx := [], ack := false }
        ∧ d.round = ⟨false, 0, none, false, []⟩ ∧ d.held = c.held
        ∧ d.job.state = (if c.job.state = .bidding ∨ c.job.state = .claiming then .idle else c.job.state)
        ∧ (c.job.state ≠ .bidding → c.job.state ≠ .claiming → d.job = c.job)
        ∧ d.track = { c.track with call := { c.track.call with queued := false } }
        ∧ d.reg = { c.reg with mainSend := none, main := { c.reg.main with queued := false } }
        ∧ d.table = { c.table with edge := none } ∧ d.doors = c.doors ∧ d.scan = c.scan ∧ d.events.queued = false)
    ∧ (c.start.line = .silent → exec (.telegramReceived f) ⟨q, c⟩ = .next ⟨q, { c with line :=
        { c.line with phase := .ended, ack := false } }⟩)

/-- R27, R39, R189: on an idle line the station puts the head entry's telegram on the line, the entry keeping its place; an
EVENT is built from the lowest reportable kind, which becomes the carried kind. On a line that is not idle it starts none.
The positions on the line are the model's reading of R26 to R29 (assumption log 7, DEDUCED). -/
def Obligations.HeadGoesOut : Prop :=
  (∀ (q : List Instr) (c : Controller), Ready c → nothingWaits c = true → c.line.phase ≠ .idle →
    exec .telegramStart ⟨q, c⟩ = .next ⟨q, c⟩)
  ∧ (∀ (q : List Instr) (c : Controller) (e : TxEntry) (rest : List TxEntry), Ready c → nothingWaits c = true →
    isActive c = true → c.line.phase = .idle → c.line.tx = e :: rest →
    (e.tel.kind ≠ some .event →
      exec .telegramStart ⟨q, c⟩ = .next ⟨q, { c with line :=
        { c.line with tx := ⟨e.tel, true⟩ :: rest, phase := .sending e.tel .queued } }⟩)
    ∧ (∀ j, e.tel.kind = some .event → c.events.reportable j = true → 1 ≤ j → j ≤ 30 →
        (∀ m, 1 ≤ m → m < j → c.events.reportable m = false) →
      exec .telegramStart ⟨q, c⟩ = .next ⟨q, { c with
        line := { c.line with tx := ⟨e.tel, true⟩ :: rest, phase := (.sending ⟨e.tel.cls, e.tel.sub, e.tel.src, e.tel.dest,
          [BitVec.ofNat 8 j, BitVec.ofNat 8 ((c.events.entry j).first.getD 0), BitVec.ofNat 8 (c.events.entry j).count]⟩
          .queued) }
        events := { c.events with carried := some j } }⟩))

/-- R28, R29: a telegram that loses arbitration, or is aborted, leaves its entry in the queue with its place and contents;
after the former the station goes on as a receiver, the latter is counted LINE ERROR and the station counts 12 released bit
times. The queue then holds the entries it held, none on the line, and at most an EVENT and a RELEASE more; a PERMIT leaves it
only for a RELEASE owed (R73).
What a dropped entry's block is told then is the model's choice (assumption log 8, DESIGN CHOICE), and so is the offering of what
waits for a free place at the end of a command (assumption log 9, DESIGN CHOICE). -/
def Obligations.BrokenOffStays : Prop :=
  ∀ (q : List Instr) (c : Controller) (t : Telegram) (f : Fate) (tx : List TxEntry), Ready c →
    c.line.phase = .sending t f → tx = c.line.tx.map (fun e => ⟨e.tel, false⟩) →
    (∃ d, exec .arbitrationLost ⟨q, c⟩ = .next ⟨q, d⟩
      ∧ OnlyOffers { c with line := { c.line with phase := .receiving, tx := tx } } d
      ∧ (∀ e ∈ tx, (e.tel.kind ≠ some .permit ∨ c.job.owed = none ∧ f ≠ .dropped) → e ∈ d.line.tx)
      ∧ (∀ e ∈ d.line.tx, e ∈ tx ∨ e.tel.kind = some .event ∨ e.tel.kind = some .release)
      ∧ (f ≠ .dropped → nothingWaits c = true → d.line.tx = tx))
    ∧ (thirtyEntries c →
      ∃ d, exec .lineError ⟨q, c⟩ = .next ⟨q, d⟩ ∧ countedOnce 4 c d
      ∧ OnlyOffers { c with line := { c.line with phase := .counting, tx := tx } } d
      ∧ (∀ e ∈ tx, (e.tel.kind ≠ some .permit ∨ c.job.owed = none ∧ f ≠ .dropped) → e ∈ d.line.tx)
      ∧ (∀ e ∈ d.line.tx, e ∈ tx ∨ e.tel.kind = some .event ∨ e.tel.kind = some .release)
      ∧ (f ≠ .dropped → c.job.owed = none → c.events.queued = true → d.line.tx = tx))

/-- R31, R43, R53, R108, R109, R162, R190: the end of the ack slot: the entry leaves the queue, LONE TELEGRAM is counted where
no station drove the slot, and the block that queued the telegram is told, unless the entry was withdrawn: a BID enters the
list, MAIN queued becomes no, the carried kind's entry is emptied, whether or not the slot was driven, before LONE TELEGRAM is
counted, and EVENT queued becomes no where no kind is left to report. A CALL for the call oven makes CALL queued no; of a PENDING
call it starts the travel timer with the limit of R109, or, where the car's record is not stale and shows it EMPTY at the call
oven, it ends the call as an arrival (R110); a CALL for another oven, or without a call, changes nothing. A release owed takes
the free place and is owed no more (R92). But for a sent CLAIM the
queue then holds its other entries, and at most an EVENT and a RELEASE more; a PERMIT leaves it only for a RELEASE owed (R73).
The order in which what waits is offered afterwards is the model's choice (assumption log 9, DESIGN CHOICE), and so is that the
carried kind keeps its value after its EVENT has been sent (assumption log 21, DESIGN CHOICE). The position on the line is the
model's reading of R27 (assumption log 7, DEDUCED). -/
def Obligations.SentIsReported : Prop :=
  ∀ (q : List Instr) (c e : Controller) (t : Telegram) (f : Fate) (ack : Bool), Ready c → thirtyEntries c →
    c.line.phase = .sending t f →
    e = { c with line := { c.line with phase := .ended, tx := c.line.tx.filter (fun x => !x.onLine) } } →
    ∃ d, exec (.telegramSent ack) ⟨q, c⟩ = .next ⟨q, d⟩
      ∧ (∀ x ∈ d.line.tx, x.onLine = false)
      ∧ (t.kind ≠ some .claim →
          (∀ x ∈ e.line.tx, (x.tel.kind ≠ some .permit ∨ c.job.owed = none) → x ∈ d.line.tx)
            ∧ (∀ x ∈ d.line.tx, x ∈ e.line.tx ∨ x.tel.kind = some .event ∨ x.tel.kind = some .release))
      ∧ (t.kind ≠ some .claim → t.kind ≠ some .event → c.job.owed = none → c.events.queued = true →
          d.line.tx = e.line.tx)
      ∧ (∀ w, t.kind ≠ some .claim → isActive c = true → c.job.owed = some w →
          (e.line.tx.length < 7 ∨ e.line.tx.length = 7 ∧ ack = true ∧ t.kind ≠ some .event) →
          d.job.owed = none ∧ waitsInTx (releaseTelegram (ownNumber c) w.oven w.outcome) d)
      ∧ (ack = false → (f = .withdrawn ∨ t.kind ≠ some .event ∨ c.events.carried ≠ some 3) → countedOnce 3 c d)
      ∧ (f = .withdrawn ∨ t.kind = some .halt ∨ t.kind = some .release ∨ t.kind = some .permit ∨ t.kind = some .phase →
          OnlyOffers e d)
      ∧ (f ≠ .withdrawn → t.kind = some .bid → c.round.ownBid = some t.ident → c.round.opened = true →
          OnlyOffers { e with round :=
            { c.round with ownSent := true, bids := enterBid ⟨t.src, t.oven, t.ident⟩ c.round.bids } } d)
      ∧ (f ≠ .withdrawn → t.kind = some .bid → (c.round.ownBid ≠ some t.ident ∨ c.round.opened = false) → OnlyOffers e d)
      ∧ (f ≠ .withdrawn → t.kind = some .main →
          d.reg.main.queued = false
            ∧ OnlyOffers { e with reg := { c.reg with main := { c.reg.main with queued := false } } } d)
      ∧ (∀ j, f ≠ .withdrawn → t.kind = some .event → c.events.carried = some j → 1 ≤ j → j ≤ 30 →
          (d.events.entry j).count = (if ack = false ∧ j = 3 then 1 else 0) ∧ (d.events.entry j).first = none
            ∧ (∀ m, 1 ≤ m → m ≤ 30 → m ≠ j → m ≠ 6 → (ack = true ∨ m ≠ 3) → d.events.entry m = c.events.entry m)
            ∧ ((∀ m, 1 ≤ m → m ≤ 30 → d.events.reportable m = false) → d.events.queued = false)
            ∧ OnlyOffers { e with events := c.events } d)
      ∧ (f ≠ .withdrawn → t.kind = some .call → (c.track.call.step = .none ∨ c.track.call.oven ≠ some t.oven) →
          OnlyOffers e d ∧ d.track = c.track)
      ∧ (f ≠ .withdrawn → t.kind = some .call → c.track.call.step = .sent → c.track.call.oven = some t.oven →
          OnlyOffers { e with track := { c.track with call := { c.track.call with queued := false } } } d
            ∧ d.track.call.queued = false)
      ∧ (∀ w l, f ≠ .withdrawn → t.kind = some .call → c.track.call.step = .pending → c.track.call.oven = some t.oven →
          w = (if c.track.car.place = some .oven ∨ c.track.car.place = some .transit then c.track.car.spot.getD (cfg c).tower
            else (cfg c).tower) →
          l = min 3600 ((cfg c).tfix + (cfg c).tspot * ((t.oven : Int) - (w : Int)).natAbs) →
          d.track.call.queued = false
            ∧ (c.track.car.stale = false → c.track.car.place = some .oven → c.track.car.spot = some t.oven →
                c.track.car.state = some .empty →
                OnlyOffers { e with track := { c.track with call := ⟨.none, none, false, c.track.call.limit, 0, 0⟩ } } d)
            ∧ (¬ (c.track.car.stale = false ∧ c.track.car.place = some .oven ∧ c.track.car.spot = some t.oven
                  ∧ c.track.car.state = some .empty) →
                OnlyOffers { e with track := { c.track with call :=
                  { c.track.call with step := .sent, queued := false, limit := l, remaining := l } } } d))

/-- R7, R31, R60, R71, R74, R75, R78, R106, R156: a sent CLAIM of the station's own, whether or not a station drove its ack slot;
where none did, LONE TELEGRAM is counted besides. An inhibited oven is released ABANDONED and the job IDLE; otherwise the job is
CLAIMED, the oven ISOLATING with its minutes kept and its valve closing step by step, and the quench car called, at once where
its record is EMPTY. Where a door of the oven is REMOVED at that moment, EARLY DOOR is counted, the oven is ISOLATED and the job
DOORS, or past it where both are off. -/
def Obligations.SentClaimClaims : Prop :=
  ∀ (q : List Instr) (c : Controller) (t : Telegram) (f : Fate) (n i : Nat) (o : Oven) (ack : Bool), Ready c →
    isActive c = true → roomFor 4 c → c.line.phase = .sending t f → f ≠ .withdrawn → t.kind = some .claim →
    c.job.state = .claiming → c.job.ownClaim = some t.ident → c.job.oven = some n → ovenIndex c n = some i → ovenAt c i = some o →
    (o.inhibited = true →
      ∃ d, exec (.telegramSent ack) ⟨q, c⟩ = .next ⟨q, d⟩ ∧ d.job.state = .idle ∧ d.job.oven = none
        ∧ waitsInTx (releaseTelegram (ownNumber c) n .abandoned) d ∧ d.table = c.table ∧ d.reg.frame = c.reg.frame
        ∧ d.track.pusher = c.track.pusher ∧ d.track.call.step = c.track.call.step
        ∧ (ack = false → thirtyEntries c → countedOnce 3 c d))
    ∧ (o.inhibited = false → anyRemoved c i = false →
      ∃ d o', exec (.telegramSent ack) ⟨q, c⟩ = .next ⟨q, d⟩ ∧ ovenAt d i = some o'
        ∧ d.job = { c.job with state := .claimed, started := false, ended := false, minutes := 0, holdSecs := 0,
                               cause := none, permitOut := false, holdOut := false, owed := d.job.owed }
        ∧ o' = { o with phase := .isolating, stage := none, mode := .isolating, isoCount := 0, noDraw := 0 }
        ∧ (∀ j, j ≠ i → ovenAt d j = ovenAt c j)
        ∧ d.track.call.step = .pending ∧ d.track.call.oven = some n ∧ d.track.call.expiries = 0
        ∧ d.track.call.remaining = 0 ∧ d.track.car = c.track.car
        ∧ (c.track.car.state = some .empty → d.track.call.queued = true ∧ waitsInTx (callTelegram (ownNumber c) n) d)
        ∧ (c.track.car.state ≠ some .empty → d.track.call.queued = false)
        ∧ (ack = false → thirtyEntries c → countedOnce 3 c d))
    ∧ (o.inhibited = false → anyRemoved c i = true → thirtyEntries c →
      ∃ d o', exec (.telegramSent ack) ⟨q, c⟩ = .next ⟨q, d⟩ ∧ ovenAt d i = some o' ∧ countedOnce 15 c d
        ∧ o'.phase = .isolated ∧ o'.minutes = o.minutes ∧ (∀ j, j ≠ i → ovenAt d j = ovenAt c j)
        ∧ d.track.call.step = .pending ∧ d.track.call.oven = some n
        ∧ (bothRemoved c i = false → d.job.state = .doors)
        ∧ (bothRemoved c i = true → d.job.state = (if permitConditions d i n then .permitted else .staged))
        ∧ (ack = false → countedOnce 3 c d))

/-! ## The machines -/

/-- R103: a GUIDE with a state code other than 1 to 4 or a spot above 192 is discarded; one that passes sets the record's state
and spot, age 0 and stale no, and is reported to the push job alone, which evaluates its conditions.
When what waits for a free place is offered (freePlace), and in which order, is the model's choice (assumption log 9, DESIGN
CHOICE). -/
def Obligations.GuideTaken : Prop :=
  ∀ (q : List Instr) (c : Controller) (t : Telegram) (rest : List Telegram), Hands c .guide t rest →
    (nothingWaits c = true → (t.at 1 < 1 ∨ 4 < t.at 1 ∨ 192 < t.at 0) →
      exec .guide ⟨q, c⟩ = .next ⟨q, withRx rest c⟩)
    ∧ (∀ st, t.at 0 ≤ 192 → ((t.at 1 = 1 ∧ st = .travel) ∨ (t.at 1 = 2 ∧ st = .atSpot) ∨ (t.at 1 = 3 ∧ st = .guideSet)
          ∨ (t.at 1 = 4 ∧ st = .fault)) →
      exec .guide ⟨q, c⟩ = .next ⟨q, freePlace (evaluate { withRx rest c with track := { c.track with
        guide := ⟨if t.at 0 = 0 then none else some (t.at 0), some st, 0, false⟩ } })⟩)

/-- R102, R105: with no push under way, a PUSHER other than READY and a QCAR that pass set their records and change nothing
else; a report out of range is discarded. A READY with the job IDLE that a held claim, an open round, LISTEN or SILENT keeps from
opening a round sets the record and changes nothing else (R51).
R81, R82, R88, R102, R115: with a push under way, a PUSHER that is no push start and no push end (TRAVEL, AT_SPOT, READY or FAULT, or
any state at another spot) sets the record, and the push job evaluates its conditions on it; READY opens no round. Where the
record fails condition 3 a PERMITTED or PUSHING push is held, with PUSH HELD counted; in BIDDING, CLAIMING, CLAIMED, DOORS and
RECLOSING nothing but the record changes. In CLAIMING and RECLOSING a QCAR, too, changes nothing but its record (R90, R116).
R107, R110, R113: during a push from CLAIMED to HELD a QCAR that passes acts on the quench car call before the push job
evaluates its conditions: while the call is PENDING and no CALL queued, an EMPTY car makes the tracker offer the CALL; while
it is SENT, the car that stands EMPTY at the call oven has arrived, and one that is EMPTY elsewhere without a target is called
once more where no CALL is queued; any other QCAR leaves the call as it is. In CLAIMED and DOORS, where no conditions are
evaluated, the CALL offered waits in the queue.
When what waits for a free place is offered (freePlace) is the model's choice (assumption log 9, DESIGN CHOICE). -/
def Obligations.PusherAndCarTaken : Prop :=
  (∀ (q : List Instr) (c : Controller) (t : Telegram) (rest : List Telegram), Hands c .pusher t rest →
    (nothingWaits c = true → (t.at 1 < 1 ∨ 6 < t.at 1 ∨ 192 < t.at 0 ∨ 1 < t.at 4) →
      exec .pusher ⟨q, c⟩ = .next ⟨q, withRx rest c⟩)
    ∧ (∀ st r, pusherStateOf (t.at 1) = some st → t.at 0 ≤ 192 → t.at 4 ≤ 1 →
      r = ⟨if t.at 0 = 0 then none else some (t.at 0), some st, 0, false⟩ →
      (nothingWaits c = true → c.job.oven = none → st ≠ .ready →
        exec .pusher ⟨q, c⟩ = .next ⟨q, { withRx rest c with track := { c.track with pusher := r } }⟩)
      ∧ (nothingWaits c = true → c.job.state = .idle → st = .ready →
          (isActive c = false ∨ c.held.claim ≠ none ∨ c.round.opened = true) →
        exec .pusher ⟨q, c⟩ = .next ⟨q, { withRx rest c with track := { c.track with pusher := r } }⟩)
      ∧ (c.job.state ≠ .idle → (st ≠ .pushing ∧ st ≠ .returned ∨ c.job.oven ≠ r.spot) →
        exec .pusher ⟨q, c⟩ = .next ⟨q, freePlace (evaluate { withRx rest c with track := { c.track with pusher := r } })⟩
        ∧ (nothingWaits c = true → (c.job.state = .bidding ∨ c.job.state = .claiming ∨ c.job.state = .claimed
              ∨ c.job.state = .doors ∨ c.job.state = .reclosing) →
            exec .pusher ⟨q, c⟩ = .next ⟨q, { withRx rest c with track := { c.track with pusher := r } }⟩)
        ∧ (∀ n i, c.job.oven = some n → ovenIndex c n = some i → (c.job.state = .permitted ∨ c.job.state = .pushing) →
            (st ≠ .atSpot ∨ r.spot ≠ some n) → thirtyEntries c →
            ∃ d, exec .pusher ⟨q, c⟩ = .next ⟨q, d⟩
              ∧ OnlyOffers { withRx rest c with
                  track := { c.track with pusher := r }
                  job := { c.job with state := .held, holdSecs := 0, cause := some .condition, permitOut := false,
                                      holdOut := true } } d
              ∧ countedOnce 25 c d ∧ (isActive c = true → roomFor 3 c → waitsInTx (haltTelegram (ownNumber c) n) d)))))
  ∧ (∀ (q : List Instr) (c : Controller) (t : Telegram) (rest : List Telegram), Hands c .qcar t rest →
    (nothingWaits c = true → (t.at 0 < 1 ∨ 4 < t.at 0 ∨ t.at 2 < 1 ∨ 6 < t.at 2 ∨ 192 < t.at 1 ∨ 192 < t.at 3) →
      exec .qcar ⟨q, c⟩ = .next ⟨q, withRx rest c⟩)
    ∧ (∀ p st r, carPlaceOf (t.at 0) = some p → carStateOf (t.at 2) = some st → t.at 1 ≤ 192 → t.at 3 ≤ 192 →
      r = ⟨some p, if t.at 1 ≠ 0 then some (t.at 1) else if p = .oven then none else c.track.car.spot, some st,
        if t.at 3 = 0 then none else some (t.at 3), 0, false⟩ →
      (nothingWaits c = true → (c.job.oven = none ∨ c.job.state = .claiming ∨ c.job.state = .reclosing) →
          c.track.call.step = .none →
        exec .qcar ⟨q, c⟩ = .next ⟨q, { withRx rest c with track := { c.track with car := r } }⟩)
      ∧ (c.job.state.claimedToHeld = true →
          (c.track.call.step = .none ∨ (c.track.call.step = .pending ∧ (c.track.call.queued = true ∨ st ≠ .empty))
            ∨ (c.track.call.step = .sent ∧ st ≠ .empty)
            ∨ (c.track.call.step = .sent ∧ ¬ (p = .oven ∧ r.spot = c.track.call.oven)
                ∧ (t.at 3 ≠ 0 ∨ c.track.call.queued = true))) →
        exec .qcar ⟨q, c⟩ = .next ⟨q, freePlace (evaluate { withRx rest c with track := { c.track with car := r } })⟩)
      ∧ (∀ n, c.job.state.claimedToHeld = true → c.job.oven = some n → c.track.call.oven = some n →
          (c.track.call.step = .sent → p = .oven → t.at 1 = n → 0 < n → st = .empty →
            exec .qcar ⟨q, c⟩ = .next ⟨q, freePlace (evaluate { withRx rest c with track := { c.track with
              car := r, call := ⟨.none, none, false, c.track.call.limit, 0, 0⟩ } })⟩)
          ∧ (st = .empty → c.track.call.queued = false →
              (c.track.call.step = .pending ∨ (c.track.call.step = .sent ∧ ¬ (p = .oven ∧ r.spot = some n) ∧ t.at 3 = 0)) →
            exec .qcar ⟨q, c⟩ = .next ⟨q, freePlace (evaluate (offer (callTelegram (ownNumber c) n) { withRx rest c with
              track := { c.track with car := r, call := { c.track.call with queued := true } } }))⟩
              ∧ (isActive c = true → roomFor 1 c → (c.job.state = .claimed ∨ c.job.state = .doors) →
                  ∃ d, exec .qcar ⟨q, c⟩ = .next ⟨q, d⟩ ∧ waitsInTx (callTelegram (ownNumber c) n) d
                    ∧ d.track.call = { c.track.call with queued := true } ∧ d.track.car = r
                    ∧ OnlyOffers { withRx rest c with track := { c.track with car := r } } d)))))

/-- R73, R80, R81, R84, R85: the permit conditions of the job oven, by whether the push has started, and the results of their
evaluation in STAGED, PERMITTED, PUSHING and HELD. A hold leaves no PERMIT of the station in the transmit queue, and a resume no
HALT of the station for the oven. -/
def Obligations.EvaluationActs : Prop :=
  ∀ (c : Controller) (n i : Nat) (o : Oven), receiving c = true → c.job.oven = some n → ovenIndex c n = some i →
    ovenAt c i = some o →
    (permitConditions c i n = true ↔
      doorAt c (2 * i) = some .removed ∧ doorAt c (2 * i + 1) = some .removed ∧ o.command = 0
      ∧ (c.track.pusher.stale = false ∧ c.track.pusher.spot = some n ∧ (c.track.pusher.state = some .atSpot
          ∨ (c.job.state = .pushing ∨ (c.job.state = .held ∧ c.job.started = true)) ∧ c.track.pusher.state = some .pushing))
      ∧ (c.track.guide.stale = false ∧ c.track.guide.spot = some n ∧ c.track.guide.state = some .guideSet)
      ∧ (c.track.car.stale = false ∧ c.track.car.place = some .oven ∧ c.track.car.spot = some n
          ∧ (c.track.car.state = some .empty ∨ (c.job.state = .pushing ∨ (c.job.state = .held ∧ c.job.started = true))
            ∧ c.track.car.state = some .loading)))
    ∧ (c.job.state = .staged → permitConditions c i n = true →
        OnlyOffers { c with job := { c.job with state := .permitted, permitOut := true, holdOut := false } } (evaluate c)
        ∧ (isActive c = true → roomFor 1 c → waitsInTx (permitTelegram (ownNumber c) n permitPushCode) (evaluate c)))
    ∧ (c.job.state = .permitted ∨ c.job.state = .pushing → permitConditions c i n = false → thirtyEntries c →
        OnlyOffers { c with
          job := { c.job with state := .held, holdSecs := 0, cause := some .condition, permitOut := false, holdOut := true }
          due := { c.due with holdTimer := false } } (evaluate c)
        ∧ (∀ e ∈ (evaluate c).line.tx, e.tel.kind ≠ some .permit)
        ∧ (isActive c = true → roomFor 2 c →
            waitsInTx (haltTelegram (ownNumber c) n) (evaluate c) ∧ countedOnce 25 c (evaluate c)))
    ∧ (c.job.state = .held → c.job.cause = some .condition → permitConditions c i n = true →
        OnlyOffers { c with
          job := { c.job with state := if c.job.started then .pushing else .permitted, holdSecs := 0, cause := none,
                              permitOut := true, holdOut := false }
          due := { c.due with holdTimer := false } } (evaluate c)
        ∧ (∀ e ∈ (evaluate c).line.tx, e.tel.kind = some .halt → e.tel.oven ≠ n)
        ∧ (isActive c = true → roomFor 1 c → waitsInTx (permitTelegram (ownNumber c) n permitPushCode) (evaluate c)))
    ∧ (c.job.state = .staged → permitConditions c i n = false → evaluate c = c)
    ∧ (c.job.state = .permitted ∨ c.job.state = .pushing → permitConditions c i n = true → evaluate c = c)
    ∧ (c.job.state = .held → c.job.cause = some .supervisory ∨ permitConditions c i n = false → evaluate c = c)
    ∧ (c.job.state ≠ .staged → c.job.state ≠ .permitted → c.job.state ≠ .pushing → c.job.state ≠ .held → evaluate c = c)

/-- R87: a HALT of the supervisory station for the job oven: the push is held from PERMITTED and PUSHING, with no HALT of the
station's own; a HELD push takes the cause SUPERVISORY; in CLAIMED, DOORS and STAGED the job is aborted with reason 6 (R93); any
other HALT changes nothing. -/
def Obligations.HaltTaken : Prop :=
  ∀ (q : List Instr) (c : Controller) (t : Telegram) (rest : List Telegram), Hands c .halt t rest →
    (t.src = 30 → c.job.oven = some t.oven → (c.job.state = .permitted ∨ c.job.state = .pushing) → thirtyEntries c →
      ∃ d, exec .halt ⟨q, c⟩ = .next ⟨q, d⟩ ∧ countedOnce 25 c d
        ∧ (∀ e ∈ d.line.tx, e.tel.kind = some .halt → e ∈ c.line.tx)
        ∧ OnlyOffers { withRx rest c with job := { c.job with
            state := .held, holdSecs := 0, cause := some .supervisory, permitOut := false, holdOut := true } } d)
    ∧ (t.src = 30 → c.job.oven = some t.oven → c.job.state = .held → nothingWaits c = true →
      exec .halt ⟨q, c⟩ = .next ⟨q, { withRx rest c with job := { c.job with cause := some .supervisory } }⟩)
    ∧ (∀ i o, t.src = 30 → c.job.oven = some t.oven → ovenIndex c t.oven = some i → ovenAt c i = some o → thirtyEntries c →
        (c.job.state = .claimed ∨ c.job.state = .doors ∨ c.job.state = .staged) →
      ∃ d, exec .halt ⟨q, c⟩ = .next ⟨q, d⟩ ∧ AbortsJob 6 t.oven i o c d ∧ d.doors = c.doors ∧ d.line.rx = rest
        ∧ (∀ e ∈ d.line.tx, e.tel.kind = some .halt → e ∈ c.line.tx))
    ∧ ((t.src ≠ 30 ∨ c.job.oven ≠ some t.oven ∨ c.job.state = .idle ∨ c.job.state = .bidding ∨ c.job.state = .claiming
          ∨ c.job.state = .reclosing) → nothingWaits c = true →
      exec .halt ⟨q, c⟩ = .next ⟨q, withRx rest c⟩)

/-- R8, R82, R83, R88, R89, R156: the push of a PERMITTED job starts on a PUSHER PUSHING at the job oven, and ends on a RETURNED
there: the oven is EMPTY with coking minutes 0 where the push was completed and STICKER, counted, where not; a force at or
above the threshold raises the hard push count; the job is RECLOSING with both outputs released.
R83, R85, R91: a report out of its order: PUSHING in STAGED starts the push and holds it, counting PUSH HELD, and it resumes at
once where the conditions hold; PUSHING in HELD before the start starts it there; RETURNED before the start is start and end in
one; in CLAIMING, CLAIMED and DOORS neither touches the job; a RETURNED in RECLOSING after a start without an end is a late push
end. A push end that finds both doors latched, as in a push HELD for them, completes reclosing at once with a RELEASE PUSHED (R89).
PUSHING at the job oven in PUSHING, or in HELD after the start, is no second push start: it changes the pusher record alone (R82),
and the conditions are evaluated on it (R81, R85, R115). That R82 and R81 go together so is read from the three rules (assumption
log 36, DEDUCED), and when what waits for a free place is offered (freePlace) is the model's choice (assumption log 9, DESIGN
CHOICE). -/
def Obligations.PushStartsAndEnds : Prop :=
  (∀ (q : List Instr) (c : Controller) (t : Telegram) (rest : List Telegram) (n i : Nat) (o : Oven),
    Hands c .pusher t rest → isActive c = true → roomFor 4 c → thirtyEntries c → c.job.oven = some n →
    ovenIndex c n = some i → ovenAt c i = some o → bothRemoved c i = true → t.at 0 = n → 0 < n → n ≤ 192 → t.at 4 ≤ 1 →
    (t.at 1 = 3 → c.job.state = .permitted → o.command = 0 → guideCondition c n = true → carCondition c n = true →
      ∃ d o', exec .pusher ⟨q, c⟩ = .next ⟨q, d⟩ ∧ ovenAt d i = some o'
        ∧ d.job = { c.job with state := .pushing, started := true, permitOut := true, holdOut := false, owed := d.job.owed }
        ∧ o'.phase = .pushing ∧ o'.minutes = o.minutes ∧ o'.stage = none ∧ (∀ j, j ≠ i → ovenAt d j = ovenAt c j)
        ∧ d.track.pusher = ⟨some n, some .pushing, 0, false⟩ ∧ d.line.rx = rest)
    ∧ (t.at 1 = 4 → (c.job.state = .pushing ∨ c.job.state = .held ∧ c.job.started = true) → o.phase = .pushing →
      ∃ d o', exec .pusher ⟨q, c⟩ = .next ⟨q, d⟩ ∧ ovenAt d i = some o'
        ∧ d.job = { c.job with state := .reclosing, ended := true, holdSecs := 0, cause := none, permitOut := false,
                               holdOut := false, owed := d.job.owed }
        ∧ (t.at 4 = 1 → o'.phase = .empty ∧ o'.minutes = 0)
        ∧ (t.at 4 = 0 → o'.phase = .sticker ∧ o'.minutes = o.minutes ∧ countedOnce 27 c d)
        ∧ ((cfg c).hardPush ≤ t.at2 2 → o'.hardCount = min 15 (o.hardCount + 1) ∧ countedOnce 26 c d)
        ∧ (t.at2 2 < (cfg c).hardPush → o'.hardCount = o.hardCount)
        ∧ o'.target = o.target ∧ o'.allowance = o.allowance ∧ (∀ j, j ≠ i → ovenAt d j = ovenAt c j)
        ∧ d.track.call.step = .none ∧ d.track.pusher = ⟨some n, some .returned, 0, false⟩ ∧ d.line.rx = rest))
  ∧ (∀ (q : List Instr) (c : Controller) (t : Telegram) (rest : List Telegram) (n i : Nat) (o : Oven),
    Hands c .pusher t rest → thirtyEntries c → c.job.oven = some n → ovenIndex c n = some i → ovenAt c i = some o →
    t.at 0 = n → 0 < n → n ≤ 192 → t.at 4 ≤ 1 →
    (t.at 1 = 3 → c.job.state = .staged → bothRemoved c i = true →
      ∃ d o', exec .pusher ⟨q, c⟩ = .next ⟨q, d⟩ ∧ ovenAt d i = some o' ∧ o'.phase = .pushing ∧ o'.minutes = o.minutes
        ∧ (∀ j, j ≠ i → ovenAt d j = ovenAt c j) ∧ countedOnce 25 c d ∧ d.line.rx = rest
        ∧ d.track.pusher = ⟨some n, some .pushing, 0, false⟩
        ∧ (guideCondition c n = false →
            d.job = { c.job with state := .held, started := true, holdSecs := 0, cause := some .condition,
                                 permitOut := false, holdOut := true, owed := d.job.owed }
              ∧ (isActive c = true → roomFor 4 c → waitsInTx (haltTelegram (ownNumber c) n) d))
        ∧ (o.command = 0 → guideCondition c n = true → carCondition c n = true →
            d.job = { c.job with state := .pushing, started := true, holdSecs := 0, cause := none, permitOut := true,
                                 holdOut := false, owed := d.job.owed }
              ∧ (isActive c = true → roomFor 4 c → c.job.owed = none →
                  waitsInTx (permitTelegram (ownNumber c) n permitPushCode) d)))
    ∧ (t.at 1 = 3 → c.job.state = .held → c.job.started = false →
      ∃ d o', exec .pusher ⟨q, c⟩ = .next ⟨q, d⟩ ∧ ovenAt d i = some o' ∧ o'.phase = .pushing ∧ o'.minutes = o.minutes
        ∧ (∀ j, j ≠ i → ovenAt d j = ovenAt c j) ∧ d.line.rx = rest ∧ d.track.pusher = ⟨some n, some .pushing, 0, false⟩
        ∧ (c.job.cause = some .supervisory ∨ guideCondition c n = false →
            d.job = { c.job with started := true, owed := d.job.owed })
        ∧ (c.job.cause = some .condition → bothRemoved c i = true → o.command = 0 → guideCondition c n = true →
            carCondition c n = true →
            d.job = { c.job with state := .pushing, started := true, holdSecs := 0, cause := none, permitOut := true,
                                 holdOut := false, owed := d.job.owed }))
    ∧ (∀ k, t.at 1 = 3 → (c.job.state = .pushing ∨ c.job.state = .held ∧ c.job.started = true) →
        k = { withRx rest c with track := { c.track with pusher := ⟨some n, some .pushing, 0, false⟩ } } →
      exec .pusher ⟨q, c⟩ = .next ⟨q, freePlace (evaluate k)⟩
        ∧ (nothingWaits c = true →
            (if c.job.state = .pushing then permitConditions k i n = true
              else c.job.cause = some .supervisory ∨ permitConditions k i n = false) →
            exec .pusher ⟨q, c⟩ = .next ⟨q, k⟩))
    ∧ (t.at 1 = 4 → (c.job.state = .staged ∨ c.job.state = .permitted ∨ (c.job.state = .held ∧ c.job.started = false)
          ∨ (c.job.state = .pushing ∨ c.job.state = .held) ∧ c.job.started = true ∧ (o.phase = .pushing ∨ o.phase = .sticker)) →
        bothLatched c i = true →
      ∃ d o', exec .pusher ⟨q, c⟩ = .next ⟨q, d⟩ ∧ ovenAt d i = some o' ∧ PushEndTaken t o o' c d
        ∧ d.job = { Job.idleRecord with owed := d.job.owed }
        ∧ (isActive c = true → roomFor 4 c → waitsInTx (releaseTelegram (ownNumber c) n .pushed) d)
        ∧ (∀ j, j ≠ i → ovenAt d j = ovenAt c j) ∧ d.events.entry 25 = c.events.entry 25 ∧ d.track.call.step = .none
        ∧ d.track.pusher = ⟨some n, some .returned, 0, false⟩ ∧ d.line.rx = rest)
    ∧ (t.at 1 = 4 → (c.job.state = .staged ∨ c.job.state = .permitted ∨ (c.job.state = .held ∧ c.job.started = false)
          ∨ (c.job.state = .pushing ∨ c.job.state = .held) ∧ c.job.started = true ∧ (o.phase = .pushing ∨ o.phase = .sticker)) →
        bothLatched c i = false →
      ∃ d o', exec .pusher ⟨q, c⟩ = .next ⟨q, d⟩ ∧ ovenAt d i = some o' ∧ PushEndTaken t o o' c d
        ∧ d.job = { c.job with state := .reclosing, started := true, ended := true, holdSecs := 0, cause := none,
                               permitOut := false, holdOut := false, owed := d.job.owed }
        ∧ (∀ j, j ≠ i → ovenAt d j = ovenAt c j) ∧ d.events.entry 25 = c.events.entry 25 ∧ d.track.call.step = .none
        ∧ d.track.pusher = ⟨some n, some .returned, 0, false⟩ ∧ d.line.rx = rest)
    ∧ (∀ st, nothingWaits c = true → (t.at 1 = 3 ∧ st = .pushing ∨ t.at 1 = 4 ∧ st = .returned) →
        (c.job.state = .bidding ∨ c.job.state = .claiming ∨ c.job.state = .claimed ∨ c.job.state = .doors
          ∨ c.job.state = .reclosing ∧ (t.at 1 = 3 ∨ c.job.started = false ∨ c.job.ended = true)) →
      exec .pusher ⟨q, c⟩ = .next ⟨q, { withRx rest c with track := { c.track with
        pusher := ⟨some n, some st, 0, false⟩ } }⟩)
    ∧ (t.at 1 = 4 → c.job.state = .reclosing → c.job.started = true → c.job.ended = false →
      ∃ d o', exec .pusher ⟨q, c⟩ = .next ⟨q, d⟩ ∧ ovenAt d i = some o'
        ∧ d.job = { c.job with ended := true, owed := d.job.owed } ∧ (∀ j, j ≠ i → ovenAt d j = ovenAt c j)
        ∧ d.track.pusher = ⟨some n, some .returned, 0, false⟩ ∧ d.line.rx = rest
        ∧ (o.phase = .pushing ∨ o.phase = .sticker → PushEndTaken t o o' c d)
        ∧ (o.phase ≠ .pushing → o.phase ≠ .sticker → o'.phase = o.phase ∧ o'.minutes = o.minutes
            ∧ d.events.entry 27 = c.events.entry 27)))

/-! ## The pushing order -/

/-- R45, R46: the conditions of eligibility, with the series rule on both neighbours, absent records unchecked. -/
def Obligations.EligibleOvens : Prop :=
  ∀ (c : Controller) (i : Nat),
    (eligible c i = true ↔ ∃ o, ovenAt c i = some o ∧ o.phase = .coking ∧ o.target - o.allowance ≤ o.minutes
      ∧ o.inhibited = false ∧ o.hardCount < 15 ∧ o.stuck = false
      ∧ (doorAt c (2 * i) = some .tight ∨ doorAt c (2 * i) = some .leaking)
      ∧ (doorAt c (2 * i + 1) = some .tight ∨ doorAt c (2 * i + 1) = some .leaking)
      ∧ (0 < i → ∃ b, ovenAt c (i - 1) = some b
          ∧ (b.phase = .coking ∧ c.table.nmin ≤ b.minutes ∨ b.phase = .sticker))
      ∧ (∀ b, i = 0 → c.table.below = some b →
          b.known = true ∧ (b.heard = .coking ∧ c.table.nmin ≤ b.minutes ∨ b.heard = .sticker))
      ∧ (i + 1 < c.table.ovens.length → ∃ a, ovenAt c (i + 1) = some a
          ∧ (a.phase = .coking ∧ c.table.nmin ≤ a.minutes ∨ a.phase = .sticker))
      ∧ (∀ a, c.table.ovens.length ≤ i + 1 → c.table.above = some a →
          a.known = true ∧ (a.heard = .coking ∧ c.table.nmin ≤ a.minutes ∨ a.heard = .sticker)))

/-- R48, R49: the oven chosen is eligible, no eligible oven has a higher urgency, and none of the same urgency stands before
it; where none is chosen none is eligible. The urgency is m − T + 64 within 0..255. -/
def Obligations.ChosenOven : Prop :=
  ∀ c : Controller,
    (∀ i o, chooseOven c = some (i, o) → ovenAt c i = some o ∧ eligible c i = true
      ∧ ∀ j p, ovenAt c j = some p → eligible c j = true → urgency p < urgency o ∨ (urgency p = urgency o ∧ i ≤ j))
    ∧ (chooseOven c = none → ∀ j, eligible c j = false)
    ∧ (∀ o : Oven, (urgency o : Int) = clampInt ((o.minutes : Int) - o.target + 64) 0 255)

/-- R48, R50, R55: a PUSHER READY in ACTIVE, with the job IDLE, no claim held and the round CLOSED, opens the round with the
window Tw and bids the oven chosen, if one is; a minute tick of an open round without an own bid bids the oven chosen where
its BID beats the head of the list, with the minutes before or after the tick, and raises the coking minutes and the held-claim
age as a tick without a BID does.
The operand of MINUTE_TICK says which of R55's two orders is taken; that the neighbours' minutes are read on the same side as the
ovens' is the model's choice too (assumption log 11, DESIGN CHOICE). -/
def Obligations.RoundOpensAndBids : Prop :=
  (∀ (q : List Instr) (c : Controller) (t : Telegram) (rest : List Telegram), Hands c .pusher t rest →
    isActive c = true → roomFor 1 c → c.job = { Job.idleRecord with owed := c.job.owed } → c.held.claim = none →
    c.round.opened = false → t.at 0 ≤ 192 → t.at 1 = 5 → t.at 4 ≤ 1 →
    (chooseOven c = none → nothingWaits c = true →
      exec .pusher ⟨q, c⟩ = .next ⟨q, { withRx rest c with
        round := ⟨true, (cfg c).tw, none, false, []⟩
        track := { c.track with pusher := ⟨if t.at 0 = 0 then none else some (t.at 0), some .ready, 0, false⟩ } }⟩)
    ∧ (∀ i o b, chooseOven c = some (i, o) → b = bidTelegram (ownNumber c) (255 - urgency o) o.number o.minutes →
      ∃ d, exec .pusher ⟨q, c⟩ = .next ⟨q, d⟩ ∧ waitsInTx b d
        ∧ d.round = ⟨true, (cfg c).tw, some b.ident, false, []⟩
        ∧ d.job = { c.job with state := .bidding, owed := d.job.owed } ∧ d.table = c.table ∧ d.held = c.held))
  ∧ (∀ (q : List Instr) (c : Controller) (i : Nat) (o : Oven) (b : Telegram), c.start.powerOn = false →
    c.due.minute = true → isActive c = true → roomFor 1 c → c.job = { Job.idleRecord with owed := c.job.owed } →
    c.round.opened = true → c.round.ownBid = none → b = bidTelegram (ownNumber c) (255 - urgency o) o.number o.minutes →
    (c.round.bids = [] ∨ ∃ h l, c.round.bids = h :: l ∧ b.ident < h.ident) →
    (chooseOven c = some (i, o) →
      ∃ d, exec (.minuteTick true) ⟨q, c⟩ = .next ⟨q, d⟩ ∧ waitsInTx b d ∧ d.job.state = .bidding
        ∧ d.round = { c.round with ownBid := some b.ident } ∧ ovenAt d i = some (Oven.minute (cfg c) o)
        ∧ d.table = minutesRisen c
        ∧ d.held = (if c.held.claim.isSome then { c.held with age := min 90 (c.held.age + 1) } else c.held))
    ∧ (chooseOven { c with table := minutesRisen c } = some (i, o) →
      ∃ d, exec (.minuteTick false) ⟨q, c⟩ = .next ⟨q, d⟩ ∧ waitsInTx b d ∧ d.job.state = .bidding
        ∧ d.round = { c.round with ownBid := some b.ident } ∧ ovenAt d i = some o
        ∧ d.table = minutesRisen c
        ∧ d.held = (if c.held.claim.isSome then { c.held with age := min 90 (c.held.age + 1) } else c.held)))

/-! ## The oven table -/

/-- R3, R4, R5, R12, R156, R158: a CHARGE START moves an EMPTY oven to CHARGING, counting CHARGE DOORS where a door is not TIGHT or
LEAKING, and a CHARGE END a CHARGING oven to COKING with the pending T and E and coking minutes 0, whether or not a push of another
oven is under way; the valve takes up the phase, and stays CLOSED while a door is off. Each is counted DOUBLE CHARGE in any other
phase and changes no record; for an oven outside the section, and with a code that is neither, nothing changes. -/
def Obligations.ChargeTaken : Prop :=
  (∀ (q : List Instr) (c : Controller) (t : Telegram) (rest : List Telegram) (i : Nat) (o : Oven), Hands c .charge t rest →
    ovenIndex c t.oven = some i → ovenAt c i = some o → thirtyEntries c → roomFor 3 c →
    (t.at 1 = 1 → o.phase = .empty → (anyRemoved c i = true ∨ jobIndex c ≠ some i ∨ c.job.state = .reclosing) →
      ∃ d o', exec .chargeStart ⟨q, c⟩ = .next ⟨q, d⟩ ∧ ovenAt d i = some o'
        ∧ o' = (if anyRemoved c i then { o with phase := .charging, stage := none }
            else { o with phase := .charging, stage := none, mode := .forced, command := (cfg c).uchg, isoCount := 0, noDraw := 0 })
        ∧ (bothSettled c i = false → countedOnce 10 c d)
        ∧ OnlyOffers { withRx rest c with
            table := { c.table with ovens := c.table.ovens.set i o' }
            reg := { c.reg with frame := d.reg.frame, frameHeld := d.reg.frameHeld } } d
        ∧ (anyRemoved c i = true → d.reg.frame = c.reg.frame ∧ d.reg.frameHeld = c.reg.frameHeld)
        ∧ (isActive c = true → waitsInTx (phaseTelegram (ownNumber c) o') d))
    ∧ (t.at 1 = 2 → o.phase = .charging →
      ∃ d o', exec .chargeEnd ⟨q, c⟩ = .next ⟨q, d⟩ ∧ ovenAt d i = some o'
        ∧ o'.phase = .coking ∧ o'.minutes = 0 ∧ o'.target = c.table.pendT ∧ o'.allowance = c.table.pendE
        ∧ o'.stage = some (stageFor (cfg c) c.table.pendT 0) ∧ o'.command = o.command
        ∧ o'.inhibited = o.inhibited ∧ o'.hardCount = o.hardCount
        ∧ (anyRemoved c i = false → o'.mode = .regulate ∧ o'.integrator = clampInt (o.command * 1024)
            ((stageRow (cfg c) (stageFor (cfg c) c.table.pendT 0)).umin * 1024)
            ((stageRow (cfg c) (stageFor (cfg c) c.table.pendT 0)).umax * 1024))
        ∧ (anyRemoved c i = true → o'.mode = o.mode ∧ o'.integrator = o.integrator)
        ∧ OnlyOffers { withRx rest c with table := { c.table with ovens := c.table.ovens.set i o' } } d
        ∧ (isActive c = true → waitsInTx (phaseTelegram (ownNumber c) o') d))
    ∧ (t.at 1 = 1 → o.phase ≠ .empty →
      ∃ d, exec .chargeStart ⟨q, c⟩ = .next ⟨q, d⟩ ∧ countedOnce 9 c d ∧ OnlyOffers (withRx rest c) d)
    ∧ (t.at 1 = 2 → o.phase ≠ .charging →
      ∃ d, exec .chargeEnd ⟨q, c⟩ = .next ⟨q, d⟩ ∧ countedOnce 9 c d ∧ OnlyOffers (withRx rest c) d))
  ∧ (∀ (q : List Instr) (c : Controller) (t : Telegram) (rest : List Telegram), Hands c .charge t rest →
    nothingWaits c = true →
    (ovenIndex c t.oven = none →
        (t.at 1 = 1 → exec .chargeStart ⟨q, c⟩ = .next ⟨q, withRx rest c⟩)
          ∧ (t.at 1 = 2 → exec .chargeEnd ⟨q, c⟩ = .next ⟨q, withRx rest c⟩))
      ∧ (t.at 1 ≠ 1 → t.at 1 ≠ 2 →
        exec .chargeStart ⟨q, c⟩ = .next ⟨q, withRx rest c⟩ ∧ exec .chargeEnd ⟨q, c⟩ = .next ⟨q, withRx rest c⟩))

/-- R6, R17, R156, R184: a SEED of EMPTY, COKING or STICKER for an oven that no push from CLAIMING to RECLOSING holds sets its phase,
minutes, T and E, and queues a PHASE, whether or not a push of another oven is under way; the valve takes up the phase, and stays
CLOSED while a door is off. One for the oven of a push from CLAIMING to RECLOSING is counted SEED REFUSED; one of another phase, or
for an oven outside the section, changes nothing. -/
def Obligations.SeedTaken : Prop :=
  ∀ (q : List Instr) (c : Controller) (t : Telegram) (rest : List Telegram), Hands c .seed t rest →
    (∀ i o p, ovenIndex c t.oven = some i → ovenAt c i = some o →
      (jobIndex c ≠ some i ∨ c.job.state = .idle ∨ c.job.state = .bidding) →
      ((t.at 1 = 1 ∧ p = .empty) ∨ (t.at 1 = 3 ∧ p = .coking) ∨ (t.at 1 = 7 ∧ p = .sticker)) → roomFor 2 c →
      ∃ d o', exec .seed ⟨q, c⟩ = .next ⟨q, d⟩ ∧ ovenAt d i = some o' ∧ o'.phase = p
        ∧ o'.minutes = (if p = .empty then 0 else clampNat (t.at2 2) 0 4095) ∧ o'.target = clampNat (t.at2 4) 600 2400
        ∧ o'.allowance = c.table.pendE ∧ o'.inhibited = o.inhibited ∧ o'.hardCount = o.hardCount
        ∧ (p ≠ .coking → o'.stage = none) ∧ (p = .coking → o'.stage = some (stageFor (cfg c) o'.target o'.minutes))
        ∧ (anyRemoved c i = false →
            (p ≠ .coking → o'.mode = .closed ∧ o'.command = 0 ∧ o'.integrator = 0)
              ∧ (p = .coking → o'.mode = .regulate ∧ o'.command = o.command
                  ∧ o'.integrator = clampInt (o.command * 1024)
                      ((stageRow (cfg c) (stageFor (cfg c) o'.target o'.minutes)).umin * 1024)
                      ((stageRow (cfg c) (stageFor (cfg c) o'.target o'.minutes)).umax * 1024)))
        ∧ (anyRemoved c i = true → o'.mode = o.mode ∧ o'.command = o.command ∧ o'.integrator = o.integrator
            ∧ d.reg.frame = c.reg.frame ∧ d.reg.frameHeld = c.reg.frameHeld)
        ∧ OnlyOffers { withRx rest c with
            table := { c.table with ovens := c.table.ovens.set i o' }
            reg := { c.reg with frame := d.reg.frame, frameHeld := d.reg.frameHeld } } d
        ∧ (isActive c = true → waitsInTx (phaseTelegram (ownNumber c) o') d))
    ∧ (∀ i, ovenIndex c t.oven = some i → (t.at 1 = 1 ∨ t.at 1 = 3 ∨ t.at 1 = 7) → c.job.oven = some t.oven →
        c.job.state ≠ .idle → c.job.state ≠ .bidding → thirtyEntries c →
      ∃ d, exec .seed ⟨q, c⟩ = .next ⟨q, d⟩ ∧ countedOnce 8 c d ∧ OnlyOffers (withRx rest c) d)
    ∧ (nothingWaits c = true → (ovenIndex c t.oven = none ∨ (t.at 1 ≠ 1 ∧ t.at 1 ≠ 3 ∧ t.at 1 ≠ 7)) →
      exec .seed ⟨q, c⟩ = .next ⟨q, withRx rest c⟩)

/-- R3, R17, R96, R185, R186: CLEAR STICKER moves a STICKER oven to EMPTY with minutes 0, CLEAR HARDCOUNT sets the hard push count
to 0, INHIBIT sets or clears the flag; a change of phase or flag queues a PHASE. For an oven outside the section, a CLEAR
STICKER of another phase, or an INHIBIT of a flag already there, nothing changes at all. An INHIBIT SET for the oven of a
CLAIMED or DOORS job aborts the job with reason 4 (R93); in every other state the job goes on. -/
def Obligations.ClearAndInhibitTaken : Prop :=
  (∀ (q : List Instr) (c : Controller) (t : Telegram) (rest : List Telegram), Hands c .clear t rest →
    (∀ i o, ovenIndex c t.oven = some i → ovenAt c i = some o → t.at 1 = 1 → o.phase = .sticker → anyRemoved c i = false →
        (jobIndex c ≠ some i ∨ c.job.state = .reclosing) →
      ∃ d o', exec .clearSticker ⟨q, c⟩ = .next ⟨q, d⟩ ∧ ovenAt d i = some o'
        ∧ o' = { o with phase := .empty, minutes := 0, stage := none, mode := .closed, command := 0, integrator := 0,
                        isoCount := 0, noDraw := 0 }
        ∧ OnlyOffers { withRx rest c with
            table := { c.table with ovens := c.table.ovens.set i o' }
            reg := { c.reg with frame := d.reg.frame, frameHeld := d.reg.frameHeld } } d
        ∧ (isActive c = true → roomFor 1 c → waitsInTx (phaseTelegram (ownNumber c) o') d))
    ∧ (∀ i o, nothingWaits c = true → ovenIndex c t.oven = some i → ovenAt c i = some o → t.at 1 = 1 → o.phase ≠ .sticker →
        exec .clearSticker ⟨q, c⟩ = .next ⟨q, withRx rest c⟩)
    ∧ (∀ i o, nothingWaits c = true → ovenIndex c t.oven = some i → ovenAt c i = some o → t.at 1 = 2 →
        exec .clearHardcount ⟨q, c⟩ = .next ⟨q, { withRx rest c with
          table := { c.table with ovens := c.table.ovens.set i { o with hardCount := 0 } } }⟩)
    ∧ (nothingWaits c = true → ovenIndex c t.oven = none →
        (t.at 1 = 1 → exec .clearSticker ⟨q, c⟩ = .next ⟨q, withRx rest c⟩)
        ∧ (t.at 1 = 2 → exec .clearHardcount ⟨q, c⟩ = .next ⟨q, withRx rest c⟩)))
  ∧ (∀ (q : List Instr) (c : Controller) (t : Telegram) (rest : List Telegram), Hands c .inhibit t rest →
    (∀ i o, ovenIndex c t.oven = some i → ovenAt c i = some o → t.at 1 = 1 → o.inhibited = false → roomFor 1 c →
        (jobIndex c ≠ some i ∨ (c.job.state ≠ .claimed ∧ c.job.state ≠ .doors)) →
      ∃ d, exec .inhibitSet ⟨q, c⟩ = .next ⟨q, d⟩
        ∧ OnlyOffers { withRx rest c with
            table := { c.table with ovens := c.table.ovens.set i { o with inhibited := true } } } d
        ∧ (isActive c = true → waitsInTx (phaseTelegram (ownNumber c) { o with inhibited := true }) d))
    ∧ (∀ i o, ovenIndex c t.oven = some i → ovenAt c i = some o → t.at 1 = 1 → o.inhibited = false → thirtyEntries c →
        c.job.oven = some t.oven → (c.job.state = .claimed ∨ c.job.state = .doors) →
      ∃ d o', exec .inhibitSet ⟨q, c⟩ = .next ⟨q, d⟩ ∧ AbortsJob 4 t.oven i { o with inhibited := true } c d
        ∧ ovenAt d i = some o' ∧ o'.inhibited = true ∧ d.doors = c.doors ∧ d.line.rx = rest)
    ∧ (∀ i o, ovenIndex c t.oven = some i → ovenAt c i = some o → t.at 1 = 2 → o.inhibited = true → roomFor 1 c →
      ∃ d, exec .inhibitClear ⟨q, c⟩ = .next ⟨q, d⟩
        ∧ OnlyOffers { withRx rest c with
            table := { c.table with ovens := c.table.ovens.set i { o with inhibited := false } } } d
        ∧ (isActive c = true → waitsInTx (phaseTelegram (ownNumber c) { o with inhibited := false }) d))
    ∧ (∀ i o, nothingWaits c = true → ovenIndex c t.oven = some i → ovenAt c i = some o →
        (t.at 1 = 1 → o.inhibited = true → exec .inhibitSet ⟨q, c⟩ = .next ⟨q, withRx rest c⟩)
        ∧ (t.at 1 = 2 → o.inhibited = false → exec .inhibitClear ⟨q, c⟩ = .next ⟨q, withRx rest c⟩))
    ∧ (nothingWaits c = true → ovenIndex c t.oven = none →
        (t.at 1 = 1 → exec .inhibitSet ⟨q, c⟩ = .next ⟨q, withRx rest c⟩)
        ∧ (t.at 1 = 2 → exec .inhibitClear ⟨q, c⟩ = .next ⟨q, withRx rest c⟩)))

/-- R13, R188, R190: a PLAN replaces the pending T and E and Nmin, each clamped to its range, counting CONFIG CLAMPED where a
field had to be clamped, and changes no oven record; a MASK replaces the report-enable set and no entry, and withdraws a queued
EVENT that has nothing left to report. -/
def Obligations.PlanAndMaskTaken : Prop :=
  (∀ (q : List Instr) (c : Controller) (t : Telegram) (rest : List Telegram), Hands c .plan t rest →
    ∃ d, exec .plan ⟨q, c⟩ = .next ⟨q, d⟩
      ∧ OnlyOffers { withRx rest c with table := { c.table with
          pendT := clampNat (t.at2 0) 600 2400, pendE := clampNat (t.at 2) 0 64, nmin := clampNat (t.at2 3) 0 600 } } d
      ∧ (CountersInv c → (d.events.entry 8).count = min 255 ((c.events.entry 8).count
          + (if 600 ≤ t.at2 0 ∧ t.at2 0 ≤ 2400 then 0 else 1) + (if t.at 2 ≤ 64 then 0 else 1)
          + (if t.at2 3 ≤ 600 then 0 else 1))))
  ∧ (∀ (q : List Instr) (c : Controller) (t : Telegram) (rest : List Telegram) (m : BitVec 32), Hands c .mask t rest →
    m = BitVec.ofNat 32 (((t.at 0 * 256 + t.at 1) * 256 + t.at 2) * 256 + t.at 3) →
    ∃ d, exec .mask ⟨q, c⟩ = .next ⟨q, d⟩ ∧ d.events.enable = m ∧ d.events.entries = c.events.entries
      ∧ OnlyOffers { withRx rest c with events := { c.events with enable := m } } d
      ∧ (c.events.queued = true → c.job.owed = none →
          (∀ j, 1 ≤ j → j ≤ 30 → 0 < (c.events.entry j).count → kindEnabled m j = false) →
          d.events.queued = false ∧ ∀ e ∈ d.line.tx, e.tel.kind ≠ some .event)
      ∧ (∀ j, c.events.queued = false → isActive c = true → roomFor 2 c → 1 ≤ j → j ≤ 30 → 0 < (c.events.entry j).count →
          kindEnabled m j = true → d.events.queued = true ∧ waitsInTx (eventTelegram (ownNumber c)) d))

/-- R15, R163: a PHASE that names one of the eight phases sets the phase, minutes, age 0 and known of the neighbour record of
its oven, and of no other; a MAIN sets the value, clamped, the age 0 and not stale. Nothing else changes. -/
def Obligations.PhaseAndMainHeard : Prop :=
  (∀ (q : List Instr) (c : Controller) (t : Telegram) (rest : List Telegram), Hands c .phase t rest →
    nothingWaits c = true →
    (∀ p, phaseOf (t.at 1) = some p → exec .phase ⟨q, c⟩ = .next ⟨q, { withRx rest c with table := { c.table with
        below := c.table.below.map (fun n => if n.oven = t.oven then ⟨n.oven, p, min 4095 (t.at2 2), 0, true⟩ else n)
        above := c.table.above.map (fun n => if n.oven = t.oven then ⟨n.oven, p, min 4095 (t.at2 2), 0, true⟩ else n) } }⟩)
    ∧ (7 < t.at 1 → exec .phase ⟨q, c⟩ = .next ⟨q, withRx rest c⟩))
  ∧ (∀ (q : List Instr) (c : Controller) (t : Telegram) (rest : List Telegram), Hands c .main t rest →
    nothingWaits c = true → exec .main ⟨q, c⟩ = .next ⟨q, { withRx rest c with reg := { c.reg with main := { c.reg.main with
        value := some (clampInt (if t.at2 0 < 32768 then (t.at2 0 : Int) else (t.at2 0 : Int) - 65536) (-3000) 3000)
        age := 0, stale := false } } }⟩)

/-! ## Claims -/

/-- R52, R54: a BID taken while the round is OPEN enters the list, in the place of an earlier one of its source; the list keeps
at most 16, no two of one source, in ascending order; a BIDDING job whose BID is not yet sent yields to a more urgent one. With
the round CLOSED a BID changes nothing. -/
def Obligations.BidTaken : Prop :=
  (∀ (q : List Instr) (c : Controller) (t : Telegram) (rest : List Telegram), Hands c .bid t rest →
    (c.round.opened = false → nothingWaits c = true → exec .bid ⟨q, c⟩ = .next ⟨q, withRx rest c⟩)
    ∧ (c.round.opened = true → nothingWaits c = true →
        (c.job.state ≠ .bidding ∨ c.round.ownSent = true ∨ ∃ own, c.round.ownBid = some own ∧ own ≤ t.ident) →
      exec .bid ⟨q, c⟩ = .next ⟨q, { withRx rest c with round := { c.round with
        bids := enterBid ⟨t.src, t.oven, t.ident⟩ c.round.bids } }⟩)
    ∧ (∀ own, c.round.opened = true → c.job.state = .bidding → c.round.ownSent = false → c.round.ownBid = some own →
        t.ident < own →
      ∃ d, exec .bid ⟨q, c⟩ = .next ⟨q, d⟩ ∧ d.job.state = .idle ∧ (∀ e ∈ d.line.tx, e.tel.kind ≠ some .bid)
        ∧ d.round = { c.round with bids := enterBid ⟨t.src, t.oven, t.ident⟩ c.round.bids } ∧ d.table = c.table
        ∧ d.held = c.held))
  ∧ (∀ (b : Bid) (l : List Bid), l.length ≤ 16 → l.Pairwise (fun x y => x.ident ≤ y.ident) →
      l.Pairwise (fun x y => x.src ≠ y.src) →
      (enterBid b l).length ≤ 16 ∧ (enterBid b l).Pairwise (fun x y => x.ident ≤ y.ident)
        ∧ (enterBid b l).Pairwise (fun x y => x.src ≠ y.src)
        ∧ ((l.filter (fun x => x.src != b.src)).length < 16 →
            ∀ x, x ∈ enterBid b l ↔ x = b ∨ (x ∈ l ∧ x.src ≠ b.src)))

/-- R57, R61, R62, R63, R65: a foreign CLAIM: with the job IDLE it is recorded where no holder stands, where its source is the
holder, and where it is more urgent; it closes an open round; against the own claim a more urgent one ends a CLAIMING job, and a
CLAIMED or DOORS job with no door off, CLAIM CONFLICT LOST counted, and a less urgent one is ignored. From CLAIMED with a door
off to RECLOSING the job goes on, and the record takes the CLAIM where it is more urgent than the own.
That a CLAIM which is not more urgent than the own leaves the record, its age included, even where its source is the holder, is
read from R65 and R66 (assumption log 22, DEDUCED). -/
def Obligations.ClaimTaken : Prop :=
  ∀ (q : List Instr) (c : Controller) (t : Telegram) (rest : List Telegram) (h : HeldRecord), Hands c .claim t rest →
    nothingWaits c = true →
    ((c.held.claim = none ∧ h = { c.held with claim := some ⟨t.src, t.oven, t.ident⟩, age := 0 })
      ∨ (∃ k, c.held.claim = some k ∧ (k.holder = t.src ∨ t.ident < k.ident)
          ∧ h = { c.held with claim := some ⟨t.src, t.oven, t.ident⟩, age := 0 })
      ∨ (∃ k, c.held.claim = some k ∧ k.holder ≠ t.src ∧ k.ident ≤ t.ident ∧ h = c.held)) →
    (c.round.opened = false → (c.job.state = .idle ∨ c.job.state = .bidding) →
      exec .claim ⟨q, c⟩ = .next ⟨q, { withRx rest c with held := h }⟩)
    ∧ (c.round.opened = true →
      ∃ d, exec .claim ⟨q, c⟩ = .next ⟨q, d⟩ ∧ d.round = ⟨false, 0, none, false, []⟩ ∧ d.held = h ∧ d.table = c.table
        ∧ (c.job.state = .bidding → d.job.state = .idle ∧ ∀ e ∈ d.line.tx, e.tel.kind ≠ some .bid)
        ∧ (c.job.state ≠ .bidding → d.job = c.job ∧ d.line.tx = c.line.tx))
    ∧ (∀ own, c.round.opened = false → c.job.state = .claiming → c.job.ownClaim = some own →
        (t.ident < own → ∃ d, exec .claim ⟨q, c⟩ = .next ⟨q, d⟩ ∧ d.job.state = .idle ∧ d.job.oven = none
          ∧ (∀ e ∈ d.line.tx, e.tel.kind ≠ some .claim) ∧ d.held = h ∧ d.table = c.table)
        ∧ (own ≤ t.ident → exec .claim ⟨q, c⟩ = .next ⟨q, withRx rest c⟩))
    ∧ (∀ own n i o, c.round.opened = false → (c.job.state = .claimed ∨ c.job.state = .doors) → c.job.ownClaim = some own →
        c.job.oven = some n → ovenIndex c n = some i → ovenAt c i = some o → anyRemoved c i = false → thirtyEntries c →
        (t.ident < own → ∃ d o', exec .claim ⟨q, c⟩ = .next ⟨q, d⟩ ∧ ovenAt d i = some o' ∧ d.job.state = .idle
          ∧ d.track.call.step = .none ∧ d.held = h ∧ countedOnce 12 c d ∧ o'.minutes = o.minutes
          ∧ (o.phase = .isolating ∨ o.phase = .isolated → o'.phase = .coking ∧ o'.mode = .regulate
              ∧ o'.command = o.command))
        ∧ (own ≤ t.ident → exec .claim ⟨q, c⟩ = .next ⟨q, withRx rest c⟩))
    ∧ (∀ own n i, c.round.opened = false → c.job.ownClaim = some own → c.job.oven = some n → ovenIndex c n = some i →
        (c.job.state = .staged ∨ c.job.state = .permitted ∨ c.job.state = .pushing ∨ c.job.state = .held
          ∨ c.job.state = .reclosing ∨ (c.job.state = .claimed ∨ c.job.state = .doors) ∧ anyRemoved c i = true) →
        (t.ident < own → exec .claim ⟨q, c⟩ = .next ⟨q, { withRx rest c with held := h }⟩)
        ∧ (own ≤ t.ident → exec .claim ⟨q, c⟩ = .next ⟨q, withRx rest c⟩))

/-- R66, R67, R68: the holder's RELEASE for the oven of the record clears it, and for another oven, like its PERMIT and CALL,
only sets the age to 0; a RELEASE of the expired pair is counted LATE RELEASE; any other is ignored. A claim whose age has
reached the limit expires into that pair, CLAIM EXPIRED counted with its oven.
Which events are due is a field of the model's own (assumption log 5, DESIGN CHOICE). -/
def Obligations.HeldClaimEnds : Prop :=
  (∀ (q : List Instr) (c : Controller) (t : Telegram) (rest : List Telegram) (k : HeldClaim), Hands c .release t rest →
    nothingWaits c = true →
    (c.held.claim = some k → k.holder = t.src → k.oven = t.oven →
      exec .release ⟨q, c⟩ = .next ⟨q, { withRx rest c with held := { c.held with claim := none, age := 0 } }⟩)
    ∧ (c.held.claim = some k → k.holder = t.src → k.oven ≠ t.oven →
      exec .release ⟨q, c⟩ = .next ⟨q, { withRx rest c with held := { c.held with age := 0 } }⟩)
    ∧ ((c.held.claim = none ∨ (c.held.claim = some k ∧ k.holder ≠ t.src)) →
      (c.held.expHolder = some t.src → c.held.expOven = some t.oven → thirtyEntries c →
        ∃ d, exec .release ⟨q, c⟩ = .next ⟨q, d⟩ ∧ countedOnce 13 c d
          ∧ ((c.events.entry 13).first = none → (d.events.entry 13).first = some t.oven)
          ∧ OnlyOffers { withRx rest c with held := { c.held with expHolder := none, expOven := none } } d)
      ∧ ((c.held.expHolder ≠ some t.src ∨ c.held.expOven ≠ some t.oven) →
        exec .release ⟨q, c⟩ = .next ⟨q, withRx rest c⟩)))
  ∧ (∀ (q : List Instr) (c : Controller) (t : Telegram) (rest : List Telegram) (k : HeldClaim), nothingWaits c = true →
    c.held.claim = some k →
    (Hands c .permit t rest →
      exec .permit ⟨q, c⟩ = .next ⟨q, { withRx rest c with
        held := { c.held with age := if k.holder = t.src then 0 else c.held.age } }⟩)
    ∧ (Hands c .call t rest →
      exec .call ⟨q, c⟩ = .next ⟨q, { withRx rest c with
        held := { c.held with age := if k.holder = t.src then 0 else c.held.age } }⟩))
  ∧ (∀ (q : List Instr) (c : Controller) (k : HeldClaim), c.start.powerOn = false → c.due.claimExpired = true →
    thirtyEntries c → c.held.claim = some k →
    ∃ d, exec .claimExpired ⟨q, c⟩ = .next ⟨q, d⟩ ∧ countedOnce 14 c d
      ∧ ((c.events.entry 14).first = none → (d.events.entry 14).first = some k.oven)
      ∧ OnlyOffers { c with held := ⟨none, 0, c.held.limit, some k.holder, some k.oven⟩
                            due := { c.due with claimExpired := false } } d)

/-! ## What every step keeps -/

/-- R71, R72, R197, R198: in LISTEN, ACTIVE and SILENT the permit output is asserted in PERMITTED and PUSHING only and the hold
output in HELD only, in LOADING and CONFIG FAULT both are released; every step keeps this. R106, R114: every step keeps a
quench car call to the oven of a push job in CLAIMED to HELD. -/
def Obligations.OutputsKept : Prop :=
  (∀ s t : State, OutputsInv s.ctl → step s = .next t → OutputsInv t.ctl)
    ∧ (∀ s t : State, CallInv s.ctl → step s = .next t → CallInv t.ctl)

/-- R156, R160, R182: every step keeps each valve command a number of per mille, and each valve CLOSED, with command and
integrator 0, while a door of its oven is REMOVED and in the phases EMPTY, ISOLATED, PUSHING and STICKER. -/
def Obligations.ValvesKept : Prop :=
  ∀ s t : State, ValvesInv s.ctl → step s = .next t → ValvesInv t.ctl

/-- R35, R36, R37, R39, R44, R52, R57, R58, R64: every step keeps the two queues and the bid list within their sizes, in their
order, and empty where they are to be. -/
def Obligations.QueuesKept : Prop :=
  ∀ s t : State, QueuesInv s.ctl → RoundInv s.ctl → step s = .next t → QueuesInv t.ctl ∧ RoundInv t.ctl

/-- R8, R10, R16, R66, R76, R104, R124, R138, R141, R142, R144, R146, R154, R161, R163, R165, R187: every step keeps the counters of
the event table, the doors, the ovens, the neighbours, the machines, the main, the held claim, the push job and the gate within
their ranges. -/
def Obligations.CountersKept : Prop :=
  ∀ s t : State, CountersInv s.ctl → step s = .next t → CountersInv t.ctl

/-- The invariants hold at the reset. -/
def Obligations.ResetMeetsInvariants : Prop :=
  OutputsInv State.reset.ctl ∧ CallInv State.reset.ctl ∧ ValvesInv State.reset.ctl ∧ QueuesInv State.reset.ctl ∧ RoundInv State.reset.ctl
    ∧ CountersInv State.reset.ctl
end

