-- ==== Sys2Proof/Laws/FramesShared.lean ====
section
/-! SUPPORT. What the operations leave as it is: the shared operations, the valve and the phase changes. One lemma for each operation, tagged simp, so
that no proof unfolds an operation to see that a block it never touches is unchanged. -/

namespace Sys2Proof.Machine

open Sys2Proof

/-! ## The event table, and folds -/

/-- Raising an entry keeps the other fields. -/
@[simp] theorem raise_enable (k : EventKind) (f : Option Nat) (t : EventTable) : (t.raise k f).enable = t.enable := rfl

/-- Emptying an entry keeps the other fields. -/
@[simp] theorem emptyEntry_enable (j : Nat) (t : EventTable) : (t.emptyEntry j).enable = t.enable := rfl

/-- Raising an entry keeps the other fields. -/
@[simp] theorem raise_queued (k : EventKind) (f : Option Nat) (t : EventTable) : (t.raise k f).queued = t.queued := rfl

/-- Emptying an entry keeps the other fields. -/
@[simp] theorem emptyEntry_queued (j : Nat) (t : EventTable) : (t.emptyEntry j).queued = t.queued := rfl

/-- Raising an entry keeps the other fields. -/
@[simp] theorem raise_carried (k : EventKind) (f : Option Nat) (t : EventTable) : (t.raise k f).carried = t.carried := rfl

/-- Emptying an entry keeps the other fields. -/
@[simp] theorem emptyEntry_carried (j : Nat) (t : EventTable) : (t.emptyEntry j).carried = t.carried := rfl

/-- A fold of steps that each keep a view of the controller keeps it. -/
theorem foldl_view {α β : Type} (v : Controller → β) (g : Controller → α → Controller)
    (h : ∀ c x, v (g c x) = v c) (l : List α) (c : Controller) : v (l.foldl g c) = v c := by
  induction l generalizing c with
  | nil => rfl
  | cons x l ih => rw [List.foldl_cons, ih, h]

@[simp] theorem foldl_start {α : Type} (g : Controller → α → Controller) (h : ∀ c x, (g c x).start = c.start)
    (l : List α) (c : Controller) : (l.foldl g c).start = c.start :=
  foldl_view (fun c => c.start) g h l c

@[simp] theorem foldl_time {α : Type} (g : Controller → α → Controller) (h : ∀ c x, (g c x).time = c.time)
    (l : List α) (c : Controller) : (l.foldl g c).time = c.time :=
  foldl_view (fun c => c.time) g h l c

@[simp] theorem foldl_table {α : Type} (g : Controller → α → Controller) (h : ∀ c x, (g c x).table = c.table)
    (l : List α) (c : Controller) : (l.foldl g c).table = c.table :=
  foldl_view (fun c => c.table) g h l c

@[simp] theorem foldl_round {α : Type} (g : Controller → α → Controller) (h : ∀ c x, (g c x).round = c.round)
    (l : List α) (c : Controller) : (l.foldl g c).round = c.round :=
  foldl_view (fun c => c.round) g h l c

@[simp] theorem foldl_held {α : Type} (g : Controller → α → Controller) (h : ∀ c x, (g c x).held = c.held)
    (l : List α) (c : Controller) : (l.foldl g c).held = c.held :=
  foldl_view (fun c => c.held) g h l c

@[simp] theorem foldl_doors {α : Type} (g : Controller → α → Controller) (h : ∀ c x, (g c x).doors = c.doors)
    (l : List α) (c : Controller) : (l.foldl g c).doors = c.doors :=
  foldl_view (fun c => c.doors) g h l c

@[simp] theorem foldl_scan {α : Type} (g : Controller → α → Controller) (h : ∀ c x, (g c x).scan = c.scan)
    (l : List α) (c : Controller) : (l.foldl g c).scan = c.scan :=
  foldl_view (fun c => c.scan) g h l c

@[simp] theorem foldl_due {α : Type} (g : Controller → α → Controller) (h : ∀ c x, (g c x).due = c.due)
    (l : List α) (c : Controller) : (l.foldl g c).due = c.due :=
  foldl_view (fun c => c.due) g h l c

@[simp] theorem foldl_track {α : Type} (g : Controller → α → Controller) (h : ∀ c x, (g c x).track = c.track)
    (l : List α) (c : Controller) : (l.foldl g c).track = c.track :=
  foldl_view (fun c => c.track) g h l c

@[simp] theorem foldl_line {α : Type} (g : Controller → α → Controller) (h : ∀ c x, (g c x).line = c.line)
    (l : List α) (c : Controller) : (l.foldl g c).line = c.line :=
  foldl_view (fun c => c.line) g h l c

@[simp] theorem foldl_job {α : Type} (g : Controller → α → Controller) (h : ∀ c x, (g c x).job = c.job)
    (l : List α) (c : Controller) : (l.foldl g c).job = c.job :=
  foldl_view (fun c => c.job) g h l c

@[simp] theorem foldl_events {α : Type} (g : Controller → α → Controller) (h : ∀ c x, (g c x).events = c.events)
    (l : List α) (c : Controller) : (l.foldl g c).events = c.events :=
  foldl_view (fun c => c.events) g h l c

@[simp] theorem foldl_reg {α : Type} (g : Controller → α → Controller) (h : ∀ c x, (g c x).reg = c.reg)
    (l : List α) (c : Controller) : (l.foldl g c).reg = c.reg :=
  foldl_view (fun c => c.reg) g h l c

@[simp] theorem foldl_pusher {α : Type} (g : Controller → α → Controller) (h : ∀ c x, (g c x).track.pusher = c.track.pusher)
    (l : List α) (c : Controller) : (l.foldl g c).track.pusher = c.track.pusher :=
  foldl_view (fun c => c.track.pusher) g h l c

@[simp] theorem foldl_guide {α : Type} (g : Controller → α → Controller) (h : ∀ c x, (g c x).track.guide = c.track.guide)
    (l : List α) (c : Controller) : (l.foldl g c).track.guide = c.track.guide :=
  foldl_view (fun c => c.track.guide) g h l c

@[simp] theorem foldl_car {α : Type} (g : Controller → α → Controller) (h : ∀ c x, (g c x).track.car = c.track.car)
    (l : List α) (c : Controller) : (l.foldl g c).track.car = c.track.car :=
  foldl_view (fun c => c.track.car) g h l c

@[simp] theorem foldl_call {α : Type} (g : Controller → α → Controller) (h : ∀ c x, (g c x).track.call = c.track.call)
    (l : List α) (c : Controller) : (l.foldl g c).track.call = c.track.call :=
  foldl_view (fun c => c.track.call) g h l c

@[simp] theorem foldl_config {α : Type} (g : Controller → α → Controller) (h : ∀ c x, (g c x).start.config = c.start.config)
    (l : List α) (c : Controller) : (l.foldl g c).start.config = c.start.config :=
  foldl_view (fun c => c.start.config) g h l c

@[simp] theorem foldl_startLine {α : Type} (g : Controller → α → Controller) (h : ∀ c x, (g c x).start.line = c.start.line)
    (l : List α) (c : Controller) : (l.foldl g c).start.line = c.start.line :=
  foldl_view (fun c => c.start.line) g h l c

@[simp] theorem foldl_powerOn {α : Type} (g : Controller → α → Controller) (h : ∀ c x, (g c x).start.powerOn = c.start.powerOn)
    (l : List α) (c : Controller) : (l.foldl g c).start.powerOn = c.start.powerOn :=
  foldl_view (fun c => c.start.powerOn) g h l c

@[simp] theorem foldl_restart {α : Type} (g : Controller → α → Controller) (h : ∀ c x, (g c x).start.restart = c.start.restart)
    (l : List α) (c : Controller) : (l.foldl g c).start.restart = c.start.restart :=
  foldl_view (fun c => c.start.restart) g h l c

@[simp] theorem foldl_reading {α : Type} (g : Controller → α → Controller) (h : ∀ c x, (g c x).start.reading = c.start.reading)
    (l : List α) (c : Controller) : (l.foldl g c).start.reading = c.start.reading :=
  foldl_view (fun c => c.start.reading) g h l c

@[simp] theorem foldl_ovens {α : Type} (g : Controller → α → Controller) (h : ∀ c x, (g c x).table.ovens = c.table.ovens)
    (l : List α) (c : Controller) : (l.foldl g c).table.ovens = c.table.ovens :=
  foldl_view (fun c => c.table.ovens) g h l c

@[simp] theorem foldl_below {α : Type} (g : Controller → α → Controller) (h : ∀ c x, (g c x).table.below = c.table.below)
    (l : List α) (c : Controller) : (l.foldl g c).table.below = c.table.below :=
  foldl_view (fun c => c.table.below) g h l c

@[simp] theorem foldl_above {α : Type} (g : Controller → α → Controller) (h : ∀ c x, (g c x).table.above = c.table.above)
    (l : List α) (c : Controller) : (l.foldl g c).table.above = c.table.above :=
  foldl_view (fun c => c.table.above) g h l c

@[simp] theorem foldl_nmin {α : Type} (g : Controller → α → Controller) (h : ∀ c x, (g c x).table.nmin = c.table.nmin)
    (l : List α) (c : Controller) : (l.foldl g c).table.nmin = c.table.nmin :=
  foldl_view (fun c => c.table.nmin) g h l c

@[simp] theorem foldl_pendT {α : Type} (g : Controller → α → Controller) (h : ∀ c x, (g c x).table.pendT = c.table.pendT)
    (l : List α) (c : Controller) : (l.foldl g c).table.pendT = c.table.pendT :=
  foldl_view (fun c => c.table.pendT) g h l c

@[simp] theorem foldl_pendE {α : Type} (g : Controller → α → Controller) (h : ∀ c x, (g c x).table.pendE = c.table.pendE)
    (l : List α) (c : Controller) : (l.foldl g c).table.pendE = c.table.pendE :=
  foldl_view (fun c => c.table.pendE) g h l c

@[simp] theorem foldl_doorList {α : Type} (g : Controller → α → Controller) (h : ∀ c x, (g c x).doors.doors = c.doors.doors)
    (l : List α) (c : Controller) : (l.foldl g c).doors.doors = c.doors.doors :=
  foldl_view (fun c => c.doors.doors) g h l c

@[simp] theorem foldl_presentIn {α : Type} (g : Controller → α → Controller) (h : ∀ c x, (g c x).doors.presentIn = c.doors.presentIn)
    (l : List α) (c : Controller) : (l.foldl g c).doors.presentIn = c.doors.presentIn :=
  foldl_view (fun c => c.doors.presentIn) g h l c

@[simp] theorem foldl_latchedIn {α : Type} (g : Controller → α → Controller) (h : ∀ c x, (g c x).doors.latchedIn = c.doors.latchedIn)
    (l : List α) (c : Controller) : (l.foldl g c).doors.latchedIn = c.doors.latchedIn :=
  foldl_view (fun c => c.doors.latchedIn) g h l c

@[simp] theorem foldl_number {α : Type} (g : Controller → α → Controller) (h : ∀ c x, (g c x).line.number = c.line.number)
    (l : List α) (c : Controller) : (l.foldl g c).line.number = c.line.number :=
  foldl_view (fun c => c.line.number) g h l c

@[simp] theorem foldl_rx {α : Type} (g : Controller → α → Controller) (h : ∀ c x, (g c x).line.rx = c.line.rx)
    (l : List α) (c : Controller) : (l.foldl g c).line.rx = c.line.rx :=
  foldl_view (fun c => c.line.rx) g h l c

@[simp] theorem foldl_ack {α : Type} (g : Controller → α → Controller) (h : ∀ c x, (g c x).line.ack = c.line.ack)
    (l : List α) (c : Controller) : (l.foldl g c).line.ack = c.line.ack :=
  foldl_view (fun c => c.line.ack) g h l c

@[simp] theorem foldl_phase {α : Type} (g : Controller → α → Controller) (h : ∀ c x, (g c x).line.phase = c.line.phase)
    (l : List α) (c : Controller) : (l.foldl g c).line.phase = c.line.phase :=
  foldl_view (fun c => c.line.phase) g h l c

@[simp] theorem foldl_tx {α : Type} (g : Controller → α → Controller) (h : ∀ c x, (g c x).line.tx = c.line.tx)
    (l : List α) (c : Controller) : (l.foldl g c).line.tx = c.line.tx :=
  foldl_view (fun c => c.line.tx) g h l c

@[simp] theorem foldl_jobState {α : Type} (g : Controller → α → Controller) (h : ∀ c x, (g c x).job.state = c.job.state)
    (l : List α) (c : Controller) : (l.foldl g c).job.state = c.job.state :=
  foldl_view (fun c => c.job.state) g h l c

@[simp] theorem foldl_jobOven {α : Type} (g : Controller → α → Controller) (h : ∀ c x, (g c x).job.oven = c.job.oven)
    (l : List α) (c : Controller) : (l.foldl g c).job.oven = c.job.oven :=
  foldl_view (fun c => c.job.oven) g h l c

@[simp] theorem foldl_enable {α : Type} (g : Controller → α → Controller) (h : ∀ c x, (g c x).events.enable = c.events.enable)
    (l : List α) (c : Controller) : (l.foldl g c).events.enable = c.events.enable :=
  foldl_view (fun c => c.events.enable) g h l c

@[simp] theorem foldl_carried {α : Type} (g : Controller → α → Controller) (h : ∀ c x, (g c x).events.carried = c.events.carried)
    (l : List α) (c : Controller) : (l.foldl g c).events.carried = c.events.carried :=
  foldl_view (fun c => c.events.carried) g h l c

@[simp] theorem foldl_cycle {α : Type} (g : Controller → α → Controller) (h : ∀ c x, (g c x).reg.cycle = c.reg.cycle)
    (l : List α) (c : Controller) : (l.foldl g c).reg.cycle = c.reg.cycle :=
  foldl_view (fun c => c.reg.cycle) g h l c

@[simp] theorem foldl_period {α : Type} (g : Controller → α → Controller) (h : ∀ c x, (g c x).reg.period = c.reg.period)
    (l : List α) (c : Controller) : (l.foldl g c).reg.period = c.reg.period :=
  foldl_view (fun c => c.reg.period) g h l c

@[simp] theorem foldl_answer {α : Type} (g : Controller → α → Controller) (h : ∀ c x, (g c x).reg.answer = c.reg.answer)
    (l : List α) (c : Controller) : (l.foldl g c).reg.answer = c.reg.answer :=
  foldl_view (fun c => c.reg.answer) g h l c

@[simp] theorem foldl_mainSend {α : Type} (g : Controller → α → Controller) (h : ∀ c x, (g c x).reg.mainSend = c.reg.mainSend)
    (l : List α) (c : Controller) : (l.foldl g c).reg.mainSend = c.reg.mainSend :=
  foldl_view (fun c => c.reg.mainSend) g h l c

@[simp] theorem foldl_frame {α : Type} (g : Controller → α → Controller) (h : ∀ c x, (g c x).reg.frame = c.reg.frame)
    (l : List α) (c : Controller) : (l.foldl g c).reg.frame = c.reg.frame :=
  foldl_view (fun c => c.reg.frame) g h l c

@[simp] theorem foldl_frameHeld {α : Type} (g : Controller → α → Controller) (h : ∀ c x, (g c x).reg.frameHeld = c.reg.frameHeld)
    (l : List α) (c : Controller) : (l.foldl g c).reg.frameHeld = c.reg.frameHeld :=
  foldl_view (fun c => c.reg.frameHeld) g h l c

@[simp] theorem foldl_framesOn {α : Type} (g : Controller → α → Controller) (h : ∀ c x, (g c x).reg.framesOn = c.reg.framesOn)
    (l : List α) (c : Controller) : (l.foldl g c).reg.framesOn = c.reg.framesOn :=
  foldl_view (fun c => c.reg.framesOn) g h l c

@[simp] theorem foldl_mainTap {α : Type} (g : Controller → α → Controller) (h : ∀ c x, (g c x).reg.main.tap = c.reg.main.tap)
    (l : List α) (c : Controller) : (l.foldl g c).reg.main.tap = c.reg.main.tap :=
  foldl_view (fun c => c.reg.main.tap) g h l c

@[simp] theorem foldl_mainValue {α : Type} (g : Controller → α → Controller) (h : ∀ c x, (g c x).reg.main.value = c.reg.main.value)
    (l : List α) (c : Controller) : (l.foldl g c).reg.main.value = c.reg.main.value :=
  foldl_view (fun c => c.reg.main.value) g h l c

@[simp] theorem foldl_mainInvalid {α : Type} (g : Controller → α → Controller) (h : ∀ c x, (g c x).reg.main.invalid = c.reg.main.invalid)
    (l : List α) (c : Controller) : (l.foldl g c).reg.main.invalid = c.reg.main.invalid :=
  foldl_view (fun c => c.reg.main.invalid) g h l c

@[simp] theorem foldl_mainAge {α : Type} (g : Controller → α → Controller) (h : ∀ c x, (g c x).reg.main.age = c.reg.main.age)
    (l : List α) (c : Controller) : (l.foldl g c).reg.main.age = c.reg.main.age :=
  foldl_view (fun c => c.reg.main.age) g h l c

@[simp] theorem foldl_mainStale {α : Type} (g : Controller → α → Controller) (h : ∀ c x, (g c x).reg.main.stale = c.reg.main.stale)
    (l : List α) (c : Controller) : (l.foldl g c).reg.main.stale = c.reg.main.stale :=
  foldl_view (fun c => c.reg.main.stale) g h l c


/-- What `modifyOven` leaves as it is. -/
@[simp] theorem modifyOven_frame (i : Nat) (f : Oven → Oven) (c : Controller) :
    (modifyOven i f c).start = c.start ∧ (modifyOven i f c).time = c.time ∧ (modifyOven i f c).round = c.round ∧
    (modifyOven i f c).held = c.held ∧ (modifyOven i f c).doors = c.doors ∧ (modifyOven i f c).scan = c.scan ∧
    (modifyOven i f c).due = c.due ∧ (modifyOven i f c).track = c.track ∧ (modifyOven i f c).line = c.line ∧
    (modifyOven i f c).job = c.job ∧ (modifyOven i f c).events = c.events ∧ (modifyOven i f c).reg = c.reg ∧
    (modifyOven i f c).table.below = c.table.below ∧ (modifyOven i f c).table.above = c.table.above ∧
    (modifyOven i f c).table.nmin = c.table.nmin ∧ (modifyOven i f c).table.pendT = c.table.pendT ∧
    (modifyOven i f c).table.pendE = c.table.pendE := by
  simp [modifyOven]

/-- What `modifyDoor` leaves as it is. -/
@[simp] theorem modifyDoor_frame (ch : Nat) (f : Door → Door) (c : Controller) :
    (modifyDoor ch f c).start = c.start ∧ (modifyDoor ch f c).time = c.time ∧ (modifyDoor ch f c).table = c.table ∧
    (modifyDoor ch f c).round = c.round ∧ (modifyDoor ch f c).held = c.held ∧ (modifyDoor ch f c).scan = c.scan ∧
    (modifyDoor ch f c).due = c.due ∧ (modifyDoor ch f c).track = c.track ∧ (modifyDoor ch f c).line = c.line ∧
    (modifyDoor ch f c).job = c.job ∧ (modifyDoor ch f c).events = c.events ∧ (modifyDoor ch f c).reg = c.reg ∧
    (modifyDoor ch f c).doors.presentIn = c.doors.presentIn ∧
    (modifyDoor ch f c).doors.latchedIn = c.doors.latchedIn := by
  simp [modifyDoor]

/-- What `setTx` leaves as it is. -/
@[simp] theorem setTx_frame (q : List TxEntry) (c : Controller) :
    (setTx q c).start = c.start ∧ (setTx q c).time = c.time ∧ (setTx q c).table = c.table ∧
    (setTx q c).round = c.round ∧ (setTx q c).held = c.held ∧ (setTx q c).doors = c.doors ∧
    (setTx q c).scan = c.scan ∧ (setTx q c).due = c.due ∧ (setTx q c).track = c.track ∧ (setTx q c).job = c.job ∧
    (setTx q c).events = c.events ∧ (setTx q c).reg = c.reg ∧ (setTx q c).line.number = c.line.number ∧
    (setTx q c).line.rx = c.line.rx ∧ (setTx q c).line.ack = c.line.ack ∧ (setTx q c).line.phase = c.line.phase := by
  simp [setTx]

/-- What `setFate` leaves as it is. -/
@[simp] theorem setFate_frame (f : Fate) (c : Controller) :
    (setFate f c).start = c.start ∧ (setFate f c).time = c.time ∧ (setFate f c).table = c.table ∧
    (setFate f c).round = c.round ∧ (setFate f c).held = c.held ∧ (setFate f c).doors = c.doors ∧
    (setFate f c).scan = c.scan ∧ (setFate f c).due = c.due ∧ (setFate f c).track = c.track ∧
    (setFate f c).job = c.job ∧ (setFate f c).events = c.events ∧ (setFate f c).reg = c.reg := by
  refine ⟨?_, ?_, ?_, ?_, ?_, ?_, ?_, ?_, ?_, ?_, ?_, ?_⟩
  · (simp only [setFate]; repeat' split) <;> simp_all
  · (simp only [setFate]; repeat' split) <;> simp_all
  · (simp only [setFate]; repeat' split) <;> simp_all
  · (simp only [setFate]; repeat' split) <;> simp_all
  · (simp only [setFate]; repeat' split) <;> simp_all
  · (simp only [setFate]; repeat' split) <;> simp_all
  · (simp only [setFate]; repeat' split) <;> simp_all
  · (simp only [setFate]; repeat' split) <;> simp_all
  · (simp only [setFate]; repeat' split) <;> simp_all
  · (simp only [setFate]; repeat' split) <;> simp_all
  · (simp only [setFate]; repeat' split) <;> simp_all
  · (simp only [setFate]; repeat' split) <;> simp_all

/-- What `setFate` leaves as it is, continued. -/
@[simp] theorem setFate_frame1 (f : Fate) (c : Controller) :
    (setFate f c).line.number = c.line.number ∧ (setFate f c).line.rx = c.line.rx ∧
    (setFate f c).line.ack = c.line.ack ∧ (setFate f c).line.tx = c.line.tx := by
  refine ⟨?_, ?_, ?_, ?_⟩
  · (simp only [setFate]; repeat' split) <;> simp_all
  · (simp only [setFate]; repeat' split) <;> simp_all
  · (simp only [setFate]; repeat' split) <;> simp_all
  · (simp only [setFate]; repeat' split) <;> simp_all

/-- What `offerEvent` leaves as it is. -/
@[simp] theorem offerEvent_frame (c : Controller) :
    (offerEvent c).start = c.start ∧ (offerEvent c).time = c.time ∧ (offerEvent c).table = c.table ∧
    (offerEvent c).round = c.round ∧ (offerEvent c).held = c.held ∧ (offerEvent c).doors = c.doors ∧
    (offerEvent c).scan = c.scan ∧ (offerEvent c).due = c.due ∧ (offerEvent c).track = c.track ∧
    (offerEvent c).job = c.job ∧ (offerEvent c).reg = c.reg := by
  refine ⟨?_, ?_, ?_, ?_, ?_, ?_, ?_, ?_, ?_, ?_, ?_⟩
  · (simp only [offerEvent]; repeat' split) <;> simp_all
  · (simp only [offerEvent]; repeat' split) <;> simp_all
  · (simp only [offerEvent]; repeat' split) <;> simp_all
  · (simp only [offerEvent]; repeat' split) <;> simp_all
  · (simp only [offerEvent]; repeat' split) <;> simp_all
  · (simp only [offerEvent]; repeat' split) <;> simp_all
  · (simp only [offerEvent]; repeat' split) <;> simp_all
  · (simp only [offerEvent]; repeat' split) <;> simp_all
  · (simp only [offerEvent]; repeat' split) <;> simp_all
  · (simp only [offerEvent]; repeat' split) <;> simp_all
  · (simp only [offerEvent]; repeat' split) <;> simp_all

/-- What `offerEvent` leaves as it is, continued. -/
@[simp] theorem offerEvent_frame1 (c : Controller) :
    (offerEvent c).line.number = c.line.number ∧ (offerEvent c).line.rx = c.line.rx ∧
    (offerEvent c).line.ack = c.line.ack ∧ (offerEvent c).line.phase = c.line.phase ∧
    (offerEvent c).events.enable = c.events.enable ∧ (offerEvent c).events.carried = c.events.carried := by
  refine ⟨?_, ?_, ?_, ?_, ?_, ?_⟩
  · (simp only [offerEvent]; repeat' split) <;> simp_all
  · (simp only [offerEvent]; repeat' split) <;> simp_all
  · (simp only [offerEvent]; repeat' split) <;> simp_all
  · (simp only [offerEvent]; repeat' split) <;> simp_all
  · (simp only [offerEvent]; repeat' split) <;> simp_all
  · (simp only [offerEvent]; repeat' split) <;> simp_all

/-- What `count` leaves as it is. -/
@[simp] theorem count_frame (k : EventKind) (first : Option Nat) (c : Controller) :
    (count k first c).start = c.start ∧ (count k first c).time = c.time ∧ (count k first c).table = c.table ∧
    (count k first c).round = c.round ∧ (count k first c).held = c.held ∧ (count k first c).doors = c.doors ∧
    (count k first c).scan = c.scan ∧ (count k first c).due = c.due ∧ (count k first c).track = c.track ∧
    (count k first c).job = c.job ∧ (count k first c).reg = c.reg ∧ (count k first c).line.number = c.line.number ∧
    (count k first c).line.rx = c.line.rx ∧ (count k first c).line.ack = c.line.ack ∧
    (count k first c).line.phase = c.line.phase ∧ (count k first c).events.enable = c.events.enable ∧
    (count k first c).events.carried = c.events.carried := by
  simp [count]

/-- What `notTaken` leaves as it is. -/
@[simp] theorem notTaken_frame (t : Telegram) (c : Controller) :
    (notTaken t c).start = c.start ∧ (notTaken t c).time = c.time ∧ (notTaken t c).table = c.table ∧
    (notTaken t c).round = c.round ∧ (notTaken t c).held = c.held ∧ (notTaken t c).doors = c.doors ∧
    (notTaken t c).scan = c.scan ∧ (notTaken t c).due = c.due ∧ (notTaken t c).line = c.line := by
  refine ⟨?_, ?_, ?_, ?_, ?_, ?_, ?_, ?_, ?_⟩
  · (simp only [notTaken]; repeat' split) <;> simp_all
  · (simp only [notTaken]; repeat' split) <;> simp_all
  · (simp only [notTaken]; repeat' split) <;> simp_all
  · (simp only [notTaken]; repeat' split) <;> simp_all
  · (simp only [notTaken]; repeat' split) <;> simp_all
  · (simp only [notTaken]; repeat' split) <;> simp_all
  · (simp only [notTaken]; repeat' split) <;> simp_all
  · (simp only [notTaken]; repeat' split) <;> simp_all
  · (simp only [notTaken]; repeat' split) <;> simp_all

/-- What `notTaken` leaves as it is, continued. -/
@[simp] theorem notTaken_frame1 (t : Telegram) (c : Controller) :
    (notTaken t c).track.pusher = c.track.pusher ∧ (notTaken t c).track.guide = c.track.guide ∧
    (notTaken t c).track.car = c.track.car ∧ (notTaken t c).events.enable = c.events.enable ∧
    (notTaken t c).events.carried = c.events.carried ∧ (notTaken t c).reg.cycle = c.reg.cycle ∧
    (notTaken t c).reg.period = c.reg.period ∧ (notTaken t c).reg.answer = c.reg.answer ∧
    (notTaken t c).reg.mainSend = c.reg.mainSend ∧ (notTaken t c).reg.frame = c.reg.frame ∧
    (notTaken t c).reg.frameHeld = c.reg.frameHeld ∧ (notTaken t c).reg.framesOn = c.reg.framesOn := by
  refine ⟨?_, ?_, ?_, ?_, ?_, ?_, ?_, ?_, ?_, ?_, ?_, ?_⟩
  · (simp only [notTaken]; repeat' split) <;> simp_all
  · (simp only [notTaken]; repeat' split) <;> simp_all
  · (simp only [notTaken]; repeat' split) <;> simp_all
  · (simp only [notTaken]; repeat' split) <;> simp_all
  · (simp only [notTaken]; repeat' split) <;> simp_all
  · (simp only [notTaken]; repeat' split) <;> simp_all
  · (simp only [notTaken]; repeat' split) <;> simp_all
  · (simp only [notTaken]; repeat' split) <;> simp_all
  · (simp only [notTaken]; repeat' split) <;> simp_all
  · (simp only [notTaken]; repeat' split) <;> simp_all
  · (simp only [notTaken]; repeat' split) <;> simp_all
  · (simp only [notTaken]; repeat' split) <;> simp_all

/-- What `notTaken` leaves as it is, continued. -/
@[simp] theorem notTaken_frame2 (t : Telegram) (c : Controller) :
    (notTaken t c).reg.main.tap = c.reg.main.tap ∧ (notTaken t c).reg.main.value = c.reg.main.value ∧
    (notTaken t c).reg.main.invalid = c.reg.main.invalid ∧ (notTaken t c).reg.main.age = c.reg.main.age ∧
    (notTaken t c).reg.main.stale = c.reg.main.stale := by
  refine ⟨?_, ?_, ?_, ?_, ?_⟩
  · (simp only [notTaken]; repeat' split) <;> simp_all
  · (simp only [notTaken]; repeat' split) <;> simp_all
  · (simp only [notTaken]; repeat' split) <;> simp_all
  · (simp only [notTaken]; repeat' split) <;> simp_all
  · (simp only [notTaken]; repeat' split) <;> simp_all

/-- What `replaceEntry` leaves as it is. -/
@[simp] theorem replaceEntry_frame (t : Telegram) (c : Controller) :
    (replaceEntry t c).start = c.start ∧ (replaceEntry t c).time = c.time ∧ (replaceEntry t c).table = c.table ∧
    (replaceEntry t c).round = c.round ∧ (replaceEntry t c).held = c.held ∧ (replaceEntry t c).doors = c.doors ∧
    (replaceEntry t c).scan = c.scan ∧ (replaceEntry t c).due = c.due ∧ (replaceEntry t c).track = c.track ∧
    (replaceEntry t c).job = c.job ∧ (replaceEntry t c).events = c.events ∧ (replaceEntry t c).reg = c.reg := by
  refine ⟨?_, ?_, ?_, ?_, ?_, ?_, ?_, ?_, ?_, ?_, ?_, ?_⟩
  · (simp only [replaceEntry]; repeat' split) <;> simp_all
  · (simp only [replaceEntry]; repeat' split) <;> simp_all
  · (simp only [replaceEntry]; repeat' split) <;> simp_all
  · (simp only [replaceEntry]; repeat' split) <;> simp_all
  · (simp only [replaceEntry]; repeat' split) <;> simp_all
  · (simp only [replaceEntry]; repeat' split) <;> simp_all
  · (simp only [replaceEntry]; repeat' split) <;> simp_all
  · (simp only [replaceEntry]; repeat' split) <;> simp_all
  · (simp only [replaceEntry]; repeat' split) <;> simp_all
  · (simp only [replaceEntry]; repeat' split) <;> simp_all
  · (simp only [replaceEntry]; repeat' split) <;> simp_all
  · (simp only [replaceEntry]; repeat' split) <;> simp_all

/-- What `replaceEntry` leaves as it is, continued. -/
@[simp] theorem replaceEntry_frame1 (t : Telegram) (c : Controller) :
    (replaceEntry t c).line.number = c.line.number ∧ (replaceEntry t c).line.rx = c.line.rx ∧
    (replaceEntry t c).line.ack = c.line.ack := by
  refine ⟨?_, ?_, ?_⟩
  · (simp only [replaceEntry]; repeat' split) <;> simp_all
  · (simp only [replaceEntry]; repeat' split) <;> simp_all
  · (simp only [replaceEntry]; repeat' split) <;> simp_all

/-- What `displaceLast` leaves as it is. -/
@[simp] theorem displaceLast_frame (t : Telegram) (c : Controller) :
    (displaceLast t c).start = c.start ∧ (displaceLast t c).time = c.time ∧ (displaceLast t c).table = c.table ∧
    (displaceLast t c).round = c.round ∧ (displaceLast t c).held = c.held ∧ (displaceLast t c).doors = c.doors ∧
    (displaceLast t c).scan = c.scan ∧ (displaceLast t c).due = c.due := by
  refine ⟨?_, ?_, ?_, ?_, ?_, ?_, ?_, ?_⟩
  · (simp only [displaceLast]; repeat' split) <;> simp_all
  · (simp only [displaceLast]; repeat' split) <;> simp_all
  · (simp only [displaceLast]; repeat' split) <;> simp_all
  · (simp only [displaceLast]; repeat' split) <;> simp_all
  · (simp only [displaceLast]; repeat' split) <;> simp_all
  · (simp only [displaceLast]; repeat' split) <;> simp_all
  · (simp only [displaceLast]; repeat' split) <;> simp_all
  · (simp only [displaceLast]; repeat' split) <;> simp_all

/-- What `displaceLast` leaves as it is, continued. -/
@[simp] theorem displaceLast_frame1 (t : Telegram) (c : Controller) :
    (displaceLast t c).track.pusher = c.track.pusher ∧ (displaceLast t c).track.guide = c.track.guide ∧
    (displaceLast t c).track.car = c.track.car ∧ (displaceLast t c).line.number = c.line.number ∧
    (displaceLast t c).line.rx = c.line.rx ∧ (displaceLast t c).line.ack = c.line.ack ∧
    (displaceLast t c).events.enable = c.events.enable ∧ (displaceLast t c).events.carried = c.events.carried ∧
    (displaceLast t c).reg.cycle = c.reg.cycle ∧ (displaceLast t c).reg.period = c.reg.period ∧
    (displaceLast t c).reg.answer = c.reg.answer ∧ (displaceLast t c).reg.mainSend = c.reg.mainSend := by
  refine ⟨?_, ?_, ?_, ?_, ?_, ?_, ?_, ?_, ?_, ?_, ?_, ?_⟩
  · (simp only [displaceLast]; repeat' split) <;> simp_all
  · (simp only [displaceLast]; repeat' split) <;> simp_all
  · (simp only [displaceLast]; repeat' split) <;> simp_all
  · (simp only [displaceLast]; repeat' split) <;> simp_all
  · (simp only [displaceLast]; repeat' split) <;> simp_all
  · (simp only [displaceLast]; repeat' split) <;> simp_all
  · (simp only [displaceLast]; repeat' split) <;> simp_all
  · (simp only [displaceLast]; repeat' split) <;> simp_all
  · (simp only [displaceLast]; repeat' split) <;> simp_all
  · (simp only [displaceLast]; repeat' split) <;> simp_all
  · (simp only [displaceLast]; repeat' split) <;> simp_all
  · (simp only [displaceLast]; repeat' split) <;> simp_all

/-- What `displaceLast` leaves as it is, continued. -/
@[simp] theorem displaceLast_frame2 (t : Telegram) (c : Controller) :
    (displaceLast t c).reg.frame = c.reg.frame ∧ (displaceLast t c).reg.frameHeld = c.reg.frameHeld ∧
    (displaceLast t c).reg.framesOn = c.reg.framesOn ∧ (displaceLast t c).reg.main.tap = c.reg.main.tap ∧
    (displaceLast t c).reg.main.value = c.reg.main.value ∧
    (displaceLast t c).reg.main.invalid = c.reg.main.invalid ∧ (displaceLast t c).reg.main.age = c.reg.main.age ∧
    (displaceLast t c).reg.main.stale = c.reg.main.stale := by
  refine ⟨?_, ?_, ?_, ?_, ?_, ?_, ?_, ?_⟩
  · (simp only [displaceLast]; repeat' split) <;> simp_all
  · (simp only [displaceLast]; repeat' split) <;> simp_all
  · (simp only [displaceLast]; repeat' split) <;> simp_all
  · (simp only [displaceLast]; repeat' split) <;> simp_all
  · (simp only [displaceLast]; repeat' split) <;> simp_all
  · (simp only [displaceLast]; repeat' split) <;> simp_all
  · (simp only [displaceLast]; repeat' split) <;> simp_all
  · (simp only [displaceLast]; repeat' split) <;> simp_all

/-- What `offer` leaves as it is. -/
@[simp] theorem offer_frame (t : Telegram) (c : Controller) :
    (offer t c).start = c.start ∧ (offer t c).time = c.time ∧ (offer t c).table = c.table ∧
    (offer t c).round = c.round ∧ (offer t c).held = c.held ∧ (offer t c).doors = c.doors ∧
    (offer t c).scan = c.scan ∧ (offer t c).due = c.due := by
  refine ⟨?_, ?_, ?_, ?_, ?_, ?_, ?_, ?_⟩
  · (simp only [offer]; repeat' split) <;> simp_all
  · (simp only [offer]; repeat' split) <;> simp_all
  · (simp only [offer]; repeat' split) <;> simp_all
  · (simp only [offer]; repeat' split) <;> simp_all
  · (simp only [offer]; repeat' split) <;> simp_all
  · (simp only [offer]; repeat' split) <;> simp_all
  · (simp only [offer]; repeat' split) <;> simp_all
  · (simp only [offer]; repeat' split) <;> simp_all

/-- What `offer` leaves as it is, continued. -/
@[simp] theorem offer_frame1 (t : Telegram) (c : Controller) :
    (offer t c).track.pusher = c.track.pusher ∧ (offer t c).track.guide = c.track.guide ∧
    (offer t c).track.car = c.track.car ∧ (offer t c).line.number = c.line.number ∧
    (offer t c).line.rx = c.line.rx ∧ (offer t c).line.ack = c.line.ack ∧
    (offer t c).events.enable = c.events.enable ∧ (offer t c).events.carried = c.events.carried ∧
    (offer t c).reg.cycle = c.reg.cycle ∧ (offer t c).reg.period = c.reg.period ∧
    (offer t c).reg.answer = c.reg.answer ∧ (offer t c).reg.mainSend = c.reg.mainSend := by
  refine ⟨?_, ?_, ?_, ?_, ?_, ?_, ?_, ?_, ?_, ?_, ?_, ?_⟩
  · (simp only [offer]; repeat' split) <;> simp_all
  · (simp only [offer]; repeat' split) <;> simp_all
  · (simp only [offer]; repeat' split) <;> simp_all
  · (simp only [offer]; repeat' split) <;> simp_all
  · (simp only [offer]; repeat' split) <;> simp_all
  · (simp only [offer]; repeat' split) <;> simp_all
  · (simp only [offer]; repeat' split) <;> simp_all
  · (simp only [offer]; repeat' split) <;> simp_all
  · (simp only [offer]; repeat' split) <;> simp_all
  · (simp only [offer]; repeat' split) <;> simp_all
  · (simp only [offer]; repeat' split) <;> simp_all
  · (simp only [offer]; repeat' split) <;> simp_all

/-- What `offer` leaves as it is, continued. -/
@[simp] theorem offer_frame2 (t : Telegram) (c : Controller) :
    (offer t c).reg.frame = c.reg.frame ∧ (offer t c).reg.frameHeld = c.reg.frameHeld ∧
    (offer t c).reg.framesOn = c.reg.framesOn ∧ (offer t c).reg.main.tap = c.reg.main.tap ∧
    (offer t c).reg.main.value = c.reg.main.value ∧ (offer t c).reg.main.invalid = c.reg.main.invalid ∧
    (offer t c).reg.main.age = c.reg.main.age ∧ (offer t c).reg.main.stale = c.reg.main.stale := by
  refine ⟨?_, ?_, ?_, ?_, ?_, ?_, ?_, ?_⟩
  · (simp only [offer]; repeat' split) <;> simp_all
  · (simp only [offer]; repeat' split) <;> simp_all
  · (simp only [offer]; repeat' split) <;> simp_all
  · (simp only [offer]; repeat' split) <;> simp_all
  · (simp only [offer]; repeat' split) <;> simp_all
  · (simp only [offer]; repeat' split) <;> simp_all
  · (simp only [offer]; repeat' split) <;> simp_all
  · (simp only [offer]; repeat' split) <;> simp_all

/-- What `withdraw` leaves as it is. -/
@[simp] theorem withdraw_frame (p : Telegram → Bool) (c : Controller) :
    (withdraw p c).start = c.start ∧ (withdraw p c).time = c.time ∧ (withdraw p c).table = c.table ∧
    (withdraw p c).round = c.round ∧ (withdraw p c).held = c.held ∧ (withdraw p c).doors = c.doors ∧
    (withdraw p c).scan = c.scan ∧ (withdraw p c).due = c.due ∧ (withdraw p c).track = c.track ∧
    (withdraw p c).job = c.job ∧ (withdraw p c).events = c.events ∧ (withdraw p c).reg = c.reg := by
  refine ⟨?_, ?_, ?_, ?_, ?_, ?_, ?_, ?_, ?_, ?_, ?_, ?_⟩
  · (simp only [withdraw]; repeat' split) <;> simp_all
  · (simp only [withdraw]; repeat' split) <;> simp_all
  · (simp only [withdraw]; repeat' split) <;> simp_all
  · (simp only [withdraw]; repeat' split) <;> simp_all
  · (simp only [withdraw]; repeat' split) <;> simp_all
  · (simp only [withdraw]; repeat' split) <;> simp_all
  · (simp only [withdraw]; repeat' split) <;> simp_all
  · (simp only [withdraw]; repeat' split) <;> simp_all
  · (simp only [withdraw]; repeat' split) <;> simp_all
  · (simp only [withdraw]; repeat' split) <;> simp_all
  · (simp only [withdraw]; repeat' split) <;> simp_all
  · (simp only [withdraw]; repeat' split) <;> simp_all

/-- What `withdraw` leaves as it is, continued. -/
@[simp] theorem withdraw_frame1 (p : Telegram → Bool) (c : Controller) :
    (withdraw p c).line.number = c.line.number ∧ (withdraw p c).line.rx = c.line.rx ∧
    (withdraw p c).line.ack = c.line.ack := by
  refine ⟨?_, ?_, ?_⟩
  · (simp only [withdraw]; repeat' split) <;> simp_all
  · (simp only [withdraw]; repeat' split) <;> simp_all
  · (simp only [withdraw]; repeat' split) <;> simp_all

/-- What `withdrawKind` leaves as it is. -/
@[simp] theorem withdrawKind_frame (k : Kind) (c : Controller) :
    (withdrawKind k c).start = c.start ∧ (withdrawKind k c).time = c.time ∧ (withdrawKind k c).table = c.table ∧
    (withdrawKind k c).round = c.round ∧ (withdrawKind k c).held = c.held ∧ (withdrawKind k c).doors = c.doors ∧
    (withdrawKind k c).scan = c.scan ∧ (withdrawKind k c).due = c.due ∧ (withdrawKind k c).track = c.track ∧
    (withdrawKind k c).job = c.job ∧ (withdrawKind k c).events = c.events ∧ (withdrawKind k c).reg = c.reg ∧
    (withdrawKind k c).line.number = c.line.number ∧ (withdrawKind k c).line.rx = c.line.rx ∧
    (withdrawKind k c).line.ack = c.line.ack := by
  simp [withdrawKind]

/-- What `withdrawHalt` leaves as it is. -/
@[simp] theorem withdrawHalt_frame (oven : Nat) (c : Controller) :
    (withdrawHalt oven c).start = c.start ∧ (withdrawHalt oven c).time = c.time ∧
    (withdrawHalt oven c).table = c.table ∧ (withdrawHalt oven c).round = c.round ∧
    (withdrawHalt oven c).held = c.held ∧ (withdrawHalt oven c).doors = c.doors ∧
    (withdrawHalt oven c).scan = c.scan ∧ (withdrawHalt oven c).due = c.due ∧
    (withdrawHalt oven c).track = c.track ∧ (withdrawHalt oven c).job = c.job ∧
    (withdrawHalt oven c).events = c.events ∧ (withdrawHalt oven c).reg = c.reg ∧
    (withdrawHalt oven c).line.number = c.line.number ∧ (withdrawHalt oven c).line.rx = c.line.rx ∧
    (withdrawHalt oven c).line.ack = c.line.ack := by
  simp [withdrawHalt]

/-- What `queuePhase` leaves as it is. -/
@[simp] theorem queuePhase_frame (i : Nat) (c : Controller) :
    (queuePhase i c).start = c.start ∧ (queuePhase i c).time = c.time ∧ (queuePhase i c).table = c.table ∧
    (queuePhase i c).round = c.round ∧ (queuePhase i c).held = c.held ∧ (queuePhase i c).doors = c.doors ∧
    (queuePhase i c).scan = c.scan ∧ (queuePhase i c).due = c.due := by
  refine ⟨?_, ?_, ?_, ?_, ?_, ?_, ?_, ?_⟩
  · (simp only [queuePhase]; repeat' split) <;> simp_all
  · (simp only [queuePhase]; repeat' split) <;> simp_all
  · (simp only [queuePhase]; repeat' split) <;> simp_all
  · (simp only [queuePhase]; repeat' split) <;> simp_all
  · (simp only [queuePhase]; repeat' split) <;> simp_all
  · (simp only [queuePhase]; repeat' split) <;> simp_all
  · (simp only [queuePhase]; repeat' split) <;> simp_all
  · (simp only [queuePhase]; repeat' split) <;> simp_all

/-- What `queuePhase` leaves as it is, continued. -/
@[simp] theorem queuePhase_frame1 (i : Nat) (c : Controller) :
    (queuePhase i c).track.pusher = c.track.pusher ∧ (queuePhase i c).track.guide = c.track.guide ∧
    (queuePhase i c).track.car = c.track.car ∧ (queuePhase i c).line.number = c.line.number ∧
    (queuePhase i c).line.rx = c.line.rx ∧ (queuePhase i c).line.ack = c.line.ack ∧
    (queuePhase i c).events.enable = c.events.enable ∧ (queuePhase i c).events.carried = c.events.carried ∧
    (queuePhase i c).reg.cycle = c.reg.cycle ∧ (queuePhase i c).reg.period = c.reg.period ∧
    (queuePhase i c).reg.answer = c.reg.answer ∧ (queuePhase i c).reg.mainSend = c.reg.mainSend := by
  refine ⟨?_, ?_, ?_, ?_, ?_, ?_, ?_, ?_, ?_, ?_, ?_, ?_⟩
  · (simp only [queuePhase]; repeat' split) <;> simp_all
  · (simp only [queuePhase]; repeat' split) <;> simp_all
  · (simp only [queuePhase]; repeat' split) <;> simp_all
  · (simp only [queuePhase]; repeat' split) <;> simp_all
  · (simp only [queuePhase]; repeat' split) <;> simp_all
  · (simp only [queuePhase]; repeat' split) <;> simp_all
  · (simp only [queuePhase]; repeat' split) <;> simp_all
  · (simp only [queuePhase]; repeat' split) <;> simp_all
  · (simp only [queuePhase]; repeat' split) <;> simp_all
  · (simp only [queuePhase]; repeat' split) <;> simp_all
  · (simp only [queuePhase]; repeat' split) <;> simp_all
  · (simp only [queuePhase]; repeat' split) <;> simp_all

/-- What `queuePhase` leaves as it is, continued. -/
@[simp] theorem queuePhase_frame2 (i : Nat) (c : Controller) :
    (queuePhase i c).reg.frame = c.reg.frame ∧ (queuePhase i c).reg.frameHeld = c.reg.frameHeld ∧
    (queuePhase i c).reg.framesOn = c.reg.framesOn ∧ (queuePhase i c).reg.main.tap = c.reg.main.tap ∧
    (queuePhase i c).reg.main.value = c.reg.main.value ∧ (queuePhase i c).reg.main.invalid = c.reg.main.invalid ∧
    (queuePhase i c).reg.main.age = c.reg.main.age ∧ (queuePhase i c).reg.main.stale = c.reg.main.stale := by
  refine ⟨?_, ?_, ?_, ?_, ?_, ?_, ?_, ?_⟩
  · (simp only [queuePhase]; repeat' split) <;> simp_all
  · (simp only [queuePhase]; repeat' split) <;> simp_all
  · (simp only [queuePhase]; repeat' split) <;> simp_all
  · (simp only [queuePhase]; repeat' split) <;> simp_all
  · (simp only [queuePhase]; repeat' split) <;> simp_all
  · (simp only [queuePhase]; repeat' split) <;> simp_all
  · (simp only [queuePhase]; repeat' split) <;> simp_all
  · (simp only [queuePhase]; repeat' split) <;> simp_all

/-- What `offerPermit` leaves as it is. -/
@[simp] theorem offerPermit_frame (oven : Nat) (code : Nat) (c : Controller) :
    (offerPermit oven code c).start = c.start ∧ (offerPermit oven code c).time = c.time ∧
    (offerPermit oven code c).table = c.table ∧ (offerPermit oven code c).round = c.round ∧
    (offerPermit oven code c).held = c.held ∧ (offerPermit oven code c).doors = c.doors ∧
    (offerPermit oven code c).scan = c.scan ∧ (offerPermit oven code c).due = c.due ∧
    (offerPermit oven code c).track.pusher = c.track.pusher ∧
    (offerPermit oven code c).track.guide = c.track.guide ∧ (offerPermit oven code c).track.car = c.track.car ∧
    (offerPermit oven code c).line.number = c.line.number ∧ (offerPermit oven code c).line.rx = c.line.rx ∧
    (offerPermit oven code c).line.ack = c.line.ack ∧ (offerPermit oven code c).events.enable = c.events.enable ∧
    (offerPermit oven code c).events.carried = c.events.carried ∧
    (offerPermit oven code c).reg.cycle = c.reg.cycle ∧ (offerPermit oven code c).reg.period = c.reg.period ∧
    (offerPermit oven code c).reg.answer = c.reg.answer ∧ (offerPermit oven code c).reg.mainSend = c.reg.mainSend ∧
    (offerPermit oven code c).reg.frame = c.reg.frame ∧ (offerPermit oven code c).reg.frameHeld = c.reg.frameHeld ∧
    (offerPermit oven code c).reg.framesOn = c.reg.framesOn ∧
    (offerPermit oven code c).reg.main.tap = c.reg.main.tap ∧
    (offerPermit oven code c).reg.main.value = c.reg.main.value ∧
    (offerPermit oven code c).reg.main.invalid = c.reg.main.invalid ∧
    (offerPermit oven code c).reg.main.age = c.reg.main.age ∧
    (offerPermit oven code c).reg.main.stale = c.reg.main.stale := by
  simp [offerPermit]

/-- What `offerHalt` leaves as it is. -/
@[simp] theorem offerHalt_frame (oven : Nat) (c : Controller) :
    (offerHalt oven c).start = c.start ∧ (offerHalt oven c).time = c.time ∧ (offerHalt oven c).table = c.table ∧
    (offerHalt oven c).round = c.round ∧ (offerHalt oven c).held = c.held ∧ (offerHalt oven c).doors = c.doors ∧
    (offerHalt oven c).scan = c.scan ∧ (offerHalt oven c).due = c.due ∧
    (offerHalt oven c).track.pusher = c.track.pusher ∧ (offerHalt oven c).track.guide = c.track.guide ∧
    (offerHalt oven c).track.car = c.track.car ∧ (offerHalt oven c).line.number = c.line.number ∧
    (offerHalt oven c).line.rx = c.line.rx ∧ (offerHalt oven c).line.ack = c.line.ack ∧
    (offerHalt oven c).events.enable = c.events.enable ∧ (offerHalt oven c).events.carried = c.events.carried ∧
    (offerHalt oven c).reg.cycle = c.reg.cycle ∧ (offerHalt oven c).reg.period = c.reg.period ∧
    (offerHalt oven c).reg.answer = c.reg.answer ∧ (offerHalt oven c).reg.mainSend = c.reg.mainSend ∧
    (offerHalt oven c).reg.frame = c.reg.frame ∧ (offerHalt oven c).reg.frameHeld = c.reg.frameHeld ∧
    (offerHalt oven c).reg.framesOn = c.reg.framesOn ∧ (offerHalt oven c).reg.main.tap = c.reg.main.tap ∧
    (offerHalt oven c).reg.main.value = c.reg.main.value ∧
    (offerHalt oven c).reg.main.invalid = c.reg.main.invalid ∧ (offerHalt oven c).reg.main.age = c.reg.main.age ∧
    (offerHalt oven c).reg.main.stale = c.reg.main.stale := by
  simp [offerHalt]

/-- What `offerRelease` leaves as it is. -/
@[simp] theorem offerRelease_frame (oven : Nat) (o : PushOutcome) (c : Controller) :
    (offerRelease oven o c).start = c.start ∧ (offerRelease oven o c).time = c.time ∧
    (offerRelease oven o c).table = c.table ∧ (offerRelease oven o c).round = c.round ∧
    (offerRelease oven o c).held = c.held ∧ (offerRelease oven o c).doors = c.doors ∧
    (offerRelease oven o c).scan = c.scan ∧ (offerRelease oven o c).due = c.due ∧
    (offerRelease oven o c).track.pusher = c.track.pusher ∧ (offerRelease oven o c).track.guide = c.track.guide ∧
    (offerRelease oven o c).track.car = c.track.car ∧ (offerRelease oven o c).line.number = c.line.number ∧
    (offerRelease oven o c).line.rx = c.line.rx ∧ (offerRelease oven o c).line.ack = c.line.ack ∧
    (offerRelease oven o c).events.enable = c.events.enable ∧
    (offerRelease oven o c).events.carried = c.events.carried ∧ (offerRelease oven o c).reg.cycle = c.reg.cycle ∧
    (offerRelease oven o c).reg.period = c.reg.period ∧ (offerRelease oven o c).reg.answer = c.reg.answer ∧
    (offerRelease oven o c).reg.mainSend = c.reg.mainSend ∧ (offerRelease oven o c).reg.frame = c.reg.frame ∧
    (offerRelease oven o c).reg.frameHeld = c.reg.frameHeld ∧
    (offerRelease oven o c).reg.framesOn = c.reg.framesOn ∧ (offerRelease oven o c).reg.main.tap = c.reg.main.tap ∧
    (offerRelease oven o c).reg.main.value = c.reg.main.value ∧
    (offerRelease oven o c).reg.main.invalid = c.reg.main.invalid ∧
    (offerRelease oven o c).reg.main.age = c.reg.main.age ∧
    (offerRelease oven o c).reg.main.stale = c.reg.main.stale := by
  simp [offerRelease]

/-- What `offerOwed` leaves as it is. -/
@[simp] theorem offerOwed_frame (c : Controller) :
    (offerOwed c).start = c.start ∧ (offerOwed c).time = c.time ∧ (offerOwed c).table = c.table ∧
    (offerOwed c).round = c.round ∧ (offerOwed c).held = c.held ∧ (offerOwed c).doors = c.doors ∧
    (offerOwed c).scan = c.scan ∧ (offerOwed c).due = c.due := by
  refine ⟨?_, ?_, ?_, ?_, ?_, ?_, ?_, ?_⟩
  · (simp only [offerOwed]; repeat' split) <;> simp_all
  · (simp only [offerOwed]; repeat' split) <;> simp_all
  · (simp only [offerOwed]; repeat' split) <;> simp_all
  · (simp only [offerOwed]; repeat' split) <;> simp_all
  · (simp only [offerOwed]; repeat' split) <;> simp_all
  · (simp only [offerOwed]; repeat' split) <;> simp_all
  · (simp only [offerOwed]; repeat' split) <;> simp_all
  · (simp only [offerOwed]; repeat' split) <;> simp_all

/-- What `offerOwed` leaves as it is, continued. -/
@[simp] theorem offerOwed_frame1 (c : Controller) :
    (offerOwed c).track.pusher = c.track.pusher ∧ (offerOwed c).track.guide = c.track.guide ∧
    (offerOwed c).track.car = c.track.car ∧ (offerOwed c).line.number = c.line.number ∧
    (offerOwed c).line.rx = c.line.rx ∧ (offerOwed c).line.ack = c.line.ack ∧
    (offerOwed c).events.enable = c.events.enable ∧ (offerOwed c).events.carried = c.events.carried ∧
    (offerOwed c).reg.cycle = c.reg.cycle ∧ (offerOwed c).reg.period = c.reg.period ∧
    (offerOwed c).reg.answer = c.reg.answer ∧ (offerOwed c).reg.mainSend = c.reg.mainSend := by
  refine ⟨?_, ?_, ?_, ?_, ?_, ?_, ?_, ?_, ?_, ?_, ?_, ?_⟩
  · (simp only [offerOwed]; repeat' split) <;> simp_all
  · (simp only [offerOwed]; repeat' split) <;> simp_all
  · (simp only [offerOwed]; repeat' split) <;> simp_all
  · (simp only [offerOwed]; repeat' split) <;> simp_all
  · (simp only [offerOwed]; repeat' split) <;> simp_all
  · (simp only [offerOwed]; repeat' split) <;> simp_all
  · (simp only [offerOwed]; repeat' split) <;> simp_all
  · (simp only [offerOwed]; repeat' split) <;> simp_all
  · (simp only [offerOwed]; repeat' split) <;> simp_all
  · (simp only [offerOwed]; repeat' split) <;> simp_all
  · (simp only [offerOwed]; repeat' split) <;> simp_all
  · (simp only [offerOwed]; repeat' split) <;> simp_all

/-- What `offerOwed` leaves as it is, continued. -/
@[simp] theorem offerOwed_frame2 (c : Controller) :
    (offerOwed c).reg.frame = c.reg.frame ∧ (offerOwed c).reg.frameHeld = c.reg.frameHeld ∧
    (offerOwed c).reg.framesOn = c.reg.framesOn ∧ (offerOwed c).reg.main.tap = c.reg.main.tap ∧
    (offerOwed c).reg.main.value = c.reg.main.value ∧ (offerOwed c).reg.main.invalid = c.reg.main.invalid ∧
    (offerOwed c).reg.main.age = c.reg.main.age ∧ (offerOwed c).reg.main.stale = c.reg.main.stale := by
  refine ⟨?_, ?_, ?_, ?_, ?_, ?_, ?_, ?_⟩
  · (simp only [offerOwed]; repeat' split) <;> simp_all
  · (simp only [offerOwed]; repeat' split) <;> simp_all
  · (simp only [offerOwed]; repeat' split) <;> simp_all
  · (simp only [offerOwed]; repeat' split) <;> simp_all
  · (simp only [offerOwed]; repeat' split) <;> simp_all
  · (simp only [offerOwed]; repeat' split) <;> simp_all
  · (simp only [offerOwed]; repeat' split) <;> simp_all
  · (simp only [offerOwed]; repeat' split) <;> simp_all

/-- What `freePlace` leaves as it is. -/
@[simp] theorem freePlace_frame (c : Controller) :
    (freePlace c).start = c.start ∧ (freePlace c).time = c.time ∧ (freePlace c).table = c.table ∧
    (freePlace c).round = c.round ∧ (freePlace c).held = c.held ∧ (freePlace c).doors = c.doors ∧
    (freePlace c).scan = c.scan ∧ (freePlace c).due = c.due ∧ (freePlace c).track.pusher = c.track.pusher ∧
    (freePlace c).track.guide = c.track.guide ∧ (freePlace c).track.car = c.track.car ∧
    (freePlace c).line.number = c.line.number ∧ (freePlace c).line.rx = c.line.rx ∧
    (freePlace c).line.ack = c.line.ack ∧ (freePlace c).events.enable = c.events.enable ∧
    (freePlace c).events.carried = c.events.carried ∧ (freePlace c).reg.cycle = c.reg.cycle ∧
    (freePlace c).reg.period = c.reg.period ∧ (freePlace c).reg.answer = c.reg.answer ∧
    (freePlace c).reg.mainSend = c.reg.mainSend ∧ (freePlace c).reg.frame = c.reg.frame ∧
    (freePlace c).reg.frameHeld = c.reg.frameHeld ∧ (freePlace c).reg.framesOn = c.reg.framesOn ∧
    (freePlace c).reg.main.tap = c.reg.main.tap ∧ (freePlace c).reg.main.value = c.reg.main.value ∧
    (freePlace c).reg.main.invalid = c.reg.main.invalid ∧ (freePlace c).reg.main.age = c.reg.main.age ∧
    (freePlace c).reg.main.stale = c.reg.main.stale := by
  simp [freePlace]

/-- What `requestFrame` leaves as it is. -/
@[simp] theorem requestFrame_frame (c : Controller) :
    (requestFrame c).start = c.start ∧ (requestFrame c).time = c.time ∧ (requestFrame c).table = c.table ∧
    (requestFrame c).round = c.round ∧ (requestFrame c).held = c.held ∧ (requestFrame c).doors = c.doors ∧
    (requestFrame c).scan = c.scan ∧ (requestFrame c).due = c.due ∧ (requestFrame c).track = c.track ∧
    (requestFrame c).line = c.line ∧ (requestFrame c).job = c.job ∧ (requestFrame c).events = c.events := by
  refine ⟨?_, ?_, ?_, ?_, ?_, ?_, ?_, ?_, ?_, ?_, ?_, ?_⟩
  · (simp only [requestFrame]; repeat' split) <;> simp_all
  · (simp only [requestFrame]; repeat' split) <;> simp_all
  · (simp only [requestFrame]; repeat' split) <;> simp_all
  · (simp only [requestFrame]; repeat' split) <;> simp_all
  · (simp only [requestFrame]; repeat' split) <;> simp_all
  · (simp only [requestFrame]; repeat' split) <;> simp_all
  · (simp only [requestFrame]; repeat' split) <;> simp_all
  · (simp only [requestFrame]; repeat' split) <;> simp_all
  · (simp only [requestFrame]; repeat' split) <;> simp_all
  · (simp only [requestFrame]; repeat' split) <;> simp_all
  · (simp only [requestFrame]; repeat' split) <;> simp_all
  · (simp only [requestFrame]; repeat' split) <;> simp_all

/-- What `requestFrame` leaves as it is, continued. -/
@[simp] theorem requestFrame_frame1 (c : Controller) :
    (requestFrame c).reg.cycle = c.reg.cycle ∧ (requestFrame c).reg.period = c.reg.period ∧
    (requestFrame c).reg.answer = c.reg.answer ∧ (requestFrame c).reg.mainSend = c.reg.mainSend ∧
    (requestFrame c).reg.framesOn = c.reg.framesOn ∧ (requestFrame c).reg.main.tap = c.reg.main.tap ∧
    (requestFrame c).reg.main.value = c.reg.main.value ∧ (requestFrame c).reg.main.invalid = c.reg.main.invalid ∧
    (requestFrame c).reg.main.age = c.reg.main.age ∧ (requestFrame c).reg.main.stale = c.reg.main.stale := by
  refine ⟨?_, ?_, ?_, ?_, ?_, ?_, ?_, ?_, ?_, ?_⟩
  · (simp only [requestFrame]; repeat' split) <;> simp_all
  · (simp only [requestFrame]; repeat' split) <;> simp_all
  · (simp only [requestFrame]; repeat' split) <;> simp_all
  · (simp only [requestFrame]; repeat' split) <;> simp_all
  · (simp only [requestFrame]; repeat' split) <;> simp_all
  · (simp only [requestFrame]; repeat' split) <;> simp_all
  · (simp only [requestFrame]; repeat' split) <;> simp_all
  · (simp only [requestFrame]; repeat' split) <;> simp_all
  · (simp only [requestFrame]; repeat' split) <;> simp_all
  · (simp only [requestFrame]; repeat' split) <;> simp_all

/-- What `followPhase` leaves as it is. -/
@[simp] theorem followPhase_frame (i : Nat) (c : Controller) :
    (followPhase i c).start = c.start ∧ (followPhase i c).time = c.time ∧ (followPhase i c).round = c.round ∧
    (followPhase i c).held = c.held ∧ (followPhase i c).doors = c.doors ∧ (followPhase i c).scan = c.scan ∧
    (followPhase i c).due = c.due ∧ (followPhase i c).track = c.track ∧ (followPhase i c).line = c.line ∧
    (followPhase i c).job = c.job ∧ (followPhase i c).events = c.events := by
  refine ⟨?_, ?_, ?_, ?_, ?_, ?_, ?_, ?_, ?_, ?_, ?_⟩
  · (simp only [followPhase]; repeat' split) <;> simp_all
  · (simp only [followPhase]; repeat' split) <;> simp_all
  · (simp only [followPhase]; repeat' split) <;> simp_all
  · (simp only [followPhase]; repeat' split) <;> simp_all
  · (simp only [followPhase]; repeat' split) <;> simp_all
  · (simp only [followPhase]; repeat' split) <;> simp_all
  · (simp only [followPhase]; repeat' split) <;> simp_all
  · (simp only [followPhase]; repeat' split) <;> simp_all
  · (simp only [followPhase]; repeat' split) <;> simp_all
  · (simp only [followPhase]; repeat' split) <;> simp_all
  · (simp only [followPhase]; repeat' split) <;> simp_all

/-- What `followPhase` leaves as it is, continued. -/
@[simp] theorem followPhase_frame1 (i : Nat) (c : Controller) :
    (followPhase i c).table.below = c.table.below ∧ (followPhase i c).table.above = c.table.above ∧
    (followPhase i c).table.nmin = c.table.nmin ∧ (followPhase i c).table.pendT = c.table.pendT ∧
    (followPhase i c).table.pendE = c.table.pendE ∧ (followPhase i c).reg.cycle = c.reg.cycle ∧
    (followPhase i c).reg.period = c.reg.period ∧ (followPhase i c).reg.answer = c.reg.answer ∧
    (followPhase i c).reg.mainSend = c.reg.mainSend ∧ (followPhase i c).reg.framesOn = c.reg.framesOn ∧
    (followPhase i c).reg.main.tap = c.reg.main.tap ∧ (followPhase i c).reg.main.value = c.reg.main.value := by
  refine ⟨?_, ?_, ?_, ?_, ?_, ?_, ?_, ?_, ?_, ?_, ?_, ?_⟩
  · (simp only [followPhase]; repeat' split) <;> simp_all
  · (simp only [followPhase]; repeat' split) <;> simp_all
  · (simp only [followPhase]; repeat' split) <;> simp_all
  · (simp only [followPhase]; repeat' split) <;> simp_all
  · (simp only [followPhase]; repeat' split) <;> simp_all
  · (simp only [followPhase]; repeat' split) <;> simp_all
  · (simp only [followPhase]; repeat' split) <;> simp_all
  · (simp only [followPhase]; repeat' split) <;> simp_all
  · (simp only [followPhase]; repeat' split) <;> simp_all
  · (simp only [followPhase]; repeat' split) <;> simp_all
  · (simp only [followPhase]; repeat' split) <;> simp_all
  · (simp only [followPhase]; repeat' split) <;> simp_all

/-- What `followPhase` leaves as it is, continued. -/
@[simp] theorem followPhase_frame2 (i : Nat) (c : Controller) :
    (followPhase i c).reg.main.invalid = c.reg.main.invalid ∧ (followPhase i c).reg.main.age = c.reg.main.age ∧
    (followPhase i c).reg.main.stale = c.reg.main.stale := by
  refine ⟨?_, ?_, ?_⟩
  · (simp only [followPhase]; repeat' split) <;> simp_all
  · (simp only [followPhase]; repeat' split) <;> simp_all
  · (simp only [followPhase]; repeat' split) <;> simp_all

/-- What `forceClose` leaves as it is. -/
@[simp] theorem forceClose_frame (i : Nat) (c : Controller) :
    (forceClose i c).start = c.start ∧ (forceClose i c).time = c.time ∧ (forceClose i c).round = c.round ∧
    (forceClose i c).held = c.held ∧ (forceClose i c).doors = c.doors ∧ (forceClose i c).scan = c.scan ∧
    (forceClose i c).due = c.due ∧ (forceClose i c).track = c.track ∧ (forceClose i c).line = c.line ∧
    (forceClose i c).job = c.job ∧ (forceClose i c).events = c.events ∧
    (forceClose i c).table.below = c.table.below ∧ (forceClose i c).table.above = c.table.above ∧
    (forceClose i c).table.nmin = c.table.nmin ∧ (forceClose i c).table.pendT = c.table.pendT ∧
    (forceClose i c).table.pendE = c.table.pendE ∧ (forceClose i c).reg.cycle = c.reg.cycle ∧
    (forceClose i c).reg.period = c.reg.period ∧ (forceClose i c).reg.answer = c.reg.answer ∧
    (forceClose i c).reg.mainSend = c.reg.mainSend ∧ (forceClose i c).reg.framesOn = c.reg.framesOn ∧
    (forceClose i c).reg.main.tap = c.reg.main.tap ∧ (forceClose i c).reg.main.value = c.reg.main.value ∧
    (forceClose i c).reg.main.invalid = c.reg.main.invalid ∧ (forceClose i c).reg.main.age = c.reg.main.age ∧
    (forceClose i c).reg.main.stale = c.reg.main.stale := by
  simp [forceClose]

/-- What `takeUpPhase` leaves as it is. -/
@[simp] theorem takeUpPhase_frame (i : Nat) (c : Controller) :
    (takeUpPhase i c).start = c.start ∧ (takeUpPhase i c).time = c.time ∧ (takeUpPhase i c).round = c.round ∧
    (takeUpPhase i c).held = c.held ∧ (takeUpPhase i c).doors = c.doors ∧ (takeUpPhase i c).scan = c.scan ∧
    (takeUpPhase i c).due = c.due ∧ (takeUpPhase i c).track = c.track ∧ (takeUpPhase i c).line = c.line ∧
    (takeUpPhase i c).job = c.job ∧ (takeUpPhase i c).events = c.events := by
  refine ⟨?_, ?_, ?_, ?_, ?_, ?_, ?_, ?_, ?_, ?_, ?_⟩
  · (simp only [takeUpPhase]; repeat' split) <;> simp_all
  · (simp only [takeUpPhase]; repeat' split) <;> simp_all
  · (simp only [takeUpPhase]; repeat' split) <;> simp_all
  · (simp only [takeUpPhase]; repeat' split) <;> simp_all
  · (simp only [takeUpPhase]; repeat' split) <;> simp_all
  · (simp only [takeUpPhase]; repeat' split) <;> simp_all
  · (simp only [takeUpPhase]; repeat' split) <;> simp_all
  · (simp only [takeUpPhase]; repeat' split) <;> simp_all
  · (simp only [takeUpPhase]; repeat' split) <;> simp_all
  · (simp only [takeUpPhase]; repeat' split) <;> simp_all
  · (simp only [takeUpPhase]; repeat' split) <;> simp_all

/-- What `takeUpPhase` leaves as it is, continued. -/
@[simp] theorem takeUpPhase_frame1 (i : Nat) (c : Controller) :
    (takeUpPhase i c).table.below = c.table.below ∧ (takeUpPhase i c).table.above = c.table.above ∧
    (takeUpPhase i c).table.nmin = c.table.nmin ∧ (takeUpPhase i c).table.pendT = c.table.pendT ∧
    (takeUpPhase i c).table.pendE = c.table.pendE ∧ (takeUpPhase i c).reg.cycle = c.reg.cycle ∧
    (takeUpPhase i c).reg.period = c.reg.period ∧ (takeUpPhase i c).reg.answer = c.reg.answer ∧
    (takeUpPhase i c).reg.mainSend = c.reg.mainSend ∧ (takeUpPhase i c).reg.framesOn = c.reg.framesOn ∧
    (takeUpPhase i c).reg.main.tap = c.reg.main.tap ∧ (takeUpPhase i c).reg.main.value = c.reg.main.value := by
  refine ⟨?_, ?_, ?_, ?_, ?_, ?_, ?_, ?_, ?_, ?_, ?_, ?_⟩
  · (simp only [takeUpPhase]; repeat' split) <;> simp_all
  · (simp only [takeUpPhase]; repeat' split) <;> simp_all
  · (simp only [takeUpPhase]; repeat' split) <;> simp_all
  · (simp only [takeUpPhase]; repeat' split) <;> simp_all
  · (simp only [takeUpPhase]; repeat' split) <;> simp_all
  · (simp only [takeUpPhase]; repeat' split) <;> simp_all
  · (simp only [takeUpPhase]; repeat' split) <;> simp_all
  · (simp only [takeUpPhase]; repeat' split) <;> simp_all
  · (simp only [takeUpPhase]; repeat' split) <;> simp_all
  · (simp only [takeUpPhase]; repeat' split) <;> simp_all
  · (simp only [takeUpPhase]; repeat' split) <;> simp_all
  · (simp only [takeUpPhase]; repeat' split) <;> simp_all

/-- What `takeUpPhase` leaves as it is, continued. -/
@[simp] theorem takeUpPhase_frame2 (i : Nat) (c : Controller) :
    (takeUpPhase i c).reg.main.invalid = c.reg.main.invalid ∧ (takeUpPhase i c).reg.main.age = c.reg.main.age ∧
    (takeUpPhase i c).reg.main.stale = c.reg.main.stale := by
  refine ⟨?_, ?_, ?_⟩
  · (simp only [takeUpPhase]; repeat' split) <;> simp_all
  · (simp only [takeUpPhase]; repeat' split) <;> simp_all
  · (simp only [takeUpPhase]; repeat' split) <;> simp_all

/-- What `setPhase` leaves as it is. -/
@[simp] theorem setPhase_frame (i : Nat) (p : Phase) (c : Controller) :
    (setPhase i p c).start = c.start ∧ (setPhase i p c).time = c.time ∧ (setPhase i p c).round = c.round ∧
    (setPhase i p c).held = c.held ∧ (setPhase i p c).doors = c.doors ∧ (setPhase i p c).scan = c.scan ∧
    (setPhase i p c).due = c.due ∧ (setPhase i p c).table.below = c.table.below ∧
    (setPhase i p c).table.above = c.table.above ∧ (setPhase i p c).table.nmin = c.table.nmin ∧
    (setPhase i p c).table.pendT = c.table.pendT ∧ (setPhase i p c).table.pendE = c.table.pendE ∧
    (setPhase i p c).track.pusher = c.track.pusher ∧ (setPhase i p c).track.guide = c.track.guide ∧
    (setPhase i p c).track.car = c.track.car ∧ (setPhase i p c).line.number = c.line.number ∧
    (setPhase i p c).line.rx = c.line.rx ∧ (setPhase i p c).line.ack = c.line.ack ∧
    (setPhase i p c).events.enable = c.events.enable ∧ (setPhase i p c).events.carried = c.events.carried ∧
    (setPhase i p c).reg.cycle = c.reg.cycle ∧ (setPhase i p c).reg.period = c.reg.period ∧
    (setPhase i p c).reg.answer = c.reg.answer ∧ (setPhase i p c).reg.mainSend = c.reg.mainSend ∧
    (setPhase i p c).reg.framesOn = c.reg.framesOn ∧ (setPhase i p c).reg.main.tap = c.reg.main.tap ∧
    (setPhase i p c).reg.main.value = c.reg.main.value ∧ (setPhase i p c).reg.main.invalid = c.reg.main.invalid ∧
    (setPhase i p c).reg.main.age = c.reg.main.age ∧ (setPhase i p c).reg.main.stale = c.reg.main.stale := by
  simp [setPhase]

end Sys2Proof.Machine
end

