-- ==== Sys2Proof/Laws/FramesJob.lean ====
section
/-! SUPPORT. What the operations leave as it is: the quench car call and the push job. One lemma for each operation, tagged simp, so
that no proof unfolds an operation to see that a block it never touches is unchanged. -/

namespace Sys2Proof.Machine

open Sys2Proof

/-- What `modifyCall` leaves as it is. -/
@[simp] theorem modifyCall_frame (f : Call → Call) (c : Controller) :
    (modifyCall f c).start = c.start ∧ (modifyCall f c).time = c.time ∧ (modifyCall f c).table = c.table ∧
    (modifyCall f c).round = c.round ∧ (modifyCall f c).held = c.held ∧ (modifyCall f c).doors = c.doors ∧
    (modifyCall f c).scan = c.scan ∧ (modifyCall f c).due = c.due ∧ (modifyCall f c).line = c.line ∧
    (modifyCall f c).job = c.job ∧ (modifyCall f c).events = c.events ∧ (modifyCall f c).reg = c.reg ∧
    (modifyCall f c).track.pusher = c.track.pusher ∧ (modifyCall f c).track.guide = c.track.guide ∧
    (modifyCall f c).track.car = c.track.car := by
  simp [modifyCall]

/-- What `offerCall` leaves as it is. -/
@[simp] theorem offerCall_frame (c : Controller) :
    (offerCall c).start = c.start ∧ (offerCall c).time = c.time ∧ (offerCall c).table = c.table ∧
    (offerCall c).round = c.round ∧ (offerCall c).held = c.held ∧ (offerCall c).doors = c.doors ∧
    (offerCall c).scan = c.scan ∧ (offerCall c).due = c.due := by
  refine ⟨?_, ?_, ?_, ?_, ?_, ?_, ?_, ?_⟩
  · (simp only [offerCall]; repeat' split) <;> simp_all
  · (simp only [offerCall]; repeat' split) <;> simp_all
  · (simp only [offerCall]; repeat' split) <;> simp_all
  · (simp only [offerCall]; repeat' split) <;> simp_all
  · (simp only [offerCall]; repeat' split) <;> simp_all
  · (simp only [offerCall]; repeat' split) <;> simp_all
  · (simp only [offerCall]; repeat' split) <;> simp_all
  · (simp only [offerCall]; repeat' split) <;> simp_all

/-- What `offerCall` leaves as it is, continued. -/
@[simp] theorem offerCall_frame1 (c : Controller) :
    (offerCall c).track.pusher = c.track.pusher ∧ (offerCall c).track.guide = c.track.guide ∧
    (offerCall c).track.car = c.track.car ∧ (offerCall c).line.number = c.line.number ∧
    (offerCall c).line.rx = c.line.rx ∧ (offerCall c).line.ack = c.line.ack ∧
    (offerCall c).events.enable = c.events.enable ∧ (offerCall c).events.carried = c.events.carried ∧
    (offerCall c).reg.cycle = c.reg.cycle ∧ (offerCall c).reg.period = c.reg.period ∧
    (offerCall c).reg.answer = c.reg.answer ∧ (offerCall c).reg.mainSend = c.reg.mainSend := by
  refine ⟨?_, ?_, ?_, ?_, ?_, ?_, ?_, ?_, ?_, ?_, ?_, ?_⟩
  · (simp only [offerCall]; repeat' split) <;> simp_all
  · (simp only [offerCall]; repeat' split) <;> simp_all
  · (simp only [offerCall]; repeat' split) <;> simp_all
  · (simp only [offerCall]; repeat' split) <;> simp_all
  · (simp only [offerCall]; repeat' split) <;> simp_all
  · (simp only [offerCall]; repeat' split) <;> simp_all
  · (simp only [offerCall]; repeat' split) <;> simp_all
  · (simp only [offerCall]; repeat' split) <;> simp_all
  · (simp only [offerCall]; repeat' split) <;> simp_all
  · (simp only [offerCall]; repeat' split) <;> simp_all
  · (simp only [offerCall]; repeat' split) <;> simp_all
  · (simp only [offerCall]; repeat' split) <;> simp_all

/-- What `offerCall` leaves as it is, continued. -/
@[simp] theorem offerCall_frame2 (c : Controller) :
    (offerCall c).reg.frame = c.reg.frame ∧ (offerCall c).reg.frameHeld = c.reg.frameHeld ∧
    (offerCall c).reg.framesOn = c.reg.framesOn ∧ (offerCall c).reg.main.tap = c.reg.main.tap ∧
    (offerCall c).reg.main.value = c.reg.main.value ∧ (offerCall c).reg.main.invalid = c.reg.main.invalid ∧
    (offerCall c).reg.main.age = c.reg.main.age ∧ (offerCall c).reg.main.stale = c.reg.main.stale := by
  refine ⟨?_, ?_, ?_, ?_, ?_, ?_, ?_, ?_⟩
  · (simp only [offerCall]; repeat' split) <;> simp_all
  · (simp only [offerCall]; repeat' split) <;> simp_all
  · (simp only [offerCall]; repeat' split) <;> simp_all
  · (simp only [offerCall]; repeat' split) <;> simp_all
  · (simp only [offerCall]; repeat' split) <;> simp_all
  · (simp only [offerCall]; repeat' split) <;> simp_all
  · (simp only [offerCall]; repeat' split) <;> simp_all
  · (simp only [offerCall]; repeat' split) <;> simp_all

/-- What `stopTravel` leaves as it is. -/
@[simp] theorem stopTravel_frame (c : Controller) :
    (stopTravel c).start = c.start ∧ (stopTravel c).time = c.time ∧ (stopTravel c).table = c.table ∧
    (stopTravel c).round = c.round ∧ (stopTravel c).held = c.held ∧ (stopTravel c).doors = c.doors ∧
    (stopTravel c).scan = c.scan ∧ (stopTravel c).track = c.track ∧ (stopTravel c).line = c.line ∧
    (stopTravel c).job = c.job ∧ (stopTravel c).events = c.events ∧ (stopTravel c).reg = c.reg := by
  simp [stopTravel]

/-- What `requestCall` leaves as it is. -/
@[simp] theorem requestCall_frame (oven : Nat) (c : Controller) :
    (requestCall oven c).start = c.start ∧ (requestCall oven c).time = c.time ∧
    (requestCall oven c).table = c.table ∧ (requestCall oven c).round = c.round ∧
    (requestCall oven c).held = c.held ∧ (requestCall oven c).doors = c.doors ∧ (requestCall oven c).scan = c.scan := by
  refine ⟨?_, ?_, ?_, ?_, ?_, ?_, ?_⟩
  · (simp only [requestCall]; repeat' split) <;> simp_all
  · (simp only [requestCall]; repeat' split) <;> simp_all
  · (simp only [requestCall]; repeat' split) <;> simp_all
  · (simp only [requestCall]; repeat' split) <;> simp_all
  · (simp only [requestCall]; repeat' split) <;> simp_all
  · (simp only [requestCall]; repeat' split) <;> simp_all
  · (simp only [requestCall]; repeat' split) <;> simp_all

/-- What `requestCall` leaves as it is, continued. -/
@[simp] theorem requestCall_frame1 (oven : Nat) (c : Controller) :
    (requestCall oven c).track.pusher = c.track.pusher ∧ (requestCall oven c).track.guide = c.track.guide ∧
    (requestCall oven c).track.car = c.track.car ∧ (requestCall oven c).line.number = c.line.number ∧
    (requestCall oven c).line.rx = c.line.rx ∧ (requestCall oven c).line.ack = c.line.ack ∧
    (requestCall oven c).events.enable = c.events.enable ∧ (requestCall oven c).events.carried = c.events.carried ∧
    (requestCall oven c).reg.cycle = c.reg.cycle ∧ (requestCall oven c).reg.period = c.reg.period ∧
    (requestCall oven c).reg.answer = c.reg.answer ∧ (requestCall oven c).reg.mainSend = c.reg.mainSend := by
  refine ⟨?_, ?_, ?_, ?_, ?_, ?_, ?_, ?_, ?_, ?_, ?_, ?_⟩
  · (simp only [requestCall]; repeat' split) <;> simp_all
  · (simp only [requestCall]; repeat' split) <;> simp_all
  · (simp only [requestCall]; repeat' split) <;> simp_all
  · (simp only [requestCall]; repeat' split) <;> simp_all
  · (simp only [requestCall]; repeat' split) <;> simp_all
  · (simp only [requestCall]; repeat' split) <;> simp_all
  · (simp only [requestCall]; repeat' split) <;> simp_all
  · (simp only [requestCall]; repeat' split) <;> simp_all
  · (simp only [requestCall]; repeat' split) <;> simp_all
  · (simp only [requestCall]; repeat' split) <;> simp_all
  · (simp only [requestCall]; repeat' split) <;> simp_all
  · (simp only [requestCall]; repeat' split) <;> simp_all

/-- What `requestCall` leaves as it is, continued. -/
@[simp] theorem requestCall_frame2 (oven : Nat) (c : Controller) :
    (requestCall oven c).reg.frame = c.reg.frame ∧ (requestCall oven c).reg.frameHeld = c.reg.frameHeld ∧
    (requestCall oven c).reg.framesOn = c.reg.framesOn ∧ (requestCall oven c).reg.main.tap = c.reg.main.tap ∧
    (requestCall oven c).reg.main.value = c.reg.main.value ∧
    (requestCall oven c).reg.main.invalid = c.reg.main.invalid ∧
    (requestCall oven c).reg.main.age = c.reg.main.age ∧ (requestCall oven c).reg.main.stale = c.reg.main.stale := by
  refine ⟨?_, ?_, ?_, ?_, ?_, ?_, ?_, ?_⟩
  · (simp only [requestCall]; repeat' split) <;> simp_all
  · (simp only [requestCall]; repeat' split) <;> simp_all
  · (simp only [requestCall]; repeat' split) <;> simp_all
  · (simp only [requestCall]; repeat' split) <;> simp_all
  · (simp only [requestCall]; repeat' split) <;> simp_all
  · (simp only [requestCall]; repeat' split) <;> simp_all
  · (simp only [requestCall]; repeat' split) <;> simp_all
  · (simp only [requestCall]; repeat' split) <;> simp_all

/-- What `dropCall` leaves as it is. -/
@[simp] theorem dropCall_frame (c : Controller) :
    (dropCall c).start = c.start ∧ (dropCall c).time = c.time ∧ (dropCall c).table = c.table ∧
    (dropCall c).round = c.round ∧ (dropCall c).held = c.held ∧ (dropCall c).doors = c.doors ∧
    (dropCall c).scan = c.scan ∧ (dropCall c).line = c.line ∧ (dropCall c).job = c.job ∧
    (dropCall c).events = c.events ∧ (dropCall c).reg = c.reg ∧ (dropCall c).track.pusher = c.track.pusher ∧
    (dropCall c).track.guide = c.track.guide ∧ (dropCall c).track.car = c.track.car := by
  refine ⟨?_, ?_, ?_, ?_, ?_, ?_, ?_, ?_, ?_, ?_, ?_, ?_, ?_, ?_⟩
  · (simp only [dropCall]; repeat' split) <;> simp_all
  · (simp only [dropCall]; repeat' split) <;> simp_all
  · (simp only [dropCall]; repeat' split) <;> simp_all
  · (simp only [dropCall]; repeat' split) <;> simp_all
  · (simp only [dropCall]; repeat' split) <;> simp_all
  · (simp only [dropCall]; repeat' split) <;> simp_all
  · (simp only [dropCall]; repeat' split) <;> simp_all
  · (simp only [dropCall]; repeat' split) <;> simp_all
  · (simp only [dropCall]; repeat' split) <;> simp_all
  · (simp only [dropCall]; repeat' split) <;> simp_all
  · (simp only [dropCall]; repeat' split) <;> simp_all
  · (simp only [dropCall]; repeat' split) <;> simp_all
  · (simp only [dropCall]; repeat' split) <;> simp_all
  · (simp only [dropCall]; repeat' split) <;> simp_all

/-- What `arrive` leaves as it is. -/
@[simp] theorem arrive_frame (c : Controller) :
    (arrive c).start = c.start ∧ (arrive c).time = c.time ∧ (arrive c).table = c.table ∧
    (arrive c).round = c.round ∧ (arrive c).held = c.held ∧ (arrive c).doors = c.doors ∧ (arrive c).scan = c.scan ∧
    (arrive c).line = c.line ∧ (arrive c).job = c.job ∧ (arrive c).events = c.events ∧ (arrive c).reg = c.reg ∧
    (arrive c).track.pusher = c.track.pusher ∧ (arrive c).track.guide = c.track.guide ∧
    (arrive c).track.car = c.track.car := by
  simp [arrive]

/-- What `callSent` leaves as it is. -/
@[simp] theorem callSent_frame (oven : Nat) (c : Controller) :
    (callSent oven c).start = c.start ∧ (callSent oven c).time = c.time ∧ (callSent oven c).table = c.table ∧
    (callSent oven c).round = c.round ∧ (callSent oven c).held = c.held ∧ (callSent oven c).doors = c.doors ∧
    (callSent oven c).scan = c.scan ∧ (callSent oven c).line = c.line ∧ (callSent oven c).job = c.job ∧
    (callSent oven c).events = c.events ∧ (callSent oven c).reg = c.reg ∧
    (callSent oven c).track.pusher = c.track.pusher ∧ (callSent oven c).track.guide = c.track.guide ∧
    (callSent oven c).track.car = c.track.car := by
  refine ⟨?_, ?_, ?_, ?_, ?_, ?_, ?_, ?_, ?_, ?_, ?_, ?_, ?_, ?_⟩
  · (simp only [callSent]; repeat' split) <;> simp_all
  · (simp only [callSent]; repeat' split) <;> simp_all
  · (simp only [callSent]; repeat' split) <;> simp_all
  · (simp only [callSent]; repeat' split) <;> simp_all
  · (simp only [callSent]; repeat' split) <;> simp_all
  · (simp only [callSent]; repeat' split) <;> simp_all
  · (simp only [callSent]; repeat' split) <;> simp_all
  · (simp only [callSent]; repeat' split) <;> simp_all
  · (simp only [callSent]; repeat' split) <;> simp_all
  · (simp only [callSent]; repeat' split) <;> simp_all
  · (simp only [callSent]; repeat' split) <;> simp_all
  · (simp only [callSent]; repeat' split) <;> simp_all
  · (simp only [callSent]; repeat' split) <;> simp_all
  · (simp only [callSent]; repeat' split) <;> simp_all

/-- What `callOnQcar` leaves as it is. -/
@[simp] theorem callOnQcar_frame (c : Controller) :
    (callOnQcar c).start = c.start ∧ (callOnQcar c).time = c.time ∧ (callOnQcar c).table = c.table ∧
    (callOnQcar c).round = c.round ∧ (callOnQcar c).held = c.held ∧ (callOnQcar c).doors = c.doors ∧
    (callOnQcar c).scan = c.scan := by
  refine ⟨?_, ?_, ?_, ?_, ?_, ?_, ?_⟩
  · (simp only [callOnQcar]; repeat' split) <;> simp_all
  · (simp only [callOnQcar]; repeat' split) <;> simp_all
  · (simp only [callOnQcar]; repeat' split) <;> simp_all
  · (simp only [callOnQcar]; repeat' split) <;> simp_all
  · (simp only [callOnQcar]; repeat' split) <;> simp_all
  · (simp only [callOnQcar]; repeat' split) <;> simp_all
  · (simp only [callOnQcar]; repeat' split) <;> simp_all

/-- What `callOnQcar` leaves as it is, continued. -/
@[simp] theorem callOnQcar_frame1 (c : Controller) :
    (callOnQcar c).track.pusher = c.track.pusher ∧ (callOnQcar c).track.guide = c.track.guide ∧
    (callOnQcar c).track.car = c.track.car ∧ (callOnQcar c).line.number = c.line.number ∧
    (callOnQcar c).line.rx = c.line.rx ∧ (callOnQcar c).line.ack = c.line.ack ∧
    (callOnQcar c).events.enable = c.events.enable ∧ (callOnQcar c).events.carried = c.events.carried ∧
    (callOnQcar c).reg.cycle = c.reg.cycle ∧ (callOnQcar c).reg.period = c.reg.period ∧
    (callOnQcar c).reg.answer = c.reg.answer ∧ (callOnQcar c).reg.mainSend = c.reg.mainSend := by
  refine ⟨?_, ?_, ?_, ?_, ?_, ?_, ?_, ?_, ?_, ?_, ?_, ?_⟩
  · (simp only [callOnQcar]; repeat' split) <;> simp_all
  · (simp only [callOnQcar]; repeat' split) <;> simp_all
  · (simp only [callOnQcar]; repeat' split) <;> simp_all
  · (simp only [callOnQcar]; repeat' split) <;> simp_all
  · (simp only [callOnQcar]; repeat' split) <;> simp_all
  · (simp only [callOnQcar]; repeat' split) <;> simp_all
  · (simp only [callOnQcar]; repeat' split) <;> simp_all
  · (simp only [callOnQcar]; repeat' split) <;> simp_all
  · (simp only [callOnQcar]; repeat' split) <;> simp_all
  · (simp only [callOnQcar]; repeat' split) <;> simp_all
  · (simp only [callOnQcar]; repeat' split) <;> simp_all
  · (simp only [callOnQcar]; repeat' split) <;> simp_all

/-- What `callOnQcar` leaves as it is, continued. -/
@[simp] theorem callOnQcar_frame2 (c : Controller) :
    (callOnQcar c).reg.frame = c.reg.frame ∧ (callOnQcar c).reg.frameHeld = c.reg.frameHeld ∧
    (callOnQcar c).reg.framesOn = c.reg.framesOn ∧ (callOnQcar c).reg.main.tap = c.reg.main.tap ∧
    (callOnQcar c).reg.main.value = c.reg.main.value ∧ (callOnQcar c).reg.main.invalid = c.reg.main.invalid ∧
    (callOnQcar c).reg.main.age = c.reg.main.age ∧ (callOnQcar c).reg.main.stale = c.reg.main.stale := by
  refine ⟨?_, ?_, ?_, ?_, ?_, ?_, ?_, ?_⟩
  · (simp only [callOnQcar]; repeat' split) <;> simp_all
  · (simp only [callOnQcar]; repeat' split) <;> simp_all
  · (simp only [callOnQcar]; repeat' split) <;> simp_all
  · (simp only [callOnQcar]; repeat' split) <;> simp_all
  · (simp only [callOnQcar]; repeat' split) <;> simp_all
  · (simp only [callOnQcar]; repeat' split) <;> simp_all
  · (simp only [callOnQcar]; repeat' split) <;> simp_all
  · (simp only [callOnQcar]; repeat' split) <;> simp_all

/-- What `modifyJob` leaves as it is. -/
@[simp] theorem modifyJob_frame (f : Job → Job) (c : Controller) :
    (modifyJob f c).start = c.start ∧ (modifyJob f c).time = c.time ∧ (modifyJob f c).table = c.table ∧
    (modifyJob f c).round = c.round ∧ (modifyJob f c).held = c.held ∧ (modifyJob f c).doors = c.doors ∧
    (modifyJob f c).scan = c.scan ∧ (modifyJob f c).due = c.due ∧ (modifyJob f c).track = c.track ∧
    (modifyJob f c).line = c.line ∧ (modifyJob f c).events = c.events ∧ (modifyJob f c).reg = c.reg := by
  simp [modifyJob]

/-- What `enterJob` leaves as it is. -/
@[simp] theorem enterJob_frame (s : JobState) (c : Controller) :
    (enterJob s c).start = c.start ∧ (enterJob s c).time = c.time ∧ (enterJob s c).table = c.table ∧
    (enterJob s c).round = c.round ∧ (enterJob s c).held = c.held ∧ (enterJob s c).doors = c.doors ∧
    (enterJob s c).scan = c.scan ∧ (enterJob s c).due = c.due ∧ (enterJob s c).track = c.track ∧
    (enterJob s c).line = c.line ∧ (enterJob s c).events = c.events ∧ (enterJob s c).reg = c.reg := by
  simp [enterJob]

/-- What `idleJob` leaves as it is. -/
@[simp] theorem idleJob_frame (c : Controller) :
    (idleJob c).start = c.start ∧ (idleJob c).time = c.time ∧ (idleJob c).table = c.table ∧
    (idleJob c).round = c.round ∧ (idleJob c).held = c.held ∧ (idleJob c).doors = c.doors ∧
    (idleJob c).scan = c.scan ∧ (idleJob c).due = c.due ∧ (idleJob c).track = c.track ∧ (idleJob c).line = c.line ∧
    (idleJob c).events = c.events ∧ (idleJob c).reg = c.reg := by
  simp [idleJob]

/-- What `stopHold` leaves as it is. -/
@[simp] theorem stopHold_frame (c : Controller) :
    (stopHold c).start = c.start ∧ (stopHold c).time = c.time ∧ (stopHold c).table = c.table ∧
    (stopHold c).round = c.round ∧ (stopHold c).held = c.held ∧ (stopHold c).doors = c.doors ∧
    (stopHold c).scan = c.scan ∧ (stopHold c).track = c.track ∧ (stopHold c).line = c.line ∧
    (stopHold c).events = c.events ∧ (stopHold c).reg = c.reg ∧ (stopHold c).job.state = c.job.state ∧
    (stopHold c).job.oven = c.job.oven := by
  simp [stopHold]

/-- What `holdPush` leaves as it is. -/
@[simp] theorem holdPush_frame (cause : HoldCause) (oven : Nat) (c : Controller) :
    (holdPush cause oven c).start = c.start ∧ (holdPush cause oven c).time = c.time ∧
    (holdPush cause oven c).table = c.table ∧ (holdPush cause oven c).round = c.round ∧
    (holdPush cause oven c).held = c.held ∧ (holdPush cause oven c).doors = c.doors ∧
    (holdPush cause oven c).scan = c.scan := by
  refine ⟨?_, ?_, ?_, ?_, ?_, ?_, ?_⟩
  · (simp only [holdPush]; repeat' split) <;> simp_all
  · (simp only [holdPush]; repeat' split) <;> simp_all
  · (simp only [holdPush]; repeat' split) <;> simp_all
  · (simp only [holdPush]; repeat' split) <;> simp_all
  · (simp only [holdPush]; repeat' split) <;> simp_all
  · (simp only [holdPush]; repeat' split) <;> simp_all
  · (simp only [holdPush]; repeat' split) <;> simp_all

/-- What `holdPush` leaves as it is, continued. -/
@[simp] theorem holdPush_frame1 (cause : HoldCause) (oven : Nat) (c : Controller) :
    (holdPush cause oven c).track.pusher = c.track.pusher ∧ (holdPush cause oven c).track.guide = c.track.guide ∧
    (holdPush cause oven c).track.car = c.track.car ∧ (holdPush cause oven c).line.number = c.line.number ∧
    (holdPush cause oven c).line.rx = c.line.rx ∧ (holdPush cause oven c).line.ack = c.line.ack ∧
    (holdPush cause oven c).events.enable = c.events.enable ∧
    (holdPush cause oven c).events.carried = c.events.carried ∧ (holdPush cause oven c).reg.cycle = c.reg.cycle ∧
    (holdPush cause oven c).reg.period = c.reg.period ∧ (holdPush cause oven c).reg.answer = c.reg.answer ∧
    (holdPush cause oven c).reg.mainSend = c.reg.mainSend := by
  refine ⟨?_, ?_, ?_, ?_, ?_, ?_, ?_, ?_, ?_, ?_, ?_, ?_⟩
  · (simp only [holdPush]; repeat' split) <;> simp_all
  · (simp only [holdPush]; repeat' split) <;> simp_all
  · (simp only [holdPush]; repeat' split) <;> simp_all
  · (simp only [holdPush]; repeat' split) <;> simp_all
  · (simp only [holdPush]; repeat' split) <;> simp_all
  · (simp only [holdPush]; repeat' split) <;> simp_all
  · (simp only [holdPush]; repeat' split) <;> simp_all
  · (simp only [holdPush]; repeat' split) <;> simp_all
  · (simp only [holdPush]; repeat' split) <;> simp_all
  · (simp only [holdPush]; repeat' split) <;> simp_all
  · (simp only [holdPush]; repeat' split) <;> simp_all
  · (simp only [holdPush]; repeat' split) <;> simp_all

/-- What `holdPush` leaves as it is, continued. -/
@[simp] theorem holdPush_frame2 (cause : HoldCause) (oven : Nat) (c : Controller) :
    (holdPush cause oven c).reg.frame = c.reg.frame ∧ (holdPush cause oven c).reg.frameHeld = c.reg.frameHeld ∧
    (holdPush cause oven c).reg.framesOn = c.reg.framesOn ∧ (holdPush cause oven c).reg.main.tap = c.reg.main.tap ∧
    (holdPush cause oven c).reg.main.value = c.reg.main.value ∧
    (holdPush cause oven c).reg.main.invalid = c.reg.main.invalid ∧
    (holdPush cause oven c).reg.main.age = c.reg.main.age ∧
    (holdPush cause oven c).reg.main.stale = c.reg.main.stale := by
  refine ⟨?_, ?_, ?_, ?_, ?_, ?_, ?_, ?_⟩
  · (simp only [holdPush]; repeat' split) <;> simp_all
  · (simp only [holdPush]; repeat' split) <;> simp_all
  · (simp only [holdPush]; repeat' split) <;> simp_all
  · (simp only [holdPush]; repeat' split) <;> simp_all
  · (simp only [holdPush]; repeat' split) <;> simp_all
  · (simp only [holdPush]; repeat' split) <;> simp_all
  · (simp only [holdPush]; repeat' split) <;> simp_all
  · (simp only [holdPush]; repeat' split) <;> simp_all

/-- What `resumePush` leaves as it is. -/
@[simp] theorem resumePush_frame (oven : Nat) (c : Controller) :
    (resumePush oven c).start = c.start ∧ (resumePush oven c).time = c.time ∧ (resumePush oven c).table = c.table ∧
    (resumePush oven c).round = c.round ∧ (resumePush oven c).held = c.held ∧ (resumePush oven c).doors = c.doors ∧
    (resumePush oven c).scan = c.scan := by
  refine ⟨?_, ?_, ?_, ?_, ?_, ?_, ?_⟩
  · (simp only [resumePush]; repeat' split) <;> simp_all
  · (simp only [resumePush]; repeat' split) <;> simp_all
  · (simp only [resumePush]; repeat' split) <;> simp_all
  · (simp only [resumePush]; repeat' split) <;> simp_all
  · (simp only [resumePush]; repeat' split) <;> simp_all
  · (simp only [resumePush]; repeat' split) <;> simp_all
  · (simp only [resumePush]; repeat' split) <;> simp_all

/-- What `resumePush` leaves as it is, continued. -/
@[simp] theorem resumePush_frame1 (oven : Nat) (c : Controller) :
    (resumePush oven c).track.pusher = c.track.pusher ∧ (resumePush oven c).track.guide = c.track.guide ∧
    (resumePush oven c).track.car = c.track.car ∧ (resumePush oven c).line.number = c.line.number ∧
    (resumePush oven c).line.rx = c.line.rx ∧ (resumePush oven c).line.ack = c.line.ack ∧
    (resumePush oven c).events.enable = c.events.enable ∧ (resumePush oven c).events.carried = c.events.carried ∧
    (resumePush oven c).reg.cycle = c.reg.cycle ∧ (resumePush oven c).reg.period = c.reg.period ∧
    (resumePush oven c).reg.answer = c.reg.answer ∧ (resumePush oven c).reg.mainSend = c.reg.mainSend := by
  refine ⟨?_, ?_, ?_, ?_, ?_, ?_, ?_, ?_, ?_, ?_, ?_, ?_⟩
  · (simp only [resumePush]; repeat' split) <;> simp_all
  · (simp only [resumePush]; repeat' split) <;> simp_all
  · (simp only [resumePush]; repeat' split) <;> simp_all
  · (simp only [resumePush]; repeat' split) <;> simp_all
  · (simp only [resumePush]; repeat' split) <;> simp_all
  · (simp only [resumePush]; repeat' split) <;> simp_all
  · (simp only [resumePush]; repeat' split) <;> simp_all
  · (simp only [resumePush]; repeat' split) <;> simp_all
  · (simp only [resumePush]; repeat' split) <;> simp_all
  · (simp only [resumePush]; repeat' split) <;> simp_all
  · (simp only [resumePush]; repeat' split) <;> simp_all
  · (simp only [resumePush]; repeat' split) <;> simp_all

/-- What `resumePush` leaves as it is, continued. -/
@[simp] theorem resumePush_frame2 (oven : Nat) (c : Controller) :
    (resumePush oven c).reg.frame = c.reg.frame ∧ (resumePush oven c).reg.frameHeld = c.reg.frameHeld ∧
    (resumePush oven c).reg.framesOn = c.reg.framesOn ∧ (resumePush oven c).reg.main.tap = c.reg.main.tap ∧
    (resumePush oven c).reg.main.value = c.reg.main.value ∧
    (resumePush oven c).reg.main.invalid = c.reg.main.invalid ∧ (resumePush oven c).reg.main.age = c.reg.main.age ∧
    (resumePush oven c).reg.main.stale = c.reg.main.stale := by
  refine ⟨?_, ?_, ?_, ?_, ?_, ?_, ?_, ?_⟩
  · (simp only [resumePush]; repeat' split) <;> simp_all
  · (simp only [resumePush]; repeat' split) <;> simp_all
  · (simp only [resumePush]; repeat' split) <;> simp_all
  · (simp only [resumePush]; repeat' split) <;> simp_all
  · (simp only [resumePush]; repeat' split) <;> simp_all
  · (simp only [resumePush]; repeat' split) <;> simp_all
  · (simp only [resumePush]; repeat' split) <;> simp_all
  · (simp only [resumePush]; repeat' split) <;> simp_all

/-- What `evaluateFor` leaves as it is. -/
@[simp] theorem evaluateFor_frame (i : Nat) (n : Nat) (c : Controller) :
    (evaluateFor i n c).start = c.start ∧ (evaluateFor i n c).time = c.time ∧ (evaluateFor i n c).table = c.table ∧
    (evaluateFor i n c).round = c.round ∧ (evaluateFor i n c).held = c.held ∧ (evaluateFor i n c).doors = c.doors ∧
    (evaluateFor i n c).scan = c.scan := by
  refine ⟨?_, ?_, ?_, ?_, ?_, ?_, ?_⟩
  · (simp only [evaluateFor]; repeat' split) <;> simp_all
  · (simp only [evaluateFor]; repeat' split) <;> simp_all
  · (simp only [evaluateFor]; repeat' split) <;> simp_all
  · (simp only [evaluateFor]; repeat' split) <;> simp_all
  · (simp only [evaluateFor]; repeat' split) <;> simp_all
  · (simp only [evaluateFor]; repeat' split) <;> simp_all
  · (simp only [evaluateFor]; repeat' split) <;> simp_all

/-- What `evaluateFor` leaves as it is, continued. -/
@[simp] theorem evaluateFor_frame1 (i : Nat) (n : Nat) (c : Controller) :
    (evaluateFor i n c).track.pusher = c.track.pusher ∧ (evaluateFor i n c).track.guide = c.track.guide ∧
    (evaluateFor i n c).track.car = c.track.car ∧ (evaluateFor i n c).line.number = c.line.number ∧
    (evaluateFor i n c).line.rx = c.line.rx ∧ (evaluateFor i n c).line.ack = c.line.ack ∧
    (evaluateFor i n c).events.enable = c.events.enable ∧ (evaluateFor i n c).events.carried = c.events.carried ∧
    (evaluateFor i n c).reg.cycle = c.reg.cycle ∧ (evaluateFor i n c).reg.period = c.reg.period ∧
    (evaluateFor i n c).reg.answer = c.reg.answer ∧ (evaluateFor i n c).reg.mainSend = c.reg.mainSend := by
  refine ⟨?_, ?_, ?_, ?_, ?_, ?_, ?_, ?_, ?_, ?_, ?_, ?_⟩
  · (simp only [evaluateFor]; repeat' split) <;> simp_all
  · (simp only [evaluateFor]; repeat' split) <;> simp_all
  · (simp only [evaluateFor]; repeat' split) <;> simp_all
  · (simp only [evaluateFor]; repeat' split) <;> simp_all
  · (simp only [evaluateFor]; repeat' split) <;> simp_all
  · (simp only [evaluateFor]; repeat' split) <;> simp_all
  · (simp only [evaluateFor]; repeat' split) <;> simp_all
  · (simp only [evaluateFor]; repeat' split) <;> simp_all
  · (simp only [evaluateFor]; repeat' split) <;> simp_all
  · (simp only [evaluateFor]; repeat' split) <;> simp_all
  · (simp only [evaluateFor]; repeat' split) <;> simp_all
  · (simp only [evaluateFor]; repeat' split) <;> simp_all

/-- What `evaluateFor` leaves as it is, continued. -/
@[simp] theorem evaluateFor_frame2 (i : Nat) (n : Nat) (c : Controller) :
    (evaluateFor i n c).reg.frame = c.reg.frame ∧ (evaluateFor i n c).reg.frameHeld = c.reg.frameHeld ∧
    (evaluateFor i n c).reg.framesOn = c.reg.framesOn ∧ (evaluateFor i n c).reg.main.tap = c.reg.main.tap ∧
    (evaluateFor i n c).reg.main.value = c.reg.main.value ∧
    (evaluateFor i n c).reg.main.invalid = c.reg.main.invalid ∧ (evaluateFor i n c).reg.main.age = c.reg.main.age ∧
    (evaluateFor i n c).reg.main.stale = c.reg.main.stale := by
  refine ⟨?_, ?_, ?_, ?_, ?_, ?_, ?_, ?_⟩
  · (simp only [evaluateFor]; repeat' split) <;> simp_all
  · (simp only [evaluateFor]; repeat' split) <;> simp_all
  · (simp only [evaluateFor]; repeat' split) <;> simp_all
  · (simp only [evaluateFor]; repeat' split) <;> simp_all
  · (simp only [evaluateFor]; repeat' split) <;> simp_all
  · (simp only [evaluateFor]; repeat' split) <;> simp_all
  · (simp only [evaluateFor]; repeat' split) <;> simp_all
  · (simp only [evaluateFor]; repeat' split) <;> simp_all

/-- What `evaluate` leaves as it is. -/
@[simp] theorem evaluate_frame (c : Controller) :
    (evaluate c).start = c.start ∧ (evaluate c).time = c.time ∧ (evaluate c).table = c.table ∧
    (evaluate c).round = c.round ∧ (evaluate c).held = c.held ∧ (evaluate c).doors = c.doors ∧
    (evaluate c).scan = c.scan := by
  refine ⟨?_, ?_, ?_, ?_, ?_, ?_, ?_⟩
  · (simp only [evaluate]; repeat' split) <;> simp_all
  · (simp only [evaluate]; repeat' split) <;> simp_all
  · (simp only [evaluate]; repeat' split) <;> simp_all
  · (simp only [evaluate]; repeat' split) <;> simp_all
  · (simp only [evaluate]; repeat' split) <;> simp_all
  · (simp only [evaluate]; repeat' split) <;> simp_all
  · (simp only [evaluate]; repeat' split) <;> simp_all

/-- What `evaluate` leaves as it is, continued. -/
@[simp] theorem evaluate_frame1 (c : Controller) :
    (evaluate c).track.pusher = c.track.pusher ∧ (evaluate c).track.guide = c.track.guide ∧
    (evaluate c).track.car = c.track.car ∧ (evaluate c).line.number = c.line.number ∧
    (evaluate c).line.rx = c.line.rx ∧ (evaluate c).line.ack = c.line.ack ∧
    (evaluate c).events.enable = c.events.enable ∧ (evaluate c).events.carried = c.events.carried ∧
    (evaluate c).reg.cycle = c.reg.cycle ∧ (evaluate c).reg.period = c.reg.period ∧
    (evaluate c).reg.answer = c.reg.answer ∧ (evaluate c).reg.mainSend = c.reg.mainSend := by
  refine ⟨?_, ?_, ?_, ?_, ?_, ?_, ?_, ?_, ?_, ?_, ?_, ?_⟩
  · (simp only [evaluate]; repeat' split) <;> simp_all
  · (simp only [evaluate]; repeat' split) <;> simp_all
  · (simp only [evaluate]; repeat' split) <;> simp_all
  · (simp only [evaluate]; repeat' split) <;> simp_all
  · (simp only [evaluate]; repeat' split) <;> simp_all
  · (simp only [evaluate]; repeat' split) <;> simp_all
  · (simp only [evaluate]; repeat' split) <;> simp_all
  · (simp only [evaluate]; repeat' split) <;> simp_all
  · (simp only [evaluate]; repeat' split) <;> simp_all
  · (simp only [evaluate]; repeat' split) <;> simp_all
  · (simp only [evaluate]; repeat' split) <;> simp_all
  · (simp only [evaluate]; repeat' split) <;> simp_all

/-- What `evaluate` leaves as it is, continued. -/
@[simp] theorem evaluate_frame2 (c : Controller) :
    (evaluate c).reg.frame = c.reg.frame ∧ (evaluate c).reg.frameHeld = c.reg.frameHeld ∧
    (evaluate c).reg.framesOn = c.reg.framesOn ∧ (evaluate c).reg.main.tap = c.reg.main.tap ∧
    (evaluate c).reg.main.value = c.reg.main.value ∧ (evaluate c).reg.main.invalid = c.reg.main.invalid ∧
    (evaluate c).reg.main.age = c.reg.main.age ∧ (evaluate c).reg.main.stale = c.reg.main.stale := by
  refine ⟨?_, ?_, ?_, ?_, ?_, ?_, ?_, ?_⟩
  · (simp only [evaluate]; repeat' split) <;> simp_all
  · (simp only [evaluate]; repeat' split) <;> simp_all
  · (simp only [evaluate]; repeat' split) <;> simp_all
  · (simp only [evaluate]; repeat' split) <;> simp_all
  · (simp only [evaluate]; repeat' split) <;> simp_all
  · (simp only [evaluate]; repeat' split) <;> simp_all
  · (simp only [evaluate]; repeat' split) <;> simp_all
  · (simp only [evaluate]; repeat' split) <;> simp_all

/-- What `settlePhase` leaves as it is. -/
@[simp] theorem settlePhase_frame (i : Nat) (c : Controller) :
    (settlePhase i c).start = c.start ∧ (settlePhase i c).time = c.time ∧ (settlePhase i c).round = c.round ∧
    (settlePhase i c).held = c.held ∧ (settlePhase i c).doors = c.doors ∧ (settlePhase i c).scan = c.scan ∧
    (settlePhase i c).due = c.due := by
  refine ⟨?_, ?_, ?_, ?_, ?_, ?_, ?_⟩
  · (simp only [settlePhase]; repeat' split) <;> simp_all
  · (simp only [settlePhase]; repeat' split) <;> simp_all
  · (simp only [settlePhase]; repeat' split) <;> simp_all
  · (simp only [settlePhase]; repeat' split) <;> simp_all
  · (simp only [settlePhase]; repeat' split) <;> simp_all
  · (simp only [settlePhase]; repeat' split) <;> simp_all
  · (simp only [settlePhase]; repeat' split) <;> simp_all

/-- What `settlePhase` leaves as it is, continued. -/
@[simp] theorem settlePhase_frame1 (i : Nat) (c : Controller) :
    (settlePhase i c).table.below = c.table.below ∧ (settlePhase i c).table.above = c.table.above ∧
    (settlePhase i c).table.nmin = c.table.nmin ∧ (settlePhase i c).table.pendT = c.table.pendT ∧
    (settlePhase i c).table.pendE = c.table.pendE ∧ (settlePhase i c).track.pusher = c.track.pusher ∧
    (settlePhase i c).track.guide = c.track.guide ∧ (settlePhase i c).track.car = c.track.car ∧
    (settlePhase i c).line.number = c.line.number ∧ (settlePhase i c).line.rx = c.line.rx ∧
    (settlePhase i c).line.ack = c.line.ack ∧ (settlePhase i c).events.enable = c.events.enable := by
  refine ⟨?_, ?_, ?_, ?_, ?_, ?_, ?_, ?_, ?_, ?_, ?_, ?_⟩
  · (simp only [settlePhase]; repeat' split) <;> simp_all
  · (simp only [settlePhase]; repeat' split) <;> simp_all
  · (simp only [settlePhase]; repeat' split) <;> simp_all
  · (simp only [settlePhase]; repeat' split) <;> simp_all
  · (simp only [settlePhase]; repeat' split) <;> simp_all
  · (simp only [settlePhase]; repeat' split) <;> simp_all
  · (simp only [settlePhase]; repeat' split) <;> simp_all
  · (simp only [settlePhase]; repeat' split) <;> simp_all
  · (simp only [settlePhase]; repeat' split) <;> simp_all
  · (simp only [settlePhase]; repeat' split) <;> simp_all
  · (simp only [settlePhase]; repeat' split) <;> simp_all
  · (simp only [settlePhase]; repeat' split) <;> simp_all

/-- What `settlePhase` leaves as it is, continued. -/
@[simp] theorem settlePhase_frame2 (i : Nat) (c : Controller) :
    (settlePhase i c).events.carried = c.events.carried ∧ (settlePhase i c).reg.cycle = c.reg.cycle ∧
    (settlePhase i c).reg.period = c.reg.period ∧ (settlePhase i c).reg.answer = c.reg.answer ∧
    (settlePhase i c).reg.mainSend = c.reg.mainSend ∧ (settlePhase i c).reg.framesOn = c.reg.framesOn ∧
    (settlePhase i c).reg.main.tap = c.reg.main.tap ∧ (settlePhase i c).reg.main.value = c.reg.main.value ∧
    (settlePhase i c).reg.main.invalid = c.reg.main.invalid ∧ (settlePhase i c).reg.main.age = c.reg.main.age ∧
    (settlePhase i c).reg.main.stale = c.reg.main.stale := by
  refine ⟨?_, ?_, ?_, ?_, ?_, ?_, ?_, ?_, ?_, ?_, ?_⟩
  · (simp only [settlePhase]; repeat' split) <;> simp_all
  · (simp only [settlePhase]; repeat' split) <;> simp_all
  · (simp only [settlePhase]; repeat' split) <;> simp_all
  · (simp only [settlePhase]; repeat' split) <;> simp_all
  · (simp only [settlePhase]; repeat' split) <;> simp_all
  · (simp only [settlePhase]; repeat' split) <;> simp_all
  · (simp only [settlePhase]; repeat' split) <;> simp_all
  · (simp only [settlePhase]; repeat' split) <;> simp_all
  · (simp only [settlePhase]; repeat' split) <;> simp_all
  · (simp only [settlePhase]; repeat' split) <;> simp_all
  · (simp only [settlePhase]; repeat' split) <;> simp_all

/-- What `completeReclosing` leaves as it is. -/
@[simp] theorem completeReclosing_frame (i : Nat) (oven : Nat) (c : Controller) :
    (completeReclosing i oven c).start = c.start ∧ (completeReclosing i oven c).time = c.time ∧
    (completeReclosing i oven c).round = c.round ∧ (completeReclosing i oven c).held = c.held ∧
    (completeReclosing i oven c).doors = c.doors ∧ (completeReclosing i oven c).scan = c.scan ∧
    (completeReclosing i oven c).due = c.due ∧ (completeReclosing i oven c).table.below = c.table.below ∧
    (completeReclosing i oven c).table.above = c.table.above ∧
    (completeReclosing i oven c).table.nmin = c.table.nmin ∧
    (completeReclosing i oven c).table.pendT = c.table.pendT ∧
    (completeReclosing i oven c).table.pendE = c.table.pendE ∧
    (completeReclosing i oven c).track.pusher = c.track.pusher ∧
    (completeReclosing i oven c).track.guide = c.track.guide ∧
    (completeReclosing i oven c).track.car = c.track.car ∧
    (completeReclosing i oven c).line.number = c.line.number ∧ (completeReclosing i oven c).line.rx = c.line.rx ∧
    (completeReclosing i oven c).line.ack = c.line.ack ∧
    (completeReclosing i oven c).events.enable = c.events.enable ∧
    (completeReclosing i oven c).events.carried = c.events.carried ∧
    (completeReclosing i oven c).reg.cycle = c.reg.cycle ∧ (completeReclosing i oven c).reg.period = c.reg.period ∧
    (completeReclosing i oven c).reg.answer = c.reg.answer ∧
    (completeReclosing i oven c).reg.mainSend = c.reg.mainSend ∧
    (completeReclosing i oven c).reg.framesOn = c.reg.framesOn ∧
    (completeReclosing i oven c).reg.main.tap = c.reg.main.tap ∧
    (completeReclosing i oven c).reg.main.value = c.reg.main.value ∧
    (completeReclosing i oven c).reg.main.invalid = c.reg.main.invalid ∧
    (completeReclosing i oven c).reg.main.age = c.reg.main.age ∧
    (completeReclosing i oven c).reg.main.stale = c.reg.main.stale := by
  simp [completeReclosing]

/-- What `checkReclosing` leaves as it is. -/
@[simp] theorem checkReclosing_frame (c : Controller) :
    (checkReclosing c).start = c.start ∧ (checkReclosing c).time = c.time ∧ (checkReclosing c).round = c.round ∧
    (checkReclosing c).held = c.held ∧ (checkReclosing c).doors = c.doors ∧ (checkReclosing c).scan = c.scan ∧
    (checkReclosing c).due = c.due := by
  refine ⟨?_, ?_, ?_, ?_, ?_, ?_, ?_⟩
  · (simp only [checkReclosing]; repeat' split) <;> simp_all
  · (simp only [checkReclosing]; repeat' split) <;> simp_all
  · (simp only [checkReclosing]; repeat' split) <;> simp_all
  · (simp only [checkReclosing]; repeat' split) <;> simp_all
  · (simp only [checkReclosing]; repeat' split) <;> simp_all
  · (simp only [checkReclosing]; repeat' split) <;> simp_all
  · (simp only [checkReclosing]; repeat' split) <;> simp_all

/-- What `checkReclosing` leaves as it is, continued. -/
@[simp] theorem checkReclosing_frame1 (c : Controller) :
    (checkReclosing c).table.below = c.table.below ∧ (checkReclosing c).table.above = c.table.above ∧
    (checkReclosing c).table.nmin = c.table.nmin ∧ (checkReclosing c).table.pendT = c.table.pendT ∧
    (checkReclosing c).table.pendE = c.table.pendE ∧ (checkReclosing c).track.pusher = c.track.pusher ∧
    (checkReclosing c).track.guide = c.track.guide ∧ (checkReclosing c).track.car = c.track.car ∧
    (checkReclosing c).line.number = c.line.number ∧ (checkReclosing c).line.rx = c.line.rx ∧
    (checkReclosing c).line.ack = c.line.ack ∧ (checkReclosing c).events.enable = c.events.enable := by
  refine ⟨?_, ?_, ?_, ?_, ?_, ?_, ?_, ?_, ?_, ?_, ?_, ?_⟩
  · (simp only [checkReclosing]; repeat' split) <;> simp_all
  · (simp only [checkReclosing]; repeat' split) <;> simp_all
  · (simp only [checkReclosing]; repeat' split) <;> simp_all
  · (simp only [checkReclosing]; repeat' split) <;> simp_all
  · (simp only [checkReclosing]; repeat' split) <;> simp_all
  · (simp only [checkReclosing]; repeat' split) <;> simp_all
  · (simp only [checkReclosing]; repeat' split) <;> simp_all
  · (simp only [checkReclosing]; repeat' split) <;> simp_all
  · (simp only [checkReclosing]; repeat' split) <;> simp_all
  · (simp only [checkReclosing]; repeat' split) <;> simp_all
  · (simp only [checkReclosing]; repeat' split) <;> simp_all
  · (simp only [checkReclosing]; repeat' split) <;> simp_all

/-- What `checkReclosing` leaves as it is, continued. -/
@[simp] theorem checkReclosing_frame2 (c : Controller) :
    (checkReclosing c).events.carried = c.events.carried ∧ (checkReclosing c).reg.cycle = c.reg.cycle ∧
    (checkReclosing c).reg.period = c.reg.period ∧ (checkReclosing c).reg.answer = c.reg.answer ∧
    (checkReclosing c).reg.mainSend = c.reg.mainSend ∧ (checkReclosing c).reg.framesOn = c.reg.framesOn ∧
    (checkReclosing c).reg.main.tap = c.reg.main.tap ∧ (checkReclosing c).reg.main.value = c.reg.main.value ∧
    (checkReclosing c).reg.main.invalid = c.reg.main.invalid ∧ (checkReclosing c).reg.main.age = c.reg.main.age ∧
    (checkReclosing c).reg.main.stale = c.reg.main.stale := by
  refine ⟨?_, ?_, ?_, ?_, ?_, ?_, ?_, ?_, ?_, ?_, ?_⟩
  · (simp only [checkReclosing]; repeat' split) <;> simp_all
  · (simp only [checkReclosing]; repeat' split) <;> simp_all
  · (simp only [checkReclosing]; repeat' split) <;> simp_all
  · (simp only [checkReclosing]; repeat' split) <;> simp_all
  · (simp only [checkReclosing]; repeat' split) <;> simp_all
  · (simp only [checkReclosing]; repeat' split) <;> simp_all
  · (simp only [checkReclosing]; repeat' split) <;> simp_all
  · (simp only [checkReclosing]; repeat' split) <;> simp_all
  · (simp only [checkReclosing]; repeat' split) <;> simp_all
  · (simp only [checkReclosing]; repeat' split) <;> simp_all
  · (simp only [checkReclosing]; repeat' split) <;> simp_all

/-- What `enterReclosing` leaves as it is. -/
@[simp] theorem enterReclosing_frame (c : Controller) :
    (enterReclosing c).start = c.start ∧ (enterReclosing c).time = c.time ∧ (enterReclosing c).round = c.round ∧
    (enterReclosing c).held = c.held ∧ (enterReclosing c).doors = c.doors ∧ (enterReclosing c).scan = c.scan ∧
    (enterReclosing c).table.below = c.table.below ∧ (enterReclosing c).table.above = c.table.above ∧
    (enterReclosing c).table.nmin = c.table.nmin ∧ (enterReclosing c).table.pendT = c.table.pendT ∧
    (enterReclosing c).table.pendE = c.table.pendE ∧ (enterReclosing c).track.pusher = c.track.pusher ∧
    (enterReclosing c).track.guide = c.track.guide ∧ (enterReclosing c).track.car = c.track.car ∧
    (enterReclosing c).line.number = c.line.number ∧ (enterReclosing c).line.rx = c.line.rx ∧
    (enterReclosing c).line.ack = c.line.ack ∧ (enterReclosing c).events.enable = c.events.enable ∧
    (enterReclosing c).events.carried = c.events.carried ∧ (enterReclosing c).reg.cycle = c.reg.cycle ∧
    (enterReclosing c).reg.period = c.reg.period ∧ (enterReclosing c).reg.answer = c.reg.answer ∧
    (enterReclosing c).reg.mainSend = c.reg.mainSend ∧ (enterReclosing c).reg.framesOn = c.reg.framesOn ∧
    (enterReclosing c).reg.main.tap = c.reg.main.tap ∧ (enterReclosing c).reg.main.value = c.reg.main.value ∧
    (enterReclosing c).reg.main.invalid = c.reg.main.invalid ∧ (enterReclosing c).reg.main.age = c.reg.main.age ∧
    (enterReclosing c).reg.main.stale = c.reg.main.stale := by
  simp [enterReclosing]

/-- What `abortJob` leaves as it is. -/
@[simp] theorem abortJob_frame (r : AbortReason) (c : Controller) :
    (abortJob r c).start = c.start ∧ (abortJob r c).time = c.time ∧ (abortJob r c).round = c.round ∧
    (abortJob r c).held = c.held ∧ (abortJob r c).doors = c.doors ∧ (abortJob r c).scan = c.scan := by
  refine ⟨?_, ?_, ?_, ?_, ?_, ?_⟩
  · (simp only [abortJob]; repeat' split) <;> simp_all
  · (simp only [abortJob]; repeat' split) <;> simp_all
  · (simp only [abortJob]; repeat' split) <;> simp_all
  · (simp only [abortJob]; repeat' split) <;> simp_all
  · (simp only [abortJob]; repeat' split) <;> simp_all
  · (simp only [abortJob]; repeat' split) <;> simp_all

/-- What `abortJob` leaves as it is, continued. -/
@[simp] theorem abortJob_frame1 (r : AbortReason) (c : Controller) :
    (abortJob r c).table.below = c.table.below ∧ (abortJob r c).table.above = c.table.above ∧
    (abortJob r c).table.nmin = c.table.nmin ∧ (abortJob r c).table.pendT = c.table.pendT ∧
    (abortJob r c).table.pendE = c.table.pendE ∧ (abortJob r c).track.pusher = c.track.pusher ∧
    (abortJob r c).track.guide = c.track.guide ∧ (abortJob r c).track.car = c.track.car ∧
    (abortJob r c).line.number = c.line.number ∧ (abortJob r c).line.rx = c.line.rx ∧
    (abortJob r c).line.ack = c.line.ack ∧ (abortJob r c).events.enable = c.events.enable := by
  refine ⟨?_, ?_, ?_, ?_, ?_, ?_, ?_, ?_, ?_, ?_, ?_, ?_⟩
  · (simp only [abortJob]; repeat' split) <;> simp_all
  · (simp only [abortJob]; repeat' split) <;> simp_all
  · (simp only [abortJob]; repeat' split) <;> simp_all
  · (simp only [abortJob]; repeat' split) <;> simp_all
  · (simp only [abortJob]; repeat' split) <;> simp_all
  · (simp only [abortJob]; repeat' split) <;> simp_all
  · (simp only [abortJob]; repeat' split) <;> simp_all
  · (simp only [abortJob]; repeat' split) <;> simp_all
  · (simp only [abortJob]; repeat' split) <;> simp_all
  · (simp only [abortJob]; repeat' split) <;> simp_all
  · (simp only [abortJob]; repeat' split) <;> simp_all
  · (simp only [abortJob]; repeat' split) <;> simp_all

/-- What `abortJob` leaves as it is, continued. -/
@[simp] theorem abortJob_frame2 (r : AbortReason) (c : Controller) :
    (abortJob r c).events.carried = c.events.carried ∧ (abortJob r c).reg.cycle = c.reg.cycle ∧
    (abortJob r c).reg.period = c.reg.period ∧ (abortJob r c).reg.answer = c.reg.answer ∧
    (abortJob r c).reg.mainSend = c.reg.mainSend ∧ (abortJob r c).reg.framesOn = c.reg.framesOn ∧
    (abortJob r c).reg.main.tap = c.reg.main.tap ∧ (abortJob r c).reg.main.value = c.reg.main.value ∧
    (abortJob r c).reg.main.invalid = c.reg.main.invalid ∧ (abortJob r c).reg.main.age = c.reg.main.age ∧
    (abortJob r c).reg.main.stale = c.reg.main.stale := by
  refine ⟨?_, ?_, ?_, ?_, ?_, ?_, ?_, ?_, ?_, ?_, ?_⟩
  · (simp only [abortJob]; repeat' split) <;> simp_all
  · (simp only [abortJob]; repeat' split) <;> simp_all
  · (simp only [abortJob]; repeat' split) <;> simp_all
  · (simp only [abortJob]; repeat' split) <;> simp_all
  · (simp only [abortJob]; repeat' split) <;> simp_all
  · (simp only [abortJob]; repeat' split) <;> simp_all
  · (simp only [abortJob]; repeat' split) <;> simp_all
  · (simp only [abortJob]; repeat' split) <;> simp_all
  · (simp only [abortJob]; repeat' split) <;> simp_all
  · (simp only [abortJob]; repeat' split) <;> simp_all
  · (simp only [abortJob]; repeat' split) <;> simp_all

/-- What `startPush` leaves as it is. -/
@[simp] theorem startPush_frame (i : Nat) (c : Controller) :
    (startPush i c).start = c.start ∧ (startPush i c).time = c.time ∧ (startPush i c).round = c.round ∧
    (startPush i c).held = c.held ∧ (startPush i c).doors = c.doors ∧ (startPush i c).scan = c.scan ∧
    (startPush i c).due = c.due ∧ (startPush i c).table.below = c.table.below ∧
    (startPush i c).table.above = c.table.above ∧ (startPush i c).table.nmin = c.table.nmin ∧
    (startPush i c).table.pendT = c.table.pendT ∧ (startPush i c).table.pendE = c.table.pendE ∧
    (startPush i c).track.pusher = c.track.pusher ∧ (startPush i c).track.guide = c.track.guide ∧
    (startPush i c).track.car = c.track.car ∧ (startPush i c).line.number = c.line.number ∧
    (startPush i c).line.rx = c.line.rx ∧ (startPush i c).line.ack = c.line.ack ∧
    (startPush i c).events.enable = c.events.enable ∧ (startPush i c).events.carried = c.events.carried ∧
    (startPush i c).reg.cycle = c.reg.cycle ∧ (startPush i c).reg.period = c.reg.period ∧
    (startPush i c).reg.answer = c.reg.answer ∧ (startPush i c).reg.mainSend = c.reg.mainSend ∧
    (startPush i c).reg.framesOn = c.reg.framesOn ∧ (startPush i c).reg.main.tap = c.reg.main.tap ∧
    (startPush i c).reg.main.value = c.reg.main.value ∧ (startPush i c).reg.main.invalid = c.reg.main.invalid ∧
    (startPush i c).reg.main.age = c.reg.main.age ∧ (startPush i c).reg.main.stale = c.reg.main.stale := by
  simp [startPush]

/-- What `tablePushEnd` leaves as it is. -/
@[simp] theorem tablePushEnd_frame (i : Nat) (oven : Nat) (force : Nat) (completed : Bool) (c : Controller) :
    (tablePushEnd i oven force completed c).start = c.start ∧
    (tablePushEnd i oven force completed c).time = c.time ∧
    (tablePushEnd i oven force completed c).round = c.round ∧
    (tablePushEnd i oven force completed c).held = c.held ∧
    (tablePushEnd i oven force completed c).doors = c.doors ∧
    (tablePushEnd i oven force completed c).scan = c.scan ∧ (tablePushEnd i oven force completed c).due = c.due := by
  refine ⟨?_, ?_, ?_, ?_, ?_, ?_, ?_⟩
  · (simp only [tablePushEnd]; repeat' split) <;> simp_all
  · (simp only [tablePushEnd]; repeat' split) <;> simp_all
  · (simp only [tablePushEnd]; repeat' split) <;> simp_all
  · (simp only [tablePushEnd]; repeat' split) <;> simp_all
  · (simp only [tablePushEnd]; repeat' split) <;> simp_all
  · (simp only [tablePushEnd]; repeat' split) <;> simp_all
  · (simp only [tablePushEnd]; repeat' split) <;> simp_all

/-- What `tablePushEnd` leaves as it is, continued. -/
@[simp] theorem tablePushEnd_frame1 (i : Nat) (oven : Nat) (force : Nat) (completed : Bool) (c : Controller) :
    (tablePushEnd i oven force completed c).table.below = c.table.below ∧
    (tablePushEnd i oven force completed c).table.above = c.table.above ∧
    (tablePushEnd i oven force completed c).table.nmin = c.table.nmin ∧
    (tablePushEnd i oven force completed c).table.pendT = c.table.pendT ∧
    (tablePushEnd i oven force completed c).table.pendE = c.table.pendE ∧
    (tablePushEnd i oven force completed c).track.pusher = c.track.pusher ∧
    (tablePushEnd i oven force completed c).track.guide = c.track.guide ∧
    (tablePushEnd i oven force completed c).track.car = c.track.car ∧
    (tablePushEnd i oven force completed c).line.number = c.line.number ∧
    (tablePushEnd i oven force completed c).line.rx = c.line.rx ∧
    (tablePushEnd i oven force completed c).line.ack = c.line.ack ∧
    (tablePushEnd i oven force completed c).events.enable = c.events.enable := by
  refine ⟨?_, ?_, ?_, ?_, ?_, ?_, ?_, ?_, ?_, ?_, ?_, ?_⟩
  · (simp only [tablePushEnd]; repeat' split) <;> simp_all
  · (simp only [tablePushEnd]; repeat' split) <;> simp_all
  · (simp only [tablePushEnd]; repeat' split) <;> simp_all
  · (simp only [tablePushEnd]; repeat' split) <;> simp_all
  · (simp only [tablePushEnd]; repeat' split) <;> simp_all
  · (simp only [tablePushEnd]; repeat' split) <;> simp_all
  · (simp only [tablePushEnd]; repeat' split) <;> simp_all
  · (simp only [tablePushEnd]; repeat' split) <;> simp_all
  · (simp only [tablePushEnd]; repeat' split) <;> simp_all
  · (simp only [tablePushEnd]; repeat' split) <;> simp_all
  · (simp only [tablePushEnd]; repeat' split) <;> simp_all
  · (simp only [tablePushEnd]; repeat' split) <;> simp_all

/-- What `tablePushEnd` leaves as it is, continued. -/
@[simp] theorem tablePushEnd_frame2 (i : Nat) (oven : Nat) (force : Nat) (completed : Bool) (c : Controller) :
    (tablePushEnd i oven force completed c).events.carried = c.events.carried ∧
    (tablePushEnd i oven force completed c).reg.cycle = c.reg.cycle ∧
    (tablePushEnd i oven force completed c).reg.period = c.reg.period ∧
    (tablePushEnd i oven force completed c).reg.answer = c.reg.answer ∧
    (tablePushEnd i oven force completed c).reg.mainSend = c.reg.mainSend ∧
    (tablePushEnd i oven force completed c).reg.framesOn = c.reg.framesOn ∧
    (tablePushEnd i oven force completed c).reg.main.tap = c.reg.main.tap ∧
    (tablePushEnd i oven force completed c).reg.main.value = c.reg.main.value ∧
    (tablePushEnd i oven force completed c).reg.main.invalid = c.reg.main.invalid ∧
    (tablePushEnd i oven force completed c).reg.main.age = c.reg.main.age ∧
    (tablePushEnd i oven force completed c).reg.main.stale = c.reg.main.stale := by
  refine ⟨?_, ?_, ?_, ?_, ?_, ?_, ?_, ?_, ?_, ?_, ?_⟩
  · (simp only [tablePushEnd]; repeat' split) <;> simp_all
  · (simp only [tablePushEnd]; repeat' split) <;> simp_all
  · (simp only [tablePushEnd]; repeat' split) <;> simp_all
  · (simp only [tablePushEnd]; repeat' split) <;> simp_all
  · (simp only [tablePushEnd]; repeat' split) <;> simp_all
  · (simp only [tablePushEnd]; repeat' split) <;> simp_all
  · (simp only [tablePushEnd]; repeat' split) <;> simp_all
  · (simp only [tablePushEnd]; repeat' split) <;> simp_all
  · (simp only [tablePushEnd]; repeat' split) <;> simp_all
  · (simp only [tablePushEnd]; repeat' split) <;> simp_all
  · (simp only [tablePushEnd]; repeat' split) <;> simp_all

/-- What `takePushEnd` leaves as it is. -/
@[simp] theorem takePushEnd_frame (i : Nat) (oven : Nat) (force : Nat) (completed : Bool) (c : Controller) :
    (takePushEnd i oven force completed c).start = c.start ∧ (takePushEnd i oven force completed c).time = c.time ∧
    (takePushEnd i oven force completed c).round = c.round ∧ (takePushEnd i oven force completed c).held = c.held ∧
    (takePushEnd i oven force completed c).doors = c.doors ∧ (takePushEnd i oven force completed c).scan = c.scan ∧
    (takePushEnd i oven force completed c).due = c.due ∧
    (takePushEnd i oven force completed c).table.below = c.table.below ∧
    (takePushEnd i oven force completed c).table.above = c.table.above ∧
    (takePushEnd i oven force completed c).table.nmin = c.table.nmin ∧
    (takePushEnd i oven force completed c).table.pendT = c.table.pendT ∧
    (takePushEnd i oven force completed c).table.pendE = c.table.pendE ∧
    (takePushEnd i oven force completed c).track.pusher = c.track.pusher ∧
    (takePushEnd i oven force completed c).track.guide = c.track.guide ∧
    (takePushEnd i oven force completed c).track.car = c.track.car ∧
    (takePushEnd i oven force completed c).line.number = c.line.number ∧
    (takePushEnd i oven force completed c).line.rx = c.line.rx ∧
    (takePushEnd i oven force completed c).line.ack = c.line.ack ∧
    (takePushEnd i oven force completed c).events.enable = c.events.enable ∧
    (takePushEnd i oven force completed c).events.carried = c.events.carried ∧
    (takePushEnd i oven force completed c).reg.cycle = c.reg.cycle ∧
    (takePushEnd i oven force completed c).reg.period = c.reg.period ∧
    (takePushEnd i oven force completed c).reg.answer = c.reg.answer ∧
    (takePushEnd i oven force completed c).reg.mainSend = c.reg.mainSend ∧
    (takePushEnd i oven force completed c).reg.framesOn = c.reg.framesOn ∧
    (takePushEnd i oven force completed c).reg.main.tap = c.reg.main.tap ∧
    (takePushEnd i oven force completed c).reg.main.value = c.reg.main.value ∧
    (takePushEnd i oven force completed c).reg.main.invalid = c.reg.main.invalid ∧
    (takePushEnd i oven force completed c).reg.main.age = c.reg.main.age ∧
    (takePushEnd i oven force completed c).reg.main.stale = c.reg.main.stale := by
  simp [takePushEnd]

/-- What `pusherPushing` leaves as it is. -/
@[simp] theorem pusherPushing_frame (i : Nat) (oven : Nat) (c : Controller) :
    (pusherPushing i oven c).start = c.start ∧ (pusherPushing i oven c).time = c.time ∧
    (pusherPushing i oven c).round = c.round ∧ (pusherPushing i oven c).held = c.held ∧
    (pusherPushing i oven c).doors = c.doors ∧ (pusherPushing i oven c).scan = c.scan := by
  refine ⟨?_, ?_, ?_, ?_, ?_, ?_⟩
  · (simp only [pusherPushing]; repeat' split) <;> simp_all
  · (simp only [pusherPushing]; repeat' split) <;> simp_all
  · (simp only [pusherPushing]; repeat' split) <;> simp_all
  · (simp only [pusherPushing]; repeat' split) <;> simp_all
  · (simp only [pusherPushing]; repeat' split) <;> simp_all
  · (simp only [pusherPushing]; repeat' split) <;> simp_all

/-- What `pusherPushing` leaves as it is, continued. -/
@[simp] theorem pusherPushing_frame1 (i : Nat) (oven : Nat) (c : Controller) :
    (pusherPushing i oven c).table.below = c.table.below ∧ (pusherPushing i oven c).table.above = c.table.above ∧
    (pusherPushing i oven c).table.nmin = c.table.nmin ∧ (pusherPushing i oven c).table.pendT = c.table.pendT ∧
    (pusherPushing i oven c).table.pendE = c.table.pendE ∧ (pusherPushing i oven c).track.pusher = c.track.pusher ∧
    (pusherPushing i oven c).track.guide = c.track.guide ∧ (pusherPushing i oven c).track.car = c.track.car ∧
    (pusherPushing i oven c).line.number = c.line.number ∧ (pusherPushing i oven c).line.rx = c.line.rx ∧
    (pusherPushing i oven c).line.ack = c.line.ack ∧ (pusherPushing i oven c).events.enable = c.events.enable := by
  refine ⟨?_, ?_, ?_, ?_, ?_, ?_, ?_, ?_, ?_, ?_, ?_, ?_⟩
  · (simp only [pusherPushing]; repeat' split) <;> simp_all
  · (simp only [pusherPushing]; repeat' split) <;> simp_all
  · (simp only [pusherPushing]; repeat' split) <;> simp_all
  · (simp only [pusherPushing]; repeat' split) <;> simp_all
  · (simp only [pusherPushing]; repeat' split) <;> simp_all
  · (simp only [pusherPushing]; repeat' split) <;> simp_all
  · (simp only [pusherPushing]; repeat' split) <;> simp_all
  · (simp only [pusherPushing]; repeat' split) <;> simp_all
  · (simp only [pusherPushing]; repeat' split) <;> simp_all
  · (simp only [pusherPushing]; repeat' split) <;> simp_all
  · (simp only [pusherPushing]; repeat' split) <;> simp_all
  · (simp only [pusherPushing]; repeat' split) <;> simp_all

/-- What `pusherPushing` leaves as it is, continued. -/
@[simp] theorem pusherPushing_frame2 (i : Nat) (oven : Nat) (c : Controller) :
    (pusherPushing i oven c).events.carried = c.events.carried ∧ (pusherPushing i oven c).reg.cycle = c.reg.cycle ∧
    (pusherPushing i oven c).reg.period = c.reg.period ∧ (pusherPushing i oven c).reg.answer = c.reg.answer ∧
    (pusherPushing i oven c).reg.mainSend = c.reg.mainSend ∧
    (pusherPushing i oven c).reg.framesOn = c.reg.framesOn ∧
    (pusherPushing i oven c).reg.main.tap = c.reg.main.tap ∧
    (pusherPushing i oven c).reg.main.value = c.reg.main.value ∧
    (pusherPushing i oven c).reg.main.invalid = c.reg.main.invalid ∧
    (pusherPushing i oven c).reg.main.age = c.reg.main.age ∧
    (pusherPushing i oven c).reg.main.stale = c.reg.main.stale := by
  refine ⟨?_, ?_, ?_, ?_, ?_, ?_, ?_, ?_, ?_, ?_, ?_⟩
  · (simp only [pusherPushing]; repeat' split) <;> simp_all
  · (simp only [pusherPushing]; repeat' split) <;> simp_all
  · (simp only [pusherPushing]; repeat' split) <;> simp_all
  · (simp only [pusherPushing]; repeat' split) <;> simp_all
  · (simp only [pusherPushing]; repeat' split) <;> simp_all
  · (simp only [pusherPushing]; repeat' split) <;> simp_all
  · (simp only [pusherPushing]; repeat' split) <;> simp_all
  · (simp only [pusherPushing]; repeat' split) <;> simp_all
  · (simp only [pusherPushing]; repeat' split) <;> simp_all
  · (simp only [pusherPushing]; repeat' split) <;> simp_all
  · (simp only [pusherPushing]; repeat' split) <;> simp_all

/-- What `pusherReturned` leaves as it is. -/
@[simp] theorem pusherReturned_frame (i : Nat) (oven : Nat) (force : Nat) (completed : Bool) (c : Controller) :
    (pusherReturned i oven force completed c).start = c.start ∧
    (pusherReturned i oven force completed c).time = c.time ∧
    (pusherReturned i oven force completed c).round = c.round ∧
    (pusherReturned i oven force completed c).held = c.held ∧
    (pusherReturned i oven force completed c).doors = c.doors ∧
    (pusherReturned i oven force completed c).scan = c.scan := by
  refine ⟨?_, ?_, ?_, ?_, ?_, ?_⟩
  · (simp only [pusherReturned]; repeat' split) <;> simp_all
  · (simp only [pusherReturned]; repeat' split) <;> simp_all
  · (simp only [pusherReturned]; repeat' split) <;> simp_all
  · (simp only [pusherReturned]; repeat' split) <;> simp_all
  · (simp only [pusherReturned]; repeat' split) <;> simp_all
  · (simp only [pusherReturned]; repeat' split) <;> simp_all

/-- What `pusherReturned` leaves as it is, continued. -/
@[simp] theorem pusherReturned_frame1 (i : Nat) (oven : Nat) (force : Nat) (completed : Bool) (c : Controller) :
    (pusherReturned i oven force completed c).table.below = c.table.below ∧
    (pusherReturned i oven force completed c).table.above = c.table.above ∧
    (pusherReturned i oven force completed c).table.nmin = c.table.nmin ∧
    (pusherReturned i oven force completed c).table.pendT = c.table.pendT ∧
    (pusherReturned i oven force completed c).table.pendE = c.table.pendE ∧
    (pusherReturned i oven force completed c).track.pusher = c.track.pusher ∧
    (pusherReturned i oven force completed c).track.guide = c.track.guide ∧
    (pusherReturned i oven force completed c).track.car = c.track.car ∧
    (pusherReturned i oven force completed c).line.number = c.line.number ∧
    (pusherReturned i oven force completed c).line.rx = c.line.rx ∧
    (pusherReturned i oven force completed c).line.ack = c.line.ack ∧
    (pusherReturned i oven force completed c).events.enable = c.events.enable := by
  refine ⟨?_, ?_, ?_, ?_, ?_, ?_, ?_, ?_, ?_, ?_, ?_, ?_⟩
  · (simp only [pusherReturned]; repeat' split) <;> simp_all
  · (simp only [pusherReturned]; repeat' split) <;> simp_all
  · (simp only [pusherReturned]; repeat' split) <;> simp_all
  · (simp only [pusherReturned]; repeat' split) <;> simp_all
  · (simp only [pusherReturned]; repeat' split) <;> simp_all
  · (simp only [pusherReturned]; repeat' split) <;> simp_all
  · (simp only [pusherReturned]; repeat' split) <;> simp_all
  · (simp only [pusherReturned]; repeat' split) <;> simp_all
  · (simp only [pusherReturned]; repeat' split) <;> simp_all
  · (simp only [pusherReturned]; repeat' split) <;> simp_all
  · (simp only [pusherReturned]; repeat' split) <;> simp_all
  · (simp only [pusherReturned]; repeat' split) <;> simp_all

/-- What `pusherReturned` leaves as it is, continued. -/
@[simp] theorem pusherReturned_frame2 (i : Nat) (oven : Nat) (force : Nat) (completed : Bool) (c : Controller) :
    (pusherReturned i oven force completed c).events.carried = c.events.carried ∧
    (pusherReturned i oven force completed c).reg.cycle = c.reg.cycle ∧
    (pusherReturned i oven force completed c).reg.period = c.reg.period ∧
    (pusherReturned i oven force completed c).reg.answer = c.reg.answer ∧
    (pusherReturned i oven force completed c).reg.mainSend = c.reg.mainSend ∧
    (pusherReturned i oven force completed c).reg.framesOn = c.reg.framesOn ∧
    (pusherReturned i oven force completed c).reg.main.tap = c.reg.main.tap ∧
    (pusherReturned i oven force completed c).reg.main.value = c.reg.main.value ∧
    (pusherReturned i oven force completed c).reg.main.invalid = c.reg.main.invalid ∧
    (pusherReturned i oven force completed c).reg.main.age = c.reg.main.age ∧
    (pusherReturned i oven force completed c).reg.main.stale = c.reg.main.stale := by
  refine ⟨?_, ?_, ?_, ?_, ?_, ?_, ?_, ?_, ?_, ?_, ?_⟩
  · (simp only [pusherReturned]; repeat' split) <;> simp_all
  · (simp only [pusherReturned]; repeat' split) <;> simp_all
  · (simp only [pusherReturned]; repeat' split) <;> simp_all
  · (simp only [pusherReturned]; repeat' split) <;> simp_all
  · (simp only [pusherReturned]; repeat' split) <;> simp_all
  · (simp only [pusherReturned]; repeat' split) <;> simp_all
  · (simp only [pusherReturned]; repeat' split) <;> simp_all
  · (simp only [pusherReturned]; repeat' split) <;> simp_all
  · (simp only [pusherReturned]; repeat' split) <;> simp_all
  · (simp only [pusherReturned]; repeat' split) <;> simp_all
  · (simp only [pusherReturned]; repeat' split) <;> simp_all

/-- What `jobOnPusher` leaves as it is. -/
@[simp] theorem jobOnPusher_frame (spot : Option Nat) (st : PusherState) (force : Nat) (completed : Bool) (c : Controller) :
    (jobOnPusher spot st force completed c).start = c.start ∧
    (jobOnPusher spot st force completed c).time = c.time ∧
    (jobOnPusher spot st force completed c).round = c.round ∧
    (jobOnPusher spot st force completed c).held = c.held ∧
    (jobOnPusher spot st force completed c).doors = c.doors ∧ (jobOnPusher spot st force completed c).scan = c.scan := by
  refine ⟨?_, ?_, ?_, ?_, ?_, ?_⟩
  · (simp only [jobOnPusher]; repeat' split) <;> simp_all
  · (simp only [jobOnPusher]; repeat' split) <;> simp_all
  · (simp only [jobOnPusher]; repeat' split) <;> simp_all
  · (simp only [jobOnPusher]; repeat' split) <;> simp_all
  · (simp only [jobOnPusher]; repeat' split) <;> simp_all
  · (simp only [jobOnPusher]; repeat' split) <;> simp_all

/-- What `jobOnPusher` leaves as it is, continued. -/
@[simp] theorem jobOnPusher_frame1 (spot : Option Nat) (st : PusherState) (force : Nat) (completed : Bool) (c : Controller) :
    (jobOnPusher spot st force completed c).table.below = c.table.below ∧
    (jobOnPusher spot st force completed c).table.above = c.table.above ∧
    (jobOnPusher spot st force completed c).table.nmin = c.table.nmin ∧
    (jobOnPusher spot st force completed c).table.pendT = c.table.pendT ∧
    (jobOnPusher spot st force completed c).table.pendE = c.table.pendE ∧
    (jobOnPusher spot st force completed c).track.pusher = c.track.pusher ∧
    (jobOnPusher spot st force completed c).track.guide = c.track.guide ∧
    (jobOnPusher spot st force completed c).track.car = c.track.car ∧
    (jobOnPusher spot st force completed c).line.number = c.line.number ∧
    (jobOnPusher spot st force completed c).line.rx = c.line.rx ∧
    (jobOnPusher spot st force completed c).line.ack = c.line.ack ∧
    (jobOnPusher spot st force completed c).events.enable = c.events.enable := by
  refine ⟨?_, ?_, ?_, ?_, ?_, ?_, ?_, ?_, ?_, ?_, ?_, ?_⟩
  · (simp only [jobOnPusher]; repeat' split) <;> simp_all
  · (simp only [jobOnPusher]; repeat' split) <;> simp_all
  · (simp only [jobOnPusher]; repeat' split) <;> simp_all
  · (simp only [jobOnPusher]; repeat' split) <;> simp_all
  · (simp only [jobOnPusher]; repeat' split) <;> simp_all
  · (simp only [jobOnPusher]; repeat' split) <;> simp_all
  · (simp only [jobOnPusher]; repeat' split) <;> simp_all
  · (simp only [jobOnPusher]; repeat' split) <;> simp_all
  · (simp only [jobOnPusher]; repeat' split) <;> simp_all
  · (simp only [jobOnPusher]; repeat' split) <;> simp_all
  · (simp only [jobOnPusher]; repeat' split) <;> simp_all
  · (simp only [jobOnPusher]; repeat' split) <;> simp_all

/-- What `jobOnPusher` leaves as it is, continued. -/
@[simp] theorem jobOnPusher_frame2 (spot : Option Nat) (st : PusherState) (force : Nat) (completed : Bool) (c : Controller) :
    (jobOnPusher spot st force completed c).events.carried = c.events.carried ∧
    (jobOnPusher spot st force completed c).reg.cycle = c.reg.cycle ∧
    (jobOnPusher spot st force completed c).reg.period = c.reg.period ∧
    (jobOnPusher spot st force completed c).reg.answer = c.reg.answer ∧
    (jobOnPusher spot st force completed c).reg.mainSend = c.reg.mainSend ∧
    (jobOnPusher spot st force completed c).reg.framesOn = c.reg.framesOn ∧
    (jobOnPusher spot st force completed c).reg.main.tap = c.reg.main.tap ∧
    (jobOnPusher spot st force completed c).reg.main.value = c.reg.main.value ∧
    (jobOnPusher spot st force completed c).reg.main.invalid = c.reg.main.invalid ∧
    (jobOnPusher spot st force completed c).reg.main.age = c.reg.main.age ∧
    (jobOnPusher spot st force completed c).reg.main.stale = c.reg.main.stale := by
  refine ⟨?_, ?_, ?_, ?_, ?_, ?_, ?_, ?_, ?_, ?_, ?_⟩
  · (simp only [jobOnPusher]; repeat' split) <;> simp_all
  · (simp only [jobOnPusher]; repeat' split) <;> simp_all
  · (simp only [jobOnPusher]; repeat' split) <;> simp_all
  · (simp only [jobOnPusher]; repeat' split) <;> simp_all
  · (simp only [jobOnPusher]; repeat' split) <;> simp_all
  · (simp only [jobOnPusher]; repeat' split) <;> simp_all
  · (simp only [jobOnPusher]; repeat' split) <;> simp_all
  · (simp only [jobOnPusher]; repeat' split) <;> simp_all
  · (simp only [jobOnPusher]; repeat' split) <;> simp_all
  · (simp only [jobOnPusher]; repeat' split) <;> simp_all
  · (simp only [jobOnPusher]; repeat' split) <;> simp_all

/-- What `earlyDoor` leaves as it is. -/
@[simp] theorem earlyDoor_frame (i : Nat) (oven : Nat) (c : Controller) :
    (earlyDoor i oven c).start = c.start ∧ (earlyDoor i oven c).time = c.time ∧
    (earlyDoor i oven c).round = c.round ∧ (earlyDoor i oven c).held = c.held ∧
    (earlyDoor i oven c).doors = c.doors ∧ (earlyDoor i oven c).scan = c.scan := by
  refine ⟨?_, ?_, ?_, ?_, ?_, ?_⟩
  · (simp only [earlyDoor]; repeat' split) <;> simp_all
  · (simp only [earlyDoor]; repeat' split) <;> simp_all
  · (simp only [earlyDoor]; repeat' split) <;> simp_all
  · (simp only [earlyDoor]; repeat' split) <;> simp_all
  · (simp only [earlyDoor]; repeat' split) <;> simp_all
  · (simp only [earlyDoor]; repeat' split) <;> simp_all

/-- What `earlyDoor` leaves as it is, continued. -/
@[simp] theorem earlyDoor_frame1 (i : Nat) (oven : Nat) (c : Controller) :
    (earlyDoor i oven c).table.below = c.table.below ∧ (earlyDoor i oven c).table.above = c.table.above ∧
    (earlyDoor i oven c).table.nmin = c.table.nmin ∧ (earlyDoor i oven c).table.pendT = c.table.pendT ∧
    (earlyDoor i oven c).table.pendE = c.table.pendE ∧ (earlyDoor i oven c).track.pusher = c.track.pusher ∧
    (earlyDoor i oven c).track.guide = c.track.guide ∧ (earlyDoor i oven c).track.car = c.track.car ∧
    (earlyDoor i oven c).line.number = c.line.number ∧ (earlyDoor i oven c).line.rx = c.line.rx ∧
    (earlyDoor i oven c).line.ack = c.line.ack ∧ (earlyDoor i oven c).events.enable = c.events.enable := by
  refine ⟨?_, ?_, ?_, ?_, ?_, ?_, ?_, ?_, ?_, ?_, ?_, ?_⟩
  · (simp only [earlyDoor]; repeat' split) <;> simp_all
  · (simp only [earlyDoor]; repeat' split) <;> simp_all
  · (simp only [earlyDoor]; repeat' split) <;> simp_all
  · (simp only [earlyDoor]; repeat' split) <;> simp_all
  · (simp only [earlyDoor]; repeat' split) <;> simp_all
  · (simp only [earlyDoor]; repeat' split) <;> simp_all
  · (simp only [earlyDoor]; repeat' split) <;> simp_all
  · (simp only [earlyDoor]; repeat' split) <;> simp_all
  · (simp only [earlyDoor]; repeat' split) <;> simp_all
  · (simp only [earlyDoor]; repeat' split) <;> simp_all
  · (simp only [earlyDoor]; repeat' split) <;> simp_all
  · (simp only [earlyDoor]; repeat' split) <;> simp_all

/-- What `earlyDoor` leaves as it is, continued. -/
@[simp] theorem earlyDoor_frame2 (i : Nat) (oven : Nat) (c : Controller) :
    (earlyDoor i oven c).events.carried = c.events.carried ∧ (earlyDoor i oven c).reg.cycle = c.reg.cycle ∧
    (earlyDoor i oven c).reg.period = c.reg.period ∧ (earlyDoor i oven c).reg.answer = c.reg.answer ∧
    (earlyDoor i oven c).reg.mainSend = c.reg.mainSend ∧ (earlyDoor i oven c).reg.framesOn = c.reg.framesOn ∧
    (earlyDoor i oven c).reg.main.tap = c.reg.main.tap ∧ (earlyDoor i oven c).reg.main.value = c.reg.main.value ∧
    (earlyDoor i oven c).reg.main.invalid = c.reg.main.invalid ∧
    (earlyDoor i oven c).reg.main.age = c.reg.main.age ∧ (earlyDoor i oven c).reg.main.stale = c.reg.main.stale := by
  refine ⟨?_, ?_, ?_, ?_, ?_, ?_, ?_, ?_, ?_, ?_, ?_⟩
  · (simp only [earlyDoor]; repeat' split) <;> simp_all
  · (simp only [earlyDoor]; repeat' split) <;> simp_all
  · (simp only [earlyDoor]; repeat' split) <;> simp_all
  · (simp only [earlyDoor]; repeat' split) <;> simp_all
  · (simp only [earlyDoor]; repeat' split) <;> simp_all
  · (simp only [earlyDoor]; repeat' split) <;> simp_all
  · (simp only [earlyDoor]; repeat' split) <;> simp_all
  · (simp only [earlyDoor]; repeat' split) <;> simp_all
  · (simp only [earlyDoor]; repeat' split) <;> simp_all
  · (simp only [earlyDoor]; repeat' split) <;> simp_all
  · (simp only [earlyDoor]; repeat' split) <;> simp_all

/-- What `jobOnDoor` leaves as it is. -/
@[simp] theorem jobOnDoor_frame (i : Nat) (d : DoorState) (c : Controller) :
    (jobOnDoor i d c).start = c.start ∧ (jobOnDoor i d c).time = c.time ∧ (jobOnDoor i d c).round = c.round ∧
    (jobOnDoor i d c).held = c.held ∧ (jobOnDoor i d c).doors = c.doors ∧ (jobOnDoor i d c).scan = c.scan := by
  refine ⟨?_, ?_, ?_, ?_, ?_, ?_⟩
  · (simp only [jobOnDoor]; repeat' split) <;> simp_all
  · (simp only [jobOnDoor]; repeat' split) <;> simp_all
  · (simp only [jobOnDoor]; repeat' split) <;> simp_all
  · (simp only [jobOnDoor]; repeat' split) <;> simp_all
  · (simp only [jobOnDoor]; repeat' split) <;> simp_all
  · (simp only [jobOnDoor]; repeat' split) <;> simp_all

/-- What `jobOnDoor` leaves as it is, continued. -/
@[simp] theorem jobOnDoor_frame1 (i : Nat) (d : DoorState) (c : Controller) :
    (jobOnDoor i d c).table.below = c.table.below ∧ (jobOnDoor i d c).table.above = c.table.above ∧
    (jobOnDoor i d c).table.nmin = c.table.nmin ∧ (jobOnDoor i d c).table.pendT = c.table.pendT ∧
    (jobOnDoor i d c).table.pendE = c.table.pendE ∧ (jobOnDoor i d c).track.pusher = c.track.pusher ∧
    (jobOnDoor i d c).track.guide = c.track.guide ∧ (jobOnDoor i d c).track.car = c.track.car ∧
    (jobOnDoor i d c).line.number = c.line.number ∧ (jobOnDoor i d c).line.rx = c.line.rx ∧
    (jobOnDoor i d c).line.ack = c.line.ack ∧ (jobOnDoor i d c).events.enable = c.events.enable := by
  refine ⟨?_, ?_, ?_, ?_, ?_, ?_, ?_, ?_, ?_, ?_, ?_, ?_⟩
  · (simp only [jobOnDoor]; repeat' split) <;> simp_all
  · (simp only [jobOnDoor]; repeat' split) <;> simp_all
  · (simp only [jobOnDoor]; repeat' split) <;> simp_all
  · (simp only [jobOnDoor]; repeat' split) <;> simp_all
  · (simp only [jobOnDoor]; repeat' split) <;> simp_all
  · (simp only [jobOnDoor]; repeat' split) <;> simp_all
  · (simp only [jobOnDoor]; repeat' split) <;> simp_all
  · (simp only [jobOnDoor]; repeat' split) <;> simp_all
  · (simp only [jobOnDoor]; repeat' split) <;> simp_all
  · (simp only [jobOnDoor]; repeat' split) <;> simp_all
  · (simp only [jobOnDoor]; repeat' split) <;> simp_all
  · (simp only [jobOnDoor]; repeat' split) <;> simp_all

/-- What `jobOnDoor` leaves as it is, continued. -/
@[simp] theorem jobOnDoor_frame2 (i : Nat) (d : DoorState) (c : Controller) :
    (jobOnDoor i d c).events.carried = c.events.carried ∧ (jobOnDoor i d c).reg.cycle = c.reg.cycle ∧
    (jobOnDoor i d c).reg.period = c.reg.period ∧ (jobOnDoor i d c).reg.answer = c.reg.answer ∧
    (jobOnDoor i d c).reg.mainSend = c.reg.mainSend ∧ (jobOnDoor i d c).reg.framesOn = c.reg.framesOn ∧
    (jobOnDoor i d c).reg.main.tap = c.reg.main.tap ∧ (jobOnDoor i d c).reg.main.value = c.reg.main.value ∧
    (jobOnDoor i d c).reg.main.invalid = c.reg.main.invalid ∧ (jobOnDoor i d c).reg.main.age = c.reg.main.age ∧
    (jobOnDoor i d c).reg.main.stale = c.reg.main.stale := by
  refine ⟨?_, ?_, ?_, ?_, ?_, ?_, ?_, ?_, ?_, ?_, ?_⟩
  · (simp only [jobOnDoor]; repeat' split) <;> simp_all
  · (simp only [jobOnDoor]; repeat' split) <;> simp_all
  · (simp only [jobOnDoor]; repeat' split) <;> simp_all
  · (simp only [jobOnDoor]; repeat' split) <;> simp_all
  · (simp only [jobOnDoor]; repeat' split) <;> simp_all
  · (simp only [jobOnDoor]; repeat' split) <;> simp_all
  · (simp only [jobOnDoor]; repeat' split) <;> simp_all
  · (simp only [jobOnDoor]; repeat' split) <;> simp_all
  · (simp only [jobOnDoor]; repeat' split) <;> simp_all
  · (simp only [jobOnDoor]; repeat' split) <;> simp_all
  · (simp only [jobOnDoor]; repeat' split) <;> simp_all

/-- What `jobOnOverdue` leaves as it is. -/
@[simp] theorem jobOnOverdue_frame (i : Nat) (c : Controller) :
    (jobOnOverdue i c).start = c.start ∧ (jobOnOverdue i c).time = c.time ∧ (jobOnOverdue i c).round = c.round ∧
    (jobOnOverdue i c).held = c.held ∧ (jobOnOverdue i c).doors = c.doors ∧ (jobOnOverdue i c).scan = c.scan := by
  refine ⟨?_, ?_, ?_, ?_, ?_, ?_⟩
  · (simp only [jobOnOverdue]; repeat' split) <;> simp_all
  · (simp only [jobOnOverdue]; repeat' split) <;> simp_all
  · (simp only [jobOnOverdue]; repeat' split) <;> simp_all
  · (simp only [jobOnOverdue]; repeat' split) <;> simp_all
  · (simp only [jobOnOverdue]; repeat' split) <;> simp_all
  · (simp only [jobOnOverdue]; repeat' split) <;> simp_all

/-- What `jobOnOverdue` leaves as it is, continued. -/
@[simp] theorem jobOnOverdue_frame1 (i : Nat) (c : Controller) :
    (jobOnOverdue i c).table.below = c.table.below ∧ (jobOnOverdue i c).table.above = c.table.above ∧
    (jobOnOverdue i c).table.nmin = c.table.nmin ∧ (jobOnOverdue i c).table.pendT = c.table.pendT ∧
    (jobOnOverdue i c).table.pendE = c.table.pendE ∧ (jobOnOverdue i c).track.pusher = c.track.pusher ∧
    (jobOnOverdue i c).track.guide = c.track.guide ∧ (jobOnOverdue i c).track.car = c.track.car ∧
    (jobOnOverdue i c).line.number = c.line.number ∧ (jobOnOverdue i c).line.rx = c.line.rx ∧
    (jobOnOverdue i c).line.ack = c.line.ack ∧ (jobOnOverdue i c).events.enable = c.events.enable := by
  refine ⟨?_, ?_, ?_, ?_, ?_, ?_, ?_, ?_, ?_, ?_, ?_, ?_⟩
  · (simp only [jobOnOverdue]; repeat' split) <;> simp_all
  · (simp only [jobOnOverdue]; repeat' split) <;> simp_all
  · (simp only [jobOnOverdue]; repeat' split) <;> simp_all
  · (simp only [jobOnOverdue]; repeat' split) <;> simp_all
  · (simp only [jobOnOverdue]; repeat' split) <;> simp_all
  · (simp only [jobOnOverdue]; repeat' split) <;> simp_all
  · (simp only [jobOnOverdue]; repeat' split) <;> simp_all
  · (simp only [jobOnOverdue]; repeat' split) <;> simp_all
  · (simp only [jobOnOverdue]; repeat' split) <;> simp_all
  · (simp only [jobOnOverdue]; repeat' split) <;> simp_all
  · (simp only [jobOnOverdue]; repeat' split) <;> simp_all
  · (simp only [jobOnOverdue]; repeat' split) <;> simp_all

/-- What `jobOnOverdue` leaves as it is, continued. -/
@[simp] theorem jobOnOverdue_frame2 (i : Nat) (c : Controller) :
    (jobOnOverdue i c).events.carried = c.events.carried ∧ (jobOnOverdue i c).reg.cycle = c.reg.cycle ∧
    (jobOnOverdue i c).reg.period = c.reg.period ∧ (jobOnOverdue i c).reg.answer = c.reg.answer ∧
    (jobOnOverdue i c).reg.mainSend = c.reg.mainSend ∧ (jobOnOverdue i c).reg.framesOn = c.reg.framesOn ∧
    (jobOnOverdue i c).reg.main.tap = c.reg.main.tap ∧ (jobOnOverdue i c).reg.main.value = c.reg.main.value ∧
    (jobOnOverdue i c).reg.main.invalid = c.reg.main.invalid ∧ (jobOnOverdue i c).reg.main.age = c.reg.main.age ∧
    (jobOnOverdue i c).reg.main.stale = c.reg.main.stale := by
  refine ⟨?_, ?_, ?_, ?_, ?_, ?_, ?_, ?_, ?_, ?_, ?_⟩
  · (simp only [jobOnOverdue]; repeat' split) <;> simp_all
  · (simp only [jobOnOverdue]; repeat' split) <;> simp_all
  · (simp only [jobOnOverdue]; repeat' split) <;> simp_all
  · (simp only [jobOnOverdue]; repeat' split) <;> simp_all
  · (simp only [jobOnOverdue]; repeat' split) <;> simp_all
  · (simp only [jobOnOverdue]; repeat' split) <;> simp_all
  · (simp only [jobOnOverdue]; repeat' split) <;> simp_all
  · (simp only [jobOnOverdue]; repeat' split) <;> simp_all
  · (simp only [jobOnOverdue]; repeat' split) <;> simp_all
  · (simp only [jobOnOverdue]; repeat' split) <;> simp_all
  · (simp only [jobOnOverdue]; repeat' split) <;> simp_all

/-- What `jobOnIsolated` leaves as it is. -/
@[simp] theorem jobOnIsolated_frame (i : Nat) (c : Controller) :
    (jobOnIsolated i c).start = c.start ∧ (jobOnIsolated i c).time = c.time ∧ (jobOnIsolated i c).round = c.round ∧
    (jobOnIsolated i c).held = c.held ∧ (jobOnIsolated i c).doors = c.doors ∧ (jobOnIsolated i c).scan = c.scan ∧
    (jobOnIsolated i c).due = c.due := by
  refine ⟨?_, ?_, ?_, ?_, ?_, ?_, ?_⟩
  · (simp only [jobOnIsolated]; repeat' split) <;> simp_all
  · (simp only [jobOnIsolated]; repeat' split) <;> simp_all
  · (simp only [jobOnIsolated]; repeat' split) <;> simp_all
  · (simp only [jobOnIsolated]; repeat' split) <;> simp_all
  · (simp only [jobOnIsolated]; repeat' split) <;> simp_all
  · (simp only [jobOnIsolated]; repeat' split) <;> simp_all
  · (simp only [jobOnIsolated]; repeat' split) <;> simp_all

/-- What `jobOnIsolated` leaves as it is, continued. -/
@[simp] theorem jobOnIsolated_frame1 (i : Nat) (c : Controller) :
    (jobOnIsolated i c).table.below = c.table.below ∧ (jobOnIsolated i c).table.above = c.table.above ∧
    (jobOnIsolated i c).table.nmin = c.table.nmin ∧ (jobOnIsolated i c).table.pendT = c.table.pendT ∧
    (jobOnIsolated i c).table.pendE = c.table.pendE ∧ (jobOnIsolated i c).track.pusher = c.track.pusher ∧
    (jobOnIsolated i c).track.guide = c.track.guide ∧ (jobOnIsolated i c).track.car = c.track.car ∧
    (jobOnIsolated i c).line.number = c.line.number ∧ (jobOnIsolated i c).line.rx = c.line.rx ∧
    (jobOnIsolated i c).line.ack = c.line.ack ∧ (jobOnIsolated i c).events.enable = c.events.enable := by
  refine ⟨?_, ?_, ?_, ?_, ?_, ?_, ?_, ?_, ?_, ?_, ?_, ?_⟩
  · (simp only [jobOnIsolated]; repeat' split) <;> simp_all
  · (simp only [jobOnIsolated]; repeat' split) <;> simp_all
  · (simp only [jobOnIsolated]; repeat' split) <;> simp_all
  · (simp only [jobOnIsolated]; repeat' split) <;> simp_all
  · (simp only [jobOnIsolated]; repeat' split) <;> simp_all
  · (simp only [jobOnIsolated]; repeat' split) <;> simp_all
  · (simp only [jobOnIsolated]; repeat' split) <;> simp_all
  · (simp only [jobOnIsolated]; repeat' split) <;> simp_all
  · (simp only [jobOnIsolated]; repeat' split) <;> simp_all
  · (simp only [jobOnIsolated]; repeat' split) <;> simp_all
  · (simp only [jobOnIsolated]; repeat' split) <;> simp_all
  · (simp only [jobOnIsolated]; repeat' split) <;> simp_all

/-- What `jobOnIsolated` leaves as it is, continued. -/
@[simp] theorem jobOnIsolated_frame2 (i : Nat) (c : Controller) :
    (jobOnIsolated i c).events.carried = c.events.carried ∧ (jobOnIsolated i c).reg.cycle = c.reg.cycle ∧
    (jobOnIsolated i c).reg.period = c.reg.period ∧ (jobOnIsolated i c).reg.answer = c.reg.answer ∧
    (jobOnIsolated i c).reg.mainSend = c.reg.mainSend ∧ (jobOnIsolated i c).reg.framesOn = c.reg.framesOn ∧
    (jobOnIsolated i c).reg.main.tap = c.reg.main.tap ∧ (jobOnIsolated i c).reg.main.value = c.reg.main.value ∧
    (jobOnIsolated i c).reg.main.invalid = c.reg.main.invalid ∧ (jobOnIsolated i c).reg.main.age = c.reg.main.age ∧
    (jobOnIsolated i c).reg.main.stale = c.reg.main.stale := by
  refine ⟨?_, ?_, ?_, ?_, ?_, ?_, ?_, ?_, ?_, ?_, ?_⟩
  · (simp only [jobOnIsolated]; repeat' split) <;> simp_all
  · (simp only [jobOnIsolated]; repeat' split) <;> simp_all
  · (simp only [jobOnIsolated]; repeat' split) <;> simp_all
  · (simp only [jobOnIsolated]; repeat' split) <;> simp_all
  · (simp only [jobOnIsolated]; repeat' split) <;> simp_all
  · (simp only [jobOnIsolated]; repeat' split) <;> simp_all
  · (simp only [jobOnIsolated]; repeat' split) <;> simp_all
  · (simp only [jobOnIsolated]; repeat' split) <;> simp_all
  · (simp only [jobOnIsolated]; repeat' split) <;> simp_all
  · (simp only [jobOnIsolated]; repeat' split) <;> simp_all
  · (simp only [jobOnIsolated]; repeat' split) <;> simp_all

/-- What `jobOnCommand` leaves as it is. -/
@[simp] theorem jobOnCommand_frame (i : Nat) (before : Option Int) (c : Controller) :
    (jobOnCommand i before c).start = c.start ∧ (jobOnCommand i before c).time = c.time ∧
    (jobOnCommand i before c).table = c.table ∧ (jobOnCommand i before c).round = c.round ∧
    (jobOnCommand i before c).held = c.held ∧ (jobOnCommand i before c).doors = c.doors ∧
    (jobOnCommand i before c).scan = c.scan := by
  refine ⟨?_, ?_, ?_, ?_, ?_, ?_, ?_⟩
  · (simp only [jobOnCommand]; repeat' split) <;> simp_all
  · (simp only [jobOnCommand]; repeat' split) <;> simp_all
  · (simp only [jobOnCommand]; repeat' split) <;> simp_all
  · (simp only [jobOnCommand]; repeat' split) <;> simp_all
  · (simp only [jobOnCommand]; repeat' split) <;> simp_all
  · (simp only [jobOnCommand]; repeat' split) <;> simp_all
  · (simp only [jobOnCommand]; repeat' split) <;> simp_all

/-- What `jobOnCommand` leaves as it is, continued. -/
@[simp] theorem jobOnCommand_frame1 (i : Nat) (before : Option Int) (c : Controller) :
    (jobOnCommand i before c).track.pusher = c.track.pusher ∧
    (jobOnCommand i before c).track.guide = c.track.guide ∧ (jobOnCommand i before c).track.car = c.track.car ∧
    (jobOnCommand i before c).line.number = c.line.number ∧ (jobOnCommand i before c).line.rx = c.line.rx ∧
    (jobOnCommand i before c).line.ack = c.line.ack ∧ (jobOnCommand i before c).events.enable = c.events.enable ∧
    (jobOnCommand i before c).events.carried = c.events.carried ∧
    (jobOnCommand i before c).reg.cycle = c.reg.cycle ∧ (jobOnCommand i before c).reg.period = c.reg.period ∧
    (jobOnCommand i before c).reg.answer = c.reg.answer ∧ (jobOnCommand i before c).reg.mainSend = c.reg.mainSend := by
  refine ⟨?_, ?_, ?_, ?_, ?_, ?_, ?_, ?_, ?_, ?_, ?_, ?_⟩
  · (simp only [jobOnCommand]; repeat' split) <;> simp_all
  · (simp only [jobOnCommand]; repeat' split) <;> simp_all
  · (simp only [jobOnCommand]; repeat' split) <;> simp_all
  · (simp only [jobOnCommand]; repeat' split) <;> simp_all
  · (simp only [jobOnCommand]; repeat' split) <;> simp_all
  · (simp only [jobOnCommand]; repeat' split) <;> simp_all
  · (simp only [jobOnCommand]; repeat' split) <;> simp_all
  · (simp only [jobOnCommand]; repeat' split) <;> simp_all
  · (simp only [jobOnCommand]; repeat' split) <;> simp_all
  · (simp only [jobOnCommand]; repeat' split) <;> simp_all
  · (simp only [jobOnCommand]; repeat' split) <;> simp_all
  · (simp only [jobOnCommand]; repeat' split) <;> simp_all

/-- What `jobOnCommand` leaves as it is, continued. -/
@[simp] theorem jobOnCommand_frame2 (i : Nat) (before : Option Int) (c : Controller) :
    (jobOnCommand i before c).reg.frame = c.reg.frame ∧ (jobOnCommand i before c).reg.frameHeld = c.reg.frameHeld ∧
    (jobOnCommand i before c).reg.framesOn = c.reg.framesOn ∧
    (jobOnCommand i before c).reg.main.tap = c.reg.main.tap ∧
    (jobOnCommand i before c).reg.main.value = c.reg.main.value ∧
    (jobOnCommand i before c).reg.main.invalid = c.reg.main.invalid ∧
    (jobOnCommand i before c).reg.main.age = c.reg.main.age ∧
    (jobOnCommand i before c).reg.main.stale = c.reg.main.stale := by
  refine ⟨?_, ?_, ?_, ?_, ?_, ?_, ?_, ?_⟩
  · (simp only [jobOnCommand]; repeat' split) <;> simp_all
  · (simp only [jobOnCommand]; repeat' split) <;> simp_all
  · (simp only [jobOnCommand]; repeat' split) <;> simp_all
  · (simp only [jobOnCommand]; repeat' split) <;> simp_all
  · (simp only [jobOnCommand]; repeat' split) <;> simp_all
  · (simp only [jobOnCommand]; repeat' split) <;> simp_all
  · (simp only [jobOnCommand]; repeat' split) <;> simp_all
  · (simp only [jobOnCommand]; repeat' split) <;> simp_all

/-- What `jobOnInhibit` leaves as it is. -/
@[simp] theorem jobOnInhibit_frame (i : Nat) (c : Controller) :
    (jobOnInhibit i c).start = c.start ∧ (jobOnInhibit i c).time = c.time ∧ (jobOnInhibit i c).round = c.round ∧
    (jobOnInhibit i c).held = c.held ∧ (jobOnInhibit i c).doors = c.doors ∧ (jobOnInhibit i c).scan = c.scan := by
  refine ⟨?_, ?_, ?_, ?_, ?_, ?_⟩
  · (simp only [jobOnInhibit]; repeat' split) <;> simp_all
  · (simp only [jobOnInhibit]; repeat' split) <;> simp_all
  · (simp only [jobOnInhibit]; repeat' split) <;> simp_all
  · (simp only [jobOnInhibit]; repeat' split) <;> simp_all
  · (simp only [jobOnInhibit]; repeat' split) <;> simp_all
  · (simp only [jobOnInhibit]; repeat' split) <;> simp_all

/-- What `jobOnInhibit` leaves as it is, continued. -/
@[simp] theorem jobOnInhibit_frame1 (i : Nat) (c : Controller) :
    (jobOnInhibit i c).table.below = c.table.below ∧ (jobOnInhibit i c).table.above = c.table.above ∧
    (jobOnInhibit i c).table.nmin = c.table.nmin ∧ (jobOnInhibit i c).table.pendT = c.table.pendT ∧
    (jobOnInhibit i c).table.pendE = c.table.pendE ∧ (jobOnInhibit i c).track.pusher = c.track.pusher ∧
    (jobOnInhibit i c).track.guide = c.track.guide ∧ (jobOnInhibit i c).track.car = c.track.car ∧
    (jobOnInhibit i c).line.number = c.line.number ∧ (jobOnInhibit i c).line.rx = c.line.rx ∧
    (jobOnInhibit i c).line.ack = c.line.ack ∧ (jobOnInhibit i c).events.enable = c.events.enable := by
  refine ⟨?_, ?_, ?_, ?_, ?_, ?_, ?_, ?_, ?_, ?_, ?_, ?_⟩
  · (simp only [jobOnInhibit]; repeat' split) <;> simp_all
  · (simp only [jobOnInhibit]; repeat' split) <;> simp_all
  · (simp only [jobOnInhibit]; repeat' split) <;> simp_all
  · (simp only [jobOnInhibit]; repeat' split) <;> simp_all
  · (simp only [jobOnInhibit]; repeat' split) <;> simp_all
  · (simp only [jobOnInhibit]; repeat' split) <;> simp_all
  · (simp only [jobOnInhibit]; repeat' split) <;> simp_all
  · (simp only [jobOnInhibit]; repeat' split) <;> simp_all
  · (simp only [jobOnInhibit]; repeat' split) <;> simp_all
  · (simp only [jobOnInhibit]; repeat' split) <;> simp_all
  · (simp only [jobOnInhibit]; repeat' split) <;> simp_all
  · (simp only [jobOnInhibit]; repeat' split) <;> simp_all

/-- What `jobOnInhibit` leaves as it is, continued. -/
@[simp] theorem jobOnInhibit_frame2 (i : Nat) (c : Controller) :
    (jobOnInhibit i c).events.carried = c.events.carried ∧ (jobOnInhibit i c).reg.cycle = c.reg.cycle ∧
    (jobOnInhibit i c).reg.period = c.reg.period ∧ (jobOnInhibit i c).reg.answer = c.reg.answer ∧
    (jobOnInhibit i c).reg.mainSend = c.reg.mainSend ∧ (jobOnInhibit i c).reg.framesOn = c.reg.framesOn ∧
    (jobOnInhibit i c).reg.main.tap = c.reg.main.tap ∧ (jobOnInhibit i c).reg.main.value = c.reg.main.value ∧
    (jobOnInhibit i c).reg.main.invalid = c.reg.main.invalid ∧ (jobOnInhibit i c).reg.main.age = c.reg.main.age ∧
    (jobOnInhibit i c).reg.main.stale = c.reg.main.stale := by
  refine ⟨?_, ?_, ?_, ?_, ?_, ?_, ?_, ?_, ?_, ?_, ?_⟩
  · (simp only [jobOnInhibit]; repeat' split) <;> simp_all
  · (simp only [jobOnInhibit]; repeat' split) <;> simp_all
  · (simp only [jobOnInhibit]; repeat' split) <;> simp_all
  · (simp only [jobOnInhibit]; repeat' split) <;> simp_all
  · (simp only [jobOnInhibit]; repeat' split) <;> simp_all
  · (simp only [jobOnInhibit]; repeat' split) <;> simp_all
  · (simp only [jobOnInhibit]; repeat' split) <;> simp_all
  · (simp only [jobOnInhibit]; repeat' split) <;> simp_all
  · (simp only [jobOnInhibit]; repeat' split) <;> simp_all
  · (simp only [jobOnInhibit]; repeat' split) <;> simp_all
  · (simp only [jobOnInhibit]; repeat' split) <;> simp_all

/-- What `jobOnLateCar` leaves as it is. -/
@[simp] theorem jobOnLateCar_frame (c : Controller) :
    (jobOnLateCar c).start = c.start ∧ (jobOnLateCar c).time = c.time ∧ (jobOnLateCar c).round = c.round ∧
    (jobOnLateCar c).held = c.held ∧ (jobOnLateCar c).doors = c.doors ∧ (jobOnLateCar c).scan = c.scan := by
  refine ⟨?_, ?_, ?_, ?_, ?_, ?_⟩
  · (simp only [jobOnLateCar]; repeat' split) <;> simp_all
  · (simp only [jobOnLateCar]; repeat' split) <;> simp_all
  · (simp only [jobOnLateCar]; repeat' split) <;> simp_all
  · (simp only [jobOnLateCar]; repeat' split) <;> simp_all
  · (simp only [jobOnLateCar]; repeat' split) <;> simp_all
  · (simp only [jobOnLateCar]; repeat' split) <;> simp_all

/-- What `jobOnLateCar` leaves as it is, continued. -/
@[simp] theorem jobOnLateCar_frame1 (c : Controller) :
    (jobOnLateCar c).table.below = c.table.below ∧ (jobOnLateCar c).table.above = c.table.above ∧
    (jobOnLateCar c).table.nmin = c.table.nmin ∧ (jobOnLateCar c).table.pendT = c.table.pendT ∧
    (jobOnLateCar c).table.pendE = c.table.pendE ∧ (jobOnLateCar c).track.pusher = c.track.pusher ∧
    (jobOnLateCar c).track.guide = c.track.guide ∧ (jobOnLateCar c).track.car = c.track.car ∧
    (jobOnLateCar c).line.number = c.line.number ∧ (jobOnLateCar c).line.rx = c.line.rx ∧
    (jobOnLateCar c).line.ack = c.line.ack ∧ (jobOnLateCar c).events.enable = c.events.enable := by
  refine ⟨?_, ?_, ?_, ?_, ?_, ?_, ?_, ?_, ?_, ?_, ?_, ?_⟩
  · (simp only [jobOnLateCar]; repeat' split) <;> simp_all
  · (simp only [jobOnLateCar]; repeat' split) <;> simp_all
  · (simp only [jobOnLateCar]; repeat' split) <;> simp_all
  · (simp only [jobOnLateCar]; repeat' split) <;> simp_all
  · (simp only [jobOnLateCar]; repeat' split) <;> simp_all
  · (simp only [jobOnLateCar]; repeat' split) <;> simp_all
  · (simp only [jobOnLateCar]; repeat' split) <;> simp_all
  · (simp only [jobOnLateCar]; repeat' split) <;> simp_all
  · (simp only [jobOnLateCar]; repeat' split) <;> simp_all
  · (simp only [jobOnLateCar]; repeat' split) <;> simp_all
  · (simp only [jobOnLateCar]; repeat' split) <;> simp_all
  · (simp only [jobOnLateCar]; repeat' split) <;> simp_all

/-- What `jobOnLateCar` leaves as it is, continued. -/
@[simp] theorem jobOnLateCar_frame2 (c : Controller) :
    (jobOnLateCar c).events.carried = c.events.carried ∧ (jobOnLateCar c).reg.cycle = c.reg.cycle ∧
    (jobOnLateCar c).reg.period = c.reg.period ∧ (jobOnLateCar c).reg.answer = c.reg.answer ∧
    (jobOnLateCar c).reg.mainSend = c.reg.mainSend ∧ (jobOnLateCar c).reg.framesOn = c.reg.framesOn ∧
    (jobOnLateCar c).reg.main.tap = c.reg.main.tap ∧ (jobOnLateCar c).reg.main.value = c.reg.main.value ∧
    (jobOnLateCar c).reg.main.invalid = c.reg.main.invalid ∧ (jobOnLateCar c).reg.main.age = c.reg.main.age ∧
    (jobOnLateCar c).reg.main.stale = c.reg.main.stale := by
  refine ⟨?_, ?_, ?_, ?_, ?_, ?_, ?_, ?_, ?_, ?_, ?_⟩
  · (simp only [jobOnLateCar]; repeat' split) <;> simp_all
  · (simp only [jobOnLateCar]; repeat' split) <;> simp_all
  · (simp only [jobOnLateCar]; repeat' split) <;> simp_all
  · (simp only [jobOnLateCar]; repeat' split) <;> simp_all
  · (simp only [jobOnLateCar]; repeat' split) <;> simp_all
  · (simp only [jobOnLateCar]; repeat' split) <;> simp_all
  · (simp only [jobOnLateCar]; repeat' split) <;> simp_all
  · (simp only [jobOnLateCar]; repeat' split) <;> simp_all
  · (simp only [jobOnLateCar]; repeat' split) <;> simp_all
  · (simp only [jobOnLateCar]; repeat' split) <;> simp_all
  · (simp only [jobOnLateCar]; repeat' split) <;> simp_all

/-- What `jobOnHalt` leaves as it is. -/
@[simp] theorem jobOnHalt_frame (src : Nat) (oven : Nat) (c : Controller) :
    (jobOnHalt src oven c).start = c.start ∧ (jobOnHalt src oven c).time = c.time ∧
    (jobOnHalt src oven c).round = c.round ∧ (jobOnHalt src oven c).held = c.held ∧
    (jobOnHalt src oven c).doors = c.doors ∧ (jobOnHalt src oven c).scan = c.scan := by
  refine ⟨?_, ?_, ?_, ?_, ?_, ?_⟩
  · (simp only [jobOnHalt]; repeat' split) <;> simp_all
  · (simp only [jobOnHalt]; repeat' split) <;> simp_all
  · (simp only [jobOnHalt]; repeat' split) <;> simp_all
  · (simp only [jobOnHalt]; repeat' split) <;> simp_all
  · (simp only [jobOnHalt]; repeat' split) <;> simp_all
  · (simp only [jobOnHalt]; repeat' split) <;> simp_all

/-- What `jobOnHalt` leaves as it is, continued. -/
@[simp] theorem jobOnHalt_frame1 (src : Nat) (oven : Nat) (c : Controller) :
    (jobOnHalt src oven c).table.below = c.table.below ∧ (jobOnHalt src oven c).table.above = c.table.above ∧
    (jobOnHalt src oven c).table.nmin = c.table.nmin ∧ (jobOnHalt src oven c).table.pendT = c.table.pendT ∧
    (jobOnHalt src oven c).table.pendE = c.table.pendE ∧ (jobOnHalt src oven c).track.pusher = c.track.pusher ∧
    (jobOnHalt src oven c).track.guide = c.track.guide ∧ (jobOnHalt src oven c).track.car = c.track.car ∧
    (jobOnHalt src oven c).line.number = c.line.number ∧ (jobOnHalt src oven c).line.rx = c.line.rx ∧
    (jobOnHalt src oven c).line.ack = c.line.ack ∧ (jobOnHalt src oven c).events.enable = c.events.enable := by
  refine ⟨?_, ?_, ?_, ?_, ?_, ?_, ?_, ?_, ?_, ?_, ?_, ?_⟩
  · (simp only [jobOnHalt]; repeat' split) <;> simp_all
  · (simp only [jobOnHalt]; repeat' split) <;> simp_all
  · (simp only [jobOnHalt]; repeat' split) <;> simp_all
  · (simp only [jobOnHalt]; repeat' split) <;> simp_all
  · (simp only [jobOnHalt]; repeat' split) <;> simp_all
  · (simp only [jobOnHalt]; repeat' split) <;> simp_all
  · (simp only [jobOnHalt]; repeat' split) <;> simp_all
  · (simp only [jobOnHalt]; repeat' split) <;> simp_all
  · (simp only [jobOnHalt]; repeat' split) <;> simp_all
  · (simp only [jobOnHalt]; repeat' split) <;> simp_all
  · (simp only [jobOnHalt]; repeat' split) <;> simp_all
  · (simp only [jobOnHalt]; repeat' split) <;> simp_all

/-- What `jobOnHalt` leaves as it is, continued. -/
@[simp] theorem jobOnHalt_frame2 (src : Nat) (oven : Nat) (c : Controller) :
    (jobOnHalt src oven c).events.carried = c.events.carried ∧ (jobOnHalt src oven c).reg.cycle = c.reg.cycle ∧
    (jobOnHalt src oven c).reg.period = c.reg.period ∧ (jobOnHalt src oven c).reg.answer = c.reg.answer ∧
    (jobOnHalt src oven c).reg.mainSend = c.reg.mainSend ∧ (jobOnHalt src oven c).reg.framesOn = c.reg.framesOn ∧
    (jobOnHalt src oven c).reg.main.tap = c.reg.main.tap ∧
    (jobOnHalt src oven c).reg.main.value = c.reg.main.value ∧
    (jobOnHalt src oven c).reg.main.invalid = c.reg.main.invalid ∧
    (jobOnHalt src oven c).reg.main.age = c.reg.main.age ∧ (jobOnHalt src oven c).reg.main.stale = c.reg.main.stale := by
  refine ⟨?_, ?_, ?_, ?_, ?_, ?_, ?_, ?_, ?_, ?_, ?_⟩
  · (simp only [jobOnHalt]; repeat' split) <;> simp_all
  · (simp only [jobOnHalt]; repeat' split) <;> simp_all
  · (simp only [jobOnHalt]; repeat' split) <;> simp_all
  · (simp only [jobOnHalt]; repeat' split) <;> simp_all
  · (simp only [jobOnHalt]; repeat' split) <;> simp_all
  · (simp only [jobOnHalt]; repeat' split) <;> simp_all
  · (simp only [jobOnHalt]; repeat' split) <;> simp_all
  · (simp only [jobOnHalt]; repeat' split) <;> simp_all
  · (simp only [jobOnHalt]; repeat' split) <;> simp_all
  · (simp only [jobOnHalt]; repeat' split) <;> simp_all
  · (simp only [jobOnHalt]; repeat' split) <;> simp_all

/-- What `enterClaimed` leaves as it is. -/
@[simp] theorem enterClaimed_frame (i : Nat) (oven : Nat) (c : Controller) :
    (enterClaimed i oven c).start = c.start ∧ (enterClaimed i oven c).time = c.time ∧
    (enterClaimed i oven c).round = c.round ∧ (enterClaimed i oven c).held = c.held ∧
    (enterClaimed i oven c).doors = c.doors ∧ (enterClaimed i oven c).scan = c.scan := by
  refine ⟨?_, ?_, ?_, ?_, ?_, ?_⟩
  · (simp only [enterClaimed]; repeat' split) <;> simp_all
  · (simp only [enterClaimed]; repeat' split) <;> simp_all
  · (simp only [enterClaimed]; repeat' split) <;> simp_all
  · (simp only [enterClaimed]; repeat' split) <;> simp_all
  · (simp only [enterClaimed]; repeat' split) <;> simp_all
  · (simp only [enterClaimed]; repeat' split) <;> simp_all

/-- What `enterClaimed` leaves as it is, continued. -/
@[simp] theorem enterClaimed_frame1 (i : Nat) (oven : Nat) (c : Controller) :
    (enterClaimed i oven c).table.below = c.table.below ∧ (enterClaimed i oven c).table.above = c.table.above ∧
    (enterClaimed i oven c).table.nmin = c.table.nmin ∧ (enterClaimed i oven c).table.pendT = c.table.pendT ∧
    (enterClaimed i oven c).table.pendE = c.table.pendE ∧ (enterClaimed i oven c).track.pusher = c.track.pusher ∧
    (enterClaimed i oven c).track.guide = c.track.guide ∧ (enterClaimed i oven c).track.car = c.track.car ∧
    (enterClaimed i oven c).line.number = c.line.number ∧ (enterClaimed i oven c).line.rx = c.line.rx ∧
    (enterClaimed i oven c).line.ack = c.line.ack ∧ (enterClaimed i oven c).events.enable = c.events.enable := by
  refine ⟨?_, ?_, ?_, ?_, ?_, ?_, ?_, ?_, ?_, ?_, ?_, ?_⟩
  · (simp only [enterClaimed]; repeat' split) <;> simp_all
  · (simp only [enterClaimed]; repeat' split) <;> simp_all
  · (simp only [enterClaimed]; repeat' split) <;> simp_all
  · (simp only [enterClaimed]; repeat' split) <;> simp_all
  · (simp only [enterClaimed]; repeat' split) <;> simp_all
  · (simp only [enterClaimed]; repeat' split) <;> simp_all
  · (simp only [enterClaimed]; repeat' split) <;> simp_all
  · (simp only [enterClaimed]; repeat' split) <;> simp_all
  · (simp only [enterClaimed]; repeat' split) <;> simp_all
  · (simp only [enterClaimed]; repeat' split) <;> simp_all
  · (simp only [enterClaimed]; repeat' split) <;> simp_all
  · (simp only [enterClaimed]; repeat' split) <;> simp_all

/-- What `enterClaimed` leaves as it is, continued. -/
@[simp] theorem enterClaimed_frame2 (i : Nat) (oven : Nat) (c : Controller) :
    (enterClaimed i oven c).events.carried = c.events.carried ∧ (enterClaimed i oven c).reg.cycle = c.reg.cycle ∧
    (enterClaimed i oven c).reg.period = c.reg.period ∧ (enterClaimed i oven c).reg.answer = c.reg.answer ∧
    (enterClaimed i oven c).reg.mainSend = c.reg.mainSend ∧ (enterClaimed i oven c).reg.framesOn = c.reg.framesOn ∧
    (enterClaimed i oven c).reg.main.tap = c.reg.main.tap ∧
    (enterClaimed i oven c).reg.main.value = c.reg.main.value ∧
    (enterClaimed i oven c).reg.main.invalid = c.reg.main.invalid ∧
    (enterClaimed i oven c).reg.main.age = c.reg.main.age ∧
    (enterClaimed i oven c).reg.main.stale = c.reg.main.stale := by
  refine ⟨?_, ?_, ?_, ?_, ?_, ?_, ?_, ?_, ?_, ?_, ?_⟩
  · (simp only [enterClaimed]; repeat' split) <;> simp_all
  · (simp only [enterClaimed]; repeat' split) <;> simp_all
  · (simp only [enterClaimed]; repeat' split) <;> simp_all
  · (simp only [enterClaimed]; repeat' split) <;> simp_all
  · (simp only [enterClaimed]; repeat' split) <;> simp_all
  · (simp only [enterClaimed]; repeat' split) <;> simp_all
  · (simp only [enterClaimed]; repeat' split) <;> simp_all
  · (simp only [enterClaimed]; repeat' split) <;> simp_all
  · (simp only [enterClaimed]; repeat' split) <;> simp_all
  · (simp only [enterClaimed]; repeat' split) <;> simp_all
  · (simp only [enterClaimed]; repeat' split) <;> simp_all

/-- What `abandonClaim` leaves as it is. -/
@[simp] theorem abandonClaim_frame (oven : Nat) (c : Controller) :
    (abandonClaim oven c).start = c.start ∧ (abandonClaim oven c).time = c.time ∧
    (abandonClaim oven c).table = c.table ∧ (abandonClaim oven c).round = c.round ∧
    (abandonClaim oven c).held = c.held ∧ (abandonClaim oven c).doors = c.doors ∧
    (abandonClaim oven c).scan = c.scan ∧ (abandonClaim oven c).due = c.due ∧
    (abandonClaim oven c).track.pusher = c.track.pusher ∧ (abandonClaim oven c).track.guide = c.track.guide ∧
    (abandonClaim oven c).track.car = c.track.car ∧ (abandonClaim oven c).line.number = c.line.number ∧
    (abandonClaim oven c).line.rx = c.line.rx ∧ (abandonClaim oven c).line.ack = c.line.ack ∧
    (abandonClaim oven c).events.enable = c.events.enable ∧
    (abandonClaim oven c).events.carried = c.events.carried ∧ (abandonClaim oven c).reg.cycle = c.reg.cycle ∧
    (abandonClaim oven c).reg.period = c.reg.period ∧ (abandonClaim oven c).reg.answer = c.reg.answer ∧
    (abandonClaim oven c).reg.mainSend = c.reg.mainSend ∧ (abandonClaim oven c).reg.frame = c.reg.frame ∧
    (abandonClaim oven c).reg.frameHeld = c.reg.frameHeld ∧ (abandonClaim oven c).reg.framesOn = c.reg.framesOn ∧
    (abandonClaim oven c).reg.main.tap = c.reg.main.tap ∧ (abandonClaim oven c).reg.main.value = c.reg.main.value ∧
    (abandonClaim oven c).reg.main.invalid = c.reg.main.invalid ∧
    (abandonClaim oven c).reg.main.age = c.reg.main.age ∧ (abandonClaim oven c).reg.main.stale = c.reg.main.stale := by
  simp [abandonClaim]

/-- What `claimSent` leaves as it is. -/
@[simp] theorem claimSent_frame (ident : Nat) (c : Controller) :
    (claimSent ident c).start = c.start ∧ (claimSent ident c).time = c.time ∧ (claimSent ident c).round = c.round ∧
    (claimSent ident c).held = c.held ∧ (claimSent ident c).doors = c.doors ∧ (claimSent ident c).scan = c.scan := by
  refine ⟨?_, ?_, ?_, ?_, ?_, ?_⟩
  · (simp only [claimSent]; repeat' split) <;> simp_all
  · (simp only [claimSent]; repeat' split) <;> simp_all
  · (simp only [claimSent]; repeat' split) <;> simp_all
  · (simp only [claimSent]; repeat' split) <;> simp_all
  · (simp only [claimSent]; repeat' split) <;> simp_all
  · (simp only [claimSent]; repeat' split) <;> simp_all

/-- What `claimSent` leaves as it is, continued. -/
@[simp] theorem claimSent_frame1 (ident : Nat) (c : Controller) :
    (claimSent ident c).table.below = c.table.below ∧ (claimSent ident c).table.above = c.table.above ∧
    (claimSent ident c).table.nmin = c.table.nmin ∧ (claimSent ident c).table.pendT = c.table.pendT ∧
    (claimSent ident c).table.pendE = c.table.pendE ∧ (claimSent ident c).track.pusher = c.track.pusher ∧
    (claimSent ident c).track.guide = c.track.guide ∧ (claimSent ident c).track.car = c.track.car ∧
    (claimSent ident c).line.number = c.line.number ∧ (claimSent ident c).line.rx = c.line.rx ∧
    (claimSent ident c).line.ack = c.line.ack ∧ (claimSent ident c).events.enable = c.events.enable := by
  refine ⟨?_, ?_, ?_, ?_, ?_, ?_, ?_, ?_, ?_, ?_, ?_, ?_⟩
  · (simp only [claimSent]; repeat' split) <;> simp_all
  · (simp only [claimSent]; repeat' split) <;> simp_all
  · (simp only [claimSent]; repeat' split) <;> simp_all
  · (simp only [claimSent]; repeat' split) <;> simp_all
  · (simp only [claimSent]; repeat' split) <;> simp_all
  · (simp only [claimSent]; repeat' split) <;> simp_all
  · (simp only [claimSent]; repeat' split) <;> simp_all
  · (simp only [claimSent]; repeat' split) <;> simp_all
  · (simp only [claimSent]; repeat' split) <;> simp_all
  · (simp only [claimSent]; repeat' split) <;> simp_all
  · (simp only [claimSent]; repeat' split) <;> simp_all
  · (simp only [claimSent]; repeat' split) <;> simp_all

/-- What `claimSent` leaves as it is, continued. -/
@[simp] theorem claimSent_frame2 (ident : Nat) (c : Controller) :
    (claimSent ident c).events.carried = c.events.carried ∧ (claimSent ident c).reg.cycle = c.reg.cycle ∧
    (claimSent ident c).reg.period = c.reg.period ∧ (claimSent ident c).reg.answer = c.reg.answer ∧
    (claimSent ident c).reg.mainSend = c.reg.mainSend ∧ (claimSent ident c).reg.framesOn = c.reg.framesOn ∧
    (claimSent ident c).reg.main.tap = c.reg.main.tap ∧ (claimSent ident c).reg.main.value = c.reg.main.value ∧
    (claimSent ident c).reg.main.invalid = c.reg.main.invalid ∧ (claimSent ident c).reg.main.age = c.reg.main.age ∧
    (claimSent ident c).reg.main.stale = c.reg.main.stale := by
  refine ⟨?_, ?_, ?_, ?_, ?_, ?_, ?_, ?_, ?_, ?_, ?_⟩
  · (simp only [claimSent]; repeat' split) <;> simp_all
  · (simp only [claimSent]; repeat' split) <;> simp_all
  · (simp only [claimSent]; repeat' split) <;> simp_all
  · (simp only [claimSent]; repeat' split) <;> simp_all
  · (simp only [claimSent]; repeat' split) <;> simp_all
  · (simp only [claimSent]; repeat' split) <;> simp_all
  · (simp only [claimSent]; repeat' split) <;> simp_all
  · (simp only [claimSent]; repeat' split) <;> simp_all
  · (simp only [claimSent]; repeat' split) <;> simp_all
  · (simp only [claimSent]; repeat' split) <;> simp_all
  · (simp only [claimSent]; repeat' split) <;> simp_all

/-- What `abandonJob` leaves as it is. -/
@[simp] theorem abandonJob_frame (i : Nat) (oven : Nat) (c : Controller) :
    (abandonJob i oven c).start = c.start ∧ (abandonJob i oven c).time = c.time ∧
    (abandonJob i oven c).round = c.round ∧ (abandonJob i oven c).held = c.held ∧
    (abandonJob i oven c).doors = c.doors ∧ (abandonJob i oven c).scan = c.scan ∧
    (abandonJob i oven c).table.below = c.table.below ∧ (abandonJob i oven c).table.above = c.table.above ∧
    (abandonJob i oven c).table.nmin = c.table.nmin ∧ (abandonJob i oven c).table.pendT = c.table.pendT ∧
    (abandonJob i oven c).table.pendE = c.table.pendE ∧ (abandonJob i oven c).track.pusher = c.track.pusher ∧
    (abandonJob i oven c).track.guide = c.track.guide ∧ (abandonJob i oven c).track.car = c.track.car ∧
    (abandonJob i oven c).line.number = c.line.number ∧ (abandonJob i oven c).line.rx = c.line.rx ∧
    (abandonJob i oven c).line.ack = c.line.ack ∧ (abandonJob i oven c).events.enable = c.events.enable ∧
    (abandonJob i oven c).events.carried = c.events.carried ∧ (abandonJob i oven c).reg.cycle = c.reg.cycle ∧
    (abandonJob i oven c).reg.period = c.reg.period ∧ (abandonJob i oven c).reg.answer = c.reg.answer ∧
    (abandonJob i oven c).reg.mainSend = c.reg.mainSend ∧ (abandonJob i oven c).reg.framesOn = c.reg.framesOn ∧
    (abandonJob i oven c).reg.main.tap = c.reg.main.tap ∧ (abandonJob i oven c).reg.main.value = c.reg.main.value ∧
    (abandonJob i oven c).reg.main.invalid = c.reg.main.invalid ∧
    (abandonJob i oven c).reg.main.age = c.reg.main.age ∧ (abandonJob i oven c).reg.main.stale = c.reg.main.stale := by
  simp [abandonJob]

end Sys2Proof.Machine
end

