-- ==== Sys2Proof/Laws/FramesBlocks.lean ====
section
/-! SUPPORT. What the operations leave as it is: the scanner, the doors, the pushing order unit, the machine tracker, the oven table and the regulation unit. One lemma for each operation, tagged simp, so
that no proof unfolds an operation to see that a block it never touches is unchanged. -/

namespace Sys2Proof.Machine

open Sys2Proof

/-- What `modifyScan` leaves as it is. -/
@[simp] theorem modifyScan_frame (f : Scanner → Scanner) (c : Controller) :
    (modifyScan f c).start = c.start ∧ (modifyScan f c).time = c.time ∧ (modifyScan f c).table = c.table ∧
    (modifyScan f c).round = c.round ∧ (modifyScan f c).held = c.held ∧ (modifyScan f c).doors = c.doors ∧
    (modifyScan f c).due = c.due ∧ (modifyScan f c).track = c.track ∧ (modifyScan f c).line = c.line ∧
    (modifyScan f c).job = c.job ∧ (modifyScan f c).events = c.events ∧ (modifyScan f c).reg = c.reg := by
  simp [modifyScan]

/-- What `startGate` leaves as it is. -/
@[simp] theorem startGate_frame (ch : Nat) (c : Controller) :
    (startGate ch c).start = c.start ∧ (startGate ch c).time = c.time ∧ (startGate ch c).table = c.table ∧
    (startGate ch c).round = c.round ∧ (startGate ch c).held = c.held ∧ (startGate ch c).doors = c.doors ∧
    (startGate ch c).due = c.due ∧ (startGate ch c).track = c.track ∧ (startGate ch c).line = c.line ∧
    (startGate ch c).job = c.job ∧ (startGate ch c).events = c.events ∧ (startGate ch c).reg = c.reg := by
  simp [startGate]

/-- What `idleScanner` leaves as it is. -/
@[simp] theorem idleScanner_frame (c : Controller) :
    (idleScanner c).start = c.start ∧ (idleScanner c).time = c.time ∧ (idleScanner c).table = c.table ∧
    (idleScanner c).round = c.round ∧ (idleScanner c).held = c.held ∧ (idleScanner c).doors = c.doors ∧
    (idleScanner c).due = c.due ∧ (idleScanner c).track = c.track ∧ (idleScanner c).line = c.line ∧
    (idleScanner c).job = c.job ∧ (idleScanner c).events = c.events ∧ (idleScanner c).reg = c.reg := by
  simp [idleScanner]

/-- What `abandonGate` leaves as it is. -/
@[simp] theorem abandonGate_frame (c : Controller) :
    (abandonGate c).start = c.start ∧ (abandonGate c).time = c.time ∧ (abandonGate c).table = c.table ∧
    (abandonGate c).round = c.round ∧ (abandonGate c).held = c.held ∧ (abandonGate c).doors = c.doors ∧
    (abandonGate c).track = c.track ∧ (abandonGate c).line = c.line ∧ (abandonGate c).job = c.job ∧
    (abandonGate c).events = c.events ∧ (abandonGate c).reg = c.reg := by
  simp [abandonGate]

/-- What `startAtNextTick` leaves as it is. -/
@[simp] theorem startAtNextTick_frame (c : Controller) :
    (startAtNextTick c).start = c.start ∧ (startAtNextTick c).time = c.time ∧ (startAtNextTick c).table = c.table ∧
    (startAtNextTick c).round = c.round ∧ (startAtNextTick c).held = c.held ∧ (startAtNextTick c).doors = c.doors ∧
    (startAtNextTick c).due = c.due ∧ (startAtNextTick c).track = c.track ∧ (startAtNextTick c).line = c.line ∧
    (startAtNextTick c).job = c.job ∧ (startAtNextTick c).events = c.events ∧ (startAtNextTick c).reg = c.reg := by
  simp [startAtNextTick]

/-- What `scanEntersChecking` leaves as it is. -/
@[simp] theorem scanEntersChecking_frame (ch : Nat) (c : Controller) :
    (scanEntersChecking ch c).start = c.start ∧ (scanEntersChecking ch c).time = c.time ∧
    (scanEntersChecking ch c).table = c.table ∧ (scanEntersChecking ch c).round = c.round ∧
    (scanEntersChecking ch c).held = c.held ∧ (scanEntersChecking ch c).due = c.due ∧
    (scanEntersChecking ch c).track = c.track ∧ (scanEntersChecking ch c).line = c.line ∧
    (scanEntersChecking ch c).job = c.job ∧ (scanEntersChecking ch c).events = c.events ∧
    (scanEntersChecking ch c).reg = c.reg ∧ (scanEntersChecking ch c).doors.presentIn = c.doors.presentIn ∧
    (scanEntersChecking ch c).doors.latchedIn = c.doors.latchedIn := by
  refine ⟨?_, ?_, ?_, ?_, ?_, ?_, ?_, ?_, ?_, ?_, ?_, ?_, ?_⟩
  · (simp only [scanEntersChecking]; repeat' split) <;> simp_all
  · (simp only [scanEntersChecking]; repeat' split) <;> simp_all
  · (simp only [scanEntersChecking]; repeat' split) <;> simp_all
  · (simp only [scanEntersChecking]; repeat' split) <;> simp_all
  · (simp only [scanEntersChecking]; repeat' split) <;> simp_all
  · (simp only [scanEntersChecking]; repeat' split) <;> simp_all
  · (simp only [scanEntersChecking]; repeat' split) <;> simp_all
  · (simp only [scanEntersChecking]; repeat' split) <;> simp_all
  · (simp only [scanEntersChecking]; repeat' split) <;> simp_all
  · (simp only [scanEntersChecking]; repeat' split) <;> simp_all
  · (simp only [scanEntersChecking]; repeat' split) <;> simp_all
  · (simp only [scanEntersChecking]; repeat' split) <;> simp_all
  · (simp only [scanEntersChecking]; repeat' split) <;> simp_all

/-- What `scanLeaves` leaves as it is. -/
@[simp] theorem scanLeaves_frame (ch : Nat) (c : Controller) :
    (scanLeaves ch c).start = c.start ∧ (scanLeaves ch c).time = c.time ∧ (scanLeaves ch c).table = c.table ∧
    (scanLeaves ch c).round = c.round ∧ (scanLeaves ch c).held = c.held ∧ (scanLeaves ch c).due = c.due ∧
    (scanLeaves ch c).track = c.track ∧ (scanLeaves ch c).line = c.line ∧ (scanLeaves ch c).job = c.job ∧
    (scanLeaves ch c).events = c.events ∧ (scanLeaves ch c).reg = c.reg ∧
    (scanLeaves ch c).doors.presentIn = c.doors.presentIn ∧ (scanLeaves ch c).doors.latchedIn = c.doors.latchedIn := by
  refine ⟨?_, ?_, ?_, ?_, ?_, ?_, ?_, ?_, ?_, ?_, ?_, ?_, ?_⟩
  · (simp only [scanLeaves]; repeat' split) <;> simp_all
  · (simp only [scanLeaves]; repeat' split) <;> simp_all
  · (simp only [scanLeaves]; repeat' split) <;> simp_all
  · (simp only [scanLeaves]; repeat' split) <;> simp_all
  · (simp only [scanLeaves]; repeat' split) <;> simp_all
  · (simp only [scanLeaves]; repeat' split) <;> simp_all
  · (simp only [scanLeaves]; repeat' split) <;> simp_all
  · (simp only [scanLeaves]; repeat' split) <;> simp_all
  · (simp only [scanLeaves]; repeat' split) <;> simp_all
  · (simp only [scanLeaves]; repeat' split) <;> simp_all
  · (simp only [scanLeaves]; repeat' split) <;> simp_all
  · (simp only [scanLeaves]; repeat' split) <;> simp_all
  · (simp only [scanLeaves]; repeat' split) <;> simp_all

/-- What `judgeSample` leaves as it is. -/
@[simp] theorem judgeSample_frame (ch : Nat) (c : Controller) :
    (judgeSample ch c).start = c.start ∧ (judgeSample ch c).time = c.time ∧ (judgeSample ch c).table = c.table ∧
    (judgeSample ch c).round = c.round ∧ (judgeSample ch c).held = c.held ∧ (judgeSample ch c).scan = c.scan ∧
    (judgeSample ch c).due = c.due ∧ (judgeSample ch c).track = c.track ∧ (judgeSample ch c).job = c.job ∧
    (judgeSample ch c).reg = c.reg := by
  refine ⟨?_, ?_, ?_, ?_, ?_, ?_, ?_, ?_, ?_, ?_⟩
  · (simp only [judgeSample]; repeat' split) <;> simp_all
  · (simp only [judgeSample]; repeat' split) <;> simp_all
  · (simp only [judgeSample]; repeat' split) <;> simp_all
  · (simp only [judgeSample]; repeat' split) <;> simp_all
  · (simp only [judgeSample]; repeat' split) <;> simp_all
  · (simp only [judgeSample]; repeat' split) <;> simp_all
  · (simp only [judgeSample]; repeat' split) <;> simp_all
  · (simp only [judgeSample]; repeat' split) <;> simp_all
  · (simp only [judgeSample]; repeat' split) <;> simp_all
  · (simp only [judgeSample]; repeat' split) <;> simp_all

/-- What `judgeSample` leaves as it is, continued. -/
@[simp] theorem judgeSample_frame1 (ch : Nat) (c : Controller) :
    (judgeSample ch c).doors.presentIn = c.doors.presentIn ∧
    (judgeSample ch c).doors.latchedIn = c.doors.latchedIn ∧ (judgeSample ch c).line.number = c.line.number ∧
    (judgeSample ch c).line.rx = c.line.rx ∧ (judgeSample ch c).line.ack = c.line.ack ∧
    (judgeSample ch c).line.phase = c.line.phase ∧ (judgeSample ch c).events.enable = c.events.enable ∧
    (judgeSample ch c).events.carried = c.events.carried := by
  refine ⟨?_, ?_, ?_, ?_, ?_, ?_, ?_, ?_⟩
  · (simp only [judgeSample]; repeat' split) <;> simp_all
  · (simp only [judgeSample]; repeat' split) <;> simp_all
  · (simp only [judgeSample]; repeat' split) <;> simp_all
  · (simp only [judgeSample]; repeat' split) <;> simp_all
  · (simp only [judgeSample]; repeat' split) <;> simp_all
  · (simp only [judgeSample]; repeat' split) <;> simp_all
  · (simp only [judgeSample]; repeat' split) <;> simp_all
  · (simp only [judgeSample]; repeat' split) <;> simp_all

/-- What `gateExpires` leaves as it is. -/
@[simp] theorem gateExpires_frame (c : Controller) :
    (gateExpires c).start = c.start ∧ (gateExpires c).time = c.time ∧ (gateExpires c).table = c.table ∧
    (gateExpires c).round = c.round ∧ (gateExpires c).held = c.held ∧ (gateExpires c).due = c.due ∧
    (gateExpires c).track = c.track ∧ (gateExpires c).job = c.job ∧ (gateExpires c).reg = c.reg := by
  refine ⟨?_, ?_, ?_, ?_, ?_, ?_, ?_, ?_, ?_⟩
  · (simp only [gateExpires]; repeat' split) <;> simp_all
  · (simp only [gateExpires]; repeat' split) <;> simp_all
  · (simp only [gateExpires]; repeat' split) <;> simp_all
  · (simp only [gateExpires]; repeat' split) <;> simp_all
  · (simp only [gateExpires]; repeat' split) <;> simp_all
  · (simp only [gateExpires]; repeat' split) <;> simp_all
  · (simp only [gateExpires]; repeat' split) <;> simp_all
  · (simp only [gateExpires]; repeat' split) <;> simp_all
  · (simp only [gateExpires]; repeat' split) <;> simp_all

/-- What `gateExpires` leaves as it is, continued. -/
@[simp] theorem gateExpires_frame1 (c : Controller) :
    (gateExpires c).doors.presentIn = c.doors.presentIn ∧ (gateExpires c).doors.latchedIn = c.doors.latchedIn ∧
    (gateExpires c).line.number = c.line.number ∧ (gateExpires c).line.rx = c.line.rx ∧
    (gateExpires c).line.ack = c.line.ack ∧ (gateExpires c).line.phase = c.line.phase ∧
    (gateExpires c).events.enable = c.events.enable ∧ (gateExpires c).events.carried = c.events.carried := by
  refine ⟨?_, ?_, ?_, ?_, ?_, ?_, ?_, ?_⟩
  · (simp only [gateExpires]; repeat' split) <;> simp_all
  · (simp only [gateExpires]; repeat' split) <;> simp_all
  · (simp only [gateExpires]; repeat' split) <;> simp_all
  · (simp only [gateExpires]; repeat' split) <;> simp_all
  · (simp only [gateExpires]; repeat' split) <;> simp_all
  · (simp only [gateExpires]; repeat' split) <;> simp_all
  · (simp only [gateExpires]; repeat' split) <;> simp_all
  · (simp only [gateExpires]; repeat' split) <;> simp_all

/-- What `gateStarts` leaves as it is. -/
@[simp] theorem gateStarts_frame (c : Controller) :
    (gateStarts c).start = c.start ∧ (gateStarts c).time = c.time ∧ (gateStarts c).table = c.table ∧
    (gateStarts c).round = c.round ∧ (gateStarts c).held = c.held ∧ (gateStarts c).doors = c.doors ∧
    (gateStarts c).due = c.due ∧ (gateStarts c).track = c.track ∧ (gateStarts c).line = c.line ∧
    (gateStarts c).job = c.job ∧ (gateStarts c).events = c.events ∧ (gateStarts c).reg = c.reg := by
  refine ⟨?_, ?_, ?_, ?_, ?_, ?_, ?_, ?_, ?_, ?_, ?_, ?_⟩
  · (simp only [gateStarts]; repeat' split) <;> simp_all
  · (simp only [gateStarts]; repeat' split) <;> simp_all
  · (simp only [gateStarts]; repeat' split) <;> simp_all
  · (simp only [gateStarts]; repeat' split) <;> simp_all
  · (simp only [gateStarts]; repeat' split) <;> simp_all
  · (simp only [gateStarts]; repeat' split) <;> simp_all
  · (simp only [gateStarts]; repeat' split) <;> simp_all
  · (simp only [gateStarts]; repeat' split) <;> simp_all
  · (simp only [gateStarts]; repeat' split) <;> simp_all
  · (simp only [gateStarts]; repeat' split) <;> simp_all
  · (simp only [gateStarts]; repeat' split) <;> simp_all
  · (simp only [gateStarts]; repeat' split) <;> simp_all

/-- What `leakPulse` leaves as it is. -/
@[simp] theorem leakPulse_frame (c : Controller) :
    (leakPulse c).start = c.start ∧ (leakPulse c).time = c.time ∧ (leakPulse c).table = c.table ∧
    (leakPulse c).round = c.round ∧ (leakPulse c).held = c.held ∧ (leakPulse c).doors = c.doors ∧
    (leakPulse c).due = c.due ∧ (leakPulse c).track = c.track ∧ (leakPulse c).line = c.line ∧
    (leakPulse c).job = c.job ∧ (leakPulse c).events = c.events ∧ (leakPulse c).reg = c.reg := by
  refine ⟨?_, ?_, ?_, ?_, ?_, ?_, ?_, ?_, ?_, ?_, ?_, ?_⟩
  · (simp only [leakPulse]; repeat' split) <;> simp_all
  · (simp only [leakPulse]; repeat' split) <;> simp_all
  · (simp only [leakPulse]; repeat' split) <;> simp_all
  · (simp only [leakPulse]; repeat' split) <;> simp_all
  · (simp only [leakPulse]; repeat' split) <;> simp_all
  · (simp only [leakPulse]; repeat' split) <;> simp_all
  · (simp only [leakPulse]; repeat' split) <;> simp_all
  · (simp only [leakPulse]; repeat' split) <;> simp_all
  · (simp only [leakPulse]; repeat' split) <;> simp_all
  · (simp only [leakPulse]; repeat' split) <;> simp_all
  · (simp only [leakPulse]; repeat' split) <;> simp_all
  · (simp only [leakPulse]; repeat' split) <;> simp_all

/-- What `countConflict` leaves as it is. -/
@[simp] theorem countConflict_frame (ch : Nat) (c : Controller) :
    (countConflict ch c).start = c.start ∧ (countConflict ch c).time = c.time ∧
    (countConflict ch c).table = c.table ∧ (countConflict ch c).round = c.round ∧
    (countConflict ch c).held = c.held ∧ (countConflict ch c).scan = c.scan ∧ (countConflict ch c).due = c.due ∧
    (countConflict ch c).track = c.track ∧ (countConflict ch c).job = c.job ∧ (countConflict ch c).reg = c.reg := by
  refine ⟨?_, ?_, ?_, ?_, ?_, ?_, ?_, ?_, ?_, ?_⟩
  · (simp only [countConflict]; repeat' split) <;> simp_all
  · (simp only [countConflict]; repeat' split) <;> simp_all
  · (simp only [countConflict]; repeat' split) <;> simp_all
  · (simp only [countConflict]; repeat' split) <;> simp_all
  · (simp only [countConflict]; repeat' split) <;> simp_all
  · (simp only [countConflict]; repeat' split) <;> simp_all
  · (simp only [countConflict]; repeat' split) <;> simp_all
  · (simp only [countConflict]; repeat' split) <;> simp_all
  · (simp only [countConflict]; repeat' split) <;> simp_all
  · (simp only [countConflict]; repeat' split) <;> simp_all

/-- What `countConflict` leaves as it is, continued. -/
@[simp] theorem countConflict_frame1 (ch : Nat) (c : Controller) :
    (countConflict ch c).doors.presentIn = c.doors.presentIn ∧
    (countConflict ch c).doors.latchedIn = c.doors.latchedIn ∧ (countConflict ch c).line.number = c.line.number ∧
    (countConflict ch c).line.rx = c.line.rx ∧ (countConflict ch c).line.ack = c.line.ack ∧
    (countConflict ch c).line.phase = c.line.phase ∧ (countConflict ch c).events.enable = c.events.enable ∧
    (countConflict ch c).events.carried = c.events.carried := by
  refine ⟨?_, ?_, ?_, ?_, ?_, ?_, ?_, ?_⟩
  · (simp only [countConflict]; repeat' split) <;> simp_all
  · (simp only [countConflict]; repeat' split) <;> simp_all
  · (simp only [countConflict]; repeat' split) <;> simp_all
  · (simp only [countConflict]; repeat' split) <;> simp_all
  · (simp only [countConflict]; repeat' split) <;> simp_all
  · (simp only [countConflict]; repeat' split) <;> simp_all
  · (simp only [countConflict]; repeat' split) <;> simp_all
  · (simp only [countConflict]; repeat' split) <;> simp_all

/-- What `countUnauthorised` leaves as it is. -/
@[simp] theorem countUnauthorised_frame (ch : Nat) (c : Controller) :
    (countUnauthorised ch c).start = c.start ∧ (countUnauthorised ch c).time = c.time ∧
    (countUnauthorised ch c).table = c.table ∧ (countUnauthorised ch c).round = c.round ∧
    (countUnauthorised ch c).held = c.held ∧ (countUnauthorised ch c).doors = c.doors ∧
    (countUnauthorised ch c).scan = c.scan ∧ (countUnauthorised ch c).due = c.due ∧
    (countUnauthorised ch c).track = c.track ∧ (countUnauthorised ch c).job = c.job ∧
    (countUnauthorised ch c).reg = c.reg := by
  refine ⟨?_, ?_, ?_, ?_, ?_, ?_, ?_, ?_, ?_, ?_, ?_⟩
  · (simp only [countUnauthorised]; repeat' split) <;> simp_all
  · (simp only [countUnauthorised]; repeat' split) <;> simp_all
  · (simp only [countUnauthorised]; repeat' split) <;> simp_all
  · (simp only [countUnauthorised]; repeat' split) <;> simp_all
  · (simp only [countUnauthorised]; repeat' split) <;> simp_all
  · (simp only [countUnauthorised]; repeat' split) <;> simp_all
  · (simp only [countUnauthorised]; repeat' split) <;> simp_all
  · (simp only [countUnauthorised]; repeat' split) <;> simp_all
  · (simp only [countUnauthorised]; repeat' split) <;> simp_all
  · (simp only [countUnauthorised]; repeat' split) <;> simp_all
  · (simp only [countUnauthorised]; repeat' split) <;> simp_all

/-- What `countUnauthorised` leaves as it is, continued. -/
@[simp] theorem countUnauthorised_frame1 (ch : Nat) (c : Controller) :
    (countUnauthorised ch c).line.number = c.line.number ∧ (countUnauthorised ch c).line.rx = c.line.rx ∧
    (countUnauthorised ch c).line.ack = c.line.ack ∧ (countUnauthorised ch c).line.phase = c.line.phase ∧
    (countUnauthorised ch c).events.enable = c.events.enable ∧
    (countUnauthorised ch c).events.carried = c.events.carried := by
  refine ⟨?_, ?_, ?_, ?_, ?_, ?_⟩
  · (simp only [countUnauthorised]; repeat' split) <;> simp_all
  · (simp only [countUnauthorised]; repeat' split) <;> simp_all
  · (simp only [countUnauthorised]; repeat' split) <;> simp_all
  · (simp only [countUnauthorised]; repeat' split) <;> simp_all
  · (simp only [countUnauthorised]; repeat' split) <;> simp_all
  · (simp only [countUnauthorised]; repeat' split) <;> simp_all

/-- What `changeDoor` leaves as it is. -/
@[simp] theorem changeDoor_frame (ch : Nat) (old : DoorState) (new : DoorState) (c : Controller) :
    (changeDoor ch old new c).start = c.start ∧ (changeDoor ch old new c).time = c.time ∧
    (changeDoor ch old new c).round = c.round ∧ (changeDoor ch old new c).held = c.held := by
  refine ⟨?_, ?_, ?_, ?_⟩
  · (simp only [changeDoor]; repeat' split) <;> simp_all
  · (simp only [changeDoor]; repeat' split) <;> simp_all
  · (simp only [changeDoor]; repeat' split) <;> simp_all
  · (simp only [changeDoor]; repeat' split) <;> simp_all

/-- What `changeDoor` leaves as it is, continued. -/
@[simp] theorem changeDoor_frame1 (ch : Nat) (old : DoorState) (new : DoorState) (c : Controller) :
    (changeDoor ch old new c).table.below = c.table.below ∧ (changeDoor ch old new c).table.above = c.table.above ∧
    (changeDoor ch old new c).table.nmin = c.table.nmin ∧ (changeDoor ch old new c).table.pendT = c.table.pendT ∧
    (changeDoor ch old new c).table.pendE = c.table.pendE ∧
    (changeDoor ch old new c).doors.presentIn = c.doors.presentIn ∧
    (changeDoor ch old new c).doors.latchedIn = c.doors.latchedIn ∧
    (changeDoor ch old new c).track.pusher = c.track.pusher ∧
    (changeDoor ch old new c).track.guide = c.track.guide ∧ (changeDoor ch old new c).track.car = c.track.car ∧
    (changeDoor ch old new c).line.number = c.line.number ∧ (changeDoor ch old new c).line.rx = c.line.rx := by
  refine ⟨?_, ?_, ?_, ?_, ?_, ?_, ?_, ?_, ?_, ?_, ?_, ?_⟩
  · (simp only [changeDoor]; repeat' split) <;> simp_all
  · (simp only [changeDoor]; repeat' split) <;> simp_all
  · (simp only [changeDoor]; repeat' split) <;> simp_all
  · (simp only [changeDoor]; repeat' split) <;> simp_all
  · (simp only [changeDoor]; repeat' split) <;> simp_all
  · (simp only [changeDoor]; repeat' split) <;> simp_all
  · (simp only [changeDoor]; repeat' split) <;> simp_all
  · (simp only [changeDoor]; repeat' split) <;> simp_all
  · (simp only [changeDoor]; repeat' split) <;> simp_all
  · (simp only [changeDoor]; repeat' split) <;> simp_all
  · (simp only [changeDoor]; repeat' split) <;> simp_all
  · (simp only [changeDoor]; repeat' split) <;> simp_all

/-- What `changeDoor` leaves as it is, continued. -/
@[simp] theorem changeDoor_frame2 (ch : Nat) (old : DoorState) (new : DoorState) (c : Controller) :
    (changeDoor ch old new c).line.ack = c.line.ack ∧ (changeDoor ch old new c).events.enable = c.events.enable ∧
    (changeDoor ch old new c).events.carried = c.events.carried ∧
    (changeDoor ch old new c).reg.cycle = c.reg.cycle ∧ (changeDoor ch old new c).reg.period = c.reg.period ∧
    (changeDoor ch old new c).reg.answer = c.reg.answer ∧ (changeDoor ch old new c).reg.mainSend = c.reg.mainSend ∧
    (changeDoor ch old new c).reg.framesOn = c.reg.framesOn ∧
    (changeDoor ch old new c).reg.main.tap = c.reg.main.tap ∧
    (changeDoor ch old new c).reg.main.value = c.reg.main.value ∧
    (changeDoor ch old new c).reg.main.invalid = c.reg.main.invalid ∧
    (changeDoor ch old new c).reg.main.age = c.reg.main.age := by
  refine ⟨?_, ?_, ?_, ?_, ?_, ?_, ?_, ?_, ?_, ?_, ?_, ?_⟩
  · (simp only [changeDoor]; repeat' split) <;> simp_all
  · (simp only [changeDoor]; repeat' split) <;> simp_all
  · (simp only [changeDoor]; repeat' split) <;> simp_all
  · (simp only [changeDoor]; repeat' split) <;> simp_all
  · (simp only [changeDoor]; repeat' split) <;> simp_all
  · (simp only [changeDoor]; repeat' split) <;> simp_all
  · (simp only [changeDoor]; repeat' split) <;> simp_all
  · (simp only [changeDoor]; repeat' split) <;> simp_all
  · (simp only [changeDoor]; repeat' split) <;> simp_all
  · (simp only [changeDoor]; repeat' split) <;> simp_all
  · (simp only [changeDoor]; repeat' split) <;> simp_all
  · (simp only [changeDoor]; repeat' split) <;> simp_all

/-- What `changeDoor` leaves as it is, continued. -/
@[simp] theorem changeDoor_frame3 (ch : Nat) (old : DoorState) (new : DoorState) (c : Controller) :
    (changeDoor ch old new c).reg.main.stale = c.reg.main.stale := by
  (simp only [changeDoor]; repeat' split) <;> simp_all

/-- What `deriveDoor` leaves as it is. -/
@[simp] theorem deriveDoor_frame (ch : Nat) (c : Controller) :
    (deriveDoor ch c).start = c.start ∧ (deriveDoor ch c).time = c.time ∧ (deriveDoor ch c).round = c.round ∧
    (deriveDoor ch c).held = c.held := by
  refine ⟨?_, ?_, ?_, ?_⟩
  · (simp only [deriveDoor]; repeat' split) <;> simp_all
  · (simp only [deriveDoor]; repeat' split) <;> simp_all
  · (simp only [deriveDoor]; repeat' split) <;> simp_all
  · (simp only [deriveDoor]; repeat' split) <;> simp_all

/-- What `deriveDoor` leaves as it is, continued. -/
@[simp] theorem deriveDoor_frame1 (ch : Nat) (c : Controller) :
    (deriveDoor ch c).table.below = c.table.below ∧ (deriveDoor ch c).table.above = c.table.above ∧
    (deriveDoor ch c).table.nmin = c.table.nmin ∧ (deriveDoor ch c).table.pendT = c.table.pendT ∧
    (deriveDoor ch c).table.pendE = c.table.pendE ∧ (deriveDoor ch c).doors.presentIn = c.doors.presentIn ∧
    (deriveDoor ch c).doors.latchedIn = c.doors.latchedIn ∧ (deriveDoor ch c).track.pusher = c.track.pusher ∧
    (deriveDoor ch c).track.guide = c.track.guide ∧ (deriveDoor ch c).track.car = c.track.car ∧
    (deriveDoor ch c).line.number = c.line.number ∧ (deriveDoor ch c).line.rx = c.line.rx := by
  refine ⟨?_, ?_, ?_, ?_, ?_, ?_, ?_, ?_, ?_, ?_, ?_, ?_⟩
  · (simp only [deriveDoor]; repeat' split) <;> simp_all
  · (simp only [deriveDoor]; repeat' split) <;> simp_all
  · (simp only [deriveDoor]; repeat' split) <;> simp_all
  · (simp only [deriveDoor]; repeat' split) <;> simp_all
  · (simp only [deriveDoor]; repeat' split) <;> simp_all
  · (simp only [deriveDoor]; repeat' split) <;> simp_all
  · (simp only [deriveDoor]; repeat' split) <;> simp_all
  · (simp only [deriveDoor]; repeat' split) <;> simp_all
  · (simp only [deriveDoor]; repeat' split) <;> simp_all
  · (simp only [deriveDoor]; repeat' split) <;> simp_all
  · (simp only [deriveDoor]; repeat' split) <;> simp_all
  · (simp only [deriveDoor]; repeat' split) <;> simp_all

/-- What `deriveDoor` leaves as it is, continued. -/
@[simp] theorem deriveDoor_frame2 (ch : Nat) (c : Controller) :
    (deriveDoor ch c).line.ack = c.line.ack ∧ (deriveDoor ch c).events.enable = c.events.enable ∧
    (deriveDoor ch c).events.carried = c.events.carried ∧ (deriveDoor ch c).reg.cycle = c.reg.cycle ∧
    (deriveDoor ch c).reg.period = c.reg.period ∧ (deriveDoor ch c).reg.answer = c.reg.answer ∧
    (deriveDoor ch c).reg.mainSend = c.reg.mainSend ∧ (deriveDoor ch c).reg.framesOn = c.reg.framesOn ∧
    (deriveDoor ch c).reg.main.tap = c.reg.main.tap ∧ (deriveDoor ch c).reg.main.value = c.reg.main.value ∧
    (deriveDoor ch c).reg.main.invalid = c.reg.main.invalid ∧ (deriveDoor ch c).reg.main.age = c.reg.main.age := by
  refine ⟨?_, ?_, ?_, ?_, ?_, ?_, ?_, ?_, ?_, ?_, ?_, ?_⟩
  · (simp only [deriveDoor]; repeat' split) <;> simp_all
  · (simp only [deriveDoor]; repeat' split) <;> simp_all
  · (simp only [deriveDoor]; repeat' split) <;> simp_all
  · (simp only [deriveDoor]; repeat' split) <;> simp_all
  · (simp only [deriveDoor]; repeat' split) <;> simp_all
  · (simp only [deriveDoor]; repeat' split) <;> simp_all
  · (simp only [deriveDoor]; repeat' split) <;> simp_all
  · (simp only [deriveDoor]; repeat' split) <;> simp_all
  · (simp only [deriveDoor]; repeat' split) <;> simp_all
  · (simp only [deriveDoor]; repeat' split) <;> simp_all
  · (simp only [deriveDoor]; repeat' split) <;> simp_all
  · (simp only [deriveDoor]; repeat' split) <;> simp_all

/-- What `deriveDoor` leaves as it is, continued. -/
@[simp] theorem deriveDoor_frame3 (ch : Nat) (c : Controller) :
    (deriveDoor ch c).reg.main.stale = c.reg.main.stale := by
  (simp only [deriveDoor]; repeat' split) <;> simp_all

/-- What `doorWarns` leaves as it is. -/
@[simp] theorem doorWarns_frame (ch : Nat) (c : Controller) :
    (doorWarns ch c).start = c.start ∧ (doorWarns ch c).time = c.time ∧ (doorWarns ch c).table = c.table ∧
    (doorWarns ch c).round = c.round ∧ (doorWarns ch c).held = c.held ∧ (doorWarns ch c).scan = c.scan ∧
    (doorWarns ch c).due = c.due ∧ (doorWarns ch c).track = c.track ∧ (doorWarns ch c).job = c.job ∧
    (doorWarns ch c).reg = c.reg := by
  refine ⟨?_, ?_, ?_, ?_, ?_, ?_, ?_, ?_, ?_, ?_⟩
  · (simp only [doorWarns]; repeat' split) <;> simp_all
  · (simp only [doorWarns]; repeat' split) <;> simp_all
  · (simp only [doorWarns]; repeat' split) <;> simp_all
  · (simp only [doorWarns]; repeat' split) <;> simp_all
  · (simp only [doorWarns]; repeat' split) <;> simp_all
  · (simp only [doorWarns]; repeat' split) <;> simp_all
  · (simp only [doorWarns]; repeat' split) <;> simp_all
  · (simp only [doorWarns]; repeat' split) <;> simp_all
  · (simp only [doorWarns]; repeat' split) <;> simp_all
  · (simp only [doorWarns]; repeat' split) <;> simp_all

/-- What `doorWarns` leaves as it is, continued. -/
@[simp] theorem doorWarns_frame1 (ch : Nat) (c : Controller) :
    (doorWarns ch c).doors.presentIn = c.doors.presentIn ∧ (doorWarns ch c).doors.latchedIn = c.doors.latchedIn ∧
    (doorWarns ch c).line.number = c.line.number ∧ (doorWarns ch c).line.rx = c.line.rx ∧
    (doorWarns ch c).line.ack = c.line.ack ∧ (doorWarns ch c).line.phase = c.line.phase ∧
    (doorWarns ch c).events.enable = c.events.enable ∧ (doorWarns ch c).events.carried = c.events.carried := by
  refine ⟨?_, ?_, ?_, ?_, ?_, ?_, ?_, ?_⟩
  · (simp only [doorWarns]; repeat' split) <;> simp_all
  · (simp only [doorWarns]; repeat' split) <;> simp_all
  · (simp only [doorWarns]; repeat' split) <;> simp_all
  · (simp only [doorWarns]; repeat' split) <;> simp_all
  · (simp only [doorWarns]; repeat' split) <;> simp_all
  · (simp only [doorWarns]; repeat' split) <;> simp_all
  · (simp only [doorWarns]; repeat' split) <;> simp_all
  · (simp only [doorWarns]; repeat' split) <;> simp_all

/-- What `doorOverdues` leaves as it is. -/
@[simp] theorem doorOverdues_frame (ch : Nat) (c : Controller) :
    (doorOverdues ch c).start = c.start ∧ (doorOverdues ch c).time = c.time ∧ (doorOverdues ch c).round = c.round ∧
    (doorOverdues ch c).held = c.held ∧ (doorOverdues ch c).scan = c.scan := by
  refine ⟨?_, ?_, ?_, ?_, ?_⟩
  · (simp only [doorOverdues]; repeat' split) <;> simp_all
  · (simp only [doorOverdues]; repeat' split) <;> simp_all
  · (simp only [doorOverdues]; repeat' split) <;> simp_all
  · (simp only [doorOverdues]; repeat' split) <;> simp_all
  · (simp only [doorOverdues]; repeat' split) <;> simp_all

/-- What `doorOverdues` leaves as it is, continued. -/
@[simp] theorem doorOverdues_frame1 (ch : Nat) (c : Controller) :
    (doorOverdues ch c).table.below = c.table.below ∧ (doorOverdues ch c).table.above = c.table.above ∧
    (doorOverdues ch c).table.nmin = c.table.nmin ∧ (doorOverdues ch c).table.pendT = c.table.pendT ∧
    (doorOverdues ch c).table.pendE = c.table.pendE ∧ (doorOverdues ch c).doors.presentIn = c.doors.presentIn ∧
    (doorOverdues ch c).doors.latchedIn = c.doors.latchedIn ∧ (doorOverdues ch c).track.pusher = c.track.pusher ∧
    (doorOverdues ch c).track.guide = c.track.guide ∧ (doorOverdues ch c).track.car = c.track.car ∧
    (doorOverdues ch c).line.number = c.line.number ∧ (doorOverdues ch c).line.rx = c.line.rx := by
  refine ⟨?_, ?_, ?_, ?_, ?_, ?_, ?_, ?_, ?_, ?_, ?_, ?_⟩
  · (simp only [doorOverdues]; repeat' split) <;> simp_all
  · (simp only [doorOverdues]; repeat' split) <;> simp_all
  · (simp only [doorOverdues]; repeat' split) <;> simp_all
  · (simp only [doorOverdues]; repeat' split) <;> simp_all
  · (simp only [doorOverdues]; repeat' split) <;> simp_all
  · (simp only [doorOverdues]; repeat' split) <;> simp_all
  · (simp only [doorOverdues]; repeat' split) <;> simp_all
  · (simp only [doorOverdues]; repeat' split) <;> simp_all
  · (simp only [doorOverdues]; repeat' split) <;> simp_all
  · (simp only [doorOverdues]; repeat' split) <;> simp_all
  · (simp only [doorOverdues]; repeat' split) <;> simp_all
  · (simp only [doorOverdues]; repeat' split) <;> simp_all

/-- What `doorOverdues` leaves as it is, continued. -/
@[simp] theorem doorOverdues_frame2 (ch : Nat) (c : Controller) :
    (doorOverdues ch c).line.ack = c.line.ack ∧ (doorOverdues ch c).events.enable = c.events.enable ∧
    (doorOverdues ch c).events.carried = c.events.carried ∧ (doorOverdues ch c).reg.cycle = c.reg.cycle ∧
    (doorOverdues ch c).reg.period = c.reg.period ∧ (doorOverdues ch c).reg.answer = c.reg.answer ∧
    (doorOverdues ch c).reg.mainSend = c.reg.mainSend ∧ (doorOverdues ch c).reg.framesOn = c.reg.framesOn ∧
    (doorOverdues ch c).reg.main.tap = c.reg.main.tap ∧ (doorOverdues ch c).reg.main.value = c.reg.main.value ∧
    (doorOverdues ch c).reg.main.invalid = c.reg.main.invalid ∧ (doorOverdues ch c).reg.main.age = c.reg.main.age := by
  refine ⟨?_, ?_, ?_, ?_, ?_, ?_, ?_, ?_, ?_, ?_, ?_, ?_⟩
  · (simp only [doorOverdues]; repeat' split) <;> simp_all
  · (simp only [doorOverdues]; repeat' split) <;> simp_all
  · (simp only [doorOverdues]; repeat' split) <;> simp_all
  · (simp only [doorOverdues]; repeat' split) <;> simp_all
  · (simp only [doorOverdues]; repeat' split) <;> simp_all
  · (simp only [doorOverdues]; repeat' split) <;> simp_all
  · (simp only [doorOverdues]; repeat' split) <;> simp_all
  · (simp only [doorOverdues]; repeat' split) <;> simp_all
  · (simp only [doorOverdues]; repeat' split) <;> simp_all
  · (simp only [doorOverdues]; repeat' split) <;> simp_all
  · (simp only [doorOverdues]; repeat' split) <;> simp_all
  · (simp only [doorOverdues]; repeat' split) <;> simp_all

/-- What `doorOverdues` leaves as it is, continued. -/
@[simp] theorem doorOverdues_frame3 (ch : Nat) (c : Controller) :
    (doorOverdues ch c).reg.main.stale = c.reg.main.stale := by
  (simp only [doorOverdues]; repeat' split) <;> simp_all

/-- What `formingEffects` leaves as it is. -/
@[simp] theorem formingEffects_frame (ch : Nat) (c : Controller) :
    (formingEffects ch c).start = c.start ∧ (formingEffects ch c).time = c.time ∧
    (formingEffects ch c).round = c.round ∧ (formingEffects ch c).held = c.held ∧
    (formingEffects ch c).scan = c.scan ∧ (formingEffects ch c).due = c.due ∧
    (formingEffects ch c).track = c.track ∧ (formingEffects ch c).job = c.job := by
  refine ⟨?_, ?_, ?_, ?_, ?_, ?_, ?_, ?_⟩
  · (simp only [formingEffects]; repeat' split) <;> simp_all
  · (simp only [formingEffects]; repeat' split) <;> simp_all
  · (simp only [formingEffects]; repeat' split) <;> simp_all
  · (simp only [formingEffects]; repeat' split) <;> simp_all
  · (simp only [formingEffects]; repeat' split) <;> simp_all
  · (simp only [formingEffects]; repeat' split) <;> simp_all
  · (simp only [formingEffects]; repeat' split) <;> simp_all
  · (simp only [formingEffects]; repeat' split) <;> simp_all

/-- What `formingEffects` leaves as it is, continued. -/
@[simp] theorem formingEffects_frame1 (ch : Nat) (c : Controller) :
    (formingEffects ch c).table.below = c.table.below ∧ (formingEffects ch c).table.above = c.table.above ∧
    (formingEffects ch c).table.nmin = c.table.nmin ∧ (formingEffects ch c).table.pendT = c.table.pendT ∧
    (formingEffects ch c).table.pendE = c.table.pendE ∧ (formingEffects ch c).doors.presentIn = c.doors.presentIn ∧
    (formingEffects ch c).doors.latchedIn = c.doors.latchedIn ∧ (formingEffects ch c).line.number = c.line.number ∧
    (formingEffects ch c).line.rx = c.line.rx ∧ (formingEffects ch c).line.ack = c.line.ack ∧
    (formingEffects ch c).line.phase = c.line.phase ∧ (formingEffects ch c).events.enable = c.events.enable := by
  refine ⟨?_, ?_, ?_, ?_, ?_, ?_, ?_, ?_, ?_, ?_, ?_, ?_⟩
  · (simp only [formingEffects]; repeat' split) <;> simp_all
  · (simp only [formingEffects]; repeat' split) <;> simp_all
  · (simp only [formingEffects]; repeat' split) <;> simp_all
  · (simp only [formingEffects]; repeat' split) <;> simp_all
  · (simp only [formingEffects]; repeat' split) <;> simp_all
  · (simp only [formingEffects]; repeat' split) <;> simp_all
  · (simp only [formingEffects]; repeat' split) <;> simp_all
  · (simp only [formingEffects]; repeat' split) <;> simp_all
  · (simp only [formingEffects]; repeat' split) <;> simp_all
  · (simp only [formingEffects]; repeat' split) <;> simp_all
  · (simp only [formingEffects]; repeat' split) <;> simp_all
  · (simp only [formingEffects]; repeat' split) <;> simp_all

/-- What `formingEffects` leaves as it is, continued. -/
@[simp] theorem formingEffects_frame2 (ch : Nat) (c : Controller) :
    (formingEffects ch c).events.carried = c.events.carried ∧ (formingEffects ch c).reg.cycle = c.reg.cycle ∧
    (formingEffects ch c).reg.period = c.reg.period ∧ (formingEffects ch c).reg.answer = c.reg.answer ∧
    (formingEffects ch c).reg.mainSend = c.reg.mainSend ∧ (formingEffects ch c).reg.framesOn = c.reg.framesOn ∧
    (formingEffects ch c).reg.main.tap = c.reg.main.tap ∧ (formingEffects ch c).reg.main.value = c.reg.main.value ∧
    (formingEffects ch c).reg.main.invalid = c.reg.main.invalid ∧
    (formingEffects ch c).reg.main.age = c.reg.main.age ∧ (formingEffects ch c).reg.main.stale = c.reg.main.stale := by
  refine ⟨?_, ?_, ?_, ?_, ?_, ?_, ?_, ?_, ?_, ?_, ?_⟩
  · (simp only [formingEffects]; repeat' split) <;> simp_all
  · (simp only [formingEffects]; repeat' split) <;> simp_all
  · (simp only [formingEffects]; repeat' split) <;> simp_all
  · (simp only [formingEffects]; repeat' split) <;> simp_all
  · (simp only [formingEffects]; repeat' split) <;> simp_all
  · (simp only [formingEffects]; repeat' split) <;> simp_all
  · (simp only [formingEffects]; repeat' split) <;> simp_all
  · (simp only [formingEffects]; repeat' split) <;> simp_all
  · (simp only [formingEffects]; repeat' split) <;> simp_all
  · (simp only [formingEffects]; repeat' split) <;> simp_all
  · (simp only [formingEffects]; repeat' split) <;> simp_all

/-- What `formDoors` leaves as it is. -/
@[simp] theorem formDoors_frame (c : Controller) :
    (formDoors c).start = c.start ∧ (formDoors c).time = c.time ∧ (formDoors c).round = c.round ∧
    (formDoors c).held = c.held ∧ (formDoors c).due = c.due ∧ (formDoors c).track = c.track ∧
    (formDoors c).job = c.job ∧ (formDoors c).table.below = c.table.below ∧
    (formDoors c).table.above = c.table.above ∧ (formDoors c).table.nmin = c.table.nmin ∧
    (formDoors c).table.pendT = c.table.pendT ∧ (formDoors c).table.pendE = c.table.pendE ∧
    (formDoors c).doors.presentIn = c.doors.presentIn ∧ (formDoors c).doors.latchedIn = c.doors.latchedIn ∧
    (formDoors c).line.number = c.line.number ∧ (formDoors c).line.rx = c.line.rx ∧
    (formDoors c).line.ack = c.line.ack ∧ (formDoors c).line.phase = c.line.phase ∧
    (formDoors c).events.enable = c.events.enable ∧ (formDoors c).events.carried = c.events.carried ∧
    (formDoors c).reg.cycle = c.reg.cycle ∧ (formDoors c).reg.period = c.reg.period ∧
    (formDoors c).reg.answer = c.reg.answer ∧ (formDoors c).reg.mainSend = c.reg.mainSend ∧
    (formDoors c).reg.framesOn = c.reg.framesOn ∧ (formDoors c).reg.main.tap = c.reg.main.tap ∧
    (formDoors c).reg.main.value = c.reg.main.value ∧ (formDoors c).reg.main.invalid = c.reg.main.invalid ∧
    (formDoors c).reg.main.age = c.reg.main.age ∧ (formDoors c).reg.main.stale = c.reg.main.stale := by
  simp [formDoors]

/-- What `modifyRound` leaves as it is. -/
@[simp] theorem modifyRound_frame (f : Round → Round) (c : Controller) :
    (modifyRound f c).start = c.start ∧ (modifyRound f c).time = c.time ∧ (modifyRound f c).table = c.table ∧
    (modifyRound f c).held = c.held ∧ (modifyRound f c).doors = c.doors ∧ (modifyRound f c).scan = c.scan ∧
    (modifyRound f c).due = c.due ∧ (modifyRound f c).track = c.track ∧ (modifyRound f c).line = c.line ∧
    (modifyRound f c).job = c.job ∧ (modifyRound f c).events = c.events ∧ (modifyRound f c).reg = c.reg := by
  simp [modifyRound]

/-- What `queueBid` leaves as it is. -/
@[simp] theorem queueBid_frame (o : Oven) (c : Controller) :
    (queueBid o c).start = c.start ∧ (queueBid o c).time = c.time ∧ (queueBid o c).table = c.table ∧
    (queueBid o c).held = c.held ∧ (queueBid o c).doors = c.doors ∧ (queueBid o c).scan = c.scan ∧
    (queueBid o c).due = c.due ∧ (queueBid o c).track.pusher = c.track.pusher ∧
    (queueBid o c).track.guide = c.track.guide ∧ (queueBid o c).track.car = c.track.car ∧
    (queueBid o c).line.number = c.line.number ∧ (queueBid o c).line.rx = c.line.rx ∧
    (queueBid o c).line.ack = c.line.ack ∧ (queueBid o c).events.enable = c.events.enable ∧
    (queueBid o c).events.carried = c.events.carried ∧ (queueBid o c).reg.cycle = c.reg.cycle ∧
    (queueBid o c).reg.period = c.reg.period ∧ (queueBid o c).reg.answer = c.reg.answer ∧
    (queueBid o c).reg.mainSend = c.reg.mainSend ∧ (queueBid o c).reg.frame = c.reg.frame ∧
    (queueBid o c).reg.frameHeld = c.reg.frameHeld ∧ (queueBid o c).reg.framesOn = c.reg.framesOn ∧
    (queueBid o c).reg.main.tap = c.reg.main.tap ∧ (queueBid o c).reg.main.value = c.reg.main.value ∧
    (queueBid o c).reg.main.invalid = c.reg.main.invalid ∧ (queueBid o c).reg.main.age = c.reg.main.age ∧
    (queueBid o c).reg.main.stale = c.reg.main.stale := by
  simp [queueBid]

/-- What `closeRound` leaves as it is. -/
@[simp] theorem closeRound_frame (c : Controller) :
    (closeRound c).start = c.start ∧ (closeRound c).time = c.time ∧ (closeRound c).table = c.table ∧
    (closeRound c).held = c.held ∧ (closeRound c).doors = c.doors ∧ (closeRound c).scan = c.scan ∧
    (closeRound c).track = c.track ∧ (closeRound c).line = c.line ∧ (closeRound c).job = c.job ∧
    (closeRound c).events = c.events ∧ (closeRound c).reg = c.reg := by
  simp [closeRound]

/-- What `openRound` leaves as it is. -/
@[simp] theorem openRound_frame (c : Controller) :
    (openRound c).start = c.start ∧ (openRound c).time = c.time ∧ (openRound c).table = c.table ∧
    (openRound c).held = c.held ∧ (openRound c).doors = c.doors ∧ (openRound c).scan = c.scan ∧
    (openRound c).due = c.due := by
  refine ⟨?_, ?_, ?_, ?_, ?_, ?_, ?_⟩
  · (simp only [openRound]; repeat' split) <;> simp_all
  · (simp only [openRound]; repeat' split) <;> simp_all
  · (simp only [openRound]; repeat' split) <;> simp_all
  · (simp only [openRound]; repeat' split) <;> simp_all
  · (simp only [openRound]; repeat' split) <;> simp_all
  · (simp only [openRound]; repeat' split) <;> simp_all
  · (simp only [openRound]; repeat' split) <;> simp_all

/-- What `openRound` leaves as it is, continued. -/
@[simp] theorem openRound_frame1 (c : Controller) :
    (openRound c).track.pusher = c.track.pusher ∧ (openRound c).track.guide = c.track.guide ∧
    (openRound c).track.car = c.track.car ∧ (openRound c).line.number = c.line.number ∧
    (openRound c).line.rx = c.line.rx ∧ (openRound c).line.ack = c.line.ack ∧
    (openRound c).events.enable = c.events.enable ∧ (openRound c).events.carried = c.events.carried ∧
    (openRound c).reg.cycle = c.reg.cycle ∧ (openRound c).reg.period = c.reg.period ∧
    (openRound c).reg.answer = c.reg.answer ∧ (openRound c).reg.mainSend = c.reg.mainSend := by
  refine ⟨?_, ?_, ?_, ?_, ?_, ?_, ?_, ?_, ?_, ?_, ?_, ?_⟩
  · (simp only [openRound]; repeat' split) <;> simp_all
  · (simp only [openRound]; repeat' split) <;> simp_all
  · (simp only [openRound]; repeat' split) <;> simp_all
  · (simp only [openRound]; repeat' split) <;> simp_all
  · (simp only [openRound]; repeat' split) <;> simp_all
  · (simp only [openRound]; repeat' split) <;> simp_all
  · (simp only [openRound]; repeat' split) <;> simp_all
  · (simp only [openRound]; repeat' split) <;> simp_all
  · (simp only [openRound]; repeat' split) <;> simp_all
  · (simp only [openRound]; repeat' split) <;> simp_all
  · (simp only [openRound]; repeat' split) <;> simp_all
  · (simp only [openRound]; repeat' split) <;> simp_all

/-- What `openRound` leaves as it is, continued. -/
@[simp] theorem openRound_frame2 (c : Controller) :
    (openRound c).reg.frame = c.reg.frame ∧ (openRound c).reg.frameHeld = c.reg.frameHeld ∧
    (openRound c).reg.framesOn = c.reg.framesOn ∧ (openRound c).reg.main.tap = c.reg.main.tap ∧
    (openRound c).reg.main.value = c.reg.main.value ∧ (openRound c).reg.main.invalid = c.reg.main.invalid ∧
    (openRound c).reg.main.age = c.reg.main.age ∧ (openRound c).reg.main.stale = c.reg.main.stale := by
  refine ⟨?_, ?_, ?_, ?_, ?_, ?_, ?_, ?_⟩
  · (simp only [openRound]; repeat' split) <;> simp_all
  · (simp only [openRound]; repeat' split) <;> simp_all
  · (simp only [openRound]; repeat' split) <;> simp_all
  · (simp only [openRound]; repeat' split) <;> simp_all
  · (simp only [openRound]; repeat' split) <;> simp_all
  · (simp only [openRound]; repeat' split) <;> simp_all
  · (simp only [openRound]; repeat' split) <;> simp_all
  · (simp only [openRound]; repeat' split) <;> simp_all

/-- What `minuteBid` leaves as it is. -/
@[simp] theorem minuteBid_frame (c : Controller) :
    (minuteBid c).start = c.start ∧ (minuteBid c).time = c.time ∧ (minuteBid c).table = c.table ∧
    (minuteBid c).held = c.held ∧ (minuteBid c).doors = c.doors ∧ (minuteBid c).scan = c.scan ∧
    (minuteBid c).due = c.due := by
  refine ⟨?_, ?_, ?_, ?_, ?_, ?_, ?_⟩
  · (simp only [minuteBid]; repeat' split) <;> simp_all
  · (simp only [minuteBid]; repeat' split) <;> simp_all
  · (simp only [minuteBid]; repeat' split) <;> simp_all
  · (simp only [minuteBid]; repeat' split) <;> simp_all
  · (simp only [minuteBid]; repeat' split) <;> simp_all
  · (simp only [minuteBid]; repeat' split) <;> simp_all
  · (simp only [minuteBid]; repeat' split) <;> simp_all

/-- What `minuteBid` leaves as it is, continued. -/
@[simp] theorem minuteBid_frame1 (c : Controller) :
    (minuteBid c).track.pusher = c.track.pusher ∧ (minuteBid c).track.guide = c.track.guide ∧
    (minuteBid c).track.car = c.track.car ∧ (minuteBid c).line.number = c.line.number ∧
    (minuteBid c).line.rx = c.line.rx ∧ (minuteBid c).line.ack = c.line.ack ∧
    (minuteBid c).events.enable = c.events.enable ∧ (minuteBid c).events.carried = c.events.carried ∧
    (minuteBid c).reg.cycle = c.reg.cycle ∧ (minuteBid c).reg.period = c.reg.period ∧
    (minuteBid c).reg.answer = c.reg.answer ∧ (minuteBid c).reg.mainSend = c.reg.mainSend := by
  refine ⟨?_, ?_, ?_, ?_, ?_, ?_, ?_, ?_, ?_, ?_, ?_, ?_⟩
  · (simp only [minuteBid]; repeat' split) <;> simp_all
  · (simp only [minuteBid]; repeat' split) <;> simp_all
  · (simp only [minuteBid]; repeat' split) <;> simp_all
  · (simp only [minuteBid]; repeat' split) <;> simp_all
  · (simp only [minuteBid]; repeat' split) <;> simp_all
  · (simp only [minuteBid]; repeat' split) <;> simp_all
  · (simp only [minuteBid]; repeat' split) <;> simp_all
  · (simp only [minuteBid]; repeat' split) <;> simp_all
  · (simp only [minuteBid]; repeat' split) <;> simp_all
  · (simp only [minuteBid]; repeat' split) <;> simp_all
  · (simp only [minuteBid]; repeat' split) <;> simp_all
  · (simp only [minuteBid]; repeat' split) <;> simp_all

/-- What `minuteBid` leaves as it is, continued. -/
@[simp] theorem minuteBid_frame2 (c : Controller) :
    (minuteBid c).reg.frame = c.reg.frame ∧ (minuteBid c).reg.frameHeld = c.reg.frameHeld ∧
    (minuteBid c).reg.framesOn = c.reg.framesOn ∧ (minuteBid c).reg.main.tap = c.reg.main.tap ∧
    (minuteBid c).reg.main.value = c.reg.main.value ∧ (minuteBid c).reg.main.invalid = c.reg.main.invalid ∧
    (minuteBid c).reg.main.age = c.reg.main.age ∧ (minuteBid c).reg.main.stale = c.reg.main.stale := by
  refine ⟨?_, ?_, ?_, ?_, ?_, ?_, ?_, ?_⟩
  · (simp only [minuteBid]; repeat' split) <;> simp_all
  · (simp only [minuteBid]; repeat' split) <;> simp_all
  · (simp only [minuteBid]; repeat' split) <;> simp_all
  · (simp only [minuteBid]; repeat' split) <;> simp_all
  · (simp only [minuteBid]; repeat' split) <;> simp_all
  · (simp only [minuteBid]; repeat' split) <;> simp_all
  · (simp only [minuteBid]; repeat' split) <;> simp_all
  · (simp only [minuteBid]; repeat' split) <;> simp_all

/-- What `bidSent` leaves as it is. -/
@[simp] theorem bidSent_frame (t : Telegram) (c : Controller) :
    (bidSent t c).start = c.start ∧ (bidSent t c).time = c.time ∧ (bidSent t c).table = c.table ∧
    (bidSent t c).held = c.held ∧ (bidSent t c).doors = c.doors ∧ (bidSent t c).scan = c.scan ∧
    (bidSent t c).due = c.due ∧ (bidSent t c).track = c.track ∧ (bidSent t c).line = c.line ∧
    (bidSent t c).job = c.job ∧ (bidSent t c).events = c.events ∧ (bidSent t c).reg = c.reg := by
  refine ⟨?_, ?_, ?_, ?_, ?_, ?_, ?_, ?_, ?_, ?_, ?_, ?_⟩
  · (simp only [bidSent]; repeat' split) <;> simp_all
  · (simp only [bidSent]; repeat' split) <;> simp_all
  · (simp only [bidSent]; repeat' split) <;> simp_all
  · (simp only [bidSent]; repeat' split) <;> simp_all
  · (simp only [bidSent]; repeat' split) <;> simp_all
  · (simp only [bidSent]; repeat' split) <;> simp_all
  · (simp only [bidSent]; repeat' split) <;> simp_all
  · (simp only [bidSent]; repeat' split) <;> simp_all
  · (simp only [bidSent]; repeat' split) <;> simp_all
  · (simp only [bidSent]; repeat' split) <;> simp_all
  · (simp only [bidSent]; repeat' split) <;> simp_all
  · (simp only [bidSent]; repeat' split) <;> simp_all

/-- What `takeBid` leaves as it is. -/
@[simp] theorem takeBid_frame (t : Telegram) (c : Controller) :
    (takeBid t c).start = c.start ∧ (takeBid t c).time = c.time ∧ (takeBid t c).table = c.table ∧
    (takeBid t c).held = c.held ∧ (takeBid t c).doors = c.doors ∧ (takeBid t c).scan = c.scan ∧
    (takeBid t c).due = c.due ∧ (takeBid t c).track = c.track ∧ (takeBid t c).events = c.events ∧
    (takeBid t c).reg = c.reg ∧ (takeBid t c).line.number = c.line.number ∧ (takeBid t c).line.rx = c.line.rx ∧
    (takeBid t c).line.ack = c.line.ack := by
  refine ⟨?_, ?_, ?_, ?_, ?_, ?_, ?_, ?_, ?_, ?_, ?_, ?_, ?_⟩
  · (simp only [takeBid]; repeat' split) <;> simp_all
  · (simp only [takeBid]; repeat' split) <;> simp_all
  · (simp only [takeBid]; repeat' split) <;> simp_all
  · (simp only [takeBid]; repeat' split) <;> simp_all
  · (simp only [takeBid]; repeat' split) <;> simp_all
  · (simp only [takeBid]; repeat' split) <;> simp_all
  · (simp only [takeBid]; repeat' split) <;> simp_all
  · (simp only [takeBid]; repeat' split) <;> simp_all
  · (simp only [takeBid]; repeat' split) <;> simp_all
  · (simp only [takeBid]; repeat' split) <;> simp_all
  · (simp only [takeBid]; repeat' split) <;> simp_all
  · (simp only [takeBid]; repeat' split) <;> simp_all
  · (simp only [takeBid]; repeat' split) <;> simp_all

/-- What `queueClaim` leaves as it is. -/
@[simp] theorem queueClaim_frame (h : Bid) (o : Oven) (c : Controller) :
    (queueClaim h o c).start = c.start ∧ (queueClaim h o c).time = c.time ∧ (queueClaim h o c).table = c.table ∧
    (queueClaim h o c).round = c.round ∧ (queueClaim h o c).held = c.held ∧ (queueClaim h o c).doors = c.doors ∧
    (queueClaim h o c).scan = c.scan ∧ (queueClaim h o c).due = c.due ∧
    (queueClaim h o c).track.pusher = c.track.pusher ∧ (queueClaim h o c).track.guide = c.track.guide ∧
    (queueClaim h o c).track.car = c.track.car ∧ (queueClaim h o c).line.number = c.line.number ∧
    (queueClaim h o c).line.rx = c.line.rx ∧ (queueClaim h o c).line.ack = c.line.ack ∧
    (queueClaim h o c).events.enable = c.events.enable ∧ (queueClaim h o c).events.carried = c.events.carried ∧
    (queueClaim h o c).reg.cycle = c.reg.cycle ∧ (queueClaim h o c).reg.period = c.reg.period ∧
    (queueClaim h o c).reg.answer = c.reg.answer ∧ (queueClaim h o c).reg.mainSend = c.reg.mainSend ∧
    (queueClaim h o c).reg.frame = c.reg.frame ∧ (queueClaim h o c).reg.frameHeld = c.reg.frameHeld ∧
    (queueClaim h o c).reg.framesOn = c.reg.framesOn ∧ (queueClaim h o c).reg.main.tap = c.reg.main.tap ∧
    (queueClaim h o c).reg.main.value = c.reg.main.value ∧
    (queueClaim h o c).reg.main.invalid = c.reg.main.invalid ∧ (queueClaim h o c).reg.main.age = c.reg.main.age ∧
    (queueClaim h o c).reg.main.stale = c.reg.main.stale := by
  simp [queueClaim]

/-- What `windowExpires` leaves as it is. -/
@[simp] theorem windowExpires_frame (c : Controller) :
    (windowExpires c).start = c.start ∧ (windowExpires c).time = c.time ∧ (windowExpires c).table = c.table ∧
    (windowExpires c).held = c.held ∧ (windowExpires c).doors = c.doors ∧ (windowExpires c).scan = c.scan := by
  refine ⟨?_, ?_, ?_, ?_, ?_, ?_⟩
  · (simp only [windowExpires]; repeat' split) <;> simp_all
  · (simp only [windowExpires]; repeat' split) <;> simp_all
  · (simp only [windowExpires]; repeat' split) <;> simp_all
  · (simp only [windowExpires]; repeat' split) <;> simp_all
  · (simp only [windowExpires]; repeat' split) <;> simp_all
  · (simp only [windowExpires]; repeat' split) <;> simp_all

/-- What `windowExpires` leaves as it is, continued. -/
@[simp] theorem windowExpires_frame1 (c : Controller) :
    (windowExpires c).track.pusher = c.track.pusher ∧ (windowExpires c).track.guide = c.track.guide ∧
    (windowExpires c).track.car = c.track.car ∧ (windowExpires c).line.number = c.line.number ∧
    (windowExpires c).line.rx = c.line.rx ∧ (windowExpires c).line.ack = c.line.ack ∧
    (windowExpires c).events.enable = c.events.enable ∧ (windowExpires c).events.carried = c.events.carried ∧
    (windowExpires c).reg.cycle = c.reg.cycle ∧ (windowExpires c).reg.period = c.reg.period ∧
    (windowExpires c).reg.answer = c.reg.answer ∧ (windowExpires c).reg.mainSend = c.reg.mainSend := by
  refine ⟨?_, ?_, ?_, ?_, ?_, ?_, ?_, ?_, ?_, ?_, ?_, ?_⟩
  · (simp only [windowExpires]; repeat' split) <;> simp_all
  · (simp only [windowExpires]; repeat' split) <;> simp_all
  · (simp only [windowExpires]; repeat' split) <;> simp_all
  · (simp only [windowExpires]; repeat' split) <;> simp_all
  · (simp only [windowExpires]; repeat' split) <;> simp_all
  · (simp only [windowExpires]; repeat' split) <;> simp_all
  · (simp only [windowExpires]; repeat' split) <;> simp_all
  · (simp only [windowExpires]; repeat' split) <;> simp_all
  · (simp only [windowExpires]; repeat' split) <;> simp_all
  · (simp only [windowExpires]; repeat' split) <;> simp_all
  · (simp only [windowExpires]; repeat' split) <;> simp_all
  · (simp only [windowExpires]; repeat' split) <;> simp_all

/-- What `windowExpires` leaves as it is, continued. -/
@[simp] theorem windowExpires_frame2 (c : Controller) :
    (windowExpires c).reg.frame = c.reg.frame ∧ (windowExpires c).reg.frameHeld = c.reg.frameHeld ∧
    (windowExpires c).reg.framesOn = c.reg.framesOn ∧ (windowExpires c).reg.main.tap = c.reg.main.tap ∧
    (windowExpires c).reg.main.value = c.reg.main.value ∧ (windowExpires c).reg.main.invalid = c.reg.main.invalid ∧
    (windowExpires c).reg.main.age = c.reg.main.age ∧ (windowExpires c).reg.main.stale = c.reg.main.stale := by
  refine ⟨?_, ?_, ?_, ?_, ?_, ?_, ?_, ?_⟩
  · (simp only [windowExpires]; repeat' split) <;> simp_all
  · (simp only [windowExpires]; repeat' split) <;> simp_all
  · (simp only [windowExpires]; repeat' split) <;> simp_all
  · (simp only [windowExpires]; repeat' split) <;> simp_all
  · (simp only [windowExpires]; repeat' split) <;> simp_all
  · (simp only [windowExpires]; repeat' split) <;> simp_all
  · (simp only [windowExpires]; repeat' split) <;> simp_all
  · (simp only [windowExpires]; repeat' split) <;> simp_all

/-- What `modifyHeld` leaves as it is. -/
@[simp] theorem modifyHeld_frame (f : HeldRecord → HeldRecord) (c : Controller) :
    (modifyHeld f c).start = c.start ∧ (modifyHeld f c).time = c.time ∧ (modifyHeld f c).table = c.table ∧
    (modifyHeld f c).round = c.round ∧ (modifyHeld f c).doors = c.doors ∧ (modifyHeld f c).scan = c.scan ∧
    (modifyHeld f c).due = c.due ∧ (modifyHeld f c).track = c.track ∧ (modifyHeld f c).line = c.line ∧
    (modifyHeld f c).job = c.job ∧ (modifyHeld f c).events = c.events ∧ (modifyHeld f c).reg = c.reg := by
  simp [modifyHeld]

/-- What `recordClaim` leaves as it is. -/
@[simp] theorem recordClaim_frame (t : Telegram) (c : Controller) :
    (recordClaim t c).start = c.start ∧ (recordClaim t c).time = c.time ∧ (recordClaim t c).table = c.table ∧
    (recordClaim t c).round = c.round ∧ (recordClaim t c).doors = c.doors ∧ (recordClaim t c).scan = c.scan ∧
    (recordClaim t c).due = c.due ∧ (recordClaim t c).track = c.track ∧ (recordClaim t c).line = c.line ∧
    (recordClaim t c).job = c.job ∧ (recordClaim t c).events = c.events ∧ (recordClaim t c).reg = c.reg := by
  simp [recordClaim]

/-- What `claimClosesRound` leaves as it is. -/
@[simp] theorem claimClosesRound_frame (c : Controller) :
    (claimClosesRound c).start = c.start ∧ (claimClosesRound c).time = c.time ∧
    (claimClosesRound c).table = c.table ∧ (claimClosesRound c).held = c.held ∧
    (claimClosesRound c).doors = c.doors ∧ (claimClosesRound c).scan = c.scan ∧
    (claimClosesRound c).track = c.track ∧ (claimClosesRound c).events = c.events ∧
    (claimClosesRound c).reg = c.reg ∧ (claimClosesRound c).line.number = c.line.number ∧
    (claimClosesRound c).line.rx = c.line.rx ∧ (claimClosesRound c).line.ack = c.line.ack := by
  refine ⟨?_, ?_, ?_, ?_, ?_, ?_, ?_, ?_, ?_, ?_, ?_, ?_⟩
  · (simp only [claimClosesRound]; repeat' split) <;> simp_all
  · (simp only [claimClosesRound]; repeat' split) <;> simp_all
  · (simp only [claimClosesRound]; repeat' split) <;> simp_all
  · (simp only [claimClosesRound]; repeat' split) <;> simp_all
  · (simp only [claimClosesRound]; repeat' split) <;> simp_all
  · (simp only [claimClosesRound]; repeat' split) <;> simp_all
  · (simp only [claimClosesRound]; repeat' split) <;> simp_all
  · (simp only [claimClosesRound]; repeat' split) <;> simp_all
  · (simp only [claimClosesRound]; repeat' split) <;> simp_all
  · (simp only [claimClosesRound]; repeat' split) <;> simp_all
  · (simp only [claimClosesRound]; repeat' split) <;> simp_all
  · (simp only [claimClosesRound]; repeat' split) <;> simp_all

/-- What `takeClaim` leaves as it is. -/
@[simp] theorem takeClaim_frame (t : Telegram) (c : Controller) :
    (takeClaim t c).start = c.start ∧ (takeClaim t c).time = c.time ∧ (takeClaim t c).doors = c.doors ∧
    (takeClaim t c).scan = c.scan := by
  refine ⟨?_, ?_, ?_, ?_⟩
  · (simp only [takeClaim]; repeat' split) <;> simp_all
  · (simp only [takeClaim]; repeat' split) <;> simp_all
  · (simp only [takeClaim]; repeat' split) <;> simp_all
  · (simp only [takeClaim]; repeat' split) <;> simp_all

/-- What `takeClaim` leaves as it is, continued. -/
@[simp] theorem takeClaim_frame1 (t : Telegram) (c : Controller) :
    (takeClaim t c).table.below = c.table.below ∧ (takeClaim t c).table.above = c.table.above ∧
    (takeClaim t c).table.nmin = c.table.nmin ∧ (takeClaim t c).table.pendT = c.table.pendT ∧
    (takeClaim t c).table.pendE = c.table.pendE ∧ (takeClaim t c).track.pusher = c.track.pusher ∧
    (takeClaim t c).track.guide = c.track.guide ∧ (takeClaim t c).track.car = c.track.car ∧
    (takeClaim t c).line.number = c.line.number ∧ (takeClaim t c).line.rx = c.line.rx ∧
    (takeClaim t c).line.ack = c.line.ack ∧ (takeClaim t c).events.enable = c.events.enable := by
  refine ⟨?_, ?_, ?_, ?_, ?_, ?_, ?_, ?_, ?_, ?_, ?_, ?_⟩
  · (simp only [takeClaim]; repeat' split) <;> simp_all
  · (simp only [takeClaim]; repeat' split) <;> simp_all
  · (simp only [takeClaim]; repeat' split) <;> simp_all
  · (simp only [takeClaim]; repeat' split) <;> simp_all
  · (simp only [takeClaim]; repeat' split) <;> simp_all
  · (simp only [takeClaim]; repeat' split) <;> simp_all
  · (simp only [takeClaim]; repeat' split) <;> simp_all
  · (simp only [takeClaim]; repeat' split) <;> simp_all
  · (simp only [takeClaim]; repeat' split) <;> simp_all
  · (simp only [takeClaim]; repeat' split) <;> simp_all
  · (simp only [takeClaim]; repeat' split) <;> simp_all
  · (simp only [takeClaim]; repeat' split) <;> simp_all

/-- What `takeClaim` leaves as it is, continued. -/
@[simp] theorem takeClaim_frame2 (t : Telegram) (c : Controller) :
    (takeClaim t c).events.carried = c.events.carried ∧ (takeClaim t c).reg.cycle = c.reg.cycle ∧
    (takeClaim t c).reg.period = c.reg.period ∧ (takeClaim t c).reg.answer = c.reg.answer ∧
    (takeClaim t c).reg.mainSend = c.reg.mainSend ∧ (takeClaim t c).reg.framesOn = c.reg.framesOn ∧
    (takeClaim t c).reg.main.tap = c.reg.main.tap ∧ (takeClaim t c).reg.main.value = c.reg.main.value ∧
    (takeClaim t c).reg.main.invalid = c.reg.main.invalid ∧ (takeClaim t c).reg.main.age = c.reg.main.age ∧
    (takeClaim t c).reg.main.stale = c.reg.main.stale := by
  refine ⟨?_, ?_, ?_, ?_, ?_, ?_, ?_, ?_, ?_, ?_, ?_⟩
  · (simp only [takeClaim]; repeat' split) <;> simp_all
  · (simp only [takeClaim]; repeat' split) <;> simp_all
  · (simp only [takeClaim]; repeat' split) <;> simp_all
  · (simp only [takeClaim]; repeat' split) <;> simp_all
  · (simp only [takeClaim]; repeat' split) <;> simp_all
  · (simp only [takeClaim]; repeat' split) <;> simp_all
  · (simp only [takeClaim]; repeat' split) <;> simp_all
  · (simp only [takeClaim]; repeat' split) <;> simp_all
  · (simp only [takeClaim]; repeat' split) <;> simp_all
  · (simp only [takeClaim]; repeat' split) <;> simp_all
  · (simp only [takeClaim]; repeat' split) <;> simp_all

/-- What `holderSpeaks` leaves as it is. -/
@[simp] theorem holderSpeaks_frame (src : Nat) (c : Controller) :
    (holderSpeaks src c).start = c.start ∧ (holderSpeaks src c).time = c.time ∧
    (holderSpeaks src c).table = c.table ∧ (holderSpeaks src c).round = c.round ∧
    (holderSpeaks src c).doors = c.doors ∧ (holderSpeaks src c).scan = c.scan ∧ (holderSpeaks src c).due = c.due ∧
    (holderSpeaks src c).track = c.track ∧ (holderSpeaks src c).line = c.line ∧ (holderSpeaks src c).job = c.job ∧
    (holderSpeaks src c).events = c.events ∧ (holderSpeaks src c).reg = c.reg := by
  refine ⟨?_, ?_, ?_, ?_, ?_, ?_, ?_, ?_, ?_, ?_, ?_, ?_⟩
  · (simp only [holderSpeaks]; repeat' split) <;> simp_all
  · (simp only [holderSpeaks]; repeat' split) <;> simp_all
  · (simp only [holderSpeaks]; repeat' split) <;> simp_all
  · (simp only [holderSpeaks]; repeat' split) <;> simp_all
  · (simp only [holderSpeaks]; repeat' split) <;> simp_all
  · (simp only [holderSpeaks]; repeat' split) <;> simp_all
  · (simp only [holderSpeaks]; repeat' split) <;> simp_all
  · (simp only [holderSpeaks]; repeat' split) <;> simp_all
  · (simp only [holderSpeaks]; repeat' split) <;> simp_all
  · (simp only [holderSpeaks]; repeat' split) <;> simp_all
  · (simp only [holderSpeaks]; repeat' split) <;> simp_all
  · (simp only [holderSpeaks]; repeat' split) <;> simp_all

/-- What `takeRelease` leaves as it is. -/
@[simp] theorem takeRelease_frame (t : Telegram) (c : Controller) :
    (takeRelease t c).start = c.start ∧ (takeRelease t c).time = c.time ∧ (takeRelease t c).table = c.table ∧
    (takeRelease t c).round = c.round ∧ (takeRelease t c).doors = c.doors ∧ (takeRelease t c).scan = c.scan ∧
    (takeRelease t c).due = c.due ∧ (takeRelease t c).track = c.track ∧ (takeRelease t c).job = c.job ∧
    (takeRelease t c).reg = c.reg := by
  refine ⟨?_, ?_, ?_, ?_, ?_, ?_, ?_, ?_, ?_, ?_⟩
  · (simp only [takeRelease]; repeat' split) <;> simp_all
  · (simp only [takeRelease]; repeat' split) <;> simp_all
  · (simp only [takeRelease]; repeat' split) <;> simp_all
  · (simp only [takeRelease]; repeat' split) <;> simp_all
  · (simp only [takeRelease]; repeat' split) <;> simp_all
  · (simp only [takeRelease]; repeat' split) <;> simp_all
  · (simp only [takeRelease]; repeat' split) <;> simp_all
  · (simp only [takeRelease]; repeat' split) <;> simp_all
  · (simp only [takeRelease]; repeat' split) <;> simp_all
  · (simp only [takeRelease]; repeat' split) <;> simp_all

/-- What `takeRelease` leaves as it is, continued. -/
@[simp] theorem takeRelease_frame1 (t : Telegram) (c : Controller) :
    (takeRelease t c).line.number = c.line.number ∧ (takeRelease t c).line.rx = c.line.rx ∧
    (takeRelease t c).line.ack = c.line.ack ∧ (takeRelease t c).line.phase = c.line.phase ∧
    (takeRelease t c).events.enable = c.events.enable ∧ (takeRelease t c).events.carried = c.events.carried := by
  refine ⟨?_, ?_, ?_, ?_, ?_, ?_⟩
  · (simp only [takeRelease]; repeat' split) <;> simp_all
  · (simp only [takeRelease]; repeat' split) <;> simp_all
  · (simp only [takeRelease]; repeat' split) <;> simp_all
  · (simp only [takeRelease]; repeat' split) <;> simp_all
  · (simp only [takeRelease]; repeat' split) <;> simp_all
  · (simp only [takeRelease]; repeat' split) <;> simp_all

/-- What `claimExpires` leaves as it is. -/
@[simp] theorem claimExpires_frame (c : Controller) :
    (claimExpires c).start = c.start ∧ (claimExpires c).time = c.time ∧ (claimExpires c).table = c.table ∧
    (claimExpires c).round = c.round ∧ (claimExpires c).doors = c.doors ∧ (claimExpires c).scan = c.scan ∧
    (claimExpires c).due = c.due ∧ (claimExpires c).track = c.track ∧ (claimExpires c).job = c.job ∧
    (claimExpires c).reg = c.reg := by
  refine ⟨?_, ?_, ?_, ?_, ?_, ?_, ?_, ?_, ?_, ?_⟩
  · (simp only [claimExpires]; repeat' split) <;> simp_all
  · (simp only [claimExpires]; repeat' split) <;> simp_all
  · (simp only [claimExpires]; repeat' split) <;> simp_all
  · (simp only [claimExpires]; repeat' split) <;> simp_all
  · (simp only [claimExpires]; repeat' split) <;> simp_all
  · (simp only [claimExpires]; repeat' split) <;> simp_all
  · (simp only [claimExpires]; repeat' split) <;> simp_all
  · (simp only [claimExpires]; repeat' split) <;> simp_all
  · (simp only [claimExpires]; repeat' split) <;> simp_all
  · (simp only [claimExpires]; repeat' split) <;> simp_all

/-- What `claimExpires` leaves as it is, continued. -/
@[simp] theorem claimExpires_frame1 (c : Controller) :
    (claimExpires c).line.number = c.line.number ∧ (claimExpires c).line.rx = c.line.rx ∧
    (claimExpires c).line.ack = c.line.ack ∧ (claimExpires c).line.phase = c.line.phase ∧
    (claimExpires c).events.enable = c.events.enable ∧ (claimExpires c).events.carried = c.events.carried := by
  refine ⟨?_, ?_, ?_, ?_, ?_, ?_⟩
  · (simp only [claimExpires]; repeat' split) <;> simp_all
  · (simp only [claimExpires]; repeat' split) <;> simp_all
  · (simp only [claimExpires]; repeat' split) <;> simp_all
  · (simp only [claimExpires]; repeat' split) <;> simp_all
  · (simp only [claimExpires]; repeat' split) <;> simp_all
  · (simp only [claimExpires]; repeat' split) <;> simp_all

/-- What `takePusher` leaves as it is. -/
@[simp] theorem takePusher_frame (t : Telegram) (c : Controller) :
    (takePusher t c).start = c.start ∧ (takePusher t c).time = c.time ∧ (takePusher t c).held = c.held ∧
    (takePusher t c).doors = c.doors ∧ (takePusher t c).scan = c.scan := by
  refine ⟨?_, ?_, ?_, ?_, ?_⟩
  · (simp only [takePusher]; repeat' split) <;> simp_all
  · (simp only [takePusher]; repeat' split) <;> simp_all
  · (simp only [takePusher]; repeat' split) <;> simp_all
  · (simp only [takePusher]; repeat' split) <;> simp_all
  · (simp only [takePusher]; repeat' split) <;> simp_all

/-- What `takePusher` leaves as it is, continued. -/
@[simp] theorem takePusher_frame1 (t : Telegram) (c : Controller) :
    (takePusher t c).table.below = c.table.below ∧ (takePusher t c).table.above = c.table.above ∧
    (takePusher t c).table.nmin = c.table.nmin ∧ (takePusher t c).table.pendT = c.table.pendT ∧
    (takePusher t c).table.pendE = c.table.pendE ∧ (takePusher t c).track.guide = c.track.guide ∧
    (takePusher t c).track.car = c.track.car ∧ (takePusher t c).line.number = c.line.number ∧
    (takePusher t c).line.rx = c.line.rx ∧ (takePusher t c).line.ack = c.line.ack ∧
    (takePusher t c).events.enable = c.events.enable ∧ (takePusher t c).events.carried = c.events.carried := by
  refine ⟨?_, ?_, ?_, ?_, ?_, ?_, ?_, ?_, ?_, ?_, ?_, ?_⟩
  · (simp only [takePusher]; repeat' split) <;> simp_all
  · (simp only [takePusher]; repeat' split) <;> simp_all
  · (simp only [takePusher]; repeat' split) <;> simp_all
  · (simp only [takePusher]; repeat' split) <;> simp_all
  · (simp only [takePusher]; repeat' split) <;> simp_all
  · (simp only [takePusher]; repeat' split) <;> simp_all
  · (simp only [takePusher]; repeat' split) <;> simp_all
  · (simp only [takePusher]; repeat' split) <;> simp_all
  · (simp only [takePusher]; repeat' split) <;> simp_all
  · (simp only [takePusher]; repeat' split) <;> simp_all
  · (simp only [takePusher]; repeat' split) <;> simp_all
  · (simp only [takePusher]; repeat' split) <;> simp_all

/-- What `takePusher` leaves as it is, continued. -/
@[simp] theorem takePusher_frame2 (t : Telegram) (c : Controller) :
    (takePusher t c).reg.cycle = c.reg.cycle ∧ (takePusher t c).reg.period = c.reg.period ∧
    (takePusher t c).reg.answer = c.reg.answer ∧ (takePusher t c).reg.mainSend = c.reg.mainSend ∧
    (takePusher t c).reg.framesOn = c.reg.framesOn ∧ (takePusher t c).reg.main.tap = c.reg.main.tap ∧
    (takePusher t c).reg.main.value = c.reg.main.value ∧ (takePusher t c).reg.main.invalid = c.reg.main.invalid ∧
    (takePusher t c).reg.main.age = c.reg.main.age ∧ (takePusher t c).reg.main.stale = c.reg.main.stale := by
  refine ⟨?_, ?_, ?_, ?_, ?_, ?_, ?_, ?_, ?_, ?_⟩
  · (simp only [takePusher]; repeat' split) <;> simp_all
  · (simp only [takePusher]; repeat' split) <;> simp_all
  · (simp only [takePusher]; repeat' split) <;> simp_all
  · (simp only [takePusher]; repeat' split) <;> simp_all
  · (simp only [takePusher]; repeat' split) <;> simp_all
  · (simp only [takePusher]; repeat' split) <;> simp_all
  · (simp only [takePusher]; repeat' split) <;> simp_all
  · (simp only [takePusher]; repeat' split) <;> simp_all
  · (simp only [takePusher]; repeat' split) <;> simp_all
  · (simp only [takePusher]; repeat' split) <;> simp_all

/-- What `takeGuide` leaves as it is. -/
@[simp] theorem takeGuide_frame (t : Telegram) (c : Controller) :
    (takeGuide t c).start = c.start ∧ (takeGuide t c).time = c.time ∧ (takeGuide t c).table = c.table ∧
    (takeGuide t c).round = c.round ∧ (takeGuide t c).held = c.held ∧ (takeGuide t c).doors = c.doors ∧
    (takeGuide t c).scan = c.scan := by
  refine ⟨?_, ?_, ?_, ?_, ?_, ?_, ?_⟩
  · (simp only [takeGuide]; repeat' split) <;> simp_all
  · (simp only [takeGuide]; repeat' split) <;> simp_all
  · (simp only [takeGuide]; repeat' split) <;> simp_all
  · (simp only [takeGuide]; repeat' split) <;> simp_all
  · (simp only [takeGuide]; repeat' split) <;> simp_all
  · (simp only [takeGuide]; repeat' split) <;> simp_all
  · (simp only [takeGuide]; repeat' split) <;> simp_all

/-- What `takeGuide` leaves as it is, continued. -/
@[simp] theorem takeGuide_frame1 (t : Telegram) (c : Controller) :
    (takeGuide t c).track.pusher = c.track.pusher ∧ (takeGuide t c).track.car = c.track.car ∧
    (takeGuide t c).line.number = c.line.number ∧ (takeGuide t c).line.rx = c.line.rx ∧
    (takeGuide t c).line.ack = c.line.ack ∧ (takeGuide t c).events.enable = c.events.enable ∧
    (takeGuide t c).events.carried = c.events.carried ∧ (takeGuide t c).reg.cycle = c.reg.cycle ∧
    (takeGuide t c).reg.period = c.reg.period ∧ (takeGuide t c).reg.answer = c.reg.answer ∧
    (takeGuide t c).reg.mainSend = c.reg.mainSend ∧ (takeGuide t c).reg.frame = c.reg.frame := by
  refine ⟨?_, ?_, ?_, ?_, ?_, ?_, ?_, ?_, ?_, ?_, ?_, ?_⟩
  · (simp only [takeGuide]; repeat' split) <;> simp_all
  · (simp only [takeGuide]; repeat' split) <;> simp_all
  · (simp only [takeGuide]; repeat' split) <;> simp_all
  · (simp only [takeGuide]; repeat' split) <;> simp_all
  · (simp only [takeGuide]; repeat' split) <;> simp_all
  · (simp only [takeGuide]; repeat' split) <;> simp_all
  · (simp only [takeGuide]; repeat' split) <;> simp_all
  · (simp only [takeGuide]; repeat' split) <;> simp_all
  · (simp only [takeGuide]; repeat' split) <;> simp_all
  · (simp only [takeGuide]; repeat' split) <;> simp_all
  · (simp only [takeGuide]; repeat' split) <;> simp_all
  · (simp only [takeGuide]; repeat' split) <;> simp_all

/-- What `takeGuide` leaves as it is, continued. -/
@[simp] theorem takeGuide_frame2 (t : Telegram) (c : Controller) :
    (takeGuide t c).reg.frameHeld = c.reg.frameHeld ∧ (takeGuide t c).reg.framesOn = c.reg.framesOn ∧
    (takeGuide t c).reg.main.tap = c.reg.main.tap ∧ (takeGuide t c).reg.main.value = c.reg.main.value ∧
    (takeGuide t c).reg.main.invalid = c.reg.main.invalid ∧ (takeGuide t c).reg.main.age = c.reg.main.age ∧
    (takeGuide t c).reg.main.stale = c.reg.main.stale := by
  refine ⟨?_, ?_, ?_, ?_, ?_, ?_, ?_⟩
  · (simp only [takeGuide]; repeat' split) <;> simp_all
  · (simp only [takeGuide]; repeat' split) <;> simp_all
  · (simp only [takeGuide]; repeat' split) <;> simp_all
  · (simp only [takeGuide]; repeat' split) <;> simp_all
  · (simp only [takeGuide]; repeat' split) <;> simp_all
  · (simp only [takeGuide]; repeat' split) <;> simp_all
  · (simp only [takeGuide]; repeat' split) <;> simp_all

/-- What `takeQcar` leaves as it is. -/
@[simp] theorem takeQcar_frame (t : Telegram) (c : Controller) :
    (takeQcar t c).start = c.start ∧ (takeQcar t c).time = c.time ∧ (takeQcar t c).table = c.table ∧
    (takeQcar t c).round = c.round ∧ (takeQcar t c).held = c.held ∧ (takeQcar t c).doors = c.doors ∧
    (takeQcar t c).scan = c.scan := by
  refine ⟨?_, ?_, ?_, ?_, ?_, ?_, ?_⟩
  · (simp only [takeQcar]; repeat' split) <;> simp_all
  · (simp only [takeQcar]; repeat' split) <;> simp_all
  · (simp only [takeQcar]; repeat' split) <;> simp_all
  · (simp only [takeQcar]; repeat' split) <;> simp_all
  · (simp only [takeQcar]; repeat' split) <;> simp_all
  · (simp only [takeQcar]; repeat' split) <;> simp_all
  · (simp only [takeQcar]; repeat' split) <;> simp_all

/-- What `takeQcar` leaves as it is, continued. -/
@[simp] theorem takeQcar_frame1 (t : Telegram) (c : Controller) :
    (takeQcar t c).track.pusher = c.track.pusher ∧ (takeQcar t c).track.guide = c.track.guide ∧
    (takeQcar t c).line.number = c.line.number ∧ (takeQcar t c).line.rx = c.line.rx ∧
    (takeQcar t c).line.ack = c.line.ack ∧ (takeQcar t c).events.enable = c.events.enable ∧
    (takeQcar t c).events.carried = c.events.carried ∧ (takeQcar t c).reg.cycle = c.reg.cycle ∧
    (takeQcar t c).reg.period = c.reg.period ∧ (takeQcar t c).reg.answer = c.reg.answer ∧
    (takeQcar t c).reg.mainSend = c.reg.mainSend ∧ (takeQcar t c).reg.frame = c.reg.frame := by
  refine ⟨?_, ?_, ?_, ?_, ?_, ?_, ?_, ?_, ?_, ?_, ?_, ?_⟩
  · (simp only [takeQcar]; repeat' split) <;> simp_all
  · (simp only [takeQcar]; repeat' split) <;> simp_all
  · (simp only [takeQcar]; repeat' split) <;> simp_all
  · (simp only [takeQcar]; repeat' split) <;> simp_all
  · (simp only [takeQcar]; repeat' split) <;> simp_all
  · (simp only [takeQcar]; repeat' split) <;> simp_all
  · (simp only [takeQcar]; repeat' split) <;> simp_all
  · (simp only [takeQcar]; repeat' split) <;> simp_all
  · (simp only [takeQcar]; repeat' split) <;> simp_all
  · (simp only [takeQcar]; repeat' split) <;> simp_all
  · (simp only [takeQcar]; repeat' split) <;> simp_all
  · (simp only [takeQcar]; repeat' split) <;> simp_all

/-- What `takeQcar` leaves as it is, continued. -/
@[simp] theorem takeQcar_frame2 (t : Telegram) (c : Controller) :
    (takeQcar t c).reg.frameHeld = c.reg.frameHeld ∧ (takeQcar t c).reg.framesOn = c.reg.framesOn ∧
    (takeQcar t c).reg.main.tap = c.reg.main.tap ∧ (takeQcar t c).reg.main.value = c.reg.main.value ∧
    (takeQcar t c).reg.main.invalid = c.reg.main.invalid ∧ (takeQcar t c).reg.main.age = c.reg.main.age ∧
    (takeQcar t c).reg.main.stale = c.reg.main.stale := by
  refine ⟨?_, ?_, ?_, ?_, ?_, ?_, ?_⟩
  · (simp only [takeQcar]; repeat' split) <;> simp_all
  · (simp only [takeQcar]; repeat' split) <;> simp_all
  · (simp only [takeQcar]; repeat' split) <;> simp_all
  · (simp only [takeQcar]; repeat' split) <;> simp_all
  · (simp only [takeQcar]; repeat' split) <;> simp_all
  · (simp only [takeQcar]; repeat' split) <;> simp_all
  · (simp only [takeQcar]; repeat' split) <;> simp_all

/-- What `machineGoesStale` leaves as it is. -/
@[simp] theorem machineGoesStale_frame (m : MachineId) (c : Controller) :
    (machineGoesStale m c).start = c.start ∧ (machineGoesStale m c).time = c.time ∧
    (machineGoesStale m c).table = c.table ∧ (machineGoesStale m c).round = c.round ∧
    (machineGoesStale m c).held = c.held ∧ (machineGoesStale m c).doors = c.doors ∧
    (machineGoesStale m c).scan = c.scan := by
  refine ⟨?_, ?_, ?_, ?_, ?_, ?_, ?_⟩
  · (simp only [machineGoesStale]; repeat' split) <;> simp_all
  · (simp only [machineGoesStale]; repeat' split) <;> simp_all
  · (simp only [machineGoesStale]; repeat' split) <;> simp_all
  · (simp only [machineGoesStale]; repeat' split) <;> simp_all
  · (simp only [machineGoesStale]; repeat' split) <;> simp_all
  · (simp only [machineGoesStale]; repeat' split) <;> simp_all
  · (simp only [machineGoesStale]; repeat' split) <;> simp_all

/-- What `machineGoesStale` leaves as it is, continued. -/
@[simp] theorem machineGoesStale_frame1 (m : MachineId) (c : Controller) :
    (machineGoesStale m c).line.number = c.line.number ∧ (machineGoesStale m c).line.rx = c.line.rx ∧
    (machineGoesStale m c).line.ack = c.line.ack ∧ (machineGoesStale m c).events.enable = c.events.enable ∧
    (machineGoesStale m c).events.carried = c.events.carried ∧ (machineGoesStale m c).reg.cycle = c.reg.cycle ∧
    (machineGoesStale m c).reg.period = c.reg.period ∧ (machineGoesStale m c).reg.answer = c.reg.answer ∧
    (machineGoesStale m c).reg.mainSend = c.reg.mainSend ∧ (machineGoesStale m c).reg.frame = c.reg.frame ∧
    (machineGoesStale m c).reg.frameHeld = c.reg.frameHeld ∧ (machineGoesStale m c).reg.framesOn = c.reg.framesOn := by
  refine ⟨?_, ?_, ?_, ?_, ?_, ?_, ?_, ?_, ?_, ?_, ?_, ?_⟩
  · (simp only [machineGoesStale]; repeat' split) <;> simp_all
  · (simp only [machineGoesStale]; repeat' split) <;> simp_all
  · (simp only [machineGoesStale]; repeat' split) <;> simp_all
  · (simp only [machineGoesStale]; repeat' split) <;> simp_all
  · (simp only [machineGoesStale]; repeat' split) <;> simp_all
  · (simp only [machineGoesStale]; repeat' split) <;> simp_all
  · (simp only [machineGoesStale]; repeat' split) <;> simp_all
  · (simp only [machineGoesStale]; repeat' split) <;> simp_all
  · (simp only [machineGoesStale]; repeat' split) <;> simp_all
  · (simp only [machineGoesStale]; repeat' split) <;> simp_all
  · (simp only [machineGoesStale]; repeat' split) <;> simp_all
  · (simp only [machineGoesStale]; repeat' split) <;> simp_all

/-- What `machineGoesStale` leaves as it is, continued. -/
@[simp] theorem machineGoesStale_frame2 (m : MachineId) (c : Controller) :
    (machineGoesStale m c).reg.main.tap = c.reg.main.tap ∧
    (machineGoesStale m c).reg.main.value = c.reg.main.value ∧
    (machineGoesStale m c).reg.main.invalid = c.reg.main.invalid ∧
    (machineGoesStale m c).reg.main.age = c.reg.main.age ∧ (machineGoesStale m c).reg.main.stale = c.reg.main.stale := by
  refine ⟨?_, ?_, ?_, ?_, ?_⟩
  · (simp only [machineGoesStale]; repeat' split) <;> simp_all
  · (simp only [machineGoesStale]; repeat' split) <;> simp_all
  · (simp only [machineGoesStale]; repeat' split) <;> simp_all
  · (simp only [machineGoesStale]; repeat' split) <;> simp_all
  · (simp only [machineGoesStale]; repeat' split) <;> simp_all

/-- What `travelExpires` leaves as it is. -/
@[simp] theorem travelExpires_frame (c : Controller) :
    (travelExpires c).start = c.start ∧ (travelExpires c).time = c.time ∧ (travelExpires c).round = c.round ∧
    (travelExpires c).held = c.held ∧ (travelExpires c).doors = c.doors ∧ (travelExpires c).scan = c.scan := by
  refine ⟨?_, ?_, ?_, ?_, ?_, ?_⟩
  · (simp only [travelExpires]; repeat' split) <;> simp_all
  · (simp only [travelExpires]; repeat' split) <;> simp_all
  · (simp only [travelExpires]; repeat' split) <;> simp_all
  · (simp only [travelExpires]; repeat' split) <;> simp_all
  · (simp only [travelExpires]; repeat' split) <;> simp_all
  · (simp only [travelExpires]; repeat' split) <;> simp_all

/-- What `travelExpires` leaves as it is, continued. -/
@[simp] theorem travelExpires_frame1 (c : Controller) :
    (travelExpires c).table.below = c.table.below ∧ (travelExpires c).table.above = c.table.above ∧
    (travelExpires c).table.nmin = c.table.nmin ∧ (travelExpires c).table.pendT = c.table.pendT ∧
    (travelExpires c).table.pendE = c.table.pendE ∧ (travelExpires c).track.pusher = c.track.pusher ∧
    (travelExpires c).track.guide = c.track.guide ∧ (travelExpires c).track.car = c.track.car ∧
    (travelExpires c).line.number = c.line.number ∧ (travelExpires c).line.rx = c.line.rx ∧
    (travelExpires c).line.ack = c.line.ack ∧ (travelExpires c).events.enable = c.events.enable := by
  refine ⟨?_, ?_, ?_, ?_, ?_, ?_, ?_, ?_, ?_, ?_, ?_, ?_⟩
  · (simp only [travelExpires]; repeat' split) <;> simp_all
  · (simp only [travelExpires]; repeat' split) <;> simp_all
  · (simp only [travelExpires]; repeat' split) <;> simp_all
  · (simp only [travelExpires]; repeat' split) <;> simp_all
  · (simp only [travelExpires]; repeat' split) <;> simp_all
  · (simp only [travelExpires]; repeat' split) <;> simp_all
  · (simp only [travelExpires]; repeat' split) <;> simp_all
  · (simp only [travelExpires]; repeat' split) <;> simp_all
  · (simp only [travelExpires]; repeat' split) <;> simp_all
  · (simp only [travelExpires]; repeat' split) <;> simp_all
  · (simp only [travelExpires]; repeat' split) <;> simp_all
  · (simp only [travelExpires]; repeat' split) <;> simp_all

/-- What `travelExpires` leaves as it is, continued. -/
@[simp] theorem travelExpires_frame2 (c : Controller) :
    (travelExpires c).events.carried = c.events.carried ∧ (travelExpires c).reg.cycle = c.reg.cycle ∧
    (travelExpires c).reg.period = c.reg.period ∧ (travelExpires c).reg.answer = c.reg.answer ∧
    (travelExpires c).reg.mainSend = c.reg.mainSend ∧ (travelExpires c).reg.framesOn = c.reg.framesOn ∧
    (travelExpires c).reg.main.tap = c.reg.main.tap ∧ (travelExpires c).reg.main.value = c.reg.main.value ∧
    (travelExpires c).reg.main.invalid = c.reg.main.invalid ∧ (travelExpires c).reg.main.age = c.reg.main.age ∧
    (travelExpires c).reg.main.stale = c.reg.main.stale := by
  refine ⟨?_, ?_, ?_, ?_, ?_, ?_, ?_, ?_, ?_, ?_, ?_⟩
  · (simp only [travelExpires]; repeat' split) <;> simp_all
  · (simp only [travelExpires]; repeat' split) <;> simp_all
  · (simp only [travelExpires]; repeat' split) <;> simp_all
  · (simp only [travelExpires]; repeat' split) <;> simp_all
  · (simp only [travelExpires]; repeat' split) <;> simp_all
  · (simp only [travelExpires]; repeat' split) <;> simp_all
  · (simp only [travelExpires]; repeat' split) <;> simp_all
  · (simp only [travelExpires]; repeat' split) <;> simp_all
  · (simp only [travelExpires]; repeat' split) <;> simp_all
  · (simp only [travelExpires]; repeat' split) <;> simp_all
  · (simp only [travelExpires]; repeat' split) <;> simp_all

/-- What `tableSetPhase` leaves as it is. -/
@[simp] theorem tableSetPhase_frame (i : Nat) (p : Phase) (c : Controller) :
    (tableSetPhase i p c).start = c.start ∧ (tableSetPhase i p c).time = c.time ∧
    (tableSetPhase i p c).round = c.round ∧ (tableSetPhase i p c).held = c.held ∧
    (tableSetPhase i p c).doors = c.doors ∧ (tableSetPhase i p c).scan = c.scan ∧
    (tableSetPhase i p c).table.below = c.table.below ∧ (tableSetPhase i p c).table.above = c.table.above ∧
    (tableSetPhase i p c).table.nmin = c.table.nmin ∧ (tableSetPhase i p c).table.pendT = c.table.pendT ∧
    (tableSetPhase i p c).table.pendE = c.table.pendE ∧ (tableSetPhase i p c).track.pusher = c.track.pusher ∧
    (tableSetPhase i p c).track.guide = c.track.guide ∧ (tableSetPhase i p c).track.car = c.track.car ∧
    (tableSetPhase i p c).line.number = c.line.number ∧ (tableSetPhase i p c).line.rx = c.line.rx ∧
    (tableSetPhase i p c).line.ack = c.line.ack ∧ (tableSetPhase i p c).events.enable = c.events.enable ∧
    (tableSetPhase i p c).events.carried = c.events.carried ∧ (tableSetPhase i p c).reg.cycle = c.reg.cycle ∧
    (tableSetPhase i p c).reg.period = c.reg.period ∧ (tableSetPhase i p c).reg.answer = c.reg.answer ∧
    (tableSetPhase i p c).reg.mainSend = c.reg.mainSend ∧ (tableSetPhase i p c).reg.framesOn = c.reg.framesOn ∧
    (tableSetPhase i p c).reg.main.tap = c.reg.main.tap ∧ (tableSetPhase i p c).reg.main.value = c.reg.main.value ∧
    (tableSetPhase i p c).reg.main.invalid = c.reg.main.invalid ∧
    (tableSetPhase i p c).reg.main.age = c.reg.main.age ∧ (tableSetPhase i p c).reg.main.stale = c.reg.main.stale := by
  simp [tableSetPhase]

/-- What `chargeStartAt` leaves as it is. -/
@[simp] theorem chargeStartAt_frame (i : Nat) (c : Controller) :
    (chargeStartAt i c).start = c.start ∧ (chargeStartAt i c).time = c.time ∧ (chargeStartAt i c).round = c.round ∧
    (chargeStartAt i c).held = c.held ∧ (chargeStartAt i c).doors = c.doors ∧ (chargeStartAt i c).scan = c.scan := by
  refine ⟨?_, ?_, ?_, ?_, ?_, ?_⟩
  · (simp only [chargeStartAt]; repeat' split) <;> simp_all
  · (simp only [chargeStartAt]; repeat' split) <;> simp_all
  · (simp only [chargeStartAt]; repeat' split) <;> simp_all
  · (simp only [chargeStartAt]; repeat' split) <;> simp_all
  · (simp only [chargeStartAt]; repeat' split) <;> simp_all
  · (simp only [chargeStartAt]; repeat' split) <;> simp_all

/-- What `chargeStartAt` leaves as it is, continued. -/
@[simp] theorem chargeStartAt_frame1 (i : Nat) (c : Controller) :
    (chargeStartAt i c).table.below = c.table.below ∧ (chargeStartAt i c).table.above = c.table.above ∧
    (chargeStartAt i c).table.nmin = c.table.nmin ∧ (chargeStartAt i c).table.pendT = c.table.pendT ∧
    (chargeStartAt i c).table.pendE = c.table.pendE ∧ (chargeStartAt i c).track.pusher = c.track.pusher ∧
    (chargeStartAt i c).track.guide = c.track.guide ∧ (chargeStartAt i c).track.car = c.track.car ∧
    (chargeStartAt i c).line.number = c.line.number ∧ (chargeStartAt i c).line.rx = c.line.rx ∧
    (chargeStartAt i c).line.ack = c.line.ack ∧ (chargeStartAt i c).events.enable = c.events.enable := by
  refine ⟨?_, ?_, ?_, ?_, ?_, ?_, ?_, ?_, ?_, ?_, ?_, ?_⟩
  · (simp only [chargeStartAt]; repeat' split) <;> simp_all
  · (simp only [chargeStartAt]; repeat' split) <;> simp_all
  · (simp only [chargeStartAt]; repeat' split) <;> simp_all
  · (simp only [chargeStartAt]; repeat' split) <;> simp_all
  · (simp only [chargeStartAt]; repeat' split) <;> simp_all
  · (simp only [chargeStartAt]; repeat' split) <;> simp_all
  · (simp only [chargeStartAt]; repeat' split) <;> simp_all
  · (simp only [chargeStartAt]; repeat' split) <;> simp_all
  · (simp only [chargeStartAt]; repeat' split) <;> simp_all
  · (simp only [chargeStartAt]; repeat' split) <;> simp_all
  · (simp only [chargeStartAt]; repeat' split) <;> simp_all
  · (simp only [chargeStartAt]; repeat' split) <;> simp_all

/-- What `chargeStartAt` leaves as it is, continued. -/
@[simp] theorem chargeStartAt_frame2 (i : Nat) (c : Controller) :
    (chargeStartAt i c).events.carried = c.events.carried ∧ (chargeStartAt i c).reg.cycle = c.reg.cycle ∧
    (chargeStartAt i c).reg.period = c.reg.period ∧ (chargeStartAt i c).reg.answer = c.reg.answer ∧
    (chargeStartAt i c).reg.mainSend = c.reg.mainSend ∧ (chargeStartAt i c).reg.framesOn = c.reg.framesOn ∧
    (chargeStartAt i c).reg.main.tap = c.reg.main.tap ∧ (chargeStartAt i c).reg.main.value = c.reg.main.value ∧
    (chargeStartAt i c).reg.main.invalid = c.reg.main.invalid ∧ (chargeStartAt i c).reg.main.age = c.reg.main.age ∧
    (chargeStartAt i c).reg.main.stale = c.reg.main.stale := by
  refine ⟨?_, ?_, ?_, ?_, ?_, ?_, ?_, ?_, ?_, ?_, ?_⟩
  · (simp only [chargeStartAt]; repeat' split) <;> simp_all
  · (simp only [chargeStartAt]; repeat' split) <;> simp_all
  · (simp only [chargeStartAt]; repeat' split) <;> simp_all
  · (simp only [chargeStartAt]; repeat' split) <;> simp_all
  · (simp only [chargeStartAt]; repeat' split) <;> simp_all
  · (simp only [chargeStartAt]; repeat' split) <;> simp_all
  · (simp only [chargeStartAt]; repeat' split) <;> simp_all
  · (simp only [chargeStartAt]; repeat' split) <;> simp_all
  · (simp only [chargeStartAt]; repeat' split) <;> simp_all
  · (simp only [chargeStartAt]; repeat' split) <;> simp_all
  · (simp only [chargeStartAt]; repeat' split) <;> simp_all

/-- What `chargeEndAt` leaves as it is. -/
@[simp] theorem chargeEndAt_frame (i : Nat) (c : Controller) :
    (chargeEndAt i c).start = c.start ∧ (chargeEndAt i c).time = c.time ∧ (chargeEndAt i c).round = c.round ∧
    (chargeEndAt i c).held = c.held ∧ (chargeEndAt i c).doors = c.doors ∧ (chargeEndAt i c).scan = c.scan := by
  refine ⟨?_, ?_, ?_, ?_, ?_, ?_⟩
  · (simp only [chargeEndAt]; repeat' split) <;> simp_all
  · (simp only [chargeEndAt]; repeat' split) <;> simp_all
  · (simp only [chargeEndAt]; repeat' split) <;> simp_all
  · (simp only [chargeEndAt]; repeat' split) <;> simp_all
  · (simp only [chargeEndAt]; repeat' split) <;> simp_all
  · (simp only [chargeEndAt]; repeat' split) <;> simp_all

/-- What `chargeEndAt` leaves as it is, continued. -/
@[simp] theorem chargeEndAt_frame1 (i : Nat) (c : Controller) :
    (chargeEndAt i c).table.below = c.table.below ∧ (chargeEndAt i c).table.above = c.table.above ∧
    (chargeEndAt i c).table.nmin = c.table.nmin ∧ (chargeEndAt i c).table.pendT = c.table.pendT ∧
    (chargeEndAt i c).table.pendE = c.table.pendE ∧ (chargeEndAt i c).track.pusher = c.track.pusher ∧
    (chargeEndAt i c).track.guide = c.track.guide ∧ (chargeEndAt i c).track.car = c.track.car ∧
    (chargeEndAt i c).line.number = c.line.number ∧ (chargeEndAt i c).line.rx = c.line.rx ∧
    (chargeEndAt i c).line.ack = c.line.ack ∧ (chargeEndAt i c).events.enable = c.events.enable := by
  refine ⟨?_, ?_, ?_, ?_, ?_, ?_, ?_, ?_, ?_, ?_, ?_, ?_⟩
  · (simp only [chargeEndAt]; repeat' split) <;> simp_all
  · (simp only [chargeEndAt]; repeat' split) <;> simp_all
  · (simp only [chargeEndAt]; repeat' split) <;> simp_all
  · (simp only [chargeEndAt]; repeat' split) <;> simp_all
  · (simp only [chargeEndAt]; repeat' split) <;> simp_all
  · (simp only [chargeEndAt]; repeat' split) <;> simp_all
  · (simp only [chargeEndAt]; repeat' split) <;> simp_all
  · (simp only [chargeEndAt]; repeat' split) <;> simp_all
  · (simp only [chargeEndAt]; repeat' split) <;> simp_all
  · (simp only [chargeEndAt]; repeat' split) <;> simp_all
  · (simp only [chargeEndAt]; repeat' split) <;> simp_all
  · (simp only [chargeEndAt]; repeat' split) <;> simp_all

/-- What `chargeEndAt` leaves as it is, continued. -/
@[simp] theorem chargeEndAt_frame2 (i : Nat) (c : Controller) :
    (chargeEndAt i c).events.carried = c.events.carried ∧ (chargeEndAt i c).reg.cycle = c.reg.cycle ∧
    (chargeEndAt i c).reg.period = c.reg.period ∧ (chargeEndAt i c).reg.answer = c.reg.answer ∧
    (chargeEndAt i c).reg.mainSend = c.reg.mainSend ∧ (chargeEndAt i c).reg.framesOn = c.reg.framesOn ∧
    (chargeEndAt i c).reg.main.tap = c.reg.main.tap ∧ (chargeEndAt i c).reg.main.value = c.reg.main.value ∧
    (chargeEndAt i c).reg.main.invalid = c.reg.main.invalid ∧ (chargeEndAt i c).reg.main.age = c.reg.main.age ∧
    (chargeEndAt i c).reg.main.stale = c.reg.main.stale := by
  refine ⟨?_, ?_, ?_, ?_, ?_, ?_, ?_, ?_, ?_, ?_, ?_⟩
  · (simp only [chargeEndAt]; repeat' split) <;> simp_all
  · (simp only [chargeEndAt]; repeat' split) <;> simp_all
  · (simp only [chargeEndAt]; repeat' split) <;> simp_all
  · (simp only [chargeEndAt]; repeat' split) <;> simp_all
  · (simp only [chargeEndAt]; repeat' split) <;> simp_all
  · (simp only [chargeEndAt]; repeat' split) <;> simp_all
  · (simp only [chargeEndAt]; repeat' split) <;> simp_all
  · (simp only [chargeEndAt]; repeat' split) <;> simp_all
  · (simp only [chargeEndAt]; repeat' split) <;> simp_all
  · (simp only [chargeEndAt]; repeat' split) <;> simp_all
  · (simp only [chargeEndAt]; repeat' split) <;> simp_all

/-- What `takeChargeStart` leaves as it is. -/
@[simp] theorem takeChargeStart_frame (t : Telegram) (c : Controller) :
    (takeChargeStart t c).start = c.start ∧ (takeChargeStart t c).time = c.time ∧
    (takeChargeStart t c).round = c.round ∧ (takeChargeStart t c).held = c.held ∧
    (takeChargeStart t c).doors = c.doors ∧ (takeChargeStart t c).scan = c.scan := by
  refine ⟨?_, ?_, ?_, ?_, ?_, ?_⟩
  · (simp only [takeChargeStart]; repeat' split) <;> simp_all
  · (simp only [takeChargeStart]; repeat' split) <;> simp_all
  · (simp only [takeChargeStart]; repeat' split) <;> simp_all
  · (simp only [takeChargeStart]; repeat' split) <;> simp_all
  · (simp only [takeChargeStart]; repeat' split) <;> simp_all
  · (simp only [takeChargeStart]; repeat' split) <;> simp_all

/-- What `takeChargeStart` leaves as it is, continued. -/
@[simp] theorem takeChargeStart_frame1 (t : Telegram) (c : Controller) :
    (takeChargeStart t c).table.below = c.table.below ∧ (takeChargeStart t c).table.above = c.table.above ∧
    (takeChargeStart t c).table.nmin = c.table.nmin ∧ (takeChargeStart t c).table.pendT = c.table.pendT ∧
    (takeChargeStart t c).table.pendE = c.table.pendE ∧ (takeChargeStart t c).track.pusher = c.track.pusher ∧
    (takeChargeStart t c).track.guide = c.track.guide ∧ (takeChargeStart t c).track.car = c.track.car ∧
    (takeChargeStart t c).line.number = c.line.number ∧ (takeChargeStart t c).line.rx = c.line.rx ∧
    (takeChargeStart t c).line.ack = c.line.ack ∧ (takeChargeStart t c).events.enable = c.events.enable := by
  refine ⟨?_, ?_, ?_, ?_, ?_, ?_, ?_, ?_, ?_, ?_, ?_, ?_⟩
  · (simp only [takeChargeStart]; repeat' split) <;> simp_all
  · (simp only [takeChargeStart]; repeat' split) <;> simp_all
  · (simp only [takeChargeStart]; repeat' split) <;> simp_all
  · (simp only [takeChargeStart]; repeat' split) <;> simp_all
  · (simp only [takeChargeStart]; repeat' split) <;> simp_all
  · (simp only [takeChargeStart]; repeat' split) <;> simp_all
  · (simp only [takeChargeStart]; repeat' split) <;> simp_all
  · (simp only [takeChargeStart]; repeat' split) <;> simp_all
  · (simp only [takeChargeStart]; repeat' split) <;> simp_all
  · (simp only [takeChargeStart]; repeat' split) <;> simp_all
  · (simp only [takeChargeStart]; repeat' split) <;> simp_all
  · (simp only [takeChargeStart]; repeat' split) <;> simp_all

/-- What `takeChargeStart` leaves as it is, continued. -/
@[simp] theorem takeChargeStart_frame2 (t : Telegram) (c : Controller) :
    (takeChargeStart t c).events.carried = c.events.carried ∧ (takeChargeStart t c).reg.cycle = c.reg.cycle ∧
    (takeChargeStart t c).reg.period = c.reg.period ∧ (takeChargeStart t c).reg.answer = c.reg.answer ∧
    (takeChargeStart t c).reg.mainSend = c.reg.mainSend ∧ (takeChargeStart t c).reg.framesOn = c.reg.framesOn ∧
    (takeChargeStart t c).reg.main.tap = c.reg.main.tap ∧ (takeChargeStart t c).reg.main.value = c.reg.main.value ∧
    (takeChargeStart t c).reg.main.invalid = c.reg.main.invalid ∧
    (takeChargeStart t c).reg.main.age = c.reg.main.age ∧ (takeChargeStart t c).reg.main.stale = c.reg.main.stale := by
  refine ⟨?_, ?_, ?_, ?_, ?_, ?_, ?_, ?_, ?_, ?_, ?_⟩
  · (simp only [takeChargeStart]; repeat' split) <;> simp_all
  · (simp only [takeChargeStart]; repeat' split) <;> simp_all
  · (simp only [takeChargeStart]; repeat' split) <;> simp_all
  · (simp only [takeChargeStart]; repeat' split) <;> simp_all
  · (simp only [takeChargeStart]; repeat' split) <;> simp_all
  · (simp only [takeChargeStart]; repeat' split) <;> simp_all
  · (simp only [takeChargeStart]; repeat' split) <;> simp_all
  · (simp only [takeChargeStart]; repeat' split) <;> simp_all
  · (simp only [takeChargeStart]; repeat' split) <;> simp_all
  · (simp only [takeChargeStart]; repeat' split) <;> simp_all
  · (simp only [takeChargeStart]; repeat' split) <;> simp_all

/-- What `takeChargeEnd` leaves as it is. -/
@[simp] theorem takeChargeEnd_frame (t : Telegram) (c : Controller) :
    (takeChargeEnd t c).start = c.start ∧ (takeChargeEnd t c).time = c.time ∧ (takeChargeEnd t c).round = c.round ∧
    (takeChargeEnd t c).held = c.held ∧ (takeChargeEnd t c).doors = c.doors ∧ (takeChargeEnd t c).scan = c.scan := by
  refine ⟨?_, ?_, ?_, ?_, ?_, ?_⟩
  · (simp only [takeChargeEnd]; repeat' split) <;> simp_all
  · (simp only [takeChargeEnd]; repeat' split) <;> simp_all
  · (simp only [takeChargeEnd]; repeat' split) <;> simp_all
  · (simp only [takeChargeEnd]; repeat' split) <;> simp_all
  · (simp only [takeChargeEnd]; repeat' split) <;> simp_all
  · (simp only [takeChargeEnd]; repeat' split) <;> simp_all

/-- What `takeChargeEnd` leaves as it is, continued. -/
@[simp] theorem takeChargeEnd_frame1 (t : Telegram) (c : Controller) :
    (takeChargeEnd t c).table.below = c.table.below ∧ (takeChargeEnd t c).table.above = c.table.above ∧
    (takeChargeEnd t c).table.nmin = c.table.nmin ∧ (takeChargeEnd t c).table.pendT = c.table.pendT ∧
    (takeChargeEnd t c).table.pendE = c.table.pendE ∧ (takeChargeEnd t c).track.pusher = c.track.pusher ∧
    (takeChargeEnd t c).track.guide = c.track.guide ∧ (takeChargeEnd t c).track.car = c.track.car ∧
    (takeChargeEnd t c).line.number = c.line.number ∧ (takeChargeEnd t c).line.rx = c.line.rx ∧
    (takeChargeEnd t c).line.ack = c.line.ack ∧ (takeChargeEnd t c).events.enable = c.events.enable := by
  refine ⟨?_, ?_, ?_, ?_, ?_, ?_, ?_, ?_, ?_, ?_, ?_, ?_⟩
  · (simp only [takeChargeEnd]; repeat' split) <;> simp_all
  · (simp only [takeChargeEnd]; repeat' split) <;> simp_all
  · (simp only [takeChargeEnd]; repeat' split) <;> simp_all
  · (simp only [takeChargeEnd]; repeat' split) <;> simp_all
  · (simp only [takeChargeEnd]; repeat' split) <;> simp_all
  · (simp only [takeChargeEnd]; repeat' split) <;> simp_all
  · (simp only [takeChargeEnd]; repeat' split) <;> simp_all
  · (simp only [takeChargeEnd]; repeat' split) <;> simp_all
  · (simp only [takeChargeEnd]; repeat' split) <;> simp_all
  · (simp only [takeChargeEnd]; repeat' split) <;> simp_all
  · (simp only [takeChargeEnd]; repeat' split) <;> simp_all
  · (simp only [takeChargeEnd]; repeat' split) <;> simp_all

/-- What `takeChargeEnd` leaves as it is, continued. -/
@[simp] theorem takeChargeEnd_frame2 (t : Telegram) (c : Controller) :
    (takeChargeEnd t c).events.carried = c.events.carried ∧ (takeChargeEnd t c).reg.cycle = c.reg.cycle ∧
    (takeChargeEnd t c).reg.period = c.reg.period ∧ (takeChargeEnd t c).reg.answer = c.reg.answer ∧
    (takeChargeEnd t c).reg.mainSend = c.reg.mainSend ∧ (takeChargeEnd t c).reg.framesOn = c.reg.framesOn ∧
    (takeChargeEnd t c).reg.main.tap = c.reg.main.tap ∧ (takeChargeEnd t c).reg.main.value = c.reg.main.value ∧
    (takeChargeEnd t c).reg.main.invalid = c.reg.main.invalid ∧ (takeChargeEnd t c).reg.main.age = c.reg.main.age ∧
    (takeChargeEnd t c).reg.main.stale = c.reg.main.stale := by
  refine ⟨?_, ?_, ?_, ?_, ?_, ?_, ?_, ?_, ?_, ?_, ?_⟩
  · (simp only [takeChargeEnd]; repeat' split) <;> simp_all
  · (simp only [takeChargeEnd]; repeat' split) <;> simp_all
  · (simp only [takeChargeEnd]; repeat' split) <;> simp_all
  · (simp only [takeChargeEnd]; repeat' split) <;> simp_all
  · (simp only [takeChargeEnd]; repeat' split) <;> simp_all
  · (simp only [takeChargeEnd]; repeat' split) <;> simp_all
  · (simp only [takeChargeEnd]; repeat' split) <;> simp_all
  · (simp only [takeChargeEnd]; repeat' split) <;> simp_all
  · (simp only [takeChargeEnd]; repeat' split) <;> simp_all
  · (simp only [takeChargeEnd]; repeat' split) <;> simp_all
  · (simp only [takeChargeEnd]; repeat' split) <;> simp_all

/-- What `takeSeed` leaves as it is. -/
@[simp] theorem takeSeed_frame (t : Telegram) (c : Controller) :
    (takeSeed t c).start = c.start ∧ (takeSeed t c).time = c.time ∧ (takeSeed t c).round = c.round ∧
    (takeSeed t c).held = c.held ∧ (takeSeed t c).doors = c.doors ∧ (takeSeed t c).scan = c.scan := by
  refine ⟨?_, ?_, ?_, ?_, ?_, ?_⟩
  · (simp only [takeSeed]; repeat' split) <;> simp_all
  · (simp only [takeSeed]; repeat' split) <;> simp_all
  · (simp only [takeSeed]; repeat' split) <;> simp_all
  · (simp only [takeSeed]; repeat' split) <;> simp_all
  · (simp only [takeSeed]; repeat' split) <;> simp_all
  · (simp only [takeSeed]; repeat' split) <;> simp_all

/-- What `takeSeed` leaves as it is, continued. -/
@[simp] theorem takeSeed_frame1 (t : Telegram) (c : Controller) :
    (takeSeed t c).table.below = c.table.below ∧ (takeSeed t c).table.above = c.table.above ∧
    (takeSeed t c).table.nmin = c.table.nmin ∧ (takeSeed t c).table.pendT = c.table.pendT ∧
    (takeSeed t c).table.pendE = c.table.pendE ∧ (takeSeed t c).track.pusher = c.track.pusher ∧
    (takeSeed t c).track.guide = c.track.guide ∧ (takeSeed t c).track.car = c.track.car ∧
    (takeSeed t c).line.number = c.line.number ∧ (takeSeed t c).line.rx = c.line.rx ∧
    (takeSeed t c).line.ack = c.line.ack ∧ (takeSeed t c).events.enable = c.events.enable := by
  refine ⟨?_, ?_, ?_, ?_, ?_, ?_, ?_, ?_, ?_, ?_, ?_, ?_⟩
  · (simp only [takeSeed]; repeat' split) <;> simp_all
  · (simp only [takeSeed]; repeat' split) <;> simp_all
  · (simp only [takeSeed]; repeat' split) <;> simp_all
  · (simp only [takeSeed]; repeat' split) <;> simp_all
  · (simp only [takeSeed]; repeat' split) <;> simp_all
  · (simp only [takeSeed]; repeat' split) <;> simp_all
  · (simp only [takeSeed]; repeat' split) <;> simp_all
  · (simp only [takeSeed]; repeat' split) <;> simp_all
  · (simp only [takeSeed]; repeat' split) <;> simp_all
  · (simp only [takeSeed]; repeat' split) <;> simp_all
  · (simp only [takeSeed]; repeat' split) <;> simp_all
  · (simp only [takeSeed]; repeat' split) <;> simp_all

/-- What `takeSeed` leaves as it is, continued. -/
@[simp] theorem takeSeed_frame2 (t : Telegram) (c : Controller) :
    (takeSeed t c).events.carried = c.events.carried ∧ (takeSeed t c).reg.cycle = c.reg.cycle ∧
    (takeSeed t c).reg.period = c.reg.period ∧ (takeSeed t c).reg.answer = c.reg.answer ∧
    (takeSeed t c).reg.mainSend = c.reg.mainSend ∧ (takeSeed t c).reg.framesOn = c.reg.framesOn ∧
    (takeSeed t c).reg.main.tap = c.reg.main.tap ∧ (takeSeed t c).reg.main.value = c.reg.main.value ∧
    (takeSeed t c).reg.main.invalid = c.reg.main.invalid ∧ (takeSeed t c).reg.main.age = c.reg.main.age ∧
    (takeSeed t c).reg.main.stale = c.reg.main.stale := by
  refine ⟨?_, ?_, ?_, ?_, ?_, ?_, ?_, ?_, ?_, ?_, ?_⟩
  · (simp only [takeSeed]; repeat' split) <;> simp_all
  · (simp only [takeSeed]; repeat' split) <;> simp_all
  · (simp only [takeSeed]; repeat' split) <;> simp_all
  · (simp only [takeSeed]; repeat' split) <;> simp_all
  · (simp only [takeSeed]; repeat' split) <;> simp_all
  · (simp only [takeSeed]; repeat' split) <;> simp_all
  · (simp only [takeSeed]; repeat' split) <;> simp_all
  · (simp only [takeSeed]; repeat' split) <;> simp_all
  · (simp only [takeSeed]; repeat' split) <;> simp_all
  · (simp only [takeSeed]; repeat' split) <;> simp_all
  · (simp only [takeSeed]; repeat' split) <;> simp_all

/-- What `takeClearSticker` leaves as it is. -/
@[simp] theorem takeClearSticker_frame (t : Telegram) (c : Controller) :
    (takeClearSticker t c).start = c.start ∧ (takeClearSticker t c).time = c.time ∧
    (takeClearSticker t c).round = c.round ∧ (takeClearSticker t c).held = c.held ∧
    (takeClearSticker t c).doors = c.doors ∧ (takeClearSticker t c).scan = c.scan := by
  refine ⟨?_, ?_, ?_, ?_, ?_, ?_⟩
  · (simp only [takeClearSticker]; repeat' split) <;> simp_all
  · (simp only [takeClearSticker]; repeat' split) <;> simp_all
  · (simp only [takeClearSticker]; repeat' split) <;> simp_all
  · (simp only [takeClearSticker]; repeat' split) <;> simp_all
  · (simp only [takeClearSticker]; repeat' split) <;> simp_all
  · (simp only [takeClearSticker]; repeat' split) <;> simp_all

/-- What `takeClearSticker` leaves as it is, continued. -/
@[simp] theorem takeClearSticker_frame1 (t : Telegram) (c : Controller) :
    (takeClearSticker t c).table.below = c.table.below ∧ (takeClearSticker t c).table.above = c.table.above ∧
    (takeClearSticker t c).table.nmin = c.table.nmin ∧ (takeClearSticker t c).table.pendT = c.table.pendT ∧
    (takeClearSticker t c).table.pendE = c.table.pendE ∧ (takeClearSticker t c).track.pusher = c.track.pusher ∧
    (takeClearSticker t c).track.guide = c.track.guide ∧ (takeClearSticker t c).track.car = c.track.car ∧
    (takeClearSticker t c).line.number = c.line.number ∧ (takeClearSticker t c).line.rx = c.line.rx ∧
    (takeClearSticker t c).line.ack = c.line.ack ∧ (takeClearSticker t c).events.enable = c.events.enable := by
  refine ⟨?_, ?_, ?_, ?_, ?_, ?_, ?_, ?_, ?_, ?_, ?_, ?_⟩
  · (simp only [takeClearSticker]; repeat' split) <;> simp_all
  · (simp only [takeClearSticker]; repeat' split) <;> simp_all
  · (simp only [takeClearSticker]; repeat' split) <;> simp_all
  · (simp only [takeClearSticker]; repeat' split) <;> simp_all
  · (simp only [takeClearSticker]; repeat' split) <;> simp_all
  · (simp only [takeClearSticker]; repeat' split) <;> simp_all
  · (simp only [takeClearSticker]; repeat' split) <;> simp_all
  · (simp only [takeClearSticker]; repeat' split) <;> simp_all
  · (simp only [takeClearSticker]; repeat' split) <;> simp_all
  · (simp only [takeClearSticker]; repeat' split) <;> simp_all
  · (simp only [takeClearSticker]; repeat' split) <;> simp_all
  · (simp only [takeClearSticker]; repeat' split) <;> simp_all

/-- What `takeClearSticker` leaves as it is, continued. -/
@[simp] theorem takeClearSticker_frame2 (t : Telegram) (c : Controller) :
    (takeClearSticker t c).events.carried = c.events.carried ∧ (takeClearSticker t c).reg.cycle = c.reg.cycle ∧
    (takeClearSticker t c).reg.period = c.reg.period ∧ (takeClearSticker t c).reg.answer = c.reg.answer ∧
    (takeClearSticker t c).reg.mainSend = c.reg.mainSend ∧ (takeClearSticker t c).reg.framesOn = c.reg.framesOn ∧
    (takeClearSticker t c).reg.main.tap = c.reg.main.tap ∧
    (takeClearSticker t c).reg.main.value = c.reg.main.value ∧
    (takeClearSticker t c).reg.main.invalid = c.reg.main.invalid ∧
    (takeClearSticker t c).reg.main.age = c.reg.main.age ∧ (takeClearSticker t c).reg.main.stale = c.reg.main.stale := by
  refine ⟨?_, ?_, ?_, ?_, ?_, ?_, ?_, ?_, ?_, ?_, ?_⟩
  · (simp only [takeClearSticker]; repeat' split) <;> simp_all
  · (simp only [takeClearSticker]; repeat' split) <;> simp_all
  · (simp only [takeClearSticker]; repeat' split) <;> simp_all
  · (simp only [takeClearSticker]; repeat' split) <;> simp_all
  · (simp only [takeClearSticker]; repeat' split) <;> simp_all
  · (simp only [takeClearSticker]; repeat' split) <;> simp_all
  · (simp only [takeClearSticker]; repeat' split) <;> simp_all
  · (simp only [takeClearSticker]; repeat' split) <;> simp_all
  · (simp only [takeClearSticker]; repeat' split) <;> simp_all
  · (simp only [takeClearSticker]; repeat' split) <;> simp_all
  · (simp only [takeClearSticker]; repeat' split) <;> simp_all

/-- What `takeClearHardcount` leaves as it is. -/
@[simp] theorem takeClearHardcount_frame (t : Telegram) (c : Controller) :
    (takeClearHardcount t c).start = c.start ∧ (takeClearHardcount t c).time = c.time ∧
    (takeClearHardcount t c).round = c.round ∧ (takeClearHardcount t c).held = c.held ∧
    (takeClearHardcount t c).doors = c.doors ∧ (takeClearHardcount t c).scan = c.scan ∧
    (takeClearHardcount t c).due = c.due ∧ (takeClearHardcount t c).track = c.track ∧
    (takeClearHardcount t c).line = c.line ∧ (takeClearHardcount t c).job = c.job ∧
    (takeClearHardcount t c).events = c.events ∧ (takeClearHardcount t c).reg = c.reg := by
  refine ⟨?_, ?_, ?_, ?_, ?_, ?_, ?_, ?_, ?_, ?_, ?_, ?_⟩
  · (simp only [takeClearHardcount]; repeat' split) <;> simp_all
  · (simp only [takeClearHardcount]; repeat' split) <;> simp_all
  · (simp only [takeClearHardcount]; repeat' split) <;> simp_all
  · (simp only [takeClearHardcount]; repeat' split) <;> simp_all
  · (simp only [takeClearHardcount]; repeat' split) <;> simp_all
  · (simp only [takeClearHardcount]; repeat' split) <;> simp_all
  · (simp only [takeClearHardcount]; repeat' split) <;> simp_all
  · (simp only [takeClearHardcount]; repeat' split) <;> simp_all
  · (simp only [takeClearHardcount]; repeat' split) <;> simp_all
  · (simp only [takeClearHardcount]; repeat' split) <;> simp_all
  · (simp only [takeClearHardcount]; repeat' split) <;> simp_all
  · (simp only [takeClearHardcount]; repeat' split) <;> simp_all

/-- What `takeClearHardcount` leaves as it is, continued. -/
@[simp] theorem takeClearHardcount_frame1 (t : Telegram) (c : Controller) :
    (takeClearHardcount t c).table.below = c.table.below ∧ (takeClearHardcount t c).table.above = c.table.above ∧
    (takeClearHardcount t c).table.nmin = c.table.nmin ∧ (takeClearHardcount t c).table.pendT = c.table.pendT ∧
    (takeClearHardcount t c).table.pendE = c.table.pendE := by
  refine ⟨?_, ?_, ?_, ?_, ?_⟩
  · (simp only [takeClearHardcount]; repeat' split) <;> simp_all
  · (simp only [takeClearHardcount]; repeat' split) <;> simp_all
  · (simp only [takeClearHardcount]; repeat' split) <;> simp_all
  · (simp only [takeClearHardcount]; repeat' split) <;> simp_all
  · (simp only [takeClearHardcount]; repeat' split) <;> simp_all

/-- What `setInhibited` leaves as it is. -/
@[simp] theorem setInhibited_frame (i : Nat) (x : Bool) (c : Controller) :
    (setInhibited i x c).start = c.start ∧ (setInhibited i x c).time = c.time ∧
    (setInhibited i x c).round = c.round ∧ (setInhibited i x c).held = c.held ∧
    (setInhibited i x c).doors = c.doors ∧ (setInhibited i x c).scan = c.scan ∧ (setInhibited i x c).due = c.due := by
  refine ⟨?_, ?_, ?_, ?_, ?_, ?_, ?_⟩
  · (simp only [setInhibited]; repeat' split) <;> simp_all
  · (simp only [setInhibited]; repeat' split) <;> simp_all
  · (simp only [setInhibited]; repeat' split) <;> simp_all
  · (simp only [setInhibited]; repeat' split) <;> simp_all
  · (simp only [setInhibited]; repeat' split) <;> simp_all
  · (simp only [setInhibited]; repeat' split) <;> simp_all
  · (simp only [setInhibited]; repeat' split) <;> simp_all

/-- What `setInhibited` leaves as it is, continued. -/
@[simp] theorem setInhibited_frame1 (i : Nat) (x : Bool) (c : Controller) :
    (setInhibited i x c).table.below = c.table.below ∧ (setInhibited i x c).table.above = c.table.above ∧
    (setInhibited i x c).table.nmin = c.table.nmin ∧ (setInhibited i x c).table.pendT = c.table.pendT ∧
    (setInhibited i x c).table.pendE = c.table.pendE ∧ (setInhibited i x c).track.pusher = c.track.pusher ∧
    (setInhibited i x c).track.guide = c.track.guide ∧ (setInhibited i x c).track.car = c.track.car ∧
    (setInhibited i x c).line.number = c.line.number ∧ (setInhibited i x c).line.rx = c.line.rx ∧
    (setInhibited i x c).line.ack = c.line.ack ∧ (setInhibited i x c).events.enable = c.events.enable := by
  refine ⟨?_, ?_, ?_, ?_, ?_, ?_, ?_, ?_, ?_, ?_, ?_, ?_⟩
  · (simp only [setInhibited]; repeat' split) <;> simp_all
  · (simp only [setInhibited]; repeat' split) <;> simp_all
  · (simp only [setInhibited]; repeat' split) <;> simp_all
  · (simp only [setInhibited]; repeat' split) <;> simp_all
  · (simp only [setInhibited]; repeat' split) <;> simp_all
  · (simp only [setInhibited]; repeat' split) <;> simp_all
  · (simp only [setInhibited]; repeat' split) <;> simp_all
  · (simp only [setInhibited]; repeat' split) <;> simp_all
  · (simp only [setInhibited]; repeat' split) <;> simp_all
  · (simp only [setInhibited]; repeat' split) <;> simp_all
  · (simp only [setInhibited]; repeat' split) <;> simp_all
  · (simp only [setInhibited]; repeat' split) <;> simp_all

/-- What `setInhibited` leaves as it is, continued. -/
@[simp] theorem setInhibited_frame2 (i : Nat) (x : Bool) (c : Controller) :
    (setInhibited i x c).events.carried = c.events.carried ∧ (setInhibited i x c).reg.cycle = c.reg.cycle ∧
    (setInhibited i x c).reg.period = c.reg.period ∧ (setInhibited i x c).reg.answer = c.reg.answer ∧
    (setInhibited i x c).reg.mainSend = c.reg.mainSend ∧ (setInhibited i x c).reg.frame = c.reg.frame ∧
    (setInhibited i x c).reg.frameHeld = c.reg.frameHeld ∧ (setInhibited i x c).reg.framesOn = c.reg.framesOn ∧
    (setInhibited i x c).reg.main.tap = c.reg.main.tap ∧ (setInhibited i x c).reg.main.value = c.reg.main.value ∧
    (setInhibited i x c).reg.main.invalid = c.reg.main.invalid ∧ (setInhibited i x c).reg.main.age = c.reg.main.age := by
  refine ⟨?_, ?_, ?_, ?_, ?_, ?_, ?_, ?_, ?_, ?_, ?_, ?_⟩
  · (simp only [setInhibited]; repeat' split) <;> simp_all
  · (simp only [setInhibited]; repeat' split) <;> simp_all
  · (simp only [setInhibited]; repeat' split) <;> simp_all
  · (simp only [setInhibited]; repeat' split) <;> simp_all
  · (simp only [setInhibited]; repeat' split) <;> simp_all
  · (simp only [setInhibited]; repeat' split) <;> simp_all
  · (simp only [setInhibited]; repeat' split) <;> simp_all
  · (simp only [setInhibited]; repeat' split) <;> simp_all
  · (simp only [setInhibited]; repeat' split) <;> simp_all
  · (simp only [setInhibited]; repeat' split) <;> simp_all
  · (simp only [setInhibited]; repeat' split) <;> simp_all
  · (simp only [setInhibited]; repeat' split) <;> simp_all

/-- What `setInhibited` leaves as it is, continued. -/
@[simp] theorem setInhibited_frame3 (i : Nat) (x : Bool) (c : Controller) :
    (setInhibited i x c).reg.main.stale = c.reg.main.stale := by
  (simp only [setInhibited]; repeat' split) <;> simp_all

/-- What `takeInhibitSet` leaves as it is. -/
@[simp] theorem takeInhibitSet_frame (t : Telegram) (c : Controller) :
    (takeInhibitSet t c).start = c.start ∧ (takeInhibitSet t c).time = c.time ∧
    (takeInhibitSet t c).round = c.round ∧ (takeInhibitSet t c).held = c.held ∧
    (takeInhibitSet t c).doors = c.doors ∧ (takeInhibitSet t c).scan = c.scan := by
  refine ⟨?_, ?_, ?_, ?_, ?_, ?_⟩
  · (simp only [takeInhibitSet]; repeat' split) <;> simp_all
  · (simp only [takeInhibitSet]; repeat' split) <;> simp_all
  · (simp only [takeInhibitSet]; repeat' split) <;> simp_all
  · (simp only [takeInhibitSet]; repeat' split) <;> simp_all
  · (simp only [takeInhibitSet]; repeat' split) <;> simp_all
  · (simp only [takeInhibitSet]; repeat' split) <;> simp_all

/-- What `takeInhibitSet` leaves as it is, continued. -/
@[simp] theorem takeInhibitSet_frame1 (t : Telegram) (c : Controller) :
    (takeInhibitSet t c).table.below = c.table.below ∧ (takeInhibitSet t c).table.above = c.table.above ∧
    (takeInhibitSet t c).table.nmin = c.table.nmin ∧ (takeInhibitSet t c).table.pendT = c.table.pendT ∧
    (takeInhibitSet t c).table.pendE = c.table.pendE ∧ (takeInhibitSet t c).track.pusher = c.track.pusher ∧
    (takeInhibitSet t c).track.guide = c.track.guide ∧ (takeInhibitSet t c).track.car = c.track.car ∧
    (takeInhibitSet t c).line.number = c.line.number ∧ (takeInhibitSet t c).line.rx = c.line.rx ∧
    (takeInhibitSet t c).line.ack = c.line.ack ∧ (takeInhibitSet t c).events.enable = c.events.enable := by
  refine ⟨?_, ?_, ?_, ?_, ?_, ?_, ?_, ?_, ?_, ?_, ?_, ?_⟩
  · (simp only [takeInhibitSet]; repeat' split) <;> simp_all
  · (simp only [takeInhibitSet]; repeat' split) <;> simp_all
  · (simp only [takeInhibitSet]; repeat' split) <;> simp_all
  · (simp only [takeInhibitSet]; repeat' split) <;> simp_all
  · (simp only [takeInhibitSet]; repeat' split) <;> simp_all
  · (simp only [takeInhibitSet]; repeat' split) <;> simp_all
  · (simp only [takeInhibitSet]; repeat' split) <;> simp_all
  · (simp only [takeInhibitSet]; repeat' split) <;> simp_all
  · (simp only [takeInhibitSet]; repeat' split) <;> simp_all
  · (simp only [takeInhibitSet]; repeat' split) <;> simp_all
  · (simp only [takeInhibitSet]; repeat' split) <;> simp_all
  · (simp only [takeInhibitSet]; repeat' split) <;> simp_all

/-- What `takeInhibitSet` leaves as it is, continued. -/
@[simp] theorem takeInhibitSet_frame2 (t : Telegram) (c : Controller) :
    (takeInhibitSet t c).events.carried = c.events.carried ∧ (takeInhibitSet t c).reg.cycle = c.reg.cycle ∧
    (takeInhibitSet t c).reg.period = c.reg.period ∧ (takeInhibitSet t c).reg.answer = c.reg.answer ∧
    (takeInhibitSet t c).reg.mainSend = c.reg.mainSend ∧ (takeInhibitSet t c).reg.framesOn = c.reg.framesOn ∧
    (takeInhibitSet t c).reg.main.tap = c.reg.main.tap ∧ (takeInhibitSet t c).reg.main.value = c.reg.main.value ∧
    (takeInhibitSet t c).reg.main.invalid = c.reg.main.invalid ∧
    (takeInhibitSet t c).reg.main.age = c.reg.main.age ∧ (takeInhibitSet t c).reg.main.stale = c.reg.main.stale := by
  refine ⟨?_, ?_, ?_, ?_, ?_, ?_, ?_, ?_, ?_, ?_, ?_⟩
  · (simp only [takeInhibitSet]; repeat' split) <;> simp_all
  · (simp only [takeInhibitSet]; repeat' split) <;> simp_all
  · (simp only [takeInhibitSet]; repeat' split) <;> simp_all
  · (simp only [takeInhibitSet]; repeat' split) <;> simp_all
  · (simp only [takeInhibitSet]; repeat' split) <;> simp_all
  · (simp only [takeInhibitSet]; repeat' split) <;> simp_all
  · (simp only [takeInhibitSet]; repeat' split) <;> simp_all
  · (simp only [takeInhibitSet]; repeat' split) <;> simp_all
  · (simp only [takeInhibitSet]; repeat' split) <;> simp_all
  · (simp only [takeInhibitSet]; repeat' split) <;> simp_all
  · (simp only [takeInhibitSet]; repeat' split) <;> simp_all

/-- What `takeInhibitClear` leaves as it is. -/
@[simp] theorem takeInhibitClear_frame (t : Telegram) (c : Controller) :
    (takeInhibitClear t c).start = c.start ∧ (takeInhibitClear t c).time = c.time ∧
    (takeInhibitClear t c).round = c.round ∧ (takeInhibitClear t c).held = c.held ∧
    (takeInhibitClear t c).doors = c.doors ∧ (takeInhibitClear t c).scan = c.scan ∧
    (takeInhibitClear t c).due = c.due := by
  refine ⟨?_, ?_, ?_, ?_, ?_, ?_, ?_⟩
  · (simp only [takeInhibitClear]; repeat' split) <;> simp_all
  · (simp only [takeInhibitClear]; repeat' split) <;> simp_all
  · (simp only [takeInhibitClear]; repeat' split) <;> simp_all
  · (simp only [takeInhibitClear]; repeat' split) <;> simp_all
  · (simp only [takeInhibitClear]; repeat' split) <;> simp_all
  · (simp only [takeInhibitClear]; repeat' split) <;> simp_all
  · (simp only [takeInhibitClear]; repeat' split) <;> simp_all

/-- What `takeInhibitClear` leaves as it is, continued. -/
@[simp] theorem takeInhibitClear_frame1 (t : Telegram) (c : Controller) :
    (takeInhibitClear t c).table.below = c.table.below ∧ (takeInhibitClear t c).table.above = c.table.above ∧
    (takeInhibitClear t c).table.nmin = c.table.nmin ∧ (takeInhibitClear t c).table.pendT = c.table.pendT ∧
    (takeInhibitClear t c).table.pendE = c.table.pendE ∧ (takeInhibitClear t c).track.pusher = c.track.pusher ∧
    (takeInhibitClear t c).track.guide = c.track.guide ∧ (takeInhibitClear t c).track.car = c.track.car ∧
    (takeInhibitClear t c).line.number = c.line.number ∧ (takeInhibitClear t c).line.rx = c.line.rx ∧
    (takeInhibitClear t c).line.ack = c.line.ack ∧ (takeInhibitClear t c).events.enable = c.events.enable := by
  refine ⟨?_, ?_, ?_, ?_, ?_, ?_, ?_, ?_, ?_, ?_, ?_, ?_⟩
  · (simp only [takeInhibitClear]; repeat' split) <;> simp_all
  · (simp only [takeInhibitClear]; repeat' split) <;> simp_all
  · (simp only [takeInhibitClear]; repeat' split) <;> simp_all
  · (simp only [takeInhibitClear]; repeat' split) <;> simp_all
  · (simp only [takeInhibitClear]; repeat' split) <;> simp_all
  · (simp only [takeInhibitClear]; repeat' split) <;> simp_all
  · (simp only [takeInhibitClear]; repeat' split) <;> simp_all
  · (simp only [takeInhibitClear]; repeat' split) <;> simp_all
  · (simp only [takeInhibitClear]; repeat' split) <;> simp_all
  · (simp only [takeInhibitClear]; repeat' split) <;> simp_all
  · (simp only [takeInhibitClear]; repeat' split) <;> simp_all
  · (simp only [takeInhibitClear]; repeat' split) <;> simp_all

/-- What `takeInhibitClear` leaves as it is, continued. -/
@[simp] theorem takeInhibitClear_frame2 (t : Telegram) (c : Controller) :
    (takeInhibitClear t c).events.carried = c.events.carried ∧ (takeInhibitClear t c).reg.cycle = c.reg.cycle ∧
    (takeInhibitClear t c).reg.period = c.reg.period ∧ (takeInhibitClear t c).reg.answer = c.reg.answer ∧
    (takeInhibitClear t c).reg.mainSend = c.reg.mainSend ∧ (takeInhibitClear t c).reg.frame = c.reg.frame ∧
    (takeInhibitClear t c).reg.frameHeld = c.reg.frameHeld ∧ (takeInhibitClear t c).reg.framesOn = c.reg.framesOn ∧
    (takeInhibitClear t c).reg.main.tap = c.reg.main.tap ∧
    (takeInhibitClear t c).reg.main.value = c.reg.main.value ∧
    (takeInhibitClear t c).reg.main.invalid = c.reg.main.invalid ∧
    (takeInhibitClear t c).reg.main.age = c.reg.main.age := by
  refine ⟨?_, ?_, ?_, ?_, ?_, ?_, ?_, ?_, ?_, ?_, ?_, ?_⟩
  · (simp only [takeInhibitClear]; repeat' split) <;> simp_all
  · (simp only [takeInhibitClear]; repeat' split) <;> simp_all
  · (simp only [takeInhibitClear]; repeat' split) <;> simp_all
  · (simp only [takeInhibitClear]; repeat' split) <;> simp_all
  · (simp only [takeInhibitClear]; repeat' split) <;> simp_all
  · (simp only [takeInhibitClear]; repeat' split) <;> simp_all
  · (simp only [takeInhibitClear]; repeat' split) <;> simp_all
  · (simp only [takeInhibitClear]; repeat' split) <;> simp_all
  · (simp only [takeInhibitClear]; repeat' split) <;> simp_all
  · (simp only [takeInhibitClear]; repeat' split) <;> simp_all
  · (simp only [takeInhibitClear]; repeat' split) <;> simp_all
  · (simp only [takeInhibitClear]; repeat' split) <;> simp_all

/-- What `takeInhibitClear` leaves as it is, continued. -/
@[simp] theorem takeInhibitClear_frame3 (t : Telegram) (c : Controller) :
    (takeInhibitClear t c).reg.main.stale = c.reg.main.stale := by
  (simp only [takeInhibitClear]; repeat' split) <;> simp_all

/-- What `countPlanClamp` leaves as it is. -/
@[simp] theorem countPlanClamp_frame (x : Nat) (y : Nat) (c : Controller) :
    (countPlanClamp x y c).start = c.start ∧ (countPlanClamp x y c).time = c.time ∧
    (countPlanClamp x y c).table = c.table ∧ (countPlanClamp x y c).round = c.round ∧
    (countPlanClamp x y c).held = c.held ∧ (countPlanClamp x y c).doors = c.doors ∧
    (countPlanClamp x y c).scan = c.scan ∧ (countPlanClamp x y c).due = c.due ∧
    (countPlanClamp x y c).track = c.track ∧ (countPlanClamp x y c).job = c.job ∧ (countPlanClamp x y c).reg = c.reg := by
  refine ⟨?_, ?_, ?_, ?_, ?_, ?_, ?_, ?_, ?_, ?_, ?_⟩
  · (simp only [countPlanClamp]; repeat' split) <;> simp_all
  · (simp only [countPlanClamp]; repeat' split) <;> simp_all
  · (simp only [countPlanClamp]; repeat' split) <;> simp_all
  · (simp only [countPlanClamp]; repeat' split) <;> simp_all
  · (simp only [countPlanClamp]; repeat' split) <;> simp_all
  · (simp only [countPlanClamp]; repeat' split) <;> simp_all
  · (simp only [countPlanClamp]; repeat' split) <;> simp_all
  · (simp only [countPlanClamp]; repeat' split) <;> simp_all
  · (simp only [countPlanClamp]; repeat' split) <;> simp_all
  · (simp only [countPlanClamp]; repeat' split) <;> simp_all
  · (simp only [countPlanClamp]; repeat' split) <;> simp_all

/-- What `countPlanClamp` leaves as it is, continued. -/
@[simp] theorem countPlanClamp_frame1 (x : Nat) (y : Nat) (c : Controller) :
    (countPlanClamp x y c).line.number = c.line.number ∧ (countPlanClamp x y c).line.rx = c.line.rx ∧
    (countPlanClamp x y c).line.ack = c.line.ack ∧ (countPlanClamp x y c).line.phase = c.line.phase ∧
    (countPlanClamp x y c).events.enable = c.events.enable ∧
    (countPlanClamp x y c).events.carried = c.events.carried := by
  refine ⟨?_, ?_, ?_, ?_, ?_, ?_⟩
  · (simp only [countPlanClamp]; repeat' split) <;> simp_all
  · (simp only [countPlanClamp]; repeat' split) <;> simp_all
  · (simp only [countPlanClamp]; repeat' split) <;> simp_all
  · (simp only [countPlanClamp]; repeat' split) <;> simp_all
  · (simp only [countPlanClamp]; repeat' split) <;> simp_all
  · (simp only [countPlanClamp]; repeat' split) <;> simp_all

/-- What `takePlan` leaves as it is. -/
@[simp] theorem takePlan_frame (t : Telegram) (c : Controller) :
    (takePlan t c).start = c.start ∧ (takePlan t c).time = c.time ∧ (takePlan t c).round = c.round ∧
    (takePlan t c).held = c.held ∧ (takePlan t c).doors = c.doors ∧ (takePlan t c).scan = c.scan ∧
    (takePlan t c).due = c.due ∧ (takePlan t c).track = c.track ∧ (takePlan t c).job = c.job ∧
    (takePlan t c).reg = c.reg ∧ (takePlan t c).table.ovens = c.table.ovens ∧
    (takePlan t c).table.below = c.table.below ∧ (takePlan t c).table.above = c.table.above ∧
    (takePlan t c).line.number = c.line.number ∧ (takePlan t c).line.rx = c.line.rx ∧
    (takePlan t c).line.ack = c.line.ack ∧ (takePlan t c).line.phase = c.line.phase ∧
    (takePlan t c).events.enable = c.events.enable ∧ (takePlan t c).events.carried = c.events.carried := by
  simp [takePlan]

/-- What `takePhase` leaves as it is. -/
@[simp] theorem takePhase_frame (t : Telegram) (c : Controller) :
    (takePhase t c).start = c.start ∧ (takePhase t c).time = c.time ∧ (takePhase t c).round = c.round ∧
    (takePhase t c).held = c.held ∧ (takePhase t c).doors = c.doors ∧ (takePhase t c).scan = c.scan ∧
    (takePhase t c).due = c.due ∧ (takePhase t c).track = c.track ∧ (takePhase t c).line = c.line ∧
    (takePhase t c).job = c.job ∧ (takePhase t c).events = c.events ∧ (takePhase t c).reg = c.reg := by
  refine ⟨?_, ?_, ?_, ?_, ?_, ?_, ?_, ?_, ?_, ?_, ?_, ?_⟩
  · (simp only [takePhase]; repeat' split) <;> simp_all
  · (simp only [takePhase]; repeat' split) <;> simp_all
  · (simp only [takePhase]; repeat' split) <;> simp_all
  · (simp only [takePhase]; repeat' split) <;> simp_all
  · (simp only [takePhase]; repeat' split) <;> simp_all
  · (simp only [takePhase]; repeat' split) <;> simp_all
  · (simp only [takePhase]; repeat' split) <;> simp_all
  · (simp only [takePhase]; repeat' split) <;> simp_all
  · (simp only [takePhase]; repeat' split) <;> simp_all
  · (simp only [takePhase]; repeat' split) <;> simp_all
  · (simp only [takePhase]; repeat' split) <;> simp_all
  · (simp only [takePhase]; repeat' split) <;> simp_all

/-- What `takePhase` leaves as it is, continued. -/
@[simp] theorem takePhase_frame1 (t : Telegram) (c : Controller) :
    (takePhase t c).table.ovens = c.table.ovens ∧ (takePhase t c).table.nmin = c.table.nmin ∧
    (takePhase t c).table.pendT = c.table.pendT ∧ (takePhase t c).table.pendE = c.table.pendE := by
  refine ⟨?_, ?_, ?_, ?_⟩
  · (simp only [takePhase]; repeat' split) <;> simp_all
  · (simp only [takePhase]; repeat' split) <;> simp_all
  · (simp only [takePhase]; repeat' split) <;> simp_all
  · (simp only [takePhase]; repeat' split) <;> simp_all

/-- What `modifyNeighbour` leaves as it is. -/
@[simp] theorem modifyNeighbour_frame (e : Edge) (f : Neighbour → Neighbour) (c : Controller) :
    (modifyNeighbour e f c).start = c.start ∧ (modifyNeighbour e f c).time = c.time ∧
    (modifyNeighbour e f c).round = c.round ∧ (modifyNeighbour e f c).held = c.held ∧
    (modifyNeighbour e f c).doors = c.doors ∧ (modifyNeighbour e f c).scan = c.scan ∧
    (modifyNeighbour e f c).due = c.due ∧ (modifyNeighbour e f c).track = c.track ∧
    (modifyNeighbour e f c).line = c.line ∧ (modifyNeighbour e f c).job = c.job ∧
    (modifyNeighbour e f c).events = c.events ∧ (modifyNeighbour e f c).reg = c.reg := by
  refine ⟨?_, ?_, ?_, ?_, ?_, ?_, ?_, ?_, ?_, ?_, ?_, ?_⟩
  · (simp only [modifyNeighbour]; repeat' split) <;> simp_all
  · (simp only [modifyNeighbour]; repeat' split) <;> simp_all
  · (simp only [modifyNeighbour]; repeat' split) <;> simp_all
  · (simp only [modifyNeighbour]; repeat' split) <;> simp_all
  · (simp only [modifyNeighbour]; repeat' split) <;> simp_all
  · (simp only [modifyNeighbour]; repeat' split) <;> simp_all
  · (simp only [modifyNeighbour]; repeat' split) <;> simp_all
  · (simp only [modifyNeighbour]; repeat' split) <;> simp_all
  · (simp only [modifyNeighbour]; repeat' split) <;> simp_all
  · (simp only [modifyNeighbour]; repeat' split) <;> simp_all
  · (simp only [modifyNeighbour]; repeat' split) <;> simp_all
  · (simp only [modifyNeighbour]; repeat' split) <;> simp_all

/-- What `modifyNeighbour` leaves as it is, continued. -/
@[simp] theorem modifyNeighbour_frame1 (e : Edge) (f : Neighbour → Neighbour) (c : Controller) :
    (modifyNeighbour e f c).table.ovens = c.table.ovens ∧ (modifyNeighbour e f c).table.nmin = c.table.nmin ∧
    (modifyNeighbour e f c).table.pendT = c.table.pendT ∧ (modifyNeighbour e f c).table.pendE = c.table.pendE := by
  refine ⟨?_, ?_, ?_, ?_⟩
  · (simp only [modifyNeighbour]; repeat' split) <;> simp_all
  · (simp only [modifyNeighbour]; repeat' split) <;> simp_all
  · (simp only [modifyNeighbour]; repeat' split) <;> simp_all
  · (simp only [modifyNeighbour]; repeat' split) <;> simp_all

/-- What `neighbourIsLost` leaves as it is. -/
@[simp] theorem neighbourIsLost_frame (e : Edge) (c : Controller) :
    (neighbourIsLost e c).start = c.start ∧ (neighbourIsLost e c).time = c.time ∧
    (neighbourIsLost e c).round = c.round ∧ (neighbourIsLost e c).held = c.held ∧
    (neighbourIsLost e c).doors = c.doors ∧ (neighbourIsLost e c).scan = c.scan ∧
    (neighbourIsLost e c).due = c.due ∧ (neighbourIsLost e c).track = c.track ∧ (neighbourIsLost e c).job = c.job ∧
    (neighbourIsLost e c).reg = c.reg := by
  refine ⟨?_, ?_, ?_, ?_, ?_, ?_, ?_, ?_, ?_, ?_⟩
  · (simp only [neighbourIsLost]; repeat' split) <;> simp_all
  · (simp only [neighbourIsLost]; repeat' split) <;> simp_all
  · (simp only [neighbourIsLost]; repeat' split) <;> simp_all
  · (simp only [neighbourIsLost]; repeat' split) <;> simp_all
  · (simp only [neighbourIsLost]; repeat' split) <;> simp_all
  · (simp only [neighbourIsLost]; repeat' split) <;> simp_all
  · (simp only [neighbourIsLost]; repeat' split) <;> simp_all
  · (simp only [neighbourIsLost]; repeat' split) <;> simp_all
  · (simp only [neighbourIsLost]; repeat' split) <;> simp_all
  · (simp only [neighbourIsLost]; repeat' split) <;> simp_all

/-- What `neighbourIsLost` leaves as it is, continued. -/
@[simp] theorem neighbourIsLost_frame1 (e : Edge) (c : Controller) :
    (neighbourIsLost e c).table.ovens = c.table.ovens ∧ (neighbourIsLost e c).table.nmin = c.table.nmin ∧
    (neighbourIsLost e c).table.pendT = c.table.pendT ∧ (neighbourIsLost e c).table.pendE = c.table.pendE ∧
    (neighbourIsLost e c).line.number = c.line.number ∧ (neighbourIsLost e c).line.rx = c.line.rx ∧
    (neighbourIsLost e c).line.ack = c.line.ack ∧ (neighbourIsLost e c).line.phase = c.line.phase ∧
    (neighbourIsLost e c).events.enable = c.events.enable ∧ (neighbourIsLost e c).events.carried = c.events.carried := by
  refine ⟨?_, ?_, ?_, ?_, ?_, ?_, ?_, ?_, ?_, ?_⟩
  · (simp only [neighbourIsLost]; repeat' split) <;> simp_all
  · (simp only [neighbourIsLost]; repeat' split) <;> simp_all
  · (simp only [neighbourIsLost]; repeat' split) <;> simp_all
  · (simp only [neighbourIsLost]; repeat' split) <;> simp_all
  · (simp only [neighbourIsLost]; repeat' split) <;> simp_all
  · (simp only [neighbourIsLost]; repeat' split) <;> simp_all
  · (simp only [neighbourIsLost]; repeat' split) <;> simp_all
  · (simp only [neighbourIsLost]; repeat' split) <;> simp_all
  · (simp only [neighbourIsLost]; repeat' split) <;> simp_all
  · (simp only [neighbourIsLost]; repeat' split) <;> simp_all

/-- What `queueEdgePhases` leaves as it is. -/
@[simp] theorem queueEdgePhases_frame (c : Controller) :
    (queueEdgePhases c).start = c.start ∧ (queueEdgePhases c).time = c.time ∧ (queueEdgePhases c).table = c.table ∧
    (queueEdgePhases c).round = c.round ∧ (queueEdgePhases c).held = c.held ∧ (queueEdgePhases c).doors = c.doors ∧
    (queueEdgePhases c).scan = c.scan ∧ (queueEdgePhases c).due = c.due := by
  refine ⟨?_, ?_, ?_, ?_, ?_, ?_, ?_, ?_⟩
  · (simp only [queueEdgePhases]; repeat' split) <;> simp_all
  · (simp only [queueEdgePhases]; repeat' split) <;> simp_all
  · (simp only [queueEdgePhases]; repeat' split) <;> simp_all
  · (simp only [queueEdgePhases]; repeat' split) <;> simp_all
  · (simp only [queueEdgePhases]; repeat' split) <;> simp_all
  · (simp only [queueEdgePhases]; repeat' split) <;> simp_all
  · (simp only [queueEdgePhases]; repeat' split) <;> simp_all
  · (simp only [queueEdgePhases]; repeat' split) <;> simp_all

/-- What `queueEdgePhases` leaves as it is, continued. -/
@[simp] theorem queueEdgePhases_frame1 (c : Controller) :
    (queueEdgePhases c).track.pusher = c.track.pusher ∧ (queueEdgePhases c).track.guide = c.track.guide ∧
    (queueEdgePhases c).track.car = c.track.car ∧ (queueEdgePhases c).line.number = c.line.number ∧
    (queueEdgePhases c).line.rx = c.line.rx ∧ (queueEdgePhases c).line.ack = c.line.ack ∧
    (queueEdgePhases c).events.enable = c.events.enable ∧ (queueEdgePhases c).events.carried = c.events.carried ∧
    (queueEdgePhases c).reg.cycle = c.reg.cycle ∧ (queueEdgePhases c).reg.period = c.reg.period ∧
    (queueEdgePhases c).reg.answer = c.reg.answer ∧ (queueEdgePhases c).reg.mainSend = c.reg.mainSend := by
  refine ⟨?_, ?_, ?_, ?_, ?_, ?_, ?_, ?_, ?_, ?_, ?_, ?_⟩
  · (simp only [queueEdgePhases]; repeat' split) <;> simp_all
  · (simp only [queueEdgePhases]; repeat' split) <;> simp_all
  · (simp only [queueEdgePhases]; repeat' split) <;> simp_all
  · (simp only [queueEdgePhases]; repeat' split) <;> simp_all
  · (simp only [queueEdgePhases]; repeat' split) <;> simp_all
  · (simp only [queueEdgePhases]; repeat' split) <;> simp_all
  · (simp only [queueEdgePhases]; repeat' split) <;> simp_all
  · (simp only [queueEdgePhases]; repeat' split) <;> simp_all
  · (simp only [queueEdgePhases]; repeat' split) <;> simp_all
  · (simp only [queueEdgePhases]; repeat' split) <;> simp_all
  · (simp only [queueEdgePhases]; repeat' split) <;> simp_all
  · (simp only [queueEdgePhases]; repeat' split) <;> simp_all

/-- What `queueEdgePhases` leaves as it is, continued. -/
@[simp] theorem queueEdgePhases_frame2 (c : Controller) :
    (queueEdgePhases c).reg.frame = c.reg.frame ∧ (queueEdgePhases c).reg.frameHeld = c.reg.frameHeld ∧
    (queueEdgePhases c).reg.framesOn = c.reg.framesOn ∧ (queueEdgePhases c).reg.main.tap = c.reg.main.tap ∧
    (queueEdgePhases c).reg.main.value = c.reg.main.value ∧
    (queueEdgePhases c).reg.main.invalid = c.reg.main.invalid ∧ (queueEdgePhases c).reg.main.age = c.reg.main.age ∧
    (queueEdgePhases c).reg.main.stale = c.reg.main.stale := by
  refine ⟨?_, ?_, ?_, ?_, ?_, ?_, ?_, ?_⟩
  · (simp only [queueEdgePhases]; repeat' split) <;> simp_all
  · (simp only [queueEdgePhases]; repeat' split) <;> simp_all
  · (simp only [queueEdgePhases]; repeat' split) <;> simp_all
  · (simp only [queueEdgePhases]; repeat' split) <;> simp_all
  · (simp only [queueEdgePhases]; repeat' split) <;> simp_all
  · (simp only [queueEdgePhases]; repeat' split) <;> simp_all
  · (simp only [queueEdgePhases]; repeat' split) <;> simp_all
  · (simp only [queueEdgePhases]; repeat' split) <;> simp_all

/-- What `takeMask` leaves as it is. -/
@[simp] theorem takeMask_frame (t : Telegram) (c : Controller) :
    (takeMask t c).start = c.start ∧ (takeMask t c).time = c.time ∧ (takeMask t c).table = c.table ∧
    (takeMask t c).round = c.round ∧ (takeMask t c).held = c.held ∧ (takeMask t c).doors = c.doors ∧
    (takeMask t c).scan = c.scan ∧ (takeMask t c).due = c.due ∧ (takeMask t c).track = c.track ∧
    (takeMask t c).job = c.job ∧ (takeMask t c).reg = c.reg := by
  refine ⟨?_, ?_, ?_, ?_, ?_, ?_, ?_, ?_, ?_, ?_, ?_⟩
  · (simp only [takeMask]; repeat' split) <;> simp_all
  · (simp only [takeMask]; repeat' split) <;> simp_all
  · (simp only [takeMask]; repeat' split) <;> simp_all
  · (simp only [takeMask]; repeat' split) <;> simp_all
  · (simp only [takeMask]; repeat' split) <;> simp_all
  · (simp only [takeMask]; repeat' split) <;> simp_all
  · (simp only [takeMask]; repeat' split) <;> simp_all
  · (simp only [takeMask]; repeat' split) <;> simp_all
  · (simp only [takeMask]; repeat' split) <;> simp_all
  · (simp only [takeMask]; repeat' split) <;> simp_all
  · (simp only [takeMask]; repeat' split) <;> simp_all

/-- What `takeMask` leaves as it is, continued. -/
@[simp] theorem takeMask_frame1 (t : Telegram) (c : Controller) :
    (takeMask t c).line.number = c.line.number ∧ (takeMask t c).line.rx = c.line.rx ∧
    (takeMask t c).line.ack = c.line.ack ∧ (takeMask t c).events.carried = c.events.carried := by
  refine ⟨?_, ?_, ?_, ?_⟩
  · (simp only [takeMask]; repeat' split) <;> simp_all
  · (simp only [takeMask]; repeat' split) <;> simp_all
  · (simp only [takeMask]; repeat' split) <;> simp_all
  · (simp only [takeMask]; repeat' split) <;> simp_all

/-- What `modifyReg` leaves as it is. -/
@[simp] theorem modifyReg_frame (f : Regulation → Regulation) (c : Controller) :
    (modifyReg f c).start = c.start ∧ (modifyReg f c).time = c.time ∧ (modifyReg f c).table = c.table ∧
    (modifyReg f c).round = c.round ∧ (modifyReg f c).held = c.held ∧ (modifyReg f c).doors = c.doors ∧
    (modifyReg f c).scan = c.scan ∧ (modifyReg f c).due = c.due ∧ (modifyReg f c).track = c.track ∧
    (modifyReg f c).line = c.line ∧ (modifyReg f c).job = c.job ∧ (modifyReg f c).events = c.events := by
  simp [modifyReg]

/-- What `modifyMain` leaves as it is. -/
@[simp] theorem modifyMain_frame (f : MainRecord → MainRecord) (c : Controller) :
    (modifyMain f c).start = c.start ∧ (modifyMain f c).time = c.time ∧ (modifyMain f c).table = c.table ∧
    (modifyMain f c).round = c.round ∧ (modifyMain f c).held = c.held ∧ (modifyMain f c).doors = c.doors ∧
    (modifyMain f c).scan = c.scan ∧ (modifyMain f c).due = c.due ∧ (modifyMain f c).track = c.track ∧
    (modifyMain f c).line = c.line ∧ (modifyMain f c).job = c.job ∧ (modifyMain f c).events = c.events := by
  simp [modifyMain]

/-- What `completeOven` leaves as it is. -/
@[simp] theorem completeOven_frame (k : Cycle) (c : Controller) (i : Nat) :
    (completeOven k c i).start = c.start ∧ (completeOven k c i).time = c.time ∧
    (completeOven k c i).round = c.round ∧ (completeOven k c i).held = c.held ∧
    (completeOven k c i).doors = c.doors ∧ (completeOven k c i).scan = c.scan := by
  refine ⟨?_, ?_, ?_, ?_, ?_, ?_⟩
  · (simp only [completeOven]; repeat' split) <;> simp_all
  · (simp only [completeOven]; repeat' split) <;> simp_all
  · (simp only [completeOven]; repeat' split) <;> simp_all
  · (simp only [completeOven]; repeat' split) <;> simp_all
  · (simp only [completeOven]; repeat' split) <;> simp_all
  · (simp only [completeOven]; repeat' split) <;> simp_all

/-- What `completeOven` leaves as it is, continued. -/
@[simp] theorem completeOven_frame1 (k : Cycle) (c : Controller) (i : Nat) :
    (completeOven k c i).table.below = c.table.below ∧ (completeOven k c i).table.above = c.table.above ∧
    (completeOven k c i).table.nmin = c.table.nmin ∧ (completeOven k c i).table.pendT = c.table.pendT ∧
    (completeOven k c i).table.pendE = c.table.pendE ∧ (completeOven k c i).track.pusher = c.track.pusher ∧
    (completeOven k c i).track.guide = c.track.guide ∧ (completeOven k c i).track.car = c.track.car ∧
    (completeOven k c i).line.number = c.line.number ∧ (completeOven k c i).line.rx = c.line.rx ∧
    (completeOven k c i).line.ack = c.line.ack ∧ (completeOven k c i).events.enable = c.events.enable := by
  refine ⟨?_, ?_, ?_, ?_, ?_, ?_, ?_, ?_, ?_, ?_, ?_, ?_⟩
  · (simp only [completeOven]; repeat' split) <;> simp_all
  · (simp only [completeOven]; repeat' split) <;> simp_all
  · (simp only [completeOven]; repeat' split) <;> simp_all
  · (simp only [completeOven]; repeat' split) <;> simp_all
  · (simp only [completeOven]; repeat' split) <;> simp_all
  · (simp only [completeOven]; repeat' split) <;> simp_all
  · (simp only [completeOven]; repeat' split) <;> simp_all
  · (simp only [completeOven]; repeat' split) <;> simp_all
  · (simp only [completeOven]; repeat' split) <;> simp_all
  · (simp only [completeOven]; repeat' split) <;> simp_all
  · (simp only [completeOven]; repeat' split) <;> simp_all
  · (simp only [completeOven]; repeat' split) <;> simp_all

/-- What `completeOven` leaves as it is, continued. -/
@[simp] theorem completeOven_frame2 (k : Cycle) (c : Controller) (i : Nat) :
    (completeOven k c i).events.carried = c.events.carried ∧ (completeOven k c i).reg.cycle = c.reg.cycle ∧
    (completeOven k c i).reg.period = c.reg.period ∧ (completeOven k c i).reg.answer = c.reg.answer ∧
    (completeOven k c i).reg.mainSend = c.reg.mainSend ∧ (completeOven k c i).reg.framesOn = c.reg.framesOn ∧
    (completeOven k c i).reg.main.tap = c.reg.main.tap ∧ (completeOven k c i).reg.main.value = c.reg.main.value ∧
    (completeOven k c i).reg.main.invalid = c.reg.main.invalid ∧
    (completeOven k c i).reg.main.age = c.reg.main.age ∧ (completeOven k c i).reg.main.stale = c.reg.main.stale := by
  refine ⟨?_, ?_, ?_, ?_, ?_, ?_, ?_, ?_, ?_, ?_, ?_⟩
  · (simp only [completeOven]; repeat' split) <;> simp_all
  · (simp only [completeOven]; repeat' split) <;> simp_all
  · (simp only [completeOven]; repeat' split) <;> simp_all
  · (simp only [completeOven]; repeat' split) <;> simp_all
  · (simp only [completeOven]; repeat' split) <;> simp_all
  · (simp only [completeOven]; repeat' split) <;> simp_all
  · (simp only [completeOven]; repeat' split) <;> simp_all
  · (simp only [completeOven]; repeat' split) <;> simp_all
  · (simp only [completeOven]; repeat' split) <;> simp_all
  · (simp only [completeOven]; repeat' split) <;> simp_all
  · (simp only [completeOven]; repeat' split) <;> simp_all

/-- What `completeMain` leaves as it is. -/
@[simp] theorem completeMain_frame (k : Cycle) (c : Controller) :
    (completeMain k c).start = c.start ∧ (completeMain k c).time = c.time ∧ (completeMain k c).table = c.table ∧
    (completeMain k c).round = c.round ∧ (completeMain k c).held = c.held ∧ (completeMain k c).doors = c.doors ∧
    (completeMain k c).scan = c.scan ∧ (completeMain k c).due = c.due ∧ (completeMain k c).track = c.track ∧
    (completeMain k c).job = c.job := by
  refine ⟨?_, ?_, ?_, ?_, ?_, ?_, ?_, ?_, ?_, ?_⟩
  · (simp only [completeMain]; repeat' split) <;> simp_all
  · (simp only [completeMain]; repeat' split) <;> simp_all
  · (simp only [completeMain]; repeat' split) <;> simp_all
  · (simp only [completeMain]; repeat' split) <;> simp_all
  · (simp only [completeMain]; repeat' split) <;> simp_all
  · (simp only [completeMain]; repeat' split) <;> simp_all
  · (simp only [completeMain]; repeat' split) <;> simp_all
  · (simp only [completeMain]; repeat' split) <;> simp_all
  · (simp only [completeMain]; repeat' split) <;> simp_all
  · (simp only [completeMain]; repeat' split) <;> simp_all

/-- What `completeMain` leaves as it is, continued. -/
@[simp] theorem completeMain_frame1 (k : Cycle) (c : Controller) :
    (completeMain k c).line.number = c.line.number ∧ (completeMain k c).line.rx = c.line.rx ∧
    (completeMain k c).line.ack = c.line.ack ∧ (completeMain k c).line.phase = c.line.phase ∧
    (completeMain k c).events.enable = c.events.enable ∧ (completeMain k c).events.carried = c.events.carried := by
  refine ⟨?_, ?_, ?_, ?_, ?_, ?_⟩
  · (simp only [completeMain]; repeat' split) <;> simp_all
  · (simp only [completeMain]; repeat' split) <;> simp_all
  · (simp only [completeMain]; repeat' split) <;> simp_all
  · (simp only [completeMain]; repeat' split) <;> simp_all
  · (simp only [completeMain]; repeat' split) <;> simp_all
  · (simp only [completeMain]; repeat' split) <;> simp_all

/-- What `cycleCompletes` leaves as it is. -/
@[simp] theorem cycleCompletes_frame (c : Controller) :
    (cycleCompletes c).start = c.start ∧ (cycleCompletes c).time = c.time ∧ (cycleCompletes c).round = c.round ∧
    (cycleCompletes c).held = c.held ∧ (cycleCompletes c).doors = c.doors ∧ (cycleCompletes c).scan = c.scan := by
  refine ⟨?_, ?_, ?_, ?_, ?_, ?_⟩
  · (simp only [cycleCompletes]; repeat' split) <;> simp_all
  · (simp only [cycleCompletes]; repeat' split) <;> simp_all
  · (simp only [cycleCompletes]; repeat' split) <;> simp_all
  · (simp only [cycleCompletes]; repeat' split) <;> simp_all
  · (simp only [cycleCompletes]; repeat' split) <;> simp_all
  · (simp only [cycleCompletes]; repeat' split) <;> simp_all

/-- What `cycleCompletes` leaves as it is, continued. -/
@[simp] theorem cycleCompletes_frame1 (c : Controller) :
    (cycleCompletes c).table.below = c.table.below ∧ (cycleCompletes c).table.above = c.table.above ∧
    (cycleCompletes c).table.nmin = c.table.nmin ∧ (cycleCompletes c).table.pendT = c.table.pendT ∧
    (cycleCompletes c).table.pendE = c.table.pendE ∧ (cycleCompletes c).track.pusher = c.track.pusher ∧
    (cycleCompletes c).track.guide = c.track.guide ∧ (cycleCompletes c).track.car = c.track.car ∧
    (cycleCompletes c).line.number = c.line.number ∧ (cycleCompletes c).line.rx = c.line.rx ∧
    (cycleCompletes c).line.ack = c.line.ack ∧ (cycleCompletes c).events.enable = c.events.enable := by
  refine ⟨?_, ?_, ?_, ?_, ?_, ?_, ?_, ?_, ?_, ?_, ?_, ?_⟩
  · (simp only [cycleCompletes]; repeat' split) <;> simp_all
  · (simp only [cycleCompletes]; repeat' split) <;> simp_all
  · (simp only [cycleCompletes]; repeat' split) <;> simp_all
  · (simp only [cycleCompletes]; repeat' split) <;> simp_all
  · (simp only [cycleCompletes]; repeat' split) <;> simp_all
  · (simp only [cycleCompletes]; repeat' split) <;> simp_all
  · (simp only [cycleCompletes]; repeat' split) <;> simp_all
  · (simp only [cycleCompletes]; repeat' split) <;> simp_all
  · (simp only [cycleCompletes]; repeat' split) <;> simp_all
  · (simp only [cycleCompletes]; repeat' split) <;> simp_all
  · (simp only [cycleCompletes]; repeat' split) <;> simp_all
  · (simp only [cycleCompletes]; repeat' split) <;> simp_all

/-- What `cycleCompletes` leaves as it is, continued. -/
@[simp] theorem cycleCompletes_frame2 (c : Controller) :
    (cycleCompletes c).events.carried = c.events.carried := by
  (simp only [cycleCompletes]; repeat' split) <;> simp_all

/-- What `periodExpires` leaves as it is. -/
@[simp] theorem periodExpires_frame (c : Controller) :
    (periodExpires c).start = c.start ∧ (periodExpires c).time = c.time ∧ (periodExpires c).table = c.table ∧
    (periodExpires c).round = c.round ∧ (periodExpires c).held = c.held ∧ (periodExpires c).doors = c.doors ∧
    (periodExpires c).scan = c.scan ∧ (periodExpires c).due = c.due ∧ (periodExpires c).track = c.track ∧
    (periodExpires c).job = c.job := by
  refine ⟨?_, ?_, ?_, ?_, ?_, ?_, ?_, ?_, ?_, ?_⟩
  · (simp only [periodExpires]; repeat' split) <;> simp_all
  · (simp only [periodExpires]; repeat' split) <;> simp_all
  · (simp only [periodExpires]; repeat' split) <;> simp_all
  · (simp only [periodExpires]; repeat' split) <;> simp_all
  · (simp only [periodExpires]; repeat' split) <;> simp_all
  · (simp only [periodExpires]; repeat' split) <;> simp_all
  · (simp only [periodExpires]; repeat' split) <;> simp_all
  · (simp only [periodExpires]; repeat' split) <;> simp_all
  · (simp only [periodExpires]; repeat' split) <;> simp_all
  · (simp only [periodExpires]; repeat' split) <;> simp_all

/-- What `periodExpires` leaves as it is, continued. -/
@[simp] theorem periodExpires_frame1 (c : Controller) :
    (periodExpires c).line.number = c.line.number ∧ (periodExpires c).line.rx = c.line.rx ∧
    (periodExpires c).line.ack = c.line.ack ∧ (periodExpires c).line.phase = c.line.phase ∧
    (periodExpires c).events.enable = c.events.enable ∧ (periodExpires c).events.carried = c.events.carried := by
  refine ⟨?_, ?_, ?_, ?_, ?_, ?_⟩
  · (simp only [periodExpires]; repeat' split) <;> simp_all
  · (simp only [periodExpires]; repeat' split) <;> simp_all
  · (simp only [periodExpires]; repeat' split) <;> simp_all
  · (simp only [periodExpires]; repeat' split) <;> simp_all
  · (simp only [periodExpires]; repeat' split) <;> simp_all
  · (simp only [periodExpires]; repeat' split) <;> simp_all

/-- What `sampleArrives` leaves as it is. -/
@[simp] theorem sampleArrives_frame (x : SampleCode) (c : Controller) :
    (sampleArrives x c).start = c.start ∧ (sampleArrives x c).time = c.time ∧ (sampleArrives x c).table = c.table ∧
    (sampleArrives x c).round = c.round ∧ (sampleArrives x c).held = c.held ∧ (sampleArrives x c).doors = c.doors ∧
    (sampleArrives x c).scan = c.scan ∧ (sampleArrives x c).track = c.track ∧ (sampleArrives x c).line = c.line ∧
    (sampleArrives x c).job = c.job ∧ (sampleArrives x c).events = c.events := by
  refine ⟨?_, ?_, ?_, ?_, ?_, ?_, ?_, ?_, ?_, ?_, ?_⟩
  · (simp only [sampleArrives]; repeat' split) <;> simp_all
  · (simp only [sampleArrives]; repeat' split) <;> simp_all
  · (simp only [sampleArrives]; repeat' split) <;> simp_all
  · (simp only [sampleArrives]; repeat' split) <;> simp_all
  · (simp only [sampleArrives]; repeat' split) <;> simp_all
  · (simp only [sampleArrives]; repeat' split) <;> simp_all
  · (simp only [sampleArrives]; repeat' split) <;> simp_all
  · (simp only [sampleArrives]; repeat' split) <;> simp_all
  · (simp only [sampleArrives]; repeat' split) <;> simp_all
  · (simp only [sampleArrives]; repeat' split) <;> simp_all
  · (simp only [sampleArrives]; repeat' split) <;> simp_all

/-- What `answerExpires` leaves as it is. -/
@[simp] theorem answerExpires_frame (c : Controller) :
    (answerExpires c).start = c.start ∧ (answerExpires c).time = c.time ∧ (answerExpires c).table = c.table ∧
    (answerExpires c).round = c.round ∧ (answerExpires c).held = c.held ∧ (answerExpires c).doors = c.doors ∧
    (answerExpires c).scan = c.scan ∧ (answerExpires c).track = c.track ∧ (answerExpires c).line = c.line ∧
    (answerExpires c).job = c.job ∧ (answerExpires c).events = c.events := by
  refine ⟨?_, ?_, ?_, ?_, ?_, ?_, ?_, ?_, ?_, ?_, ?_⟩
  · (simp only [answerExpires]; repeat' split) <;> simp_all
  · (simp only [answerExpires]; repeat' split) <;> simp_all
  · (simp only [answerExpires]; repeat' split) <;> simp_all
  · (simp only [answerExpires]; repeat' split) <;> simp_all
  · (simp only [answerExpires]; repeat' split) <;> simp_all
  · (simp only [answerExpires]; repeat' split) <;> simp_all
  · (simp only [answerExpires]; repeat' split) <;> simp_all
  · (simp only [answerExpires]; repeat' split) <;> simp_all
  · (simp only [answerExpires]; repeat' split) <;> simp_all
  · (simp only [answerExpires]; repeat' split) <;> simp_all
  · (simp only [answerExpires]; repeat' split) <;> simp_all

/-- What `frameEnds` leaves as it is. -/
@[simp] theorem frameEnds_frame (c : Controller) :
    (frameEnds c).start = c.start ∧ (frameEnds c).time = c.time ∧ (frameEnds c).table = c.table ∧
    (frameEnds c).round = c.round ∧ (frameEnds c).held = c.held ∧ (frameEnds c).doors = c.doors ∧
    (frameEnds c).scan = c.scan ∧ (frameEnds c).due = c.due ∧ (frameEnds c).track = c.track ∧
    (frameEnds c).line = c.line ∧ (frameEnds c).job = c.job ∧ (frameEnds c).events = c.events := by
  refine ⟨?_, ?_, ?_, ?_, ?_, ?_, ?_, ?_, ?_, ?_, ?_, ?_⟩
  · (simp only [frameEnds]; repeat' split) <;> simp_all
  · (simp only [frameEnds]; repeat' split) <;> simp_all
  · (simp only [frameEnds]; repeat' split) <;> simp_all
  · (simp only [frameEnds]; repeat' split) <;> simp_all
  · (simp only [frameEnds]; repeat' split) <;> simp_all
  · (simp only [frameEnds]; repeat' split) <;> simp_all
  · (simp only [frameEnds]; repeat' split) <;> simp_all
  · (simp only [frameEnds]; repeat' split) <;> simp_all
  · (simp only [frameEnds]; repeat' split) <;> simp_all
  · (simp only [frameEnds]; repeat' split) <;> simp_all
  · (simp only [frameEnds]; repeat' split) <;> simp_all
  · (simp only [frameEnds]; repeat' split) <;> simp_all

/-- What `mainSendExpires` leaves as it is. -/
@[simp] theorem mainSendExpires_frame (c : Controller) :
    (mainSendExpires c).start = c.start ∧ (mainSendExpires c).time = c.time ∧ (mainSendExpires c).table = c.table ∧
    (mainSendExpires c).round = c.round ∧ (mainSendExpires c).held = c.held ∧ (mainSendExpires c).doors = c.doors ∧
    (mainSendExpires c).scan = c.scan ∧ (mainSendExpires c).due = c.due := by
  refine ⟨?_, ?_, ?_, ?_, ?_, ?_, ?_, ?_⟩
  · (simp only [mainSendExpires]; repeat' split) <;> simp_all
  · (simp only [mainSendExpires]; repeat' split) <;> simp_all
  · (simp only [mainSendExpires]; repeat' split) <;> simp_all
  · (simp only [mainSendExpires]; repeat' split) <;> simp_all
  · (simp only [mainSendExpires]; repeat' split) <;> simp_all
  · (simp only [mainSendExpires]; repeat' split) <;> simp_all
  · (simp only [mainSendExpires]; repeat' split) <;> simp_all
  · (simp only [mainSendExpires]; repeat' split) <;> simp_all

/-- What `mainSendExpires` leaves as it is, continued. -/
@[simp] theorem mainSendExpires_frame1 (c : Controller) :
    (mainSendExpires c).track.pusher = c.track.pusher ∧ (mainSendExpires c).track.guide = c.track.guide ∧
    (mainSendExpires c).track.car = c.track.car ∧ (mainSendExpires c).line.number = c.line.number ∧
    (mainSendExpires c).line.rx = c.line.rx ∧ (mainSendExpires c).line.ack = c.line.ack ∧
    (mainSendExpires c).events.enable = c.events.enable ∧ (mainSendExpires c).events.carried = c.events.carried := by
  refine ⟨?_, ?_, ?_, ?_, ?_, ?_, ?_, ?_⟩
  · (simp only [mainSendExpires]; repeat' split) <;> simp_all
  · (simp only [mainSendExpires]; repeat' split) <;> simp_all
  · (simp only [mainSendExpires]; repeat' split) <;> simp_all
  · (simp only [mainSendExpires]; repeat' split) <;> simp_all
  · (simp only [mainSendExpires]; repeat' split) <;> simp_all
  · (simp only [mainSendExpires]; repeat' split) <;> simp_all
  · (simp only [mainSendExpires]; repeat' split) <;> simp_all
  · (simp only [mainSendExpires]; repeat' split) <;> simp_all

/-- What `takeMain` leaves as it is. -/
@[simp] theorem takeMain_frame (t : Telegram) (c : Controller) :
    (takeMain t c).start = c.start ∧ (takeMain t c).time = c.time ∧ (takeMain t c).table = c.table ∧
    (takeMain t c).round = c.round ∧ (takeMain t c).held = c.held ∧ (takeMain t c).doors = c.doors ∧
    (takeMain t c).scan = c.scan ∧ (takeMain t c).due = c.due ∧ (takeMain t c).track = c.track ∧
    (takeMain t c).line = c.line ∧ (takeMain t c).job = c.job ∧ (takeMain t c).events = c.events := by
  simp [takeMain]

/-- What `mainGoesStale` leaves as it is. -/
@[simp] theorem mainGoesStale_frame (c : Controller) :
    (mainGoesStale c).start = c.start ∧ (mainGoesStale c).time = c.time ∧ (mainGoesStale c).table = c.table ∧
    (mainGoesStale c).round = c.round ∧ (mainGoesStale c).held = c.held ∧ (mainGoesStale c).doors = c.doors ∧
    (mainGoesStale c).scan = c.scan ∧ (mainGoesStale c).due = c.due ∧ (mainGoesStale c).track = c.track ∧
    (mainGoesStale c).job = c.job := by
  refine ⟨?_, ?_, ?_, ?_, ?_, ?_, ?_, ?_, ?_, ?_⟩
  · (simp only [mainGoesStale]; repeat' split) <;> simp_all
  · (simp only [mainGoesStale]; repeat' split) <;> simp_all
  · (simp only [mainGoesStale]; repeat' split) <;> simp_all
  · (simp only [mainGoesStale]; repeat' split) <;> simp_all
  · (simp only [mainGoesStale]; repeat' split) <;> simp_all
  · (simp only [mainGoesStale]; repeat' split) <;> simp_all
  · (simp only [mainGoesStale]; repeat' split) <;> simp_all
  · (simp only [mainGoesStale]; repeat' split) <;> simp_all
  · (simp only [mainGoesStale]; repeat' split) <;> simp_all
  · (simp only [mainGoesStale]; repeat' split) <;> simp_all

/-- What `mainGoesStale` leaves as it is, continued. -/
@[simp] theorem mainGoesStale_frame1 (c : Controller) :
    (mainGoesStale c).line.number = c.line.number ∧ (mainGoesStale c).line.rx = c.line.rx ∧
    (mainGoesStale c).line.ack = c.line.ack ∧ (mainGoesStale c).line.phase = c.line.phase ∧
    (mainGoesStale c).events.enable = c.events.enable ∧ (mainGoesStale c).events.carried = c.events.carried := by
  refine ⟨?_, ?_, ?_, ?_, ?_, ?_⟩
  · (simp only [mainGoesStale]; repeat' split) <;> simp_all
  · (simp only [mainGoesStale]; repeat' split) <;> simp_all
  · (simp only [mainGoesStale]; repeat' split) <;> simp_all
  · (simp only [mainGoesStale]; repeat' split) <;> simp_all
  · (simp only [mainGoesStale]; repeat' split) <;> simp_all
  · (simp only [mainGoesStale]; repeat' split) <;> simp_all

end Sys2Proof.Machine
end

