-- ==== Sys2Proof/Laws/FramesStart.lean ====
section
/-! SUPPORT. What the operations leave as it is: start-up, the line unit and the ticks. One lemma for each operation, tagged simp, so
that no proof unfolds an operation to see that a block it never touches is unchanged. -/

namespace Sys2Proof.Machine

open Sys2Proof

/-- What `modifyStart` leaves as it is. -/
@[simp] theorem modifyStart_frame (f : StartUp → StartUp) (c : Controller) :
    (modifyStart f c).time = c.time ∧ (modifyStart f c).table = c.table ∧ (modifyStart f c).round = c.round ∧
    (modifyStart f c).held = c.held ∧ (modifyStart f c).doors = c.doors ∧ (modifyStart f c).scan = c.scan ∧
    (modifyStart f c).due = c.due ∧ (modifyStart f c).track = c.track ∧ (modifyStart f c).line = c.line ∧
    (modifyStart f c).job = c.job ∧ (modifyStart f c).events = c.events ∧ (modifyStart f c).reg = c.reg := by
  simp [modifyStart]

/-- What `beginRead` leaves as it is. -/
@[simp] theorem beginRead_frame (straps : BitVec 5) (c : Controller) :
    (beginRead straps c).time = c.time ∧ (beginRead straps c).table = c.table ∧
    (beginRead straps c).round = c.round ∧ (beginRead straps c).held = c.held ∧
    (beginRead straps c).doors = c.doors ∧ (beginRead straps c).scan = c.scan ∧ (beginRead straps c).due = c.due ∧
    (beginRead straps c).track = c.track ∧ (beginRead straps c).line = c.line ∧ (beginRead straps c).job = c.job ∧
    (beginRead straps c).events = c.events ∧ (beginRead straps c).reg = c.reg := by
  simp [beginRead]

/-- What `byteArrives` leaves as it is. -/
@[simp] theorem byteArrives_frame (b : Byte) (c : Controller) :
    (byteArrives b c).time = c.time ∧ (byteArrives b c).table = c.table ∧ (byteArrives b c).round = c.round ∧
    (byteArrives b c).held = c.held ∧ (byteArrives b c).doors = c.doors ∧ (byteArrives b c).scan = c.scan ∧
    (byteArrives b c).track = c.track ∧ (byteArrives b c).line = c.line ∧ (byteArrives b c).job = c.job ∧
    (byteArrives b c).events = c.events ∧ (byteArrives b c).reg = c.reg := by
  refine ⟨?_, ?_, ?_, ?_, ?_, ?_, ?_, ?_, ?_, ?_, ?_⟩
  · (simp only [byteArrives]; repeat' split) <;> simp_all
  · (simp only [byteArrives]; repeat' split) <;> simp_all
  · (simp only [byteArrives]; repeat' split) <;> simp_all
  · (simp only [byteArrives]; repeat' split) <;> simp_all
  · (simp only [byteArrives]; repeat' split) <;> simp_all
  · (simp only [byteArrives]; repeat' split) <;> simp_all
  · (simp only [byteArrives]; repeat' split) <;> simp_all
  · (simp only [byteArrives]; repeat' split) <;> simp_all
  · (simp only [byteArrives]; repeat' split) <;> simp_all
  · (simp only [byteArrives]; repeat' split) <;> simp_all
  · (simp only [byteArrives]; repeat' split) <;> simp_all

/-- What `enterConfigFault` leaves as it is. -/
@[simp] theorem enterConfigFault_frame (c : Controller) :
    (enterConfigFault c).time = c.time ∧ (enterConfigFault c).table = c.table ∧
    (enterConfigFault c).round = c.round ∧ (enterConfigFault c).held = c.held ∧
    (enterConfigFault c).doors = c.doors ∧ (enterConfigFault c).scan = c.scan ∧ (enterConfigFault c).due = c.due ∧
    (enterConfigFault c).track = c.track ∧ (enterConfigFault c).line = c.line ∧ (enterConfigFault c).job = c.job ∧
    (enterConfigFault c).events = c.events := by
  simp [enterConfigFault]

/-- What `byteTimesOut` leaves as it is. -/
@[simp] theorem byteTimesOut_frame (c : Controller) :
    (byteTimesOut c).time = c.time ∧ (byteTimesOut c).table = c.table ∧ (byteTimesOut c).round = c.round ∧
    (byteTimesOut c).held = c.held ∧ (byteTimesOut c).doors = c.doors ∧ (byteTimesOut c).scan = c.scan ∧
    (byteTimesOut c).due = c.due ∧ (byteTimesOut c).track = c.track ∧ (byteTimesOut c).line = c.line ∧
    (byteTimesOut c).job = c.job ∧ (byteTimesOut c).events = c.events := by
  refine ⟨?_, ?_, ?_, ?_, ?_, ?_, ?_, ?_, ?_, ?_, ?_⟩
  · (simp only [byteTimesOut]; repeat' split) <;> simp_all
  · (simp only [byteTimesOut]; repeat' split) <;> simp_all
  · (simp only [byteTimesOut]; repeat' split) <;> simp_all
  · (simp only [byteTimesOut]; repeat' split) <;> simp_all
  · (simp only [byteTimesOut]; repeat' split) <;> simp_all
  · (simp only [byteTimesOut]; repeat' split) <;> simp_all
  · (simp only [byteTimesOut]; repeat' split) <;> simp_all
  · (simp only [byteTimesOut]; repeat' split) <;> simp_all
  · (simp only [byteTimesOut]; repeat' split) <;> simp_all
  · (simp only [byteTimesOut]; repeat' split) <;> simp_all
  · (simp only [byteTimesOut]; repeat' split) <;> simp_all

/-- What `coldStart` leaves as it is. -/
@[simp] theorem coldStart_frame (g : Config) (c : Controller) :
    (coldStart g c).start = c.start ∧ (coldStart g c).time = c.time ∧
    (coldStart g c).doors.presentIn = c.doors.presentIn ∧ (coldStart g c).doors.latchedIn = c.doors.latchedIn ∧
    (coldStart g c).line.number = c.line.number ∧ (coldStart g c).line.rx = c.line.rx ∧
    (coldStart g c).line.ack = c.line.ack ∧ (coldStart g c).line.phase = c.line.phase ∧
    (coldStart g c).events.enable = c.events.enable ∧ (coldStart g c).events.carried = c.events.carried := by
  refine ⟨?_, ?_, ?_, ?_, ?_, ?_, ?_, ?_, ?_, ?_⟩
  · (simp only [coldStart]; repeat' split) <;> simp_all
  · (simp only [coldStart]; repeat' split) <;> simp_all
  · (simp only [coldStart]; repeat' split) <;> simp_all
  · (simp only [coldStart]; repeat' split) <;> simp_all
  · (simp only [coldStart]; repeat' split) <;> simp_all
  · (simp only [coldStart]; repeat' split) <;> simp_all
  · (simp only [coldStart]; repeat' split) <;> simp_all
  · (simp only [coldStart]; repeat' split) <;> simp_all
  · (simp only [coldStart]; repeat' split) <;> simp_all
  · (simp only [coldStart]; repeat' split) <;> simp_all

/-- What `settleJobAt` leaves as it is. -/
@[simp] theorem settleJobAt_frame (i : Nat) (oven : Nat) (p : Phase) (c : Controller) :
    (settleJobAt i oven p c).start = c.start ∧ (settleJobAt i oven p c).time = c.time ∧
    (settleJobAt i oven p c).round = c.round ∧ (settleJobAt i oven p c).held = c.held ∧
    (settleJobAt i oven p c).doors = c.doors ∧ (settleJobAt i oven p c).scan = c.scan ∧
    (settleJobAt i oven p c).due = c.due := by
  refine ⟨?_, ?_, ?_, ?_, ?_, ?_, ?_⟩
  · (simp only [settleJobAt]; repeat' split) <;> simp_all
  · (simp only [settleJobAt]; repeat' split) <;> simp_all
  · (simp only [settleJobAt]; repeat' split) <;> simp_all
  · (simp only [settleJobAt]; repeat' split) <;> simp_all
  · (simp only [settleJobAt]; repeat' split) <;> simp_all
  · (simp only [settleJobAt]; repeat' split) <;> simp_all
  · (simp only [settleJobAt]; repeat' split) <;> simp_all

/-- What `settleJobAt` leaves as it is, continued. -/
@[simp] theorem settleJobAt_frame1 (i : Nat) (oven : Nat) (p : Phase) (c : Controller) :
    (settleJobAt i oven p c).table.below = c.table.below ∧ (settleJobAt i oven p c).table.above = c.table.above ∧
    (settleJobAt i oven p c).table.nmin = c.table.nmin ∧ (settleJobAt i oven p c).table.pendT = c.table.pendT ∧
    (settleJobAt i oven p c).table.pendE = c.table.pendE ∧ (settleJobAt i oven p c).track.pusher = c.track.pusher ∧
    (settleJobAt i oven p c).track.guide = c.track.guide ∧ (settleJobAt i oven p c).track.car = c.track.car ∧
    (settleJobAt i oven p c).line.number = c.line.number ∧ (settleJobAt i oven p c).line.rx = c.line.rx ∧
    (settleJobAt i oven p c).line.ack = c.line.ack ∧ (settleJobAt i oven p c).events.enable = c.events.enable := by
  refine ⟨?_, ?_, ?_, ?_, ?_, ?_, ?_, ?_, ?_, ?_, ?_, ?_⟩
  · (simp only [settleJobAt]; repeat' split) <;> simp_all
  · (simp only [settleJobAt]; repeat' split) <;> simp_all
  · (simp only [settleJobAt]; repeat' split) <;> simp_all
  · (simp only [settleJobAt]; repeat' split) <;> simp_all
  · (simp only [settleJobAt]; repeat' split) <;> simp_all
  · (simp only [settleJobAt]; repeat' split) <;> simp_all
  · (simp only [settleJobAt]; repeat' split) <;> simp_all
  · (simp only [settleJobAt]; repeat' split) <;> simp_all
  · (simp only [settleJobAt]; repeat' split) <;> simp_all
  · (simp only [settleJobAt]; repeat' split) <;> simp_all
  · (simp only [settleJobAt]; repeat' split) <;> simp_all
  · (simp only [settleJobAt]; repeat' split) <;> simp_all

/-- What `settleJobAt` leaves as it is, continued. -/
@[simp] theorem settleJobAt_frame2 (i : Nat) (oven : Nat) (p : Phase) (c : Controller) :
    (settleJobAt i oven p c).events.carried = c.events.carried ∧ (settleJobAt i oven p c).reg.cycle = c.reg.cycle ∧
    (settleJobAt i oven p c).reg.period = c.reg.period ∧ (settleJobAt i oven p c).reg.answer = c.reg.answer ∧
    (settleJobAt i oven p c).reg.mainSend = c.reg.mainSend ∧
    (settleJobAt i oven p c).reg.framesOn = c.reg.framesOn ∧
    (settleJobAt i oven p c).reg.main.tap = c.reg.main.tap ∧
    (settleJobAt i oven p c).reg.main.value = c.reg.main.value ∧
    (settleJobAt i oven p c).reg.main.invalid = c.reg.main.invalid ∧
    (settleJobAt i oven p c).reg.main.age = c.reg.main.age ∧
    (settleJobAt i oven p c).reg.main.stale = c.reg.main.stale := by
  refine ⟨?_, ?_, ?_, ?_, ?_, ?_, ?_, ?_, ?_, ?_, ?_⟩
  · (simp only [settleJobAt]; repeat' split) <;> simp_all
  · (simp only [settleJobAt]; repeat' split) <;> simp_all
  · (simp only [settleJobAt]; repeat' split) <;> simp_all
  · (simp only [settleJobAt]; repeat' split) <;> simp_all
  · (simp only [settleJobAt]; repeat' split) <;> simp_all
  · (simp only [settleJobAt]; repeat' split) <;> simp_all
  · (simp only [settleJobAt]; repeat' split) <;> simp_all
  · (simp only [settleJobAt]; repeat' split) <;> simp_all
  · (simp only [settleJobAt]; repeat' split) <;> simp_all
  · (simp only [settleJobAt]; repeat' split) <;> simp_all
  · (simp only [settleJobAt]; repeat' split) <;> simp_all

/-- What `settleJob` leaves as it is. -/
@[simp] theorem settleJob_frame (c : Controller) :
    (settleJob c).start = c.start ∧ (settleJob c).time = c.time ∧ (settleJob c).round = c.round ∧
    (settleJob c).held = c.held ∧ (settleJob c).doors = c.doors ∧ (settleJob c).scan = c.scan ∧
    (settleJob c).due = c.due := by
  refine ⟨?_, ?_, ?_, ?_, ?_, ?_, ?_⟩
  · (simp only [settleJob]; repeat' split) <;> simp_all
  · (simp only [settleJob]; repeat' split) <;> simp_all
  · (simp only [settleJob]; repeat' split) <;> simp_all
  · (simp only [settleJob]; repeat' split) <;> simp_all
  · (simp only [settleJob]; repeat' split) <;> simp_all
  · (simp only [settleJob]; repeat' split) <;> simp_all
  · (simp only [settleJob]; repeat' split) <;> simp_all

/-- What `settleJob` leaves as it is, continued. -/
@[simp] theorem settleJob_frame1 (c : Controller) :
    (settleJob c).table.below = c.table.below ∧ (settleJob c).table.above = c.table.above ∧
    (settleJob c).table.nmin = c.table.nmin ∧ (settleJob c).table.pendT = c.table.pendT ∧
    (settleJob c).table.pendE = c.table.pendE ∧ (settleJob c).track.pusher = c.track.pusher ∧
    (settleJob c).track.guide = c.track.guide ∧ (settleJob c).track.car = c.track.car ∧
    (settleJob c).line.number = c.line.number ∧ (settleJob c).line.rx = c.line.rx ∧
    (settleJob c).line.ack = c.line.ack ∧ (settleJob c).events.enable = c.events.enable := by
  refine ⟨?_, ?_, ?_, ?_, ?_, ?_, ?_, ?_, ?_, ?_, ?_, ?_⟩
  · (simp only [settleJob]; repeat' split) <;> simp_all
  · (simp only [settleJob]; repeat' split) <;> simp_all
  · (simp only [settleJob]; repeat' split) <;> simp_all
  · (simp only [settleJob]; repeat' split) <;> simp_all
  · (simp only [settleJob]; repeat' split) <;> simp_all
  · (simp only [settleJob]; repeat' split) <;> simp_all
  · (simp only [settleJob]; repeat' split) <;> simp_all
  · (simp only [settleJob]; repeat' split) <;> simp_all
  · (simp only [settleJob]; repeat' split) <;> simp_all
  · (simp only [settleJob]; repeat' split) <;> simp_all
  · (simp only [settleJob]; repeat' split) <;> simp_all
  · (simp only [settleJob]; repeat' split) <;> simp_all

/-- What `settleJob` leaves as it is, continued. -/
@[simp] theorem settleJob_frame2 (c : Controller) :
    (settleJob c).events.carried = c.events.carried ∧ (settleJob c).reg.cycle = c.reg.cycle ∧
    (settleJob c).reg.period = c.reg.period ∧ (settleJob c).reg.answer = c.reg.answer ∧
    (settleJob c).reg.mainSend = c.reg.mainSend ∧ (settleJob c).reg.framesOn = c.reg.framesOn ∧
    (settleJob c).reg.main.tap = c.reg.main.tap ∧ (settleJob c).reg.main.value = c.reg.main.value ∧
    (settleJob c).reg.main.invalid = c.reg.main.invalid ∧ (settleJob c).reg.main.age = c.reg.main.age ∧
    (settleJob c).reg.main.stale = c.reg.main.stale := by
  refine ⟨?_, ?_, ?_, ?_, ?_, ?_, ?_, ?_, ?_, ?_, ?_⟩
  · (simp only [settleJob]; repeat' split) <;> simp_all
  · (simp only [settleJob]; repeat' split) <;> simp_all
  · (simp only [settleJob]; repeat' split) <;> simp_all
  · (simp only [settleJob]; repeat' split) <;> simp_all
  · (simp only [settleJob]; repeat' split) <;> simp_all
  · (simp only [settleJob]; repeat' split) <;> simp_all
  · (simp only [settleJob]; repeat' split) <;> simp_all
  · (simp only [settleJob]; repeat' split) <;> simp_all
  · (simp only [settleJob]; repeat' split) <;> simp_all
  · (simp only [settleJob]; repeat' split) <;> simp_all
  · (simp only [settleJob]; repeat' split) <;> simp_all

/-- What `warmStart` leaves as it is. -/
@[simp] theorem warmStart_frame (g : Config) (c : Controller) :
    (warmStart g c).start = c.start ∧ (warmStart g c).time = c.time ∧ (warmStart g c).scan = c.scan ∧
    (warmStart g c).table.below = c.table.below ∧ (warmStart g c).table.above = c.table.above ∧
    (warmStart g c).table.nmin = c.table.nmin ∧ (warmStart g c).table.pendT = c.table.pendT ∧
    (warmStart g c).table.pendE = c.table.pendE ∧ (warmStart g c).doors.presentIn = c.doors.presentIn ∧
    (warmStart g c).doors.latchedIn = c.doors.latchedIn ∧ (warmStart g c).line.number = c.line.number ∧
    (warmStart g c).line.rx = c.line.rx ∧ (warmStart g c).line.ack = c.line.ack ∧
    (warmStart g c).events.enable = c.events.enable ∧ (warmStart g c).events.carried = c.events.carried := by
  simp [warmStart]

/-- What `enterListen` leaves as it is. -/
@[simp] theorem enterListen_frame (c : Controller) :
    (enterListen c).time = c.time ∧ (enterListen c).table = c.table ∧ (enterListen c).round = c.round ∧
    (enterListen c).held = c.held ∧ (enterListen c).doors = c.doors ∧ (enterListen c).scan = c.scan ∧
    (enterListen c).due = c.due ∧ (enterListen c).track = c.track ∧ (enterListen c).job = c.job ∧
    (enterListen c).events = c.events ∧ (enterListen c).line.rx = c.line.rx ∧ (enterListen c).line.tx = c.line.tx := by
  simp [enterListen]

/-- What `countClamps` leaves as it is. -/
@[simp] theorem countClamps_frame (n : Nat) (c : Controller) :
    (countClamps n c).start = c.start ∧ (countClamps n c).time = c.time ∧ (countClamps n c).table = c.table ∧
    (countClamps n c).round = c.round ∧ (countClamps n c).held = c.held ∧ (countClamps n c).doors = c.doors ∧
    (countClamps n c).scan = c.scan ∧ (countClamps n c).due = c.due ∧ (countClamps n c).track = c.track ∧
    (countClamps n c).job = c.job ∧ (countClamps n c).reg = c.reg ∧ (countClamps n c).line.number = c.line.number ∧
    (countClamps n c).line.rx = c.line.rx ∧ (countClamps n c).line.ack = c.line.ack ∧
    (countClamps n c).line.phase = c.line.phase ∧ (countClamps n c).events.enable = c.events.enable ∧
    (countClamps n c).events.carried = c.events.carried := by
  simp [countClamps]

/-- What `takeReportSet` leaves as it is. -/
@[simp] theorem takeReportSet_frame (g : Config) (c : Controller) :
    (takeReportSet g c).start = c.start ∧ (takeReportSet g c).time = c.time ∧ (takeReportSet g c).table = c.table ∧
    (takeReportSet g c).round = c.round ∧ (takeReportSet g c).held = c.held ∧ (takeReportSet g c).doors = c.doors ∧
    (takeReportSet g c).scan = c.scan ∧ (takeReportSet g c).due = c.due ∧ (takeReportSet g c).track = c.track ∧
    (takeReportSet g c).line = c.line ∧ (takeReportSet g c).job = c.job ∧ (takeReportSet g c).reg = c.reg ∧
    (takeReportSet g c).events.carried = c.events.carried := by
  refine ⟨?_, ?_, ?_, ?_, ?_, ?_, ?_, ?_, ?_, ?_, ?_, ?_, ?_⟩
  · (simp only [takeReportSet]; repeat' split) <;> simp_all
  · (simp only [takeReportSet]; repeat' split) <;> simp_all
  · (simp only [takeReportSet]; repeat' split) <;> simp_all
  · (simp only [takeReportSet]; repeat' split) <;> simp_all
  · (simp only [takeReportSet]; repeat' split) <;> simp_all
  · (simp only [takeReportSet]; repeat' split) <;> simp_all
  · (simp only [takeReportSet]; repeat' split) <;> simp_all
  · (simp only [takeReportSet]; repeat' split) <;> simp_all
  · (simp only [takeReportSet]; repeat' split) <;> simp_all
  · (simp only [takeReportSet]; repeat' split) <;> simp_all
  · (simp only [takeReportSet]; repeat' split) <;> simp_all
  · (simp only [takeReportSet]; repeat' split) <;> simp_all
  · (simp only [takeReportSet]; repeat' split) <;> simp_all

/-- What `loadInForce` leaves as it is. -/
@[simp] theorem loadInForce_frame (g : Config) (clamps : Nat) (c : Controller) :
    (loadInForce g clamps c).time = c.time ∧ (loadInForce g clamps c).doors.presentIn = c.doors.presentIn ∧
    (loadInForce g clamps c).doors.latchedIn = c.doors.latchedIn ∧ (loadInForce g clamps c).line.rx = c.line.rx ∧
    (loadInForce g clamps c).events.carried = c.events.carried := by
  refine ⟨?_, ?_, ?_, ?_, ?_⟩
  · (simp only [loadInForce]; repeat' split) <;> simp_all
  · (simp only [loadInForce]; repeat' split) <;> simp_all
  · (simp only [loadInForce]; repeat' split) <;> simp_all
  · (simp only [loadInForce]; repeat' split) <;> simp_all
  · (simp only [loadInForce]; repeat' split) <;> simp_all

/-- What `loadCompletes` leaves as it is. -/
@[simp] theorem loadCompletes_frame (c : Controller) :
    (loadCompletes c).time = c.time ∧ (loadCompletes c).doors.presentIn = c.doors.presentIn ∧
    (loadCompletes c).doors.latchedIn = c.doors.latchedIn ∧ (loadCompletes c).line.rx = c.line.rx ∧
    (loadCompletes c).events.carried = c.events.carried := by
  refine ⟨?_, ?_, ?_, ?_, ?_⟩
  · (simp only [loadCompletes]; repeat' split) <;> simp_all
  · (simp only [loadCompletes]; repeat' split) <;> simp_all
  · (simp only [loadCompletes]; repeat' split) <;> simp_all
  · (simp only [loadCompletes]; repeat' split) <;> simp_all
  · (simp only [loadCompletes]; repeat' split) <;> simp_all

/-- What `countSeedNeeded` leaves as it is. -/
@[simp] theorem countSeedNeeded_frame (c : Controller) (i : Nat) :
    (countSeedNeeded c i).start = c.start ∧ (countSeedNeeded c i).time = c.time ∧
    (countSeedNeeded c i).table = c.table ∧ (countSeedNeeded c i).round = c.round ∧
    (countSeedNeeded c i).held = c.held ∧ (countSeedNeeded c i).doors = c.doors ∧
    (countSeedNeeded c i).scan = c.scan ∧ (countSeedNeeded c i).due = c.due ∧
    (countSeedNeeded c i).track = c.track ∧ (countSeedNeeded c i).job = c.job ∧ (countSeedNeeded c i).reg = c.reg := by
  refine ⟨?_, ?_, ?_, ?_, ?_, ?_, ?_, ?_, ?_, ?_, ?_⟩
  · (simp only [countSeedNeeded]; repeat' split) <;> simp_all
  · (simp only [countSeedNeeded]; repeat' split) <;> simp_all
  · (simp only [countSeedNeeded]; repeat' split) <;> simp_all
  · (simp only [countSeedNeeded]; repeat' split) <;> simp_all
  · (simp only [countSeedNeeded]; repeat' split) <;> simp_all
  · (simp only [countSeedNeeded]; repeat' split) <;> simp_all
  · (simp only [countSeedNeeded]; repeat' split) <;> simp_all
  · (simp only [countSeedNeeded]; repeat' split) <;> simp_all
  · (simp only [countSeedNeeded]; repeat' split) <;> simp_all
  · (simp only [countSeedNeeded]; repeat' split) <;> simp_all
  · (simp only [countSeedNeeded]; repeat' split) <;> simp_all

/-- What `countSeedNeeded` leaves as it is, continued. -/
@[simp] theorem countSeedNeeded_frame1 (c : Controller) (i : Nat) :
    (countSeedNeeded c i).line.number = c.line.number ∧ (countSeedNeeded c i).line.rx = c.line.rx ∧
    (countSeedNeeded c i).line.ack = c.line.ack ∧ (countSeedNeeded c i).line.phase = c.line.phase ∧
    (countSeedNeeded c i).events.enable = c.events.enable ∧ (countSeedNeeded c i).events.carried = c.events.carried := by
  refine ⟨?_, ?_, ?_, ?_, ?_, ?_⟩
  · (simp only [countSeedNeeded]; repeat' split) <;> simp_all
  · (simp only [countSeedNeeded]; repeat' split) <;> simp_all
  · (simp only [countSeedNeeded]; repeat' split) <;> simp_all
  · (simp only [countSeedNeeded]; repeat' split) <;> simp_all
  · (simp only [countSeedNeeded]; repeat' split) <;> simp_all
  · (simp only [countSeedNeeded]; repeat' split) <;> simp_all

/-- What `countSeedsNeeded` leaves as it is. -/
@[simp] theorem countSeedsNeeded_frame (c : Controller) :
    (countSeedsNeeded c).start = c.start ∧ (countSeedsNeeded c).time = c.time ∧
    (countSeedsNeeded c).round = c.round ∧ (countSeedsNeeded c).held = c.held ∧
    (countSeedsNeeded c).doors = c.doors ∧ (countSeedsNeeded c).scan = c.scan ∧ (countSeedsNeeded c).due = c.due ∧
    (countSeedsNeeded c).track = c.track ∧ (countSeedsNeeded c).job = c.job ∧ (countSeedsNeeded c).reg = c.reg := by
  refine ⟨?_, ?_, ?_, ?_, ?_, ?_, ?_, ?_, ?_, ?_⟩
  · (simp only [countSeedsNeeded]; repeat' split) <;> simp_all
  · (simp only [countSeedsNeeded]; repeat' split) <;> simp_all
  · (simp only [countSeedsNeeded]; repeat' split) <;> simp_all
  · (simp only [countSeedsNeeded]; repeat' split) <;> simp_all
  · (simp only [countSeedsNeeded]; repeat' split) <;> simp_all
  · (simp only [countSeedsNeeded]; repeat' split) <;> simp_all
  · (simp only [countSeedsNeeded]; repeat' split) <;> simp_all
  · (simp only [countSeedsNeeded]; repeat' split) <;> simp_all
  · (simp only [countSeedsNeeded]; repeat' split) <;> simp_all
  · (simp only [countSeedsNeeded]; repeat' split) <;> simp_all

/-- What `countSeedsNeeded` leaves as it is, continued. -/
@[simp] theorem countSeedsNeeded_frame1 (c : Controller) :
    (countSeedsNeeded c).table.ovens = c.table.ovens ∧ (countSeedsNeeded c).table.below = c.table.below ∧
    (countSeedsNeeded c).table.above = c.table.above ∧ (countSeedsNeeded c).table.nmin = c.table.nmin ∧
    (countSeedsNeeded c).table.pendT = c.table.pendT ∧ (countSeedsNeeded c).table.pendE = c.table.pendE ∧
    (countSeedsNeeded c).line.number = c.line.number ∧ (countSeedsNeeded c).line.rx = c.line.rx ∧
    (countSeedsNeeded c).line.ack = c.line.ack ∧ (countSeedsNeeded c).line.phase = c.line.phase ∧
    (countSeedsNeeded c).events.enable = c.events.enable ∧ (countSeedsNeeded c).events.carried = c.events.carried := by
  refine ⟨?_, ?_, ?_, ?_, ?_, ?_, ?_, ?_, ?_, ?_, ?_, ?_⟩
  · (simp only [countSeedsNeeded]; repeat' split) <;> simp_all
  · (simp only [countSeedsNeeded]; repeat' split) <;> simp_all
  · (simp only [countSeedsNeeded]; repeat' split) <;> simp_all
  · (simp only [countSeedsNeeded]; repeat' split) <;> simp_all
  · (simp only [countSeedsNeeded]; repeat' split) <;> simp_all
  · (simp only [countSeedsNeeded]; repeat' split) <;> simp_all
  · (simp only [countSeedsNeeded]; repeat' split) <;> simp_all
  · (simp only [countSeedsNeeded]; repeat' split) <;> simp_all
  · (simp only [countSeedsNeeded]; repeat' split) <;> simp_all
  · (simp only [countSeedsNeeded]; repeat' split) <;> simp_all
  · (simp only [countSeedsNeeded]; repeat' split) <;> simp_all
  · (simp only [countSeedsNeeded]; repeat' split) <;> simp_all

/-- What `listenExpires` leaves as it is. -/
@[simp] theorem listenExpires_frame (c : Controller) :
    (listenExpires c).time = c.time ∧ (listenExpires c).round = c.round ∧ (listenExpires c).held = c.held ∧
    (listenExpires c).doors = c.doors ∧ (listenExpires c).scan = c.scan ∧ (listenExpires c).due = c.due := by
  refine ⟨?_, ?_, ?_, ?_, ?_, ?_⟩
  · (simp only [listenExpires]; repeat' split) <;> simp_all
  · (simp only [listenExpires]; repeat' split) <;> simp_all
  · (simp only [listenExpires]; repeat' split) <;> simp_all
  · (simp only [listenExpires]; repeat' split) <;> simp_all
  · (simp only [listenExpires]; repeat' split) <;> simp_all
  · (simp only [listenExpires]; repeat' split) <;> simp_all

/-- What `listenExpires` leaves as it is, continued. -/
@[simp] theorem listenExpires_frame1 (c : Controller) :
    (listenExpires c).table.ovens = c.table.ovens ∧ (listenExpires c).table.below = c.table.below ∧
    (listenExpires c).table.above = c.table.above ∧ (listenExpires c).table.nmin = c.table.nmin ∧
    (listenExpires c).table.pendT = c.table.pendT ∧ (listenExpires c).table.pendE = c.table.pendE ∧
    (listenExpires c).track.pusher = c.track.pusher ∧ (listenExpires c).track.guide = c.track.guide ∧
    (listenExpires c).track.car = c.track.car ∧ (listenExpires c).line.number = c.line.number ∧
    (listenExpires c).line.rx = c.line.rx ∧ (listenExpires c).line.ack = c.line.ack := by
  refine ⟨?_, ?_, ?_, ?_, ?_, ?_, ?_, ?_, ?_, ?_, ?_, ?_⟩
  · (simp only [listenExpires]; repeat' split) <;> simp_all
  · (simp only [listenExpires]; repeat' split) <;> simp_all
  · (simp only [listenExpires]; repeat' split) <;> simp_all
  · (simp only [listenExpires]; repeat' split) <;> simp_all
  · (simp only [listenExpires]; repeat' split) <;> simp_all
  · (simp only [listenExpires]; repeat' split) <;> simp_all
  · (simp only [listenExpires]; repeat' split) <;> simp_all
  · (simp only [listenExpires]; repeat' split) <;> simp_all
  · (simp only [listenExpires]; repeat' split) <;> simp_all
  · (simp only [listenExpires]; repeat' split) <;> simp_all
  · (simp only [listenExpires]; repeat' split) <;> simp_all
  · (simp only [listenExpires]; repeat' split) <;> simp_all

/-- What `listenExpires` leaves as it is, continued. -/
@[simp] theorem listenExpires_frame2 (c : Controller) :
    (listenExpires c).events.enable = c.events.enable ∧ (listenExpires c).events.carried = c.events.carried := by
  refine ⟨?_, ?_⟩
  · (simp only [listenExpires]; repeat' split) <;> simp_all
  · (simp only [listenExpires]; repeat' split) <;> simp_all

/-- What `restartAsserts` leaves as it is. -/
@[simp] theorem restartAsserts_frame (c : Controller) :
    (restartAsserts c).time = c.time ∧ (restartAsserts c).doors = c.doors := by
  refine ⟨?_, ?_⟩
  · (simp only [restartAsserts]; repeat' split) <;> simp_all
  · (simp only [restartAsserts]; repeat' split) <;> simp_all

/-- What `restartAsserts` leaves as it is, continued. -/
@[simp] theorem restartAsserts_frame1 (c : Controller) :
    (restartAsserts c).start.config = c.start.config ∧ (restartAsserts c).start.powerOn = c.start.powerOn ∧
    (restartAsserts c).table.ovens = c.table.ovens ∧ (restartAsserts c).table.below = c.table.below ∧
    (restartAsserts c).table.above = c.table.above ∧ (restartAsserts c).table.nmin = c.table.nmin ∧
    (restartAsserts c).table.pendT = c.table.pendT ∧ (restartAsserts c).table.pendE = c.table.pendE ∧
    (restartAsserts c).line.number = c.line.number ∧ (restartAsserts c).events.enable = c.events.enable ∧
    (restartAsserts c).events.carried = c.events.carried ∧ (restartAsserts c).reg.frame = c.reg.frame := by
  refine ⟨?_, ?_, ?_, ?_, ?_, ?_, ?_, ?_, ?_, ?_, ?_, ?_⟩
  · (simp only [restartAsserts]; repeat' split) <;> simp_all
  · (simp only [restartAsserts]; repeat' split) <;> simp_all
  · (simp only [restartAsserts]; repeat' split) <;> simp_all
  · (simp only [restartAsserts]; repeat' split) <;> simp_all
  · (simp only [restartAsserts]; repeat' split) <;> simp_all
  · (simp only [restartAsserts]; repeat' split) <;> simp_all
  · (simp only [restartAsserts]; repeat' split) <;> simp_all
  · (simp only [restartAsserts]; repeat' split) <;> simp_all
  · (simp only [restartAsserts]; repeat' split) <;> simp_all
  · (simp only [restartAsserts]; repeat' split) <;> simp_all
  · (simp only [restartAsserts]; repeat' split) <;> simp_all
  · (simp only [restartAsserts]; repeat' split) <;> simp_all

/-- What `restartAsserts` leaves as it is, continued. -/
@[simp] theorem restartAsserts_frame2 (c : Controller) :
    (restartAsserts c).reg.frameHeld = c.reg.frameHeld ∧ (restartAsserts c).reg.main.tap = c.reg.main.tap ∧
    (restartAsserts c).reg.main.value = c.reg.main.value ∧
    (restartAsserts c).reg.main.invalid = c.reg.main.invalid ∧ (restartAsserts c).reg.main.age = c.reg.main.age ∧
    (restartAsserts c).reg.main.stale = c.reg.main.stale := by
  refine ⟨?_, ?_, ?_, ?_, ?_, ?_⟩
  · (simp only [restartAsserts]; repeat' split) <;> simp_all
  · (simp only [restartAsserts]; repeat' split) <;> simp_all
  · (simp only [restartAsserts]; repeat' split) <;> simp_all
  · (simp only [restartAsserts]; repeat' split) <;> simp_all
  · (simp only [restartAsserts]; repeat' split) <;> simp_all
  · (simp only [restartAsserts]; repeat' split) <;> simp_all

/-- What `modifyLine` leaves as it is. -/
@[simp] theorem modifyLine_frame (f : LineUnit → LineUnit) (c : Controller) :
    (modifyLine f c).start = c.start ∧ (modifyLine f c).time = c.time ∧ (modifyLine f c).table = c.table ∧
    (modifyLine f c).round = c.round ∧ (modifyLine f c).held = c.held ∧ (modifyLine f c).doors = c.doors ∧
    (modifyLine f c).scan = c.scan ∧ (modifyLine f c).due = c.due ∧ (modifyLine f c).track = c.track ∧
    (modifyLine f c).job = c.job ∧ (modifyLine f c).events = c.events ∧ (modifyLine f c).reg = c.reg := by
  simp [modifyLine]

/-- What `stopLineTimers` leaves as it is. -/
@[simp] theorem stopLineTimers_frame (c : Controller) :
    (stopLineTimers c).time = c.time ∧ (stopLineTimers c).round = c.round ∧ (stopLineTimers c).held = c.held ∧
    (stopLineTimers c).doors = c.doors ∧ (stopLineTimers c).scan = c.scan ∧ (stopLineTimers c).track = c.track ∧
    (stopLineTimers c).line = c.line ∧ (stopLineTimers c).job = c.job ∧ (stopLineTimers c).events = c.events ∧
    (stopLineTimers c).start.config = c.start.config ∧ (stopLineTimers c).start.line = c.start.line ∧
    (stopLineTimers c).start.powerOn = c.start.powerOn ∧ (stopLineTimers c).start.restart = c.start.restart ∧
    (stopLineTimers c).start.reading = c.start.reading ∧ (stopLineTimers c).table.ovens = c.table.ovens ∧
    (stopLineTimers c).table.below = c.table.below ∧ (stopLineTimers c).table.above = c.table.above ∧
    (stopLineTimers c).table.nmin = c.table.nmin ∧ (stopLineTimers c).table.pendT = c.table.pendT ∧
    (stopLineTimers c).table.pendE = c.table.pendE ∧ (stopLineTimers c).reg.cycle = c.reg.cycle ∧
    (stopLineTimers c).reg.period = c.reg.period ∧ (stopLineTimers c).reg.answer = c.reg.answer ∧
    (stopLineTimers c).reg.frame = c.reg.frame ∧ (stopLineTimers c).reg.frameHeld = c.reg.frameHeld ∧
    (stopLineTimers c).reg.framesOn = c.reg.framesOn ∧ (stopLineTimers c).reg.main.tap = c.reg.main.tap ∧
    (stopLineTimers c).reg.main.value = c.reg.main.value ∧
    (stopLineTimers c).reg.main.invalid = c.reg.main.invalid ∧ (stopLineTimers c).reg.main.age = c.reg.main.age ∧
    (stopLineTimers c).reg.main.stale = c.reg.main.stale := by
  simp [stopLineTimers]

/-- What `emptyTx` leaves as it is. -/
@[simp] theorem emptyTx_frame (c : Controller) :
    (emptyTx c).start = c.start ∧ (emptyTx c).time = c.time ∧ (emptyTx c).table = c.table ∧
    (emptyTx c).round = c.round ∧ (emptyTx c).held = c.held ∧ (emptyTx c).doors = c.doors ∧
    (emptyTx c).scan = c.scan ∧ (emptyTx c).due = c.due ∧ (emptyTx c).job = c.job ∧
    (emptyTx c).track.pusher = c.track.pusher ∧ (emptyTx c).track.guide = c.track.guide ∧
    (emptyTx c).track.car = c.track.car ∧ (emptyTx c).events.enable = c.events.enable ∧
    (emptyTx c).events.carried = c.events.carried ∧ (emptyTx c).reg.cycle = c.reg.cycle ∧
    (emptyTx c).reg.period = c.reg.period ∧ (emptyTx c).reg.answer = c.reg.answer ∧
    (emptyTx c).reg.mainSend = c.reg.mainSend ∧ (emptyTx c).reg.frame = c.reg.frame ∧
    (emptyTx c).reg.frameHeld = c.reg.frameHeld ∧ (emptyTx c).reg.framesOn = c.reg.framesOn ∧
    (emptyTx c).reg.main.tap = c.reg.main.tap ∧ (emptyTx c).reg.main.value = c.reg.main.value ∧
    (emptyTx c).reg.main.invalid = c.reg.main.invalid ∧ (emptyTx c).reg.main.age = c.reg.main.age ∧
    (emptyTx c).reg.main.stale = c.reg.main.stale := by
  simp [emptyTx]

/-- What `enterSilent` leaves as it is. -/
@[simp] theorem enterSilent_frame (c : Controller) :
    (enterSilent c).time = c.time ∧ (enterSilent c).held = c.held ∧ (enterSilent c).doors = c.doors ∧
    (enterSilent c).scan = c.scan := by
  refine ⟨?_, ?_, ?_, ?_⟩
  · (simp only [enterSilent]; repeat' split) <;> simp_all
  · (simp only [enterSilent]; repeat' split) <;> simp_all
  · (simp only [enterSilent]; repeat' split) <;> simp_all
  · (simp only [enterSilent]; repeat' split) <;> simp_all

/-- What `enterSilent` leaves as it is, continued. -/
@[simp] theorem enterSilent_frame1 (c : Controller) :
    (enterSilent c).table.ovens = c.table.ovens ∧ (enterSilent c).table.below = c.table.below ∧
    (enterSilent c).table.above = c.table.above ∧ (enterSilent c).table.nmin = c.table.nmin ∧
    (enterSilent c).table.pendT = c.table.pendT ∧ (enterSilent c).table.pendE = c.table.pendE ∧
    (enterSilent c).track.pusher = c.track.pusher ∧ (enterSilent c).track.guide = c.track.guide ∧
    (enterSilent c).track.car = c.track.car ∧ (enterSilent c).events.enable = c.events.enable ∧
    (enterSilent c).events.carried = c.events.carried ∧ (enterSilent c).reg.cycle = c.reg.cycle := by
  refine ⟨?_, ?_, ?_, ?_, ?_, ?_, ?_, ?_, ?_, ?_, ?_, ?_⟩
  · (simp only [enterSilent]; repeat' split) <;> simp_all
  · (simp only [enterSilent]; repeat' split) <;> simp_all
  · (simp only [enterSilent]; repeat' split) <;> simp_all
  · (simp only [enterSilent]; repeat' split) <;> simp_all
  · (simp only [enterSilent]; repeat' split) <;> simp_all
  · (simp only [enterSilent]; repeat' split) <;> simp_all
  · (simp only [enterSilent]; repeat' split) <;> simp_all
  · (simp only [enterSilent]; repeat' split) <;> simp_all
  · (simp only [enterSilent]; repeat' split) <;> simp_all
  · (simp only [enterSilent]; repeat' split) <;> simp_all
  · (simp only [enterSilent]; repeat' split) <;> simp_all
  · (simp only [enterSilent]; repeat' split) <;> simp_all

/-- What `enterSilent` leaves as it is, continued. -/
@[simp] theorem enterSilent_frame2 (c : Controller) :
    (enterSilent c).reg.period = c.reg.period ∧ (enterSilent c).reg.answer = c.reg.answer ∧
    (enterSilent c).reg.frame = c.reg.frame ∧ (enterSilent c).reg.frameHeld = c.reg.frameHeld ∧
    (enterSilent c).reg.framesOn = c.reg.framesOn ∧ (enterSilent c).reg.main.tap = c.reg.main.tap ∧
    (enterSilent c).reg.main.value = c.reg.main.value ∧ (enterSilent c).reg.main.invalid = c.reg.main.invalid ∧
    (enterSilent c).reg.main.age = c.reg.main.age ∧ (enterSilent c).reg.main.stale = c.reg.main.stale := by
  refine ⟨?_, ?_, ?_, ?_, ?_, ?_, ?_, ?_, ?_, ?_⟩
  · (simp only [enterSilent]; repeat' split) <;> simp_all
  · (simp only [enterSilent]; repeat' split) <;> simp_all
  · (simp only [enterSilent]; repeat' split) <;> simp_all
  · (simp only [enterSilent]; repeat' split) <;> simp_all
  · (simp only [enterSilent]; repeat' split) <;> simp_all
  · (simp only [enterSilent]; repeat' split) <;> simp_all
  · (simp only [enterSilent]; repeat' split) <;> simp_all
  · (simp only [enterSilent]; repeat' split) <;> simp_all
  · (simp only [enterSilent]; repeat' split) <;> simp_all
  · (simp only [enterSilent]; repeat' split) <;> simp_all

/-- What `duplicateHeard` leaves as it is. -/
@[simp] theorem duplicateHeard_frame (c : Controller) :
    (duplicateHeard c).time = c.time ∧ (duplicateHeard c).held = c.held ∧ (duplicateHeard c).doors = c.doors ∧
    (duplicateHeard c).scan = c.scan := by
  refine ⟨?_, ?_, ?_, ?_⟩
  · (simp only [duplicateHeard]; repeat' split) <;> simp_all
  · (simp only [duplicateHeard]; repeat' split) <;> simp_all
  · (simp only [duplicateHeard]; repeat' split) <;> simp_all
  · (simp only [duplicateHeard]; repeat' split) <;> simp_all

/-- What `duplicateHeard` leaves as it is, continued. -/
@[simp] theorem duplicateHeard_frame1 (c : Controller) :
    (duplicateHeard c).table.ovens = c.table.ovens ∧ (duplicateHeard c).table.below = c.table.below ∧
    (duplicateHeard c).table.above = c.table.above ∧ (duplicateHeard c).table.nmin = c.table.nmin ∧
    (duplicateHeard c).table.pendT = c.table.pendT ∧ (duplicateHeard c).table.pendE = c.table.pendE ∧
    (duplicateHeard c).track.pusher = c.track.pusher ∧ (duplicateHeard c).track.guide = c.track.guide ∧
    (duplicateHeard c).track.car = c.track.car ∧ (duplicateHeard c).events.enable = c.events.enable ∧
    (duplicateHeard c).events.carried = c.events.carried ∧ (duplicateHeard c).reg.cycle = c.reg.cycle := by
  refine ⟨?_, ?_, ?_, ?_, ?_, ?_, ?_, ?_, ?_, ?_, ?_, ?_⟩
  · (simp only [duplicateHeard]; repeat' split) <;> simp_all
  · (simp only [duplicateHeard]; repeat' split) <;> simp_all
  · (simp only [duplicateHeard]; repeat' split) <;> simp_all
  · (simp only [duplicateHeard]; repeat' split) <;> simp_all
  · (simp only [duplicateHeard]; repeat' split) <;> simp_all
  · (simp only [duplicateHeard]; repeat' split) <;> simp_all
  · (simp only [duplicateHeard]; repeat' split) <;> simp_all
  · (simp only [duplicateHeard]; repeat' split) <;> simp_all
  · (simp only [duplicateHeard]; repeat' split) <;> simp_all
  · (simp only [duplicateHeard]; repeat' split) <;> simp_all
  · (simp only [duplicateHeard]; repeat' split) <;> simp_all
  · (simp only [duplicateHeard]; repeat' split) <;> simp_all

/-- What `duplicateHeard` leaves as it is, continued. -/
@[simp] theorem duplicateHeard_frame2 (c : Controller) :
    (duplicateHeard c).reg.period = c.reg.period ∧ (duplicateHeard c).reg.answer = c.reg.answer ∧
    (duplicateHeard c).reg.frame = c.reg.frame ∧ (duplicateHeard c).reg.frameHeld = c.reg.frameHeld ∧
    (duplicateHeard c).reg.framesOn = c.reg.framesOn ∧ (duplicateHeard c).reg.main.tap = c.reg.main.tap ∧
    (duplicateHeard c).reg.main.value = c.reg.main.value ∧
    (duplicateHeard c).reg.main.invalid = c.reg.main.invalid ∧ (duplicateHeard c).reg.main.age = c.reg.main.age ∧
    (duplicateHeard c).reg.main.stale = c.reg.main.stale := by
  refine ⟨?_, ?_, ?_, ?_, ?_, ?_, ?_, ?_, ?_, ?_⟩
  · (simp only [duplicateHeard]; repeat' split) <;> simp_all
  · (simp only [duplicateHeard]; repeat' split) <;> simp_all
  · (simp only [duplicateHeard]; repeat' split) <;> simp_all
  · (simp only [duplicateHeard]; repeat' split) <;> simp_all
  · (simp only [duplicateHeard]; repeat' split) <;> simp_all
  · (simp only [duplicateHeard]; repeat' split) <;> simp_all
  · (simp only [duplicateHeard]; repeat' split) <;> simp_all
  · (simp only [duplicateHeard]; repeat' split) <;> simp_all
  · (simp only [duplicateHeard]; repeat' split) <;> simp_all
  · (simp only [duplicateHeard]; repeat' split) <;> simp_all

/-- What `endReception` leaves as it is. -/
@[simp] theorem endReception_frame (p : LinePhase) (c : Controller) :
    (endReception p c).start = c.start ∧ (endReception p c).time = c.time ∧ (endReception p c).table = c.table ∧
    (endReception p c).round = c.round ∧ (endReception p c).held = c.held ∧ (endReception p c).doors = c.doors ∧
    (endReception p c).scan = c.scan ∧ (endReception p c).due = c.due ∧ (endReception p c).track = c.track ∧
    (endReception p c).job = c.job ∧ (endReception p c).events = c.events ∧ (endReception p c).reg = c.reg := by
  simp [endReception]

/-- What `storeTelegram` leaves as it is. -/
@[simp] theorem storeTelegram_frame (t : Telegram) (c : Controller) :
    (storeTelegram t c).start = c.start ∧ (storeTelegram t c).time = c.time ∧ (storeTelegram t c).table = c.table ∧
    (storeTelegram t c).round = c.round ∧ (storeTelegram t c).held = c.held ∧ (storeTelegram t c).doors = c.doors ∧
    (storeTelegram t c).scan = c.scan ∧ (storeTelegram t c).due = c.due ∧ (storeTelegram t c).track = c.track ∧
    (storeTelegram t c).job = c.job ∧ (storeTelegram t c).reg = c.reg ∧
    (storeTelegram t c).events.enable = c.events.enable ∧ (storeTelegram t c).events.carried = c.events.carried := by
  refine ⟨?_, ?_, ?_, ?_, ?_, ?_, ?_, ?_, ?_, ?_, ?_, ?_, ?_⟩
  · (simp only [storeTelegram]; repeat' split) <;> simp_all
  · (simp only [storeTelegram]; repeat' split) <;> simp_all
  · (simp only [storeTelegram]; repeat' split) <;> simp_all
  · (simp only [storeTelegram]; repeat' split) <;> simp_all
  · (simp only [storeTelegram]; repeat' split) <;> simp_all
  · (simp only [storeTelegram]; repeat' split) <;> simp_all
  · (simp only [storeTelegram]; repeat' split) <;> simp_all
  · (simp only [storeTelegram]; repeat' split) <;> simp_all
  · (simp only [storeTelegram]; repeat' split) <;> simp_all
  · (simp only [storeTelegram]; repeat' split) <;> simp_all
  · (simp only [storeTelegram]; repeat' split) <;> simp_all
  · (simp only [storeTelegram]; repeat' split) <;> simp_all
  · (simp only [storeTelegram]; repeat' split) <;> simp_all

/-- What `judgeTelegram` leaves as it is. -/
@[simp] theorem judgeTelegram_frame (t : Telegram) (c : Controller) :
    (judgeTelegram t c).time = c.time ∧ (judgeTelegram t c).held = c.held ∧ (judgeTelegram t c).doors = c.doors ∧
    (judgeTelegram t c).scan = c.scan := by
  refine ⟨?_, ?_, ?_, ?_⟩
  · (simp only [judgeTelegram]; repeat' split) <;> simp_all
  · (simp only [judgeTelegram]; repeat' split) <;> simp_all
  · (simp only [judgeTelegram]; repeat' split) <;> simp_all
  · (simp only [judgeTelegram]; repeat' split) <;> simp_all

/-- What `judgeTelegram` leaves as it is, continued. -/
@[simp] theorem judgeTelegram_frame1 (t : Telegram) (c : Controller) :
    (judgeTelegram t c).table.ovens = c.table.ovens ∧ (judgeTelegram t c).table.below = c.table.below ∧
    (judgeTelegram t c).table.above = c.table.above ∧ (judgeTelegram t c).table.nmin = c.table.nmin ∧
    (judgeTelegram t c).table.pendT = c.table.pendT ∧ (judgeTelegram t c).table.pendE = c.table.pendE ∧
    (judgeTelegram t c).track.pusher = c.track.pusher ∧ (judgeTelegram t c).track.guide = c.track.guide ∧
    (judgeTelegram t c).track.car = c.track.car ∧ (judgeTelegram t c).events.enable = c.events.enable ∧
    (judgeTelegram t c).events.carried = c.events.carried ∧ (judgeTelegram t c).reg.cycle = c.reg.cycle := by
  refine ⟨?_, ?_, ?_, ?_, ?_, ?_, ?_, ?_, ?_, ?_, ?_, ?_⟩
  · (simp only [judgeTelegram]; repeat' split) <;> simp_all
  · (simp only [judgeTelegram]; repeat' split) <;> simp_all
  · (simp only [judgeTelegram]; repeat' split) <;> simp_all
  · (simp only [judgeTelegram]; repeat' split) <;> simp_all
  · (simp only [judgeTelegram]; repeat' split) <;> simp_all
  · (simp only [judgeTelegram]; repeat' split) <;> simp_all
  · (simp only [judgeTelegram]; repeat' split) <;> simp_all
  · (simp only [judgeTelegram]; repeat' split) <;> simp_all
  · (simp only [judgeTelegram]; repeat' split) <;> simp_all
  · (simp only [judgeTelegram]; repeat' split) <;> simp_all
  · (simp only [judgeTelegram]; repeat' split) <;> simp_all
  · (simp only [judgeTelegram]; repeat' split) <;> simp_all

/-- What `judgeTelegram` leaves as it is, continued. -/
@[simp] theorem judgeTelegram_frame2 (t : Telegram) (c : Controller) :
    (judgeTelegram t c).reg.period = c.reg.period ∧ (judgeTelegram t c).reg.answer = c.reg.answer ∧
    (judgeTelegram t c).reg.frame = c.reg.frame ∧ (judgeTelegram t c).reg.frameHeld = c.reg.frameHeld ∧
    (judgeTelegram t c).reg.framesOn = c.reg.framesOn ∧ (judgeTelegram t c).reg.main.tap = c.reg.main.tap ∧
    (judgeTelegram t c).reg.main.value = c.reg.main.value ∧
    (judgeTelegram t c).reg.main.invalid = c.reg.main.invalid ∧ (judgeTelegram t c).reg.main.age = c.reg.main.age ∧
    (judgeTelegram t c).reg.main.stale = c.reg.main.stale := by
  refine ⟨?_, ?_, ?_, ?_, ?_, ?_, ?_, ?_, ?_, ?_⟩
  · (simp only [judgeTelegram]; repeat' split) <;> simp_all
  · (simp only [judgeTelegram]; repeat' split) <;> simp_all
  · (simp only [judgeTelegram]; repeat' split) <;> simp_all
  · (simp only [judgeTelegram]; repeat' split) <;> simp_all
  · (simp only [judgeTelegram]; repeat' split) <;> simp_all
  · (simp only [judgeTelegram]; repeat' split) <;> simp_all
  · (simp only [judgeTelegram]; repeat' split) <;> simp_all
  · (simp only [judgeTelegram]; repeat' split) <;> simp_all
  · (simp only [judgeTelegram]; repeat' split) <;> simp_all
  · (simp only [judgeTelegram]; repeat' split) <;> simp_all

/-- What `abandonTelegram` leaves as it is. -/
@[simp] theorem abandonTelegram_frame (c : Controller) :
    (abandonTelegram c).start = c.start ∧ (abandonTelegram c).time = c.time ∧ (abandonTelegram c).table = c.table ∧
    (abandonTelegram c).round = c.round ∧ (abandonTelegram c).held = c.held ∧ (abandonTelegram c).doors = c.doors ∧
    (abandonTelegram c).scan = c.scan ∧ (abandonTelegram c).due = c.due ∧ (abandonTelegram c).track = c.track ∧
    (abandonTelegram c).job = c.job ∧ (abandonTelegram c).reg = c.reg ∧
    (abandonTelegram c).events.enable = c.events.enable ∧ (abandonTelegram c).events.carried = c.events.carried := by
  simp [abandonTelegram]

/-- What `framingFaults` leaves as it is. -/
@[simp] theorem framingFaults_frame (c : Controller) :
    (framingFaults c).start = c.start ∧ (framingFaults c).time = c.time ∧ (framingFaults c).table = c.table ∧
    (framingFaults c).round = c.round ∧ (framingFaults c).held = c.held ∧ (framingFaults c).doors = c.doors ∧
    (framingFaults c).scan = c.scan ∧ (framingFaults c).due = c.due ∧ (framingFaults c).track = c.track ∧
    (framingFaults c).job = c.job ∧ (framingFaults c).reg = c.reg ∧
    (framingFaults c).events.enable = c.events.enable ∧ (framingFaults c).events.carried = c.events.carried := by
  refine ⟨?_, ?_, ?_, ?_, ?_, ?_, ?_, ?_, ?_, ?_, ?_, ?_, ?_⟩
  · (simp only [framingFaults]; repeat' split) <;> simp_all
  · (simp only [framingFaults]; repeat' split) <;> simp_all
  · (simp only [framingFaults]; repeat' split) <;> simp_all
  · (simp only [framingFaults]; repeat' split) <;> simp_all
  · (simp only [framingFaults]; repeat' split) <;> simp_all
  · (simp only [framingFaults]; repeat' split) <;> simp_all
  · (simp only [framingFaults]; repeat' split) <;> simp_all
  · (simp only [framingFaults]; repeat' split) <;> simp_all
  · (simp only [framingFaults]; repeat' split) <;> simp_all
  · (simp only [framingFaults]; repeat' split) <;> simp_all
  · (simp only [framingFaults]; repeat' split) <;> simp_all
  · (simp only [framingFaults]; repeat' split) <;> simp_all
  · (simp only [framingFaults]; repeat' split) <;> simp_all

/-- What `receiveFrame` leaves as it is. -/
@[simp] theorem receiveFrame_frame (f : Frame) (c : Controller) :
    (receiveFrame f c).time = c.time ∧ (receiveFrame f c).held = c.held ∧ (receiveFrame f c).doors = c.doors ∧
    (receiveFrame f c).scan = c.scan := by
  refine ⟨?_, ?_, ?_, ?_⟩
  · (simp only [receiveFrame]; repeat' split) <;> simp_all
  · (simp only [receiveFrame]; repeat' split) <;> simp_all
  · (simp only [receiveFrame]; repeat' split) <;> simp_all
  · (simp only [receiveFrame]; repeat' split) <;> simp_all

/-- What `receiveFrame` leaves as it is, continued. -/
@[simp] theorem receiveFrame_frame1 (f : Frame) (c : Controller) :
    (receiveFrame f c).table.ovens = c.table.ovens ∧ (receiveFrame f c).table.below = c.table.below ∧
    (receiveFrame f c).table.above = c.table.above ∧ (receiveFrame f c).table.nmin = c.table.nmin ∧
    (receiveFrame f c).table.pendT = c.table.pendT ∧ (receiveFrame f c).table.pendE = c.table.pendE ∧
    (receiveFrame f c).track.pusher = c.track.pusher ∧ (receiveFrame f c).track.guide = c.track.guide ∧
    (receiveFrame f c).track.car = c.track.car ∧ (receiveFrame f c).events.enable = c.events.enable ∧
    (receiveFrame f c).events.carried = c.events.carried ∧ (receiveFrame f c).reg.cycle = c.reg.cycle := by
  refine ⟨?_, ?_, ?_, ?_, ?_, ?_, ?_, ?_, ?_, ?_, ?_, ?_⟩
  · (simp only [receiveFrame]; repeat' split) <;> simp_all
  · (simp only [receiveFrame]; repeat' split) <;> simp_all
  · (simp only [receiveFrame]; repeat' split) <;> simp_all
  · (simp only [receiveFrame]; repeat' split) <;> simp_all
  · (simp only [receiveFrame]; repeat' split) <;> simp_all
  · (simp only [receiveFrame]; repeat' split) <;> simp_all
  · (simp only [receiveFrame]; repeat' split) <;> simp_all
  · (simp only [receiveFrame]; repeat' split) <;> simp_all
  · (simp only [receiveFrame]; repeat' split) <;> simp_all
  · (simp only [receiveFrame]; repeat' split) <;> simp_all
  · (simp only [receiveFrame]; repeat' split) <;> simp_all
  · (simp only [receiveFrame]; repeat' split) <;> simp_all

/-- What `receiveFrame` leaves as it is, continued. -/
@[simp] theorem receiveFrame_frame2 (f : Frame) (c : Controller) :
    (receiveFrame f c).reg.period = c.reg.period ∧ (receiveFrame f c).reg.answer = c.reg.answer ∧
    (receiveFrame f c).reg.frame = c.reg.frame ∧ (receiveFrame f c).reg.frameHeld = c.reg.frameHeld ∧
    (receiveFrame f c).reg.framesOn = c.reg.framesOn ∧ (receiveFrame f c).reg.main.tap = c.reg.main.tap ∧
    (receiveFrame f c).reg.main.value = c.reg.main.value ∧
    (receiveFrame f c).reg.main.invalid = c.reg.main.invalid ∧ (receiveFrame f c).reg.main.age = c.reg.main.age ∧
    (receiveFrame f c).reg.main.stale = c.reg.main.stale := by
  refine ⟨?_, ?_, ?_, ?_, ?_, ?_, ?_, ?_, ?_, ?_⟩
  · (simp only [receiveFrame]; repeat' split) <;> simp_all
  · (simp only [receiveFrame]; repeat' split) <;> simp_all
  · (simp only [receiveFrame]; repeat' split) <;> simp_all
  · (simp only [receiveFrame]; repeat' split) <;> simp_all
  · (simp only [receiveFrame]; repeat' split) <;> simp_all
  · (simp only [receiveFrame]; repeat' split) <;> simp_all
  · (simp only [receiveFrame]; repeat' split) <;> simp_all
  · (simp only [receiveFrame]; repeat' split) <;> simp_all
  · (simp only [receiveFrame]; repeat' split) <;> simp_all
  · (simp only [receiveFrame]; repeat' split) <;> simp_all

/-- What `lineIdles` leaves as it is. -/
@[simp] theorem lineIdles_frame (c : Controller) :
    (lineIdles c).start = c.start ∧ (lineIdles c).time = c.time ∧ (lineIdles c).table = c.table ∧
    (lineIdles c).round = c.round ∧ (lineIdles c).held = c.held ∧ (lineIdles c).doors = c.doors ∧
    (lineIdles c).scan = c.scan ∧ (lineIdles c).due = c.due ∧ (lineIdles c).track = c.track ∧
    (lineIdles c).job = c.job ∧ (lineIdles c).events = c.events ∧ (lineIdles c).reg = c.reg := by
  refine ⟨?_, ?_, ?_, ?_, ?_, ?_, ?_, ?_, ?_, ?_, ?_, ?_⟩
  · (simp only [lineIdles]; repeat' split) <;> simp_all
  · (simp only [lineIdles]; repeat' split) <;> simp_all
  · (simp only [lineIdles]; repeat' split) <;> simp_all
  · (simp only [lineIdles]; repeat' split) <;> simp_all
  · (simp only [lineIdles]; repeat' split) <;> simp_all
  · (simp only [lineIdles]; repeat' split) <;> simp_all
  · (simp only [lineIdles]; repeat' split) <;> simp_all
  · (simp only [lineIdles]; repeat' split) <;> simp_all
  · (simp only [lineIdles]; repeat' split) <;> simp_all
  · (simp only [lineIdles]; repeat' split) <;> simp_all
  · (simp only [lineIdles]; repeat' split) <;> simp_all
  · (simp only [lineIdles]; repeat' split) <;> simp_all

/-- What `breakOff` leaves as it is. -/
@[simp] theorem breakOff_frame (p : LinePhase) (t : Telegram) (f : Fate) (c : Controller) :
    (breakOff p t f c).start = c.start ∧ (breakOff p t f c).time = c.time ∧ (breakOff p t f c).table = c.table ∧
    (breakOff p t f c).round = c.round ∧ (breakOff p t f c).held = c.held ∧ (breakOff p t f c).doors = c.doors ∧
    (breakOff p t f c).scan = c.scan ∧ (breakOff p t f c).due = c.due := by
  refine ⟨?_, ?_, ?_, ?_, ?_, ?_, ?_, ?_⟩
  · (simp only [breakOff]; repeat' split) <;> simp_all
  · (simp only [breakOff]; repeat' split) <;> simp_all
  · (simp only [breakOff]; repeat' split) <;> simp_all
  · (simp only [breakOff]; repeat' split) <;> simp_all
  · (simp only [breakOff]; repeat' split) <;> simp_all
  · (simp only [breakOff]; repeat' split) <;> simp_all
  · (simp only [breakOff]; repeat' split) <;> simp_all
  · (simp only [breakOff]; repeat' split) <;> simp_all

/-- What `breakOff` leaves as it is, continued. -/
@[simp] theorem breakOff_frame1 (p : LinePhase) (t : Telegram) (f : Fate) (c : Controller) :
    (breakOff p t f c).track.pusher = c.track.pusher ∧ (breakOff p t f c).track.guide = c.track.guide ∧
    (breakOff p t f c).track.car = c.track.car ∧ (breakOff p t f c).events.enable = c.events.enable ∧
    (breakOff p t f c).events.carried = c.events.carried ∧ (breakOff p t f c).reg.cycle = c.reg.cycle ∧
    (breakOff p t f c).reg.period = c.reg.period ∧ (breakOff p t f c).reg.answer = c.reg.answer ∧
    (breakOff p t f c).reg.mainSend = c.reg.mainSend ∧ (breakOff p t f c).reg.frame = c.reg.frame ∧
    (breakOff p t f c).reg.frameHeld = c.reg.frameHeld ∧ (breakOff p t f c).reg.framesOn = c.reg.framesOn := by
  refine ⟨?_, ?_, ?_, ?_, ?_, ?_, ?_, ?_, ?_, ?_, ?_, ?_⟩
  · (simp only [breakOff]; repeat' split) <;> simp_all
  · (simp only [breakOff]; repeat' split) <;> simp_all
  · (simp only [breakOff]; repeat' split) <;> simp_all
  · (simp only [breakOff]; repeat' split) <;> simp_all
  · (simp only [breakOff]; repeat' split) <;> simp_all
  · (simp only [breakOff]; repeat' split) <;> simp_all
  · (simp only [breakOff]; repeat' split) <;> simp_all
  · (simp only [breakOff]; repeat' split) <;> simp_all
  · (simp only [breakOff]; repeat' split) <;> simp_all
  · (simp only [breakOff]; repeat' split) <;> simp_all
  · (simp only [breakOff]; repeat' split) <;> simp_all
  · (simp only [breakOff]; repeat' split) <;> simp_all

/-- What `breakOff` leaves as it is, continued. -/
@[simp] theorem breakOff_frame2 (p : LinePhase) (t : Telegram) (f : Fate) (c : Controller) :
    (breakOff p t f c).reg.main.tap = c.reg.main.tap ∧ (breakOff p t f c).reg.main.value = c.reg.main.value ∧
    (breakOff p t f c).reg.main.invalid = c.reg.main.invalid ∧ (breakOff p t f c).reg.main.age = c.reg.main.age ∧
    (breakOff p t f c).reg.main.stale = c.reg.main.stale := by
  refine ⟨?_, ?_, ?_, ?_, ?_⟩
  · (simp only [breakOff]; repeat' split) <;> simp_all
  · (simp only [breakOff]; repeat' split) <;> simp_all
  · (simp only [breakOff]; repeat' split) <;> simp_all
  · (simp only [breakOff]; repeat' split) <;> simp_all
  · (simp only [breakOff]; repeat' split) <;> simp_all

/-- What `losesArbitration` leaves as it is. -/
@[simp] theorem losesArbitration_frame (c : Controller) :
    (losesArbitration c).start = c.start ∧ (losesArbitration c).time = c.time ∧
    (losesArbitration c).table = c.table ∧ (losesArbitration c).round = c.round ∧
    (losesArbitration c).held = c.held ∧ (losesArbitration c).doors = c.doors ∧
    (losesArbitration c).scan = c.scan ∧ (losesArbitration c).due = c.due := by
  refine ⟨?_, ?_, ?_, ?_, ?_, ?_, ?_, ?_⟩
  · (simp only [losesArbitration]; repeat' split) <;> simp_all
  · (simp only [losesArbitration]; repeat' split) <;> simp_all
  · (simp only [losesArbitration]; repeat' split) <;> simp_all
  · (simp only [losesArbitration]; repeat' split) <;> simp_all
  · (simp only [losesArbitration]; repeat' split) <;> simp_all
  · (simp only [losesArbitration]; repeat' split) <;> simp_all
  · (simp only [losesArbitration]; repeat' split) <;> simp_all
  · (simp only [losesArbitration]; repeat' split) <;> simp_all

/-- What `losesArbitration` leaves as it is, continued. -/
@[simp] theorem losesArbitration_frame1 (c : Controller) :
    (losesArbitration c).track.pusher = c.track.pusher ∧ (losesArbitration c).track.guide = c.track.guide ∧
    (losesArbitration c).track.car = c.track.car ∧ (losesArbitration c).events.enable = c.events.enable ∧
    (losesArbitration c).events.carried = c.events.carried ∧ (losesArbitration c).reg.cycle = c.reg.cycle ∧
    (losesArbitration c).reg.period = c.reg.period ∧ (losesArbitration c).reg.answer = c.reg.answer ∧
    (losesArbitration c).reg.mainSend = c.reg.mainSend ∧ (losesArbitration c).reg.frame = c.reg.frame ∧
    (losesArbitration c).reg.frameHeld = c.reg.frameHeld ∧ (losesArbitration c).reg.framesOn = c.reg.framesOn := by
  refine ⟨?_, ?_, ?_, ?_, ?_, ?_, ?_, ?_, ?_, ?_, ?_, ?_⟩
  · (simp only [losesArbitration]; repeat' split) <;> simp_all
  · (simp only [losesArbitration]; repeat' split) <;> simp_all
  · (simp only [losesArbitration]; repeat' split) <;> simp_all
  · (simp only [losesArbitration]; repeat' split) <;> simp_all
  · (simp only [losesArbitration]; repeat' split) <;> simp_all
  · (simp only [losesArbitration]; repeat' split) <;> simp_all
  · (simp only [losesArbitration]; repeat' split) <;> simp_all
  · (simp only [losesArbitration]; repeat' split) <;> simp_all
  · (simp only [losesArbitration]; repeat' split) <;> simp_all
  · (simp only [losesArbitration]; repeat' split) <;> simp_all
  · (simp only [losesArbitration]; repeat' split) <;> simp_all
  · (simp only [losesArbitration]; repeat' split) <;> simp_all

/-- What `losesArbitration` leaves as it is, continued. -/
@[simp] theorem losesArbitration_frame2 (c : Controller) :
    (losesArbitration c).reg.main.tap = c.reg.main.tap ∧ (losesArbitration c).reg.main.value = c.reg.main.value ∧
    (losesArbitration c).reg.main.invalid = c.reg.main.invalid ∧
    (losesArbitration c).reg.main.age = c.reg.main.age ∧ (losesArbitration c).reg.main.stale = c.reg.main.stale := by
  refine ⟨?_, ?_, ?_, ?_, ?_⟩
  · (simp only [losesArbitration]; repeat' split) <;> simp_all
  · (simp only [losesArbitration]; repeat' split) <;> simp_all
  · (simp only [losesArbitration]; repeat' split) <;> simp_all
  · (simp only [losesArbitration]; repeat' split) <;> simp_all
  · (simp only [losesArbitration]; repeat' split) <;> simp_all

/-- What `lineErrs` leaves as it is. -/
@[simp] theorem lineErrs_frame (c : Controller) :
    (lineErrs c).start = c.start ∧ (lineErrs c).time = c.time ∧ (lineErrs c).table = c.table ∧
    (lineErrs c).round = c.round ∧ (lineErrs c).held = c.held ∧ (lineErrs c).doors = c.doors ∧
    (lineErrs c).scan = c.scan ∧ (lineErrs c).due = c.due := by
  refine ⟨?_, ?_, ?_, ?_, ?_, ?_, ?_, ?_⟩
  · (simp only [lineErrs]; repeat' split) <;> simp_all
  · (simp only [lineErrs]; repeat' split) <;> simp_all
  · (simp only [lineErrs]; repeat' split) <;> simp_all
  · (simp only [lineErrs]; repeat' split) <;> simp_all
  · (simp only [lineErrs]; repeat' split) <;> simp_all
  · (simp only [lineErrs]; repeat' split) <;> simp_all
  · (simp only [lineErrs]; repeat' split) <;> simp_all
  · (simp only [lineErrs]; repeat' split) <;> simp_all

/-- What `lineErrs` leaves as it is, continued. -/
@[simp] theorem lineErrs_frame1 (c : Controller) :
    (lineErrs c).track.pusher = c.track.pusher ∧ (lineErrs c).track.guide = c.track.guide ∧
    (lineErrs c).track.car = c.track.car ∧ (lineErrs c).events.enable = c.events.enable ∧
    (lineErrs c).events.carried = c.events.carried ∧ (lineErrs c).reg.cycle = c.reg.cycle ∧
    (lineErrs c).reg.period = c.reg.period ∧ (lineErrs c).reg.answer = c.reg.answer ∧
    (lineErrs c).reg.mainSend = c.reg.mainSend ∧ (lineErrs c).reg.frame = c.reg.frame ∧
    (lineErrs c).reg.frameHeld = c.reg.frameHeld ∧ (lineErrs c).reg.framesOn = c.reg.framesOn := by
  refine ⟨?_, ?_, ?_, ?_, ?_, ?_, ?_, ?_, ?_, ?_, ?_, ?_⟩
  · (simp only [lineErrs]; repeat' split) <;> simp_all
  · (simp only [lineErrs]; repeat' split) <;> simp_all
  · (simp only [lineErrs]; repeat' split) <;> simp_all
  · (simp only [lineErrs]; repeat' split) <;> simp_all
  · (simp only [lineErrs]; repeat' split) <;> simp_all
  · (simp only [lineErrs]; repeat' split) <;> simp_all
  · (simp only [lineErrs]; repeat' split) <;> simp_all
  · (simp only [lineErrs]; repeat' split) <;> simp_all
  · (simp only [lineErrs]; repeat' split) <;> simp_all
  · (simp only [lineErrs]; repeat' split) <;> simp_all
  · (simp only [lineErrs]; repeat' split) <;> simp_all
  · (simp only [lineErrs]; repeat' split) <;> simp_all

/-- What `lineErrs` leaves as it is, continued. -/
@[simp] theorem lineErrs_frame2 (c : Controller) :
    (lineErrs c).reg.main.tap = c.reg.main.tap ∧ (lineErrs c).reg.main.value = c.reg.main.value ∧
    (lineErrs c).reg.main.invalid = c.reg.main.invalid ∧ (lineErrs c).reg.main.age = c.reg.main.age ∧
    (lineErrs c).reg.main.stale = c.reg.main.stale := by
  refine ⟨?_, ?_, ?_, ?_, ?_⟩
  · (simp only [lineErrs]; repeat' split) <;> simp_all
  · (simp only [lineErrs]; repeat' split) <;> simp_all
  · (simp only [lineErrs]; repeat' split) <;> simp_all
  · (simp only [lineErrs]; repeat' split) <;> simp_all
  · (simp only [lineErrs]; repeat' split) <;> simp_all

/-- What `eventSent` leaves as it is. -/
@[simp] theorem eventSent_frame (c : Controller) :
    (eventSent c).start = c.start ∧ (eventSent c).time = c.time ∧ (eventSent c).table = c.table ∧
    (eventSent c).round = c.round ∧ (eventSent c).held = c.held ∧ (eventSent c).doors = c.doors ∧
    (eventSent c).scan = c.scan ∧ (eventSent c).due = c.due ∧ (eventSent c).track = c.track ∧
    (eventSent c).job = c.job ∧ (eventSent c).reg = c.reg := by
  refine ⟨?_, ?_, ?_, ?_, ?_, ?_, ?_, ?_, ?_, ?_, ?_⟩
  · (simp only [eventSent]; repeat' split) <;> simp_all
  · (simp only [eventSent]; repeat' split) <;> simp_all
  · (simp only [eventSent]; repeat' split) <;> simp_all
  · (simp only [eventSent]; repeat' split) <;> simp_all
  · (simp only [eventSent]; repeat' split) <;> simp_all
  · (simp only [eventSent]; repeat' split) <;> simp_all
  · (simp only [eventSent]; repeat' split) <;> simp_all
  · (simp only [eventSent]; repeat' split) <;> simp_all
  · (simp only [eventSent]; repeat' split) <;> simp_all
  · (simp only [eventSent]; repeat' split) <;> simp_all
  · (simp only [eventSent]; repeat' split) <;> simp_all

/-- What `eventSent` leaves as it is, continued. -/
@[simp] theorem eventSent_frame1 (c : Controller) :
    (eventSent c).line.number = c.line.number ∧ (eventSent c).line.rx = c.line.rx ∧
    (eventSent c).line.ack = c.line.ack ∧ (eventSent c).line.phase = c.line.phase ∧
    (eventSent c).events.enable = c.events.enable ∧ (eventSent c).events.carried = c.events.carried := by
  refine ⟨?_, ?_, ?_, ?_, ?_, ?_⟩
  · (simp only [eventSent]; repeat' split) <;> simp_all
  · (simp only [eventSent]; repeat' split) <;> simp_all
  · (simp only [eventSent]; repeat' split) <;> simp_all
  · (simp only [eventSent]; repeat' split) <;> simp_all
  · (simp only [eventSent]; repeat' split) <;> simp_all
  · (simp only [eventSent]; repeat' split) <;> simp_all

/-- What `reportSent` leaves as it is. -/
@[simp] theorem reportSent_frame (t : Telegram) (c : Controller) :
    (reportSent t c).start = c.start ∧ (reportSent t c).time = c.time ∧ (reportSent t c).held = c.held ∧
    (reportSent t c).doors = c.doors ∧ (reportSent t c).scan = c.scan := by
  refine ⟨?_, ?_, ?_, ?_, ?_⟩
  · (simp only [reportSent]; repeat' split) <;> simp_all
  · (simp only [reportSent]; repeat' split) <;> simp_all
  · (simp only [reportSent]; repeat' split) <;> simp_all
  · (simp only [reportSent]; repeat' split) <;> simp_all
  · (simp only [reportSent]; repeat' split) <;> simp_all

/-- What `reportSent` leaves as it is, continued. -/
@[simp] theorem reportSent_frame1 (t : Telegram) (c : Controller) :
    (reportSent t c).table.below = c.table.below ∧ (reportSent t c).table.above = c.table.above ∧
    (reportSent t c).table.nmin = c.table.nmin ∧ (reportSent t c).table.pendT = c.table.pendT ∧
    (reportSent t c).table.pendE = c.table.pendE ∧ (reportSent t c).track.pusher = c.track.pusher ∧
    (reportSent t c).track.guide = c.track.guide ∧ (reportSent t c).track.car = c.track.car ∧
    (reportSent t c).line.number = c.line.number ∧ (reportSent t c).line.rx = c.line.rx ∧
    (reportSent t c).line.ack = c.line.ack ∧ (reportSent t c).events.enable = c.events.enable := by
  refine ⟨?_, ?_, ?_, ?_, ?_, ?_, ?_, ?_, ?_, ?_, ?_, ?_⟩
  · (simp only [reportSent]; repeat' split) <;> simp_all
  · (simp only [reportSent]; repeat' split) <;> simp_all
  · (simp only [reportSent]; repeat' split) <;> simp_all
  · (simp only [reportSent]; repeat' split) <;> simp_all
  · (simp only [reportSent]; repeat' split) <;> simp_all
  · (simp only [reportSent]; repeat' split) <;> simp_all
  · (simp only [reportSent]; repeat' split) <;> simp_all
  · (simp only [reportSent]; repeat' split) <;> simp_all
  · (simp only [reportSent]; repeat' split) <;> simp_all
  · (simp only [reportSent]; repeat' split) <;> simp_all
  · (simp only [reportSent]; repeat' split) <;> simp_all
  · (simp only [reportSent]; repeat' split) <;> simp_all

/-- What `reportSent` leaves as it is, continued. -/
@[simp] theorem reportSent_frame2 (t : Telegram) (c : Controller) :
    (reportSent t c).events.carried = c.events.carried := by
  (simp only [reportSent]; repeat' split) <;> simp_all

/-- What `telegramCompletes` leaves as it is. -/
@[simp] theorem telegramCompletes_frame (ackLow : Bool) (c : Controller) :
    (telegramCompletes ackLow c).start = c.start ∧ (telegramCompletes ackLow c).time = c.time ∧
    (telegramCompletes ackLow c).held = c.held ∧ (telegramCompletes ackLow c).doors = c.doors ∧
    (telegramCompletes ackLow c).scan = c.scan := by
  refine ⟨?_, ?_, ?_, ?_, ?_⟩
  · (simp only [telegramCompletes]; repeat' split) <;> simp_all
  · (simp only [telegramCompletes]; repeat' split) <;> simp_all
  · (simp only [telegramCompletes]; repeat' split) <;> simp_all
  · (simp only [telegramCompletes]; repeat' split) <;> simp_all
  · (simp only [telegramCompletes]; repeat' split) <;> simp_all

/-- What `telegramCompletes` leaves as it is, continued. -/
@[simp] theorem telegramCompletes_frame1 (ackLow : Bool) (c : Controller) :
    (telegramCompletes ackLow c).table.below = c.table.below ∧
    (telegramCompletes ackLow c).table.above = c.table.above ∧
    (telegramCompletes ackLow c).table.nmin = c.table.nmin ∧
    (telegramCompletes ackLow c).table.pendT = c.table.pendT ∧
    (telegramCompletes ackLow c).table.pendE = c.table.pendE ∧
    (telegramCompletes ackLow c).track.pusher = c.track.pusher ∧
    (telegramCompletes ackLow c).track.guide = c.track.guide ∧
    (telegramCompletes ackLow c).track.car = c.track.car ∧
    (telegramCompletes ackLow c).events.enable = c.events.enable ∧
    (telegramCompletes ackLow c).events.carried = c.events.carried := by
  refine ⟨?_, ?_, ?_, ?_, ?_, ?_, ?_, ?_, ?_, ?_⟩
  · (simp only [telegramCompletes]; repeat' split) <;> simp_all
  · (simp only [telegramCompletes]; repeat' split) <;> simp_all
  · (simp only [telegramCompletes]; repeat' split) <;> simp_all
  · (simp only [telegramCompletes]; repeat' split) <;> simp_all
  · (simp only [telegramCompletes]; repeat' split) <;> simp_all
  · (simp only [telegramCompletes]; repeat' split) <;> simp_all
  · (simp only [telegramCompletes]; repeat' split) <;> simp_all
  · (simp only [telegramCompletes]; repeat' split) <;> simp_all
  · (simp only [telegramCompletes]; repeat' split) <;> simp_all
  · (simp only [telegramCompletes]; repeat' split) <;> simp_all

/-- What `modifyDue` leaves as it is. -/
@[simp] theorem modifyDue_frame (f : Due → Due) (c : Controller) :
    (modifyDue f c).start = c.start ∧ (modifyDue f c).time = c.time ∧ (modifyDue f c).table = c.table ∧
    (modifyDue f c).round = c.round ∧ (modifyDue f c).held = c.held ∧ (modifyDue f c).doors = c.doors ∧
    (modifyDue f c).scan = c.scan ∧ (modifyDue f c).track = c.track ∧ (modifyDue f c).line = c.line ∧
    (modifyDue f c).job = c.job ∧ (modifyDue f c).events = c.events ∧ (modifyDue f c).reg = c.reg := by
  simp [modifyDue]

/-- What `windowTick` leaves as it is. -/
@[simp] theorem windowTick_frame (c : Controller) :
    (windowTick c).start = c.start ∧ (windowTick c).time = c.time ∧ (windowTick c).table = c.table ∧
    (windowTick c).held = c.held ∧ (windowTick c).doors = c.doors ∧ (windowTick c).scan = c.scan ∧
    (windowTick c).track = c.track ∧ (windowTick c).line = c.line ∧ (windowTick c).job = c.job ∧
    (windowTick c).events = c.events ∧ (windowTick c).reg = c.reg := by
  refine ⟨?_, ?_, ?_, ?_, ?_, ?_, ?_, ?_, ?_, ?_, ?_⟩
  · (simp only [windowTick]; repeat' split) <;> simp_all
  · (simp only [windowTick]; repeat' split) <;> simp_all
  · (simp only [windowTick]; repeat' split) <;> simp_all
  · (simp only [windowTick]; repeat' split) <;> simp_all
  · (simp only [windowTick]; repeat' split) <;> simp_all
  · (simp only [windowTick]; repeat' split) <;> simp_all
  · (simp only [windowTick]; repeat' split) <;> simp_all
  · (simp only [windowTick]; repeat' split) <;> simp_all
  · (simp only [windowTick]; repeat' split) <;> simp_all
  · (simp only [windowTick]; repeat' split) <;> simp_all
  · (simp only [windowTick]; repeat' split) <;> simp_all

/-- What `gateTick` leaves as it is. -/
@[simp] theorem gateTick_frame (c : Controller) :
    (gateTick c).start = c.start ∧ (gateTick c).time = c.time ∧ (gateTick c).table = c.table ∧
    (gateTick c).round = c.round ∧ (gateTick c).held = c.held ∧ (gateTick c).doors = c.doors ∧
    (gateTick c).track = c.track ∧ (gateTick c).line = c.line ∧ (gateTick c).job = c.job ∧
    (gateTick c).events = c.events ∧ (gateTick c).reg = c.reg := by
  refine ⟨?_, ?_, ?_, ?_, ?_, ?_, ?_, ?_, ?_, ?_, ?_⟩
  · (simp only [gateTick]; repeat' split) <;> simp_all
  · (simp only [gateTick]; repeat' split) <;> simp_all
  · (simp only [gateTick]; repeat' split) <;> simp_all
  · (simp only [gateTick]; repeat' split) <;> simp_all
  · (simp only [gateTick]; repeat' split) <;> simp_all
  · (simp only [gateTick]; repeat' split) <;> simp_all
  · (simp only [gateTick]; repeat' split) <;> simp_all
  · (simp only [gateTick]; repeat' split) <;> simp_all
  · (simp only [gateTick]; repeat' split) <;> simp_all
  · (simp only [gateTick]; repeat' split) <;> simp_all
  · (simp only [gateTick]; repeat' split) <;> simp_all

/-- What `converterTick` leaves as it is. -/
@[simp] theorem converterTick_frame (c : Controller) :
    (converterTick c).start = c.start ∧ (converterTick c).time = c.time ∧ (converterTick c).table = c.table ∧
    (converterTick c).round = c.round ∧ (converterTick c).held = c.held ∧ (converterTick c).doors = c.doors ∧
    (converterTick c).scan = c.scan ∧ (converterTick c).track = c.track ∧ (converterTick c).line = c.line ∧
    (converterTick c).job = c.job ∧ (converterTick c).events = c.events ∧
    (converterTick c).reg.cycle = c.reg.cycle ∧ (converterTick c).reg.mainSend = c.reg.mainSend ∧
    (converterTick c).reg.frame = c.reg.frame ∧ (converterTick c).reg.frameHeld = c.reg.frameHeld ∧
    (converterTick c).reg.framesOn = c.reg.framesOn ∧ (converterTick c).reg.main.tap = c.reg.main.tap ∧
    (converterTick c).reg.main.value = c.reg.main.value ∧ (converterTick c).reg.main.invalid = c.reg.main.invalid ∧
    (converterTick c).reg.main.age = c.reg.main.age ∧ (converterTick c).reg.main.stale = c.reg.main.stale := by
  simp [converterTick]

/-- What `byteTick` leaves as it is. -/
@[simp] theorem byteTick_frame (c : Controller) :
    (byteTick c).time = c.time ∧ (byteTick c).table = c.table ∧ (byteTick c).round = c.round ∧
    (byteTick c).held = c.held ∧ (byteTick c).doors = c.doors ∧ (byteTick c).scan = c.scan ∧
    (byteTick c).track = c.track ∧ (byteTick c).line = c.line ∧ (byteTick c).job = c.job ∧
    (byteTick c).events = c.events ∧ (byteTick c).reg = c.reg ∧ (byteTick c).start.config = c.start.config ∧
    (byteTick c).start.line = c.start.line ∧ (byteTick c).start.powerOn = c.start.powerOn ∧
    (byteTick c).start.restart = c.start.restart ∧ (byteTick c).start.reading = c.start.reading := by
  simp [byteTick]

/-- What `doorTick` leaves as it is. -/
@[simp] theorem doorTick_frame (present : BitVec 16) (latched : BitVec 16) (c : Controller) :
    (doorTick present latched c).start = c.start ∧ (doorTick present latched c).time = c.time ∧
    (doorTick present latched c).table = c.table ∧ (doorTick present latched c).round = c.round ∧
    (doorTick present latched c).held = c.held ∧ (doorTick present latched c).scan = c.scan ∧
    (doorTick present latched c).track = c.track ∧ (doorTick present latched c).line = c.line ∧
    (doorTick present latched c).job = c.job ∧ (doorTick present latched c).events = c.events ∧
    (doorTick present latched c).reg = c.reg ∧ (doorTick present latched c).doors.doors = c.doors.doors := by
  simp [doorTick]

/-- What `lateForming` leaves as it is. -/
@[simp] theorem lateForming_frame (c : Controller) :
    (lateForming c).start = c.start ∧ (lateForming c).time = c.time ∧ (lateForming c).round = c.round ∧
    (lateForming c).held = c.held ∧ (lateForming c).due = c.due ∧ (lateForming c).track = c.track ∧
    (lateForming c).job = c.job := by
  refine ⟨?_, ?_, ?_, ?_, ?_, ?_, ?_⟩
  · (simp only [lateForming]; repeat' split) <;> simp_all
  · (simp only [lateForming]; repeat' split) <;> simp_all
  · (simp only [lateForming]; repeat' split) <;> simp_all
  · (simp only [lateForming]; repeat' split) <;> simp_all
  · (simp only [lateForming]; repeat' split) <;> simp_all
  · (simp only [lateForming]; repeat' split) <;> simp_all
  · (simp only [lateForming]; repeat' split) <;> simp_all

/-- What `lateForming` leaves as it is, continued. -/
@[simp] theorem lateForming_frame1 (c : Controller) :
    (lateForming c).table.below = c.table.below ∧ (lateForming c).table.above = c.table.above ∧
    (lateForming c).table.nmin = c.table.nmin ∧ (lateForming c).table.pendT = c.table.pendT ∧
    (lateForming c).table.pendE = c.table.pendE ∧ (lateForming c).doors.presentIn = c.doors.presentIn ∧
    (lateForming c).doors.latchedIn = c.doors.latchedIn ∧ (lateForming c).line.number = c.line.number ∧
    (lateForming c).line.rx = c.line.rx ∧ (lateForming c).line.ack = c.line.ack ∧
    (lateForming c).line.phase = c.line.phase ∧ (lateForming c).events.enable = c.events.enable := by
  refine ⟨?_, ?_, ?_, ?_, ?_, ?_, ?_, ?_, ?_, ?_, ?_, ?_⟩
  · (simp only [lateForming]; repeat' split) <;> simp_all
  · (simp only [lateForming]; repeat' split) <;> simp_all
  · (simp only [lateForming]; repeat' split) <;> simp_all
  · (simp only [lateForming]; repeat' split) <;> simp_all
  · (simp only [lateForming]; repeat' split) <;> simp_all
  · (simp only [lateForming]; repeat' split) <;> simp_all
  · (simp only [lateForming]; repeat' split) <;> simp_all
  · (simp only [lateForming]; repeat' split) <;> simp_all
  · (simp only [lateForming]; repeat' split) <;> simp_all
  · (simp only [lateForming]; repeat' split) <;> simp_all
  · (simp only [lateForming]; repeat' split) <;> simp_all
  · (simp only [lateForming]; repeat' split) <;> simp_all

/-- What `lateForming` leaves as it is, continued. -/
@[simp] theorem lateForming_frame2 (c : Controller) :
    (lateForming c).events.carried = c.events.carried ∧ (lateForming c).reg.cycle = c.reg.cycle ∧
    (lateForming c).reg.period = c.reg.period ∧ (lateForming c).reg.answer = c.reg.answer ∧
    (lateForming c).reg.mainSend = c.reg.mainSend ∧ (lateForming c).reg.framesOn = c.reg.framesOn ∧
    (lateForming c).reg.main.tap = c.reg.main.tap ∧ (lateForming c).reg.main.value = c.reg.main.value ∧
    (lateForming c).reg.main.invalid = c.reg.main.invalid ∧ (lateForming c).reg.main.age = c.reg.main.age ∧
    (lateForming c).reg.main.stale = c.reg.main.stale := by
  refine ⟨?_, ?_, ?_, ?_, ?_, ?_, ?_, ?_, ?_, ?_, ?_⟩
  · (simp only [lateForming]; repeat' split) <;> simp_all
  · (simp only [lateForming]; repeat' split) <;> simp_all
  · (simp only [lateForming]; repeat' split) <;> simp_all
  · (simp only [lateForming]; repeat' split) <;> simp_all
  · (simp only [lateForming]; repeat' split) <;> simp_all
  · (simp only [lateForming]; repeat' split) <;> simp_all
  · (simp only [lateForming]; repeat' split) <;> simp_all
  · (simp only [lateForming]; repeat' split) <;> simp_all
  · (simp only [lateForming]; repeat' split) <;> simp_all
  · (simp only [lateForming]; repeat' split) <;> simp_all
  · (simp only [lateForming]; repeat' split) <;> simp_all

/-- What `timeTick` leaves as it is. -/
@[simp] theorem timeTick_frame (c : Controller) :
    (timeTick c).start = c.start ∧ (timeTick c).table = c.table ∧ (timeTick c).round = c.round ∧
    (timeTick c).held = c.held ∧ (timeTick c).doors = c.doors ∧ (timeTick c).scan = c.scan ∧
    (timeTick c).track = c.track ∧ (timeTick c).line = c.line ∧ (timeTick c).job = c.job ∧
    (timeTick c).events = c.events ∧ (timeTick c).reg = c.reg := by
  refine ⟨?_, ?_, ?_, ?_, ?_, ?_, ?_, ?_, ?_, ?_, ?_⟩
  · (simp only [timeTick]; repeat' split) <;> simp_all
  · (simp only [timeTick]; repeat' split) <;> simp_all
  · (simp only [timeTick]; repeat' split) <;> simp_all
  · (simp only [timeTick]; repeat' split) <;> simp_all
  · (simp only [timeTick]; repeat' split) <;> simp_all
  · (simp only [timeTick]; repeat' split) <;> simp_all
  · (simp only [timeTick]; repeat' split) <;> simp_all
  · (simp only [timeTick]; repeat' split) <;> simp_all
  · (simp only [timeTick]; repeat' split) <;> simp_all
  · (simp only [timeTick]; repeat' split) <;> simp_all
  · (simp only [timeTick]; repeat' split) <;> simp_all

/-- What `tickBase` leaves as it is. -/
@[simp] theorem tickBase_frame (present : BitVec 16) (latched : BitVec 16) (c : Controller) :
    (tickBase present latched c).held = c.held ∧ (tickBase present latched c).track = c.track ∧
    (tickBase present latched c).job = c.job ∧ (tickBase present latched c).start.config = c.start.config ∧
    (tickBase present latched c).start.line = c.start.line ∧
    (tickBase present latched c).start.powerOn = c.start.powerOn ∧
    (tickBase present latched c).start.restart = c.start.restart ∧
    (tickBase present latched c).start.reading = c.start.reading ∧
    (tickBase present latched c).table.below = c.table.below ∧
    (tickBase present latched c).table.above = c.table.above ∧
    (tickBase present latched c).table.nmin = c.table.nmin ∧
    (tickBase present latched c).table.pendT = c.table.pendT ∧
    (tickBase present latched c).table.pendE = c.table.pendE ∧
    (tickBase present latched c).line.number = c.line.number ∧ (tickBase present latched c).line.rx = c.line.rx ∧
    (tickBase present latched c).line.ack = c.line.ack ∧ (tickBase present latched c).line.phase = c.line.phase ∧
    (tickBase present latched c).events.enable = c.events.enable ∧
    (tickBase present latched c).events.carried = c.events.carried ∧
    (tickBase present latched c).reg.cycle = c.reg.cycle ∧
    (tickBase present latched c).reg.mainSend = c.reg.mainSend ∧
    (tickBase present latched c).reg.framesOn = c.reg.framesOn ∧
    (tickBase present latched c).reg.main.tap = c.reg.main.tap ∧
    (tickBase present latched c).reg.main.value = c.reg.main.value ∧
    (tickBase present latched c).reg.main.invalid = c.reg.main.invalid ∧
    (tickBase present latched c).reg.main.age = c.reg.main.age ∧
    (tickBase present latched c).reg.main.stale = c.reg.main.stale := by
  simp [tickBase]

/-- What `doorsSecond` leaves as it is. -/
@[simp] theorem doorsSecond_frame (c : Controller) :
    (doorsSecond c).start = c.start ∧ (doorsSecond c).time = c.time ∧ (doorsSecond c).table = c.table ∧
    (doorsSecond c).round = c.round ∧ (doorsSecond c).held = c.held ∧ (doorsSecond c).scan = c.scan ∧
    (doorsSecond c).track = c.track ∧ (doorsSecond c).line = c.line ∧ (doorsSecond c).job = c.job ∧
    (doorsSecond c).events = c.events ∧ (doorsSecond c).reg = c.reg ∧
    (doorsSecond c).doors.presentIn = c.doors.presentIn ∧ (doorsSecond c).doors.latchedIn = c.doors.latchedIn := by
  simp [doorsSecond]

/-- What `neighboursSecond` leaves as it is. -/
@[simp] theorem neighboursSecond_frame (c : Controller) :
    (neighboursSecond c).start = c.start ∧ (neighboursSecond c).time = c.time ∧
    (neighboursSecond c).round = c.round ∧ (neighboursSecond c).held = c.held ∧
    (neighboursSecond c).doors = c.doors ∧ (neighboursSecond c).scan = c.scan ∧
    (neighboursSecond c).track = c.track ∧ (neighboursSecond c).line = c.line ∧ (neighboursSecond c).job = c.job ∧
    (neighboursSecond c).events = c.events ∧ (neighboursSecond c).reg = c.reg ∧
    (neighboursSecond c).table.ovens = c.table.ovens ∧ (neighboursSecond c).table.nmin = c.table.nmin ∧
    (neighboursSecond c).table.pendT = c.table.pendT ∧ (neighboursSecond c).table.pendE = c.table.pendE := by
  simp [neighboursSecond]

/-- What `trackerSecond` leaves as it is. -/
@[simp] theorem trackerSecond_frame (c : Controller) :
    (trackerSecond c).start = c.start ∧ (trackerSecond c).time = c.time ∧ (trackerSecond c).table = c.table ∧
    (trackerSecond c).round = c.round ∧ (trackerSecond c).held = c.held ∧ (trackerSecond c).doors = c.doors ∧
    (trackerSecond c).scan = c.scan ∧ (trackerSecond c).line = c.line ∧ (trackerSecond c).job = c.job ∧
    (trackerSecond c).events = c.events ∧ (trackerSecond c).reg = c.reg := by
  refine ⟨?_, ?_, ?_, ?_, ?_, ?_, ?_, ?_, ?_, ?_, ?_⟩
  · (simp only [trackerSecond]; repeat' split) <;> simp_all
  · (simp only [trackerSecond]; repeat' split) <;> simp_all
  · (simp only [trackerSecond]; repeat' split) <;> simp_all
  · (simp only [trackerSecond]; repeat' split) <;> simp_all
  · (simp only [trackerSecond]; repeat' split) <;> simp_all
  · (simp only [trackerSecond]; repeat' split) <;> simp_all
  · (simp only [trackerSecond]; repeat' split) <;> simp_all
  · (simp only [trackerSecond]; repeat' split) <;> simp_all
  · (simp only [trackerSecond]; repeat' split) <;> simp_all
  · (simp only [trackerSecond]; repeat' split) <;> simp_all
  · (simp only [trackerSecond]; repeat' split) <;> simp_all

/-- What `mainSecond` leaves as it is. -/
@[simp] theorem mainSecond_frame (c : Controller) :
    (mainSecond c).start = c.start ∧ (mainSecond c).time = c.time ∧ (mainSecond c).table = c.table ∧
    (mainSecond c).round = c.round ∧ (mainSecond c).held = c.held ∧ (mainSecond c).doors = c.doors ∧
    (mainSecond c).scan = c.scan ∧ (mainSecond c).track = c.track ∧ (mainSecond c).line = c.line ∧
    (mainSecond c).job = c.job ∧ (mainSecond c).events = c.events := by
  refine ⟨?_, ?_, ?_, ?_, ?_, ?_, ?_, ?_, ?_, ?_, ?_⟩
  · (simp only [mainSecond]; repeat' split) <;> simp_all
  · (simp only [mainSecond]; repeat' split) <;> simp_all
  · (simp only [mainSecond]; repeat' split) <;> simp_all
  · (simp only [mainSecond]; repeat' split) <;> simp_all
  · (simp only [mainSecond]; repeat' split) <;> simp_all
  · (simp only [mainSecond]; repeat' split) <;> simp_all
  · (simp only [mainSecond]; repeat' split) <;> simp_all
  · (simp only [mainSecond]; repeat' split) <;> simp_all
  · (simp only [mainSecond]; repeat' split) <;> simp_all
  · (simp only [mainSecond]; repeat' split) <;> simp_all
  · (simp only [mainSecond]; repeat' split) <;> simp_all

/-- What `mainSecond` leaves as it is, continued. -/
@[simp] theorem mainSecond_frame1 (c : Controller) :
    (mainSecond c).reg.cycle = c.reg.cycle ∧ (mainSecond c).reg.period = c.reg.period ∧
    (mainSecond c).reg.answer = c.reg.answer ∧ (mainSecond c).reg.mainSend = c.reg.mainSend ∧
    (mainSecond c).reg.frame = c.reg.frame ∧ (mainSecond c).reg.frameHeld = c.reg.frameHeld ∧
    (mainSecond c).reg.framesOn = c.reg.framesOn := by
  refine ⟨?_, ?_, ?_, ?_, ?_, ?_, ?_⟩
  · (simp only [mainSecond]; repeat' split) <;> simp_all
  · (simp only [mainSecond]; repeat' split) <;> simp_all
  · (simp only [mainSecond]; repeat' split) <;> simp_all
  · (simp only [mainSecond]; repeat' split) <;> simp_all
  · (simp only [mainSecond]; repeat' split) <;> simp_all
  · (simp only [mainSecond]; repeat' split) <;> simp_all
  · (simp only [mainSecond]; repeat' split) <;> simp_all

/-- What `holdSecond` leaves as it is. -/
@[simp] theorem holdSecond_frame (c : Controller) :
    (holdSecond c).start = c.start ∧ (holdSecond c).time = c.time ∧ (holdSecond c).table = c.table ∧
    (holdSecond c).round = c.round ∧ (holdSecond c).held = c.held ∧ (holdSecond c).doors = c.doors ∧
    (holdSecond c).scan = c.scan ∧ (holdSecond c).track = c.track ∧ (holdSecond c).line = c.line ∧
    (holdSecond c).events = c.events ∧ (holdSecond c).reg = c.reg ∧ (holdSecond c).job.state = c.job.state ∧
    (holdSecond c).job.oven = c.job.oven := by
  refine ⟨?_, ?_, ?_, ?_, ?_, ?_, ?_, ?_, ?_, ?_, ?_, ?_, ?_⟩
  · (simp only [holdSecond]; repeat' split) <;> simp_all
  · (simp only [holdSecond]; repeat' split) <;> simp_all
  · (simp only [holdSecond]; repeat' split) <;> simp_all
  · (simp only [holdSecond]; repeat' split) <;> simp_all
  · (simp only [holdSecond]; repeat' split) <;> simp_all
  · (simp only [holdSecond]; repeat' split) <;> simp_all
  · (simp only [holdSecond]; repeat' split) <;> simp_all
  · (simp only [holdSecond]; repeat' split) <;> simp_all
  · (simp only [holdSecond]; repeat' split) <;> simp_all
  · (simp only [holdSecond]; repeat' split) <;> simp_all
  · (simp only [holdSecond]; repeat' split) <;> simp_all
  · (simp only [holdSecond]; repeat' split) <;> simp_all
  · (simp only [holdSecond]; repeat' split) <;> simp_all

/-- What `lineSecond` leaves as it is. -/
@[simp] theorem lineSecond_frame (c : Controller) :
    (lineSecond c).time = c.time ∧ (lineSecond c).round = c.round ∧ (lineSecond c).held = c.held ∧
    (lineSecond c).doors = c.doors ∧ (lineSecond c).scan = c.scan ∧ (lineSecond c).track = c.track ∧
    (lineSecond c).line = c.line ∧ (lineSecond c).job = c.job ∧ (lineSecond c).events = c.events ∧
    (lineSecond c).start.config = c.start.config ∧ (lineSecond c).start.line = c.start.line ∧
    (lineSecond c).start.powerOn = c.start.powerOn ∧ (lineSecond c).start.restart = c.start.restart ∧
    (lineSecond c).start.reading = c.start.reading ∧ (lineSecond c).table.ovens = c.table.ovens ∧
    (lineSecond c).table.below = c.table.below ∧ (lineSecond c).table.above = c.table.above ∧
    (lineSecond c).table.nmin = c.table.nmin ∧ (lineSecond c).table.pendT = c.table.pendT ∧
    (lineSecond c).table.pendE = c.table.pendE ∧ (lineSecond c).reg.cycle = c.reg.cycle ∧
    (lineSecond c).reg.period = c.reg.period ∧ (lineSecond c).reg.answer = c.reg.answer ∧
    (lineSecond c).reg.frame = c.reg.frame ∧ (lineSecond c).reg.frameHeld = c.reg.frameHeld ∧
    (lineSecond c).reg.framesOn = c.reg.framesOn ∧ (lineSecond c).reg.main.tap = c.reg.main.tap ∧
    (lineSecond c).reg.main.value = c.reg.main.value ∧ (lineSecond c).reg.main.invalid = c.reg.main.invalid ∧
    (lineSecond c).reg.main.age = c.reg.main.age ∧ (lineSecond c).reg.main.stale = c.reg.main.stale := by
  simp [lineSecond]

/-- What `timeSecond` leaves as it is. -/
@[simp] theorem timeSecond_frame (c : Controller) :
    (timeSecond c).start = c.start ∧ (timeSecond c).table = c.table ∧ (timeSecond c).round = c.round ∧
    (timeSecond c).held = c.held ∧ (timeSecond c).doors = c.doors ∧ (timeSecond c).scan = c.scan ∧
    (timeSecond c).track = c.track ∧ (timeSecond c).line = c.line ∧ (timeSecond c).job = c.job ∧
    (timeSecond c).events = c.events ∧ (timeSecond c).reg = c.reg := by
  refine ⟨?_, ?_, ?_, ?_, ?_, ?_, ?_, ?_, ?_, ?_, ?_⟩
  · (simp only [timeSecond]; repeat' split) <;> simp_all
  · (simp only [timeSecond]; repeat' split) <;> simp_all
  · (simp only [timeSecond]; repeat' split) <;> simp_all
  · (simp only [timeSecond]; repeat' split) <;> simp_all
  · (simp only [timeSecond]; repeat' split) <;> simp_all
  · (simp only [timeSecond]; repeat' split) <;> simp_all
  · (simp only [timeSecond]; repeat' split) <;> simp_all
  · (simp only [timeSecond]; repeat' split) <;> simp_all
  · (simp only [timeSecond]; repeat' split) <;> simp_all
  · (simp only [timeSecond]; repeat' split) <;> simp_all
  · (simp only [timeSecond]; repeat' split) <;> simp_all

/-- What `secondBase` leaves as it is. -/
@[simp] theorem secondBase_frame (c : Controller) :
    (secondBase c).round = c.round ∧ (secondBase c).held = c.held ∧ (secondBase c).scan = c.scan ∧
    (secondBase c).line = c.line ∧ (secondBase c).events = c.events ∧
    (secondBase c).start.config = c.start.config ∧ (secondBase c).start.line = c.start.line ∧
    (secondBase c).start.powerOn = c.start.powerOn ∧ (secondBase c).start.restart = c.start.restart ∧
    (secondBase c).start.reading = c.start.reading ∧ (secondBase c).table.ovens = c.table.ovens ∧
    (secondBase c).table.nmin = c.table.nmin ∧ (secondBase c).table.pendT = c.table.pendT ∧
    (secondBase c).table.pendE = c.table.pendE ∧ (secondBase c).doors.presentIn = c.doors.presentIn ∧
    (secondBase c).doors.latchedIn = c.doors.latchedIn ∧ (secondBase c).job.state = c.job.state ∧
    (secondBase c).job.oven = c.job.oven ∧ (secondBase c).reg.cycle = c.reg.cycle ∧
    (secondBase c).reg.period = c.reg.period ∧ (secondBase c).reg.answer = c.reg.answer ∧
    (secondBase c).reg.frame = c.reg.frame ∧ (secondBase c).reg.frameHeld = c.reg.frameHeld ∧
    (secondBase c).reg.framesOn = c.reg.framesOn := by
  simp [secondBase]

/-- What `tableMinute` leaves as it is. -/
@[simp] theorem tableMinute_frame (c : Controller) :
    (tableMinute c).start = c.start ∧ (tableMinute c).time = c.time ∧ (tableMinute c).round = c.round ∧
    (tableMinute c).held = c.held ∧ (tableMinute c).doors = c.doors ∧ (tableMinute c).scan = c.scan ∧
    (tableMinute c).due = c.due ∧ (tableMinute c).track = c.track ∧ (tableMinute c).line = c.line ∧
    (tableMinute c).job = c.job ∧ (tableMinute c).events = c.events ∧ (tableMinute c).reg = c.reg ∧
    (tableMinute c).table.nmin = c.table.nmin ∧ (tableMinute c).table.pendT = c.table.pendT ∧
    (tableMinute c).table.pendE = c.table.pendE := by
  simp [tableMinute]

/-- What `heldMinute` leaves as it is. -/
@[simp] theorem heldMinute_frame (c : Controller) :
    (heldMinute c).start = c.start ∧ (heldMinute c).time = c.time ∧ (heldMinute c).table = c.table ∧
    (heldMinute c).round = c.round ∧ (heldMinute c).doors = c.doors ∧ (heldMinute c).scan = c.scan ∧
    (heldMinute c).track = c.track ∧ (heldMinute c).line = c.line ∧ (heldMinute c).job = c.job ∧
    (heldMinute c).events = c.events ∧ (heldMinute c).reg = c.reg := by
  simp [heldMinute]

/-- What `jobMinute` leaves as it is. -/
@[simp] theorem jobMinute_frame (c : Controller) :
    (jobMinute c).start = c.start ∧ (jobMinute c).time = c.time ∧ (jobMinute c).table = c.table ∧
    (jobMinute c).round = c.round ∧ (jobMinute c).held = c.held ∧ (jobMinute c).doors = c.doors ∧
    (jobMinute c).scan = c.scan ∧ (jobMinute c).track = c.track ∧ (jobMinute c).line = c.line ∧
    (jobMinute c).events = c.events ∧ (jobMinute c).reg = c.reg ∧ (jobMinute c).job.state = c.job.state ∧
    (jobMinute c).job.oven = c.job.oven := by
  refine ⟨?_, ?_, ?_, ?_, ?_, ?_, ?_, ?_, ?_, ?_, ?_, ?_, ?_⟩
  · (simp only [jobMinute]; repeat' split) <;> simp_all
  · (simp only [jobMinute]; repeat' split) <;> simp_all
  · (simp only [jobMinute]; repeat' split) <;> simp_all
  · (simp only [jobMinute]; repeat' split) <;> simp_all
  · (simp only [jobMinute]; repeat' split) <;> simp_all
  · (simp only [jobMinute]; repeat' split) <;> simp_all
  · (simp only [jobMinute]; repeat' split) <;> simp_all
  · (simp only [jobMinute]; repeat' split) <;> simp_all
  · (simp only [jobMinute]; repeat' split) <;> simp_all
  · (simp only [jobMinute]; repeat' split) <;> simp_all
  · (simp only [jobMinute]; repeat' split) <;> simp_all
  · (simp only [jobMinute]; repeat' split) <;> simp_all
  · (simp only [jobMinute]; repeat' split) <;> simp_all

/-- What `minuteBase` leaves as it is. -/
@[simp] theorem minuteBase_frame (bidFirst : Bool) (c : Controller) :
    (minuteBase bidFirst c).start = c.start ∧ (minuteBase bidFirst c).time = c.time ∧
    (minuteBase bidFirst c).doors = c.doors ∧ (minuteBase bidFirst c).scan = c.scan := by
  refine ⟨?_, ?_, ?_, ?_⟩
  · (simp only [minuteBase]; repeat' split) <;> simp_all
  · (simp only [minuteBase]; repeat' split) <;> simp_all
  · (simp only [minuteBase]; repeat' split) <;> simp_all
  · (simp only [minuteBase]; repeat' split) <;> simp_all

/-- What `minuteBase` leaves as it is, continued. -/
@[simp] theorem minuteBase_frame1 (bidFirst : Bool) (c : Controller) :
    (minuteBase bidFirst c).table.nmin = c.table.nmin ∧ (minuteBase bidFirst c).table.pendT = c.table.pendT ∧
    (minuteBase bidFirst c).table.pendE = c.table.pendE ∧ (minuteBase bidFirst c).track.pusher = c.track.pusher ∧
    (minuteBase bidFirst c).track.guide = c.track.guide ∧ (minuteBase bidFirst c).track.car = c.track.car ∧
    (minuteBase bidFirst c).line.number = c.line.number ∧ (minuteBase bidFirst c).line.rx = c.line.rx ∧
    (minuteBase bidFirst c).line.ack = c.line.ack ∧ (minuteBase bidFirst c).events.enable = c.events.enable ∧
    (minuteBase bidFirst c).events.carried = c.events.carried ∧ (minuteBase bidFirst c).reg.cycle = c.reg.cycle := by
  refine ⟨?_, ?_, ?_, ?_, ?_, ?_, ?_, ?_, ?_, ?_, ?_, ?_⟩
  · (simp only [minuteBase]; repeat' split) <;> simp_all
  · (simp only [minuteBase]; repeat' split) <;> simp_all
  · (simp only [minuteBase]; repeat' split) <;> simp_all
  · (simp only [minuteBase]; repeat' split) <;> simp_all
  · (simp only [minuteBase]; repeat' split) <;> simp_all
  · (simp only [minuteBase]; repeat' split) <;> simp_all
  · (simp only [minuteBase]; repeat' split) <;> simp_all
  · (simp only [minuteBase]; repeat' split) <;> simp_all
  · (simp only [minuteBase]; repeat' split) <;> simp_all
  · (simp only [minuteBase]; repeat' split) <;> simp_all
  · (simp only [minuteBase]; repeat' split) <;> simp_all
  · (simp only [minuteBase]; repeat' split) <;> simp_all

/-- What `minuteBase` leaves as it is, continued. -/
@[simp] theorem minuteBase_frame2 (bidFirst : Bool) (c : Controller) :
    (minuteBase bidFirst c).reg.period = c.reg.period ∧ (minuteBase bidFirst c).reg.answer = c.reg.answer ∧
    (minuteBase bidFirst c).reg.mainSend = c.reg.mainSend ∧ (minuteBase bidFirst c).reg.frame = c.reg.frame ∧
    (minuteBase bidFirst c).reg.frameHeld = c.reg.frameHeld ∧
    (minuteBase bidFirst c).reg.framesOn = c.reg.framesOn ∧ (minuteBase bidFirst c).reg.main.tap = c.reg.main.tap ∧
    (minuteBase bidFirst c).reg.main.value = c.reg.main.value ∧
    (minuteBase bidFirst c).reg.main.invalid = c.reg.main.invalid ∧
    (minuteBase bidFirst c).reg.main.age = c.reg.main.age ∧
    (minuteBase bidFirst c).reg.main.stale = c.reg.main.stale := by
  refine ⟨?_, ?_, ?_, ?_, ?_, ?_, ?_, ?_, ?_, ?_, ?_⟩
  · (simp only [minuteBase]; repeat' split) <;> simp_all
  · (simp only [minuteBase]; repeat' split) <;> simp_all
  · (simp only [minuteBase]; repeat' split) <;> simp_all
  · (simp only [minuteBase]; repeat' split) <;> simp_all
  · (simp only [minuteBase]; repeat' split) <;> simp_all
  · (simp only [minuteBase]; repeat' split) <;> simp_all
  · (simp only [minuteBase]; repeat' split) <;> simp_all
  · (simp only [minuteBase]; repeat' split) <;> simp_all
  · (simp only [minuteBase]; repeat' split) <;> simp_all
  · (simp only [minuteBase]; repeat' split) <;> simp_all
  · (simp only [minuteBase]; repeat' split) <;> simp_all

/-- What `holdExpires` leaves as it is. -/
@[simp] theorem holdExpires_frame (c : Controller) :
    (holdExpires c).start = c.start ∧ (holdExpires c).time = c.time ∧ (holdExpires c).round = c.round ∧
    (holdExpires c).held = c.held ∧ (holdExpires c).doors = c.doors ∧ (holdExpires c).scan = c.scan := by
  refine ⟨?_, ?_, ?_, ?_, ?_, ?_⟩
  · (simp only [holdExpires]; repeat' split) <;> simp_all
  · (simp only [holdExpires]; repeat' split) <;> simp_all
  · (simp only [holdExpires]; repeat' split) <;> simp_all
  · (simp only [holdExpires]; repeat' split) <;> simp_all
  · (simp only [holdExpires]; repeat' split) <;> simp_all
  · (simp only [holdExpires]; repeat' split) <;> simp_all

/-- What `holdExpires` leaves as it is, continued. -/
@[simp] theorem holdExpires_frame1 (c : Controller) :
    (holdExpires c).table.below = c.table.below ∧ (holdExpires c).table.above = c.table.above ∧
    (holdExpires c).table.nmin = c.table.nmin ∧ (holdExpires c).table.pendT = c.table.pendT ∧
    (holdExpires c).table.pendE = c.table.pendE ∧ (holdExpires c).track.pusher = c.track.pusher ∧
    (holdExpires c).track.guide = c.track.guide ∧ (holdExpires c).track.car = c.track.car ∧
    (holdExpires c).line.number = c.line.number ∧ (holdExpires c).line.rx = c.line.rx ∧
    (holdExpires c).line.ack = c.line.ack ∧ (holdExpires c).events.enable = c.events.enable := by
  refine ⟨?_, ?_, ?_, ?_, ?_, ?_, ?_, ?_, ?_, ?_, ?_, ?_⟩
  · (simp only [holdExpires]; repeat' split) <;> simp_all
  · (simp only [holdExpires]; repeat' split) <;> simp_all
  · (simp only [holdExpires]; repeat' split) <;> simp_all
  · (simp only [holdExpires]; repeat' split) <;> simp_all
  · (simp only [holdExpires]; repeat' split) <;> simp_all
  · (simp only [holdExpires]; repeat' split) <;> simp_all
  · (simp only [holdExpires]; repeat' split) <;> simp_all
  · (simp only [holdExpires]; repeat' split) <;> simp_all
  · (simp only [holdExpires]; repeat' split) <;> simp_all
  · (simp only [holdExpires]; repeat' split) <;> simp_all
  · (simp only [holdExpires]; repeat' split) <;> simp_all
  · (simp only [holdExpires]; repeat' split) <;> simp_all

/-- What `holdExpires` leaves as it is, continued. -/
@[simp] theorem holdExpires_frame2 (c : Controller) :
    (holdExpires c).events.carried = c.events.carried ∧ (holdExpires c).reg.cycle = c.reg.cycle ∧
    (holdExpires c).reg.period = c.reg.period ∧ (holdExpires c).reg.answer = c.reg.answer ∧
    (holdExpires c).reg.mainSend = c.reg.mainSend ∧ (holdExpires c).reg.framesOn = c.reg.framesOn ∧
    (holdExpires c).reg.main.tap = c.reg.main.tap ∧ (holdExpires c).reg.main.value = c.reg.main.value ∧
    (holdExpires c).reg.main.invalid = c.reg.main.invalid ∧ (holdExpires c).reg.main.age = c.reg.main.age ∧
    (holdExpires c).reg.main.stale = c.reg.main.stale := by
  refine ⟨?_, ?_, ?_, ?_, ?_, ?_, ?_, ?_, ?_, ?_, ?_⟩
  · (simp only [holdExpires]; repeat' split) <;> simp_all
  · (simp only [holdExpires]; repeat' split) <;> simp_all
  · (simp only [holdExpires]; repeat' split) <;> simp_all
  · (simp only [holdExpires]; repeat' split) <;> simp_all
  · (simp only [holdExpires]; repeat' split) <;> simp_all
  · (simp only [holdExpires]; repeat' split) <;> simp_all
  · (simp only [holdExpires]; repeat' split) <;> simp_all
  · (simp only [holdExpires]; repeat' split) <;> simp_all
  · (simp only [holdExpires]; repeat' split) <;> simp_all
  · (simp only [holdExpires]; repeat' split) <;> simp_all
  · (simp only [holdExpires]; repeat' split) <;> simp_all

/-- What `jobLimitReached` leaves as it is. -/
@[simp] theorem jobLimitReached_frame (c : Controller) :
    (jobLimitReached c).start = c.start ∧ (jobLimitReached c).time = c.time ∧ (jobLimitReached c).round = c.round ∧
    (jobLimitReached c).held = c.held ∧ (jobLimitReached c).doors = c.doors ∧ (jobLimitReached c).scan = c.scan := by
  refine ⟨?_, ?_, ?_, ?_, ?_, ?_⟩
  · (simp only [jobLimitReached]; repeat' split) <;> simp_all
  · (simp only [jobLimitReached]; repeat' split) <;> simp_all
  · (simp only [jobLimitReached]; repeat' split) <;> simp_all
  · (simp only [jobLimitReached]; repeat' split) <;> simp_all
  · (simp only [jobLimitReached]; repeat' split) <;> simp_all
  · (simp only [jobLimitReached]; repeat' split) <;> simp_all

/-- What `jobLimitReached` leaves as it is, continued. -/
@[simp] theorem jobLimitReached_frame1 (c : Controller) :
    (jobLimitReached c).table.below = c.table.below ∧ (jobLimitReached c).table.above = c.table.above ∧
    (jobLimitReached c).table.nmin = c.table.nmin ∧ (jobLimitReached c).table.pendT = c.table.pendT ∧
    (jobLimitReached c).table.pendE = c.table.pendE ∧ (jobLimitReached c).track.pusher = c.track.pusher ∧
    (jobLimitReached c).track.guide = c.track.guide ∧ (jobLimitReached c).track.car = c.track.car ∧
    (jobLimitReached c).line.number = c.line.number ∧ (jobLimitReached c).line.rx = c.line.rx ∧
    (jobLimitReached c).line.ack = c.line.ack ∧ (jobLimitReached c).events.enable = c.events.enable := by
  refine ⟨?_, ?_, ?_, ?_, ?_, ?_, ?_, ?_, ?_, ?_, ?_, ?_⟩
  · (simp only [jobLimitReached]; repeat' split) <;> simp_all
  · (simp only [jobLimitReached]; repeat' split) <;> simp_all
  · (simp only [jobLimitReached]; repeat' split) <;> simp_all
  · (simp only [jobLimitReached]; repeat' split) <;> simp_all
  · (simp only [jobLimitReached]; repeat' split) <;> simp_all
  · (simp only [jobLimitReached]; repeat' split) <;> simp_all
  · (simp only [jobLimitReached]; repeat' split) <;> simp_all
  · (simp only [jobLimitReached]; repeat' split) <;> simp_all
  · (simp only [jobLimitReached]; repeat' split) <;> simp_all
  · (simp only [jobLimitReached]; repeat' split) <;> simp_all
  · (simp only [jobLimitReached]; repeat' split) <;> simp_all
  · (simp only [jobLimitReached]; repeat' split) <;> simp_all

/-- What `jobLimitReached` leaves as it is, continued. -/
@[simp] theorem jobLimitReached_frame2 (c : Controller) :
    (jobLimitReached c).events.carried = c.events.carried ∧ (jobLimitReached c).reg.cycle = c.reg.cycle ∧
    (jobLimitReached c).reg.period = c.reg.period ∧ (jobLimitReached c).reg.answer = c.reg.answer ∧
    (jobLimitReached c).reg.mainSend = c.reg.mainSend ∧ (jobLimitReached c).reg.framesOn = c.reg.framesOn ∧
    (jobLimitReached c).reg.main.tap = c.reg.main.tap ∧ (jobLimitReached c).reg.main.value = c.reg.main.value ∧
    (jobLimitReached c).reg.main.invalid = c.reg.main.invalid ∧ (jobLimitReached c).reg.main.age = c.reg.main.age ∧
    (jobLimitReached c).reg.main.stale = c.reg.main.stale := by
  refine ⟨?_, ?_, ?_, ?_, ?_, ?_, ?_, ?_, ?_, ?_, ?_⟩
  · (simp only [jobLimitReached]; repeat' split) <;> simp_all
  · (simp only [jobLimitReached]; repeat' split) <;> simp_all
  · (simp only [jobLimitReached]; repeat' split) <;> simp_all
  · (simp only [jobLimitReached]; repeat' split) <;> simp_all
  · (simp only [jobLimitReached]; repeat' split) <;> simp_all
  · (simp only [jobLimitReached]; repeat' split) <;> simp_all
  · (simp only [jobLimitReached]; repeat' split) <;> simp_all
  · (simp only [jobLimitReached]; repeat' split) <;> simp_all
  · (simp only [jobLimitReached]; repeat' split) <;> simp_all
  · (simp only [jobLimitReached]; repeat' split) <;> simp_all
  · (simp only [jobLimitReached]; repeat' split) <;> simp_all

/-- What `edgeRefreshes` leaves as it is. -/
@[simp] theorem edgeRefreshes_frame (c : Controller) :
    (edgeRefreshes c).start = c.start ∧ (edgeRefreshes c).time = c.time ∧ (edgeRefreshes c).table = c.table ∧
    (edgeRefreshes c).round = c.round ∧ (edgeRefreshes c).held = c.held ∧ (edgeRefreshes c).doors = c.doors ∧
    (edgeRefreshes c).scan = c.scan ∧ (edgeRefreshes c).due = c.due := by
  refine ⟨?_, ?_, ?_, ?_, ?_, ?_, ?_, ?_⟩
  · (simp only [edgeRefreshes]; repeat' split) <;> simp_all
  · (simp only [edgeRefreshes]; repeat' split) <;> simp_all
  · (simp only [edgeRefreshes]; repeat' split) <;> simp_all
  · (simp only [edgeRefreshes]; repeat' split) <;> simp_all
  · (simp only [edgeRefreshes]; repeat' split) <;> simp_all
  · (simp only [edgeRefreshes]; repeat' split) <;> simp_all
  · (simp only [edgeRefreshes]; repeat' split) <;> simp_all
  · (simp only [edgeRefreshes]; repeat' split) <;> simp_all

/-- What `edgeRefreshes` leaves as it is, continued. -/
@[simp] theorem edgeRefreshes_frame1 (c : Controller) :
    (edgeRefreshes c).track.pusher = c.track.pusher ∧ (edgeRefreshes c).track.guide = c.track.guide ∧
    (edgeRefreshes c).track.car = c.track.car ∧ (edgeRefreshes c).line.number = c.line.number ∧
    (edgeRefreshes c).line.rx = c.line.rx ∧ (edgeRefreshes c).line.ack = c.line.ack ∧
    (edgeRefreshes c).events.enable = c.events.enable ∧ (edgeRefreshes c).events.carried = c.events.carried ∧
    (edgeRefreshes c).reg.cycle = c.reg.cycle ∧ (edgeRefreshes c).reg.period = c.reg.period ∧
    (edgeRefreshes c).reg.answer = c.reg.answer ∧ (edgeRefreshes c).reg.mainSend = c.reg.mainSend := by
  refine ⟨?_, ?_, ?_, ?_, ?_, ?_, ?_, ?_, ?_, ?_, ?_, ?_⟩
  · (simp only [edgeRefreshes]; repeat' split) <;> simp_all
  · (simp only [edgeRefreshes]; repeat' split) <;> simp_all
  · (simp only [edgeRefreshes]; repeat' split) <;> simp_all
  · (simp only [edgeRefreshes]; repeat' split) <;> simp_all
  · (simp only [edgeRefreshes]; repeat' split) <;> simp_all
  · (simp only [edgeRefreshes]; repeat' split) <;> simp_all
  · (simp only [edgeRefreshes]; repeat' split) <;> simp_all
  · (simp only [edgeRefreshes]; repeat' split) <;> simp_all
  · (simp only [edgeRefreshes]; repeat' split) <;> simp_all
  · (simp only [edgeRefreshes]; repeat' split) <;> simp_all
  · (simp only [edgeRefreshes]; repeat' split) <;> simp_all
  · (simp only [edgeRefreshes]; repeat' split) <;> simp_all

/-- What `edgeRefreshes` leaves as it is, continued. -/
@[simp] theorem edgeRefreshes_frame2 (c : Controller) :
    (edgeRefreshes c).reg.frame = c.reg.frame ∧ (edgeRefreshes c).reg.frameHeld = c.reg.frameHeld ∧
    (edgeRefreshes c).reg.framesOn = c.reg.framesOn ∧ (edgeRefreshes c).reg.main.tap = c.reg.main.tap ∧
    (edgeRefreshes c).reg.main.value = c.reg.main.value ∧ (edgeRefreshes c).reg.main.invalid = c.reg.main.invalid ∧
    (edgeRefreshes c).reg.main.age = c.reg.main.age ∧ (edgeRefreshes c).reg.main.stale = c.reg.main.stale := by
  refine ⟨?_, ?_, ?_, ?_, ?_, ?_, ?_, ?_⟩
  · (simp only [edgeRefreshes]; repeat' split) <;> simp_all
  · (simp only [edgeRefreshes]; repeat' split) <;> simp_all
  · (simp only [edgeRefreshes]; repeat' split) <;> simp_all
  · (simp only [edgeRefreshes]; repeat' split) <;> simp_all
  · (simp only [edgeRefreshes]; repeat' split) <;> simp_all
  · (simp only [edgeRefreshes]; repeat' split) <;> simp_all
  · (simp only [edgeRefreshes]; repeat' split) <;> simp_all
  · (simp only [edgeRefreshes]; repeat' split) <;> simp_all

end Sys2Proof.Machine
end

