-- ==== Sys2Proof/Laws/Commands.lean ====
section
/-! SUPPORT. What the two shapes of a command answer: a command from outside on a ready controller, an event that is due,
the handing on of the oldest telegram, and when nothing is offered to a free place. -/

namespace Sys2Proof.Machine

open Sys2Proof

/-- Nothing is taken where nothing is due. -/
theorem settle_of_due_nothing {c : Controller} (h : c.due = Due.nothing) : settle c = c := by simp [settle, h]

/-- Outside ACTIVE nothing is offered to a free place. -/
theorem freePlace_of_not_active {c : Controller} (h : isActive c = false) : freePlace c = c := by
  have h1 : offerOwed c = c := by
    unfold offerOwed
    split <;> simp [h]
  simp [freePlace, h1, offerEvent, h]

/-- Where nothing waits, nothing is offered to a free place. -/
theorem freePlace_of_nothingWaits {c : Controller} (h : nothingWaits c = true) : freePlace c = c := by
  cases ha : isActive c with
  | false => exact freePlace_of_not_active ha
  | true =>
    cases hr : txRoom c with
    | false =>
      have h1 : offerOwed c = c := by
        unfold offerOwed
        split <;> simp [hr]
      simp [freePlace, h1, offerEvent, hr]
    | true =>
      simp [nothingWaits, ha, hr] at h
      have h1 : offerOwed c = c := by
        unfold offerOwed
        simp [h.1]
      have h2 : (!c.events.queued && c.events.anyReportable) = false := by
        cases hq : c.events.queued <;> simp_all
      have h3 : (isActive c && !c.events.queued && c.events.anyReportable && txRoom c) = false := by
        cases hq : c.events.queued <;> simp_all
      simp [freePlace, h1, offerEvent, h3]

/-- A command from outside on a ready controller does its work, and what waits for a free place is offered. -/
theorem act_of_ready {f : Controller → Controller} {q : List Instr} {c : Controller} (h : Ready c) :
    act f ⟨q, c⟩ = .next ⟨q, freePlace (f c)⟩ := by
  simp [act, h.1, settle_of_due_nothing h.2]

/-- A command that takes an event, while POWER-ON is released. -/
theorem event_of_running {f : Controller → Controller} {q : List Instr} {c : Controller}
    (h : c.start.powerOn = false) : event f ⟨q, c⟩ = .next ⟨q, f c⟩ := by
  simp [event, h]

/-- While POWER-ON is asserted a command from outside changes nothing. -/
theorem act_of_powerOn {f : Controller → Controller} {q : List Instr} {c : Controller}
    (h : c.start.powerOn = true) : act f ⟨q, c⟩ = .next ⟨q, c⟩ := by simp [act, h]

/-- While POWER-ON is asserted no event is taken. -/
theorem event_of_powerOn {f : Controller → Controller} {q : List Instr} {c : Controller}
    (h : c.start.powerOn = true) : event f ⟨q, c⟩ = .next ⟨q, c⟩ := by simp [event, h]

/-- An event that is due does its work with its mark cleared. -/
theorem takeDue_true {clear : Due → Due} {f : Controller → Controller} {c : Controller} :
    takeDue true clear f c = freePlace (f (modifyDue clear c)) := by simp [takeDue]

/-- The oldest telegram, of the kind named and with p, is handed to the block and leaves the queue. -/
theorem handOn_of_hands {c : Controller} {k : Kind} {t : Telegram} {rest : List Telegram}
    {p : Telegram → Bool} {f : Telegram → Controller → Controller} (h : Hands c k t rest) (hp : p t = true) :
    handOn k p f c = f t (withRx rest c) := by
  obtain ⟨_, hr, hx, hk⟩ := h
  simp [handOn, hx, hr, hk, hp, withRx, modifyLine]

end Sys2Proof.Machine
end

