-- ==== Sys2Proof/Laws/Offers.lean ====
section
/-! SUPPORT. The operations that only offer telegrams, withdraw them or count events, each with its `OnlyOffers`: all that
such an operation can change. -/

namespace Sys2Proof.Machine

open Sys2Proof

/-- Nothing happened. -/
theorem OnlyOffers.refl (c : Controller) : OnlyOffers c c :=
  ⟨rfl, rfl, rfl, rfl, rfl, rfl, rfl, rfl, rfl, .inl rfl, rfl, rfl, rfl, .inl rfl⟩

/-- One after the other. -/
theorem OnlyOffers.trans {a b c : Controller} (h : OnlyOffers a b) (k : OnlyOffers b c) : OnlyOffers a c where
  start := k.start.trans h.start
  time := k.time.trans h.time
  table := k.table.trans h.table
  round := k.round.trans h.round
  held := k.held.trans h.held
  doors := k.doors.trans h.doors
  scan := k.scan.trans h.scan
  due := k.due.trans h.due
  line := by rw [k.line, h.line]
  phase := by
    rcases h.phase with hp | ⟨t, f, f', h1, h2⟩
    · rw [← hp]; exact k.phase
    · rcases k.phase with kp | ⟨u, g, g', k1, k2⟩
      · exact .inr ⟨t, f, f', h1, kp.trans h2⟩
      · rw [h2] at k1
        cases k1
        exact .inr ⟨t, f, g', h1, k2⟩
  track := by rw [k.track, h.track]
  reg := by rw [k.reg, h.reg]
  events := by rw [k.events, h.events]
  job := by
    rcases h.job with hj | ⟨h1, h2⟩
    · rcases k.job with kj | ⟨k1, k2⟩
      · exact .inl (by rw [kj, hj])
      · exact .inr ⟨by rw [hj] at k1; exact k1, k2⟩
    · rcases k.job with kj | ⟨k1, _⟩
      · exact .inr ⟨h1, by rw [kj, h2]⟩
      · rw [h2] at k1
        simp [Job.idleRecord] at k1

/-- The transmit queue is changed. -/
theorem OnlyOffers.setTx (q : List TxEntry) (c : Controller) : OnlyOffers c (setTx q c) :=
  ⟨rfl, rfl, rfl, rfl, rfl, rfl, rfl, rfl, rfl, .inl rfl, rfl, rfl, rfl, .inl rfl⟩

/-- The entry on the line meets a fate. -/
theorem OnlyOffers.setFate (f : Fate) (c : Controller) : OnlyOffers c (setFate f c) := by
  unfold Machine.setFate
  split
  · next t g h => exact ⟨rfl, rfl, rfl, rfl, rfl, rfl, rfl, rfl, rfl, .inr ⟨t, g, f, h, rfl⟩, rfl, rfl, rfl, .inl rfl⟩
  · exact .refl c

/-- An EVENT is offered. -/
theorem OnlyOffers.offerEvent (c : Controller) : OnlyOffers c (offerEvent c) := by
  unfold Machine.offerEvent
  split
  · exact ⟨rfl, rfl, rfl, rfl, rfl, rfl, rfl, rfl, rfl, .inl rfl, rfl, rfl, rfl, .inl rfl⟩
  · exact .refl c

/-- An event is counted. -/
theorem OnlyOffers.count (k : EventKind) (first : Option Nat) (c : Controller) : OnlyOffers c (count k first c) := by
  have h : OnlyOffers c { c with events := c.events.raise k first } :=
    ⟨rfl, rfl, rfl, rfl, rfl, rfl, rfl, rfl, rfl, .inl rfl, rfl, rfl, rfl, .inl rfl⟩
  exact h.trans (.offerEvent _)

/-- The block that queued a telegram is told that it found no place. -/
theorem OnlyOffers.notTaken (t : Telegram) (c : Controller) : OnlyOffers c (notTaken t c) := by
  unfold Machine.notTaken
  split
  · split
    · next h => exact ⟨rfl, rfl, rfl, rfl, rfl, rfl, rfl, rfl, rfl, .inl rfl, rfl, rfl, rfl, .inr ⟨h, rfl⟩⟩
    · exact .refl c
  · exact ⟨rfl, rfl, rfl, rfl, rfl, rfl, rfl, rfl, rfl, .inl rfl, rfl, rfl, rfl, .inl rfl⟩
  · split
    · exact ⟨rfl, rfl, rfl, rfl, rfl, rfl, rfl, rfl, rfl, .inl rfl, rfl, rfl, rfl, .inl rfl⟩
    · exact .refl c
  · exact ⟨rfl, rfl, rfl, rfl, rfl, rfl, rfl, rfl, rfl, .inl rfl, rfl, rfl, rfl, .inl rfl⟩
  · exact ⟨rfl, rfl, rfl, rfl, rfl, rfl, rfl, rfl, rfl, .inl rfl, rfl, rfl, rfl, .inl rfl⟩
  · exact .refl c

/-- An entry of its own place is replaced. -/
theorem OnlyOffers.replaceEntry (t : Telegram) (c : Controller) : OnlyOffers c (replaceEntry t c) := by
  simp only [Machine.replaceEntry]
  split
  · exact (OnlyOffers.setTx _ c).trans (.setFate _ _)
  · exact .setTx _ c

/-- The last entry of a full queue is displaced. -/
theorem OnlyOffers.displaceLast (t : Telegram) (c : Controller) : OnlyOffers c (displaceLast t c) := by
  simp only [Machine.displaceLast]
  split
  · exact .refl c
  · split
    · exact ((OnlyOffers.setTx _ c).trans (.setFate _ _)).trans (.count _ _ _)
    · exact ((OnlyOffers.setTx _ c).trans (.notTaken _ _)).trans (.count _ _ _)

/-- A telegram is offered. -/
theorem OnlyOffers.offer (t : Telegram) (c : Controller) : OnlyOffers c (offer t c) := by
  unfold Machine.offer
  split
  · exact .notTaken t c
  · split
    · exact .replaceEntry t c
    · split
      · exact .setTx _ c
      · split
        · exact (OnlyOffers.notTaken t c).trans (.count _ _ _)
        · exact .displaceLast t c

/-- Entries are withdrawn. -/
theorem OnlyOffers.withdraw (p : Telegram → Bool) (c : Controller) : OnlyOffers c (withdraw p c) := by
  simp only [Machine.withdraw]
  split
  · exact (OnlyOffers.setTx _ c).trans (.setFate _ _)
  · exact .setTx _ c

/-- The entries of a kind are withdrawn. -/
theorem OnlyOffers.withdrawKind (k : Kind) (c : Controller) : OnlyOffers c (withdrawKind k c) := .withdraw _ c

/-- A PHASE is queued. -/
theorem OnlyOffers.queuePhase (i : Nat) (c : Controller) : OnlyOffers c (queuePhase i c) := by
  unfold Machine.queuePhase
  split
  · exact .offer _ c
  · exact .refl c

/-- A PERMIT is offered. -/
theorem OnlyOffers.offerPermit (n code : Nat) (c : Controller) : OnlyOffers c (offerPermit n code c) :=
  (OnlyOffers.withdrawKind _ c).trans (.offer _ _)

/-- A HALT is offered. -/
theorem OnlyOffers.offerHalt (n : Nat) (c : Controller) : OnlyOffers c (offerHalt n c) :=
  (OnlyOffers.withdrawKind _ c).trans (.offer _ _)

/-- A RELEASE is offered. -/
theorem OnlyOffers.offerRelease (n : Nat) (o : PushOutcome) (c : Controller) : OnlyOffers c (offerRelease n o c) :=
  (OnlyOffers.withdrawKind _ c).trans (.offer _ _)

/-- A RELEASE owed is offered. -/
theorem OnlyOffers.offerOwed (c : Controller) : OnlyOffers c (offerOwed c) := by
  unfold Machine.offerOwed
  split
  · split
    · next w _ _ =>
      have h : OnlyOffers c { c with job := { c.job with owed := none } } :=
        ⟨rfl, rfl, rfl, rfl, rfl, rfl, rfl, rfl, rfl, .inl rfl, rfl, rfl, rfl, .inl rfl⟩
      exact h.trans (.offerRelease _ _ _)
    · exact .refl c
  · exact .refl c

/-- What waits for a free place is offered. -/
theorem OnlyOffers.freePlace (c : Controller) : OnlyOffers c (freePlace c) :=
  (OnlyOffers.offerOwed c).trans (.offerEvent _)

end Sys2Proof.Machine
end

