-- ==== Sys2Proof/Laws/Queue.lean ====
section
/-! SUPPORT. The transmit queue under the operations on it: its length, its members, and that a telegram offered where there
is room waits in it. -/

namespace Sys2Proof.Machine

open Sys2Proof

/-- An inserted entry stands in the queue beside the others. -/
@[simp] theorem mem_insertEntry {e x : TxEntry} {q : List TxEntry} : x ∈ insertEntry e q ↔ x = e ∨ x ∈ q := by
  induction q with
  | nil => simp [insertEntry]
  | cons y ys ih =>
    simp only [insertEntry]
    split <;> simp [ih]
    grind

/-- An inserted entry makes the queue longer by one. -/
@[simp] theorem length_insertEntry (e : TxEntry) (q : List TxEntry) : (insertEntry e q).length = q.length + 1 := by
  induction q with
  | nil => rfl
  | cons y ys ih =>
    simp only [insertEntry]
    split <;> simp [ih]

/-- An entry takes its place without disturbing the order (R39). -/
theorem txAscending_insertEntry {e : TxEntry} {q : List TxEntry} (h : txAscending q) : txAscending (insertEntry e q) := by
  induction q with
  | nil => simp [insertEntry, txAscending]
  | cons y ys ih =>
    have h' := List.pairwise_cons.mp h
    simp only [insertEntry]
    split
    · next hle =>
      refine List.pairwise_cons.mpr ⟨fun x hx => ?_, ih h'.2⟩
      rcases mem_insertEntry.mp hx with rfl | hx
      · exact hle
      · exact h'.1 x hx
    · next hlt =>
      refine List.pairwise_cons.mpr ⟨fun x hx => ?_, h⟩
      rcases List.mem_cons.mp hx with rfl | hx
      · omega
      · have := h'.1 x hx
        omega

/-- The queue after `setTx`. -/
@[simp] theorem setTx_tx (q : List TxEntry) (c : Controller) : (setTx q c).line.tx = q := rfl

/-- A fate leaves the queue as it is. -/
@[simp] theorem setFate_tx (f : Fate) (c : Controller) : (setFate f c).line.tx = c.line.tx := by
  unfold setFate
  split <;> rfl

/-- What the owner is told leaves the queue as it is. -/
@[simp] theorem notTaken_tx (t : Telegram) (c : Controller) : (notTaken t c).line.tx = c.line.tx := by
  rw [(notTaken_frame t c).2.2.2.2.2.2.2.2]

/-- An EVENT offered keeps every entry. -/
theorem mem_offerEvent {x : TxEntry} {c : Controller} (h : x ∈ c.line.tx) : x ∈ (offerEvent c).line.tx := by
  unfold offerEvent
  split
  · simp [h]
  · exact h

/-- An EVENT offered makes the queue longer by at most one. -/
theorem length_offerEvent (c : Controller) : (offerEvent c).line.tx.length ≤ c.line.tx.length + 1 := by
  unfold offerEvent
  split <;> simp

/-- Counting an event keeps every entry. -/
theorem mem_count {x : TxEntry} {c : Controller} (k : EventKind) (first : Option Nat) (h : x ∈ c.line.tx) :
    x ∈ (count k first c).line.tx := mem_offerEvent h

/-- Counting an event makes the queue longer by at most one. -/
theorem length_count (k : EventKind) (first : Option Nat) (c : Controller) :
    (count k first c).line.tx.length ≤ c.line.tx.length + 1 := length_offerEvent _

/-- A withdrawal keeps the entries it does not name. -/
theorem mem_withdraw {x : TxEntry} {c : Controller} {p : Telegram → Bool} :
    x ∈ (withdraw p c).line.tx ↔ x ∈ c.line.tx ∧ p x.tel = false := by
  simp only [withdraw]
  split <;> simp

/-- A withdrawal does not lengthen the queue. -/
theorem length_withdraw (p : Telegram → Bool) (c : Controller) :
    (withdraw p c).line.tx.length ≤ c.line.tx.length := by
  simp only [withdraw]
  split <;> simp [List.length_filter_le]

/-- A telegram offered while the station is ACTIVE and the queue has room waits in the queue. -/
theorem waitsInTx_offer {t : Telegram} {c : Controller} (ha : isActive c = true) (hr : txRoom c = true) :
    waitsInTx t (offer t c) := by
  simp only [waitsInTx, offer, ha, hr]
  split
  · simp at *
  · split
    · next h =>
      simp only [replaceEntry]
      split <;> simp only [setFate_tx, setTx_tx] <;> split <;>
        simp_all [replaceInPlace]
      all_goals
        obtain ⟨e, he, hs⟩ := h
        exact ⟨e, he, by simp [hs]⟩
    · simp

/-- A telegram offered where there is room makes the queue longer by at most one. -/
theorem length_offer {t : Telegram} {c : Controller} (ha : isActive c = true) (hr : txRoom c = true) :
    (offer t c).line.tx.length ≤ c.line.tx.length + 1 := by
  simp only [offer, ha, hr]
  split
  · simp at *
  · split
    · simp only [replaceEntry]
      split <;> simp only [setFate_tx, setTx_tx] <;> split <;> simp [replaceInPlace, List.length_filter_le]
    · simp

/-- An entry that does not contend for the place of a telegram stays when the telegram is offered where there is room. -/
theorem mem_offer {t : Telegram} {x : TxEntry} {c : Controller} (ha : isActive c = true) (hr : txRoom c = true)
    (hx : x ∈ c.line.tx) (hs : samePlace t x.tel = false) : x ∈ (offer t c).line.tx := by
  simp only [offer, ha, hr]
  split
  · simp at *
  · split
    · simp only [replaceEntry]
      split <;> simp only [setFate_tx, setTx_tx] <;> split
      all_goals first
        | exact (by simp [hx, hs])
        | exact List.mem_map.mpr ⟨x, hx, by simp [hs]⟩
    · simp [hx]

/-- A release contends for no place. -/
theorem samePlace_release (src n : Nat) (o : PushOutcome) (t : Telegram) :
    samePlace (releaseTelegram src n o) t = false := by
  simp [samePlace, releaseTelegram, Telegram.kind, kindOf]

/-- A release owed that is offered keeps every entry but a PERMIT. -/
theorem mem_offerOwed {x : TxEntry} {c : Controller} (h : x ∈ c.line.tx) (hp : x.tel.kind ≠ some .permit) :
    x ∈ (offerOwed c).line.tx := by
  unfold offerOwed
  split
  · next w _ =>
    split
    · next ha =>
      simp only [Bool.and_eq_true] at ha
      have hl := length_withdraw (fun t => t.kind == some .permit) { c with job := { c.job with owed := none } }
      refine mem_offer ?_ ?_ (mem_withdraw.mpr ⟨h, by simpa using hp⟩) (samePlace_release _ _ _ _)
      · have := (OnlyOffers.withdrawKind .permit { c with job := { c.job with owed := none } }).start
        simpa [isActive, this] using ha.1
      · have hr := ha.2
        simp only [txRoom, decide_eq_true_eq] at hr ⊢
        exact Nat.lt_of_le_of_lt hl hr
    · exact h
  · exact h

/-- What waits for a free place, offered, keeps every entry but a PERMIT. -/
theorem mem_freePlace {x : TxEntry} {c : Controller} (h : x ∈ c.line.tx) (hp : x.tel.kind ≠ some .permit) :
    x ∈ (freePlace c).line.tx := mem_offerEvent (mem_offerOwed h hp)

/-- With no release owed, what waits for a free place is at most an EVENT. -/
theorem freePlace_of_none_owed {c : Controller} (h : c.job.owed = none) : freePlace c = offerEvent c := by
  simp [freePlace, offerOwed, h]

end Sys2Proof.Machine
end

