-- ==== Sys2Proof/Laws/State.lean ====
section
/-! SUPPORT. The named updates of the records, field by field: each true by rfl, so that no later proof unfolds a record
update. -/

namespace Sys2Proof.Machine

open Sys2Proof

/-! Entering a state of the push job (R72). -/

@[simp] theorem Job.enter_state (s : JobState) (j : Job) : (Job.enter s j).state = s := rfl
@[simp] theorem Job.enter_oven (s : JobState) (j : Job) : (Job.enter s j).oven = j.oven := rfl
@[simp] theorem Job.enter_ownClaim (s : JobState) (j : Job) : (Job.enter s j).ownClaim = j.ownClaim := rfl
@[simp] theorem Job.enter_started (s : JobState) (j : Job) : (Job.enter s j).started = j.started := rfl
@[simp] theorem Job.enter_ended (s : JobState) (j : Job) : (Job.enter s j).ended = j.ended := rfl
@[simp] theorem Job.enter_minutes (s : JobState) (j : Job) : (Job.enter s j).minutes = j.minutes := rfl
@[simp] theorem Job.enter_holdSecs (s : JobState) (j : Job) : (Job.enter s j).holdSecs = j.holdSecs := rfl
@[simp] theorem Job.enter_cause (s : JobState) (j : Job) : (Job.enter s j).cause = j.cause := rfl
@[simp] theorem Job.enter_owed (s : JobState) (j : Job) : (Job.enter s j).owed = j.owed := rfl
@[simp] theorem Job.enter_permitOut (s : JobState) (j : Job) :
    (Job.enter s j).permitOut = (s == .permitted || s == .pushing) := rfl
@[simp] theorem Job.enter_holdOut (s : JobState) (j : Job) : (Job.enter s j).holdOut = (s == .held) := rfl

/-! Entering IDLE (R71). -/

@[simp] theorem Job.toIdle_state (j : Job) : (Job.toIdle j).state = .idle := rfl
@[simp] theorem Job.toIdle_oven (j : Job) : (Job.toIdle j).oven = none := rfl
@[simp] theorem Job.toIdle_ownClaim (j : Job) : (Job.toIdle j).ownClaim = none := rfl
@[simp] theorem Job.toIdle_started (j : Job) : (Job.toIdle j).started = false := rfl
@[simp] theorem Job.toIdle_ended (j : Job) : (Job.toIdle j).ended = false := rfl
@[simp] theorem Job.toIdle_minutes (j : Job) : (Job.toIdle j).minutes = 0 := rfl
@[simp] theorem Job.toIdle_holdSecs (j : Job) : (Job.toIdle j).holdSecs = 0 := rfl
@[simp] theorem Job.toIdle_cause (j : Job) : (Job.toIdle j).cause = none := rfl
@[simp] theorem Job.toIdle_owed (j : Job) : (Job.toIdle j).owed = j.owed := rfl
@[simp] theorem Job.toIdle_permitOut (j : Job) : (Job.toIdle j).permitOut = false := rfl
@[simp] theorem Job.toIdle_holdOut (j : Job) : (Job.toIdle j).holdOut = false := rfl

/-! The end of a call (R110, R111, R114). -/

@[simp] theorem Call.ended_step (k : Call) : (Call.ended k).step = .none := rfl
@[simp] theorem Call.ended_oven (k : Call) : (Call.ended k).oven = none := rfl
@[simp] theorem Call.ended_queued (k : Call) : (Call.ended k).queued = false := rfl
@[simp] theorem Call.ended_limit (k : Call) : (Call.ended k).limit = k.limit := rfl
@[simp] theorem Call.ended_remaining (k : Call) : (Call.ended k).remaining = 0 := rfl
@[simp] theorem Call.ended_expiries (k : Call) : (Call.ended k).expiries = 0 := rfl

/-! The stage derived afresh (R12). -/

@[simp] theorem Oven.withStage_number (g : Config) (o : Oven) : (Oven.withStage g o).number = o.number := rfl
@[simp] theorem Oven.withStage_phase (g : Config) (o : Oven) : (Oven.withStage g o).phase = o.phase := rfl
@[simp] theorem Oven.withStage_minutes (g : Config) (o : Oven) : (Oven.withStage g o).minutes = o.minutes := rfl
@[simp] theorem Oven.withStage_target (g : Config) (o : Oven) : (Oven.withStage g o).target = o.target := rfl
@[simp] theorem Oven.withStage_allowance (g : Config) (o : Oven) : (Oven.withStage g o).allowance = o.allowance := rfl
@[simp] theorem Oven.withStage_stage (g : Config) (o : Oven) : (Oven.withStage g o).stage = derivedStage g o := rfl
@[simp] theorem Oven.withStage_inhibited (g : Config) (o : Oven) : (Oven.withStage g o).inhibited = o.inhibited := rfl
@[simp] theorem Oven.withStage_hardCount (g : Config) (o : Oven) : (Oven.withStage g o).hardCount = o.hardCount := rfl
@[simp] theorem Oven.withStage_mode (g : Config) (o : Oven) : (Oven.withStage g o).mode = o.mode := rfl
@[simp] theorem Oven.withStage_command (g : Config) (o : Oven) : (Oven.withStage g o).command = o.command := rfl
@[simp] theorem Oven.withStage_integrator (g : Config) (o : Oven) :
    (Oven.withStage g o).integrator = o.integrator := rfl
@[simp] theorem Oven.withStage_filtered (g : Config) (o : Oven) : (Oven.withStage g o).filtered = o.filtered := rfl
@[simp] theorem Oven.withStage_invalid (g : Config) (o : Oven) : (Oven.withStage g o).invalid = o.invalid := rfl
@[simp] theorem Oven.withStage_feedback (g : Config) (o : Oven) : (Oven.withStage g o).feedback = o.feedback := rfl
@[simp] theorem Oven.withStage_stuck (g : Config) (o : Oven) : (Oven.withStage g o).stuck = o.stuck := rfl
@[simp] theorem Oven.withStage_stuckCount (g : Config) (o : Oven) :
    (Oven.withStage g o).stuckCount = o.stuckCount := rfl
@[simp] theorem Oven.withStage_noDraw (g : Config) (o : Oven) : (Oven.withStage g o).noDraw = o.noDraw := rfl
@[simp] theorem Oven.withStage_isoCount (g : Config) (o : Oven) : (Oven.withStage g o).isoCount = o.isoCount := rfl

/-! Entry to CLOSED (R156). -/

@[simp] theorem Oven.enterClosed_number (o : Oven) : (Oven.enterClosed o).number = o.number := rfl
@[simp] theorem Oven.enterClosed_phase (o : Oven) : (Oven.enterClosed o).phase = o.phase := rfl
@[simp] theorem Oven.enterClosed_minutes (o : Oven) : (Oven.enterClosed o).minutes = o.minutes := rfl
@[simp] theorem Oven.enterClosed_target (o : Oven) : (Oven.enterClosed o).target = o.target := rfl
@[simp] theorem Oven.enterClosed_allowance (o : Oven) : (Oven.enterClosed o).allowance = o.allowance := rfl
@[simp] theorem Oven.enterClosed_stage (o : Oven) : (Oven.enterClosed o).stage = o.stage := rfl
@[simp] theorem Oven.enterClosed_inhibited (o : Oven) : (Oven.enterClosed o).inhibited = o.inhibited := rfl
@[simp] theorem Oven.enterClosed_hardCount (o : Oven) : (Oven.enterClosed o).hardCount = o.hardCount := rfl
@[simp] theorem Oven.enterClosed_mode (o : Oven) : (Oven.enterClosed o).mode = .closed := rfl
@[simp] theorem Oven.enterClosed_command (o : Oven) : (Oven.enterClosed o).command = 0 := rfl
@[simp] theorem Oven.enterClosed_integrator (o : Oven) : (Oven.enterClosed o).integrator = 0 := rfl
@[simp] theorem Oven.enterClosed_filtered (o : Oven) : (Oven.enterClosed o).filtered = o.filtered := rfl
@[simp] theorem Oven.enterClosed_invalid (o : Oven) : (Oven.enterClosed o).invalid = o.invalid := rfl
@[simp] theorem Oven.enterClosed_feedback (o : Oven) : (Oven.enterClosed o).feedback = o.feedback := rfl
@[simp] theorem Oven.enterClosed_stuck (o : Oven) : (Oven.enterClosed o).stuck = o.stuck := rfl
@[simp] theorem Oven.enterClosed_stuckCount (o : Oven) : (Oven.enterClosed o).stuckCount = o.stuckCount := rfl
@[simp] theorem Oven.enterClosed_noDraw (o : Oven) : (Oven.enterClosed o).noDraw = 0 := rfl
@[simp] theorem Oven.enterClosed_isoCount (o : Oven) : (Oven.enterClosed o).isoCount = 0 := rfl

/-! Entry to FORCED (R156). -/

@[simp] theorem Oven.enterForced_number (g : Config) (o : Oven) : (Oven.enterForced g o).number = o.number := rfl
@[simp] theorem Oven.enterForced_phase (g : Config) (o : Oven) : (Oven.enterForced g o).phase = o.phase := rfl
@[simp] theorem Oven.enterForced_minutes (g : Config) (o : Oven) : (Oven.enterForced g o).minutes = o.minutes := rfl
@[simp] theorem Oven.enterForced_target (g : Config) (o : Oven) : (Oven.enterForced g o).target = o.target := rfl
@[simp] theorem Oven.enterForced_allowance (g : Config) (o : Oven) :
    (Oven.enterForced g o).allowance = o.allowance := rfl
@[simp] theorem Oven.enterForced_stage (g : Config) (o : Oven) : (Oven.enterForced g o).stage = o.stage := rfl
@[simp] theorem Oven.enterForced_inhibited (g : Config) (o : Oven) :
    (Oven.enterForced g o).inhibited = o.inhibited := rfl
@[simp] theorem Oven.enterForced_hardCount (g : Config) (o : Oven) :
    (Oven.enterForced g o).hardCount = o.hardCount := rfl
@[simp] theorem Oven.enterForced_mode (g : Config) (o : Oven) : (Oven.enterForced g o).mode = .forced := rfl
@[simp] theorem Oven.enterForced_command (g : Config) (o : Oven) : (Oven.enterForced g o).command = g.uchg := rfl
@[simp] theorem Oven.enterForced_integrator (g : Config) (o : Oven) :
    (Oven.enterForced g o).integrator = o.integrator := rfl
@[simp] theorem Oven.enterForced_filtered (g : Config) (o : Oven) :
    (Oven.enterForced g o).filtered = o.filtered := rfl
@[simp] theorem Oven.enterForced_invalid (g : Config) (o : Oven) : (Oven.enterForced g o).invalid = o.invalid := rfl
@[simp] theorem Oven.enterForced_feedback (g : Config) (o : Oven) :
    (Oven.enterForced g o).feedback = o.feedback := rfl
@[simp] theorem Oven.enterForced_stuck (g : Config) (o : Oven) : (Oven.enterForced g o).stuck = o.stuck := rfl
@[simp] theorem Oven.enterForced_stuckCount (g : Config) (o : Oven) :
    (Oven.enterForced g o).stuckCount = o.stuckCount := rfl
@[simp] theorem Oven.enterForced_noDraw (g : Config) (o : Oven) : (Oven.enterForced g o).noDraw = 0 := rfl
@[simp] theorem Oven.enterForced_isoCount (g : Config) (o : Oven) : (Oven.enterForced g o).isoCount = 0 := rfl

/-! Entry to ISOLATING (R156). -/

@[simp] theorem Oven.enterIsolating_number (o : Oven) : (Oven.enterIsolating o).number = o.number := rfl
@[simp] theorem Oven.enterIsolating_phase (o : Oven) : (Oven.enterIsolating o).phase = o.phase := rfl
@[simp] theorem Oven.enterIsolating_minutes (o : Oven) : (Oven.enterIsolating o).minutes = o.minutes := rfl
@[simp] theorem Oven.enterIsolating_target (o : Oven) : (Oven.enterIsolating o).target = o.target := rfl
@[simp] theorem Oven.enterIsolating_allowance (o : Oven) : (Oven.enterIsolating o).allowance = o.allowance := rfl
@[simp] theorem Oven.enterIsolating_stage (o : Oven) : (Oven.enterIsolating o).stage = o.stage := rfl
@[simp] theorem Oven.enterIsolating_inhibited (o : Oven) : (Oven.enterIsolating o).inhibited = o.inhibited := rfl
@[simp] theorem Oven.enterIsolating_hardCount (o : Oven) : (Oven.enterIsolating o).hardCount = o.hardCount := rfl
@[simp] theorem Oven.enterIsolating_mode (o : Oven) : (Oven.enterIsolating o).mode = .isolating := rfl
@[simp] theorem Oven.enterIsolating_command (o : Oven) : (Oven.enterIsolating o).command = o.command := rfl
@[simp] theorem Oven.enterIsolating_integrator (o : Oven) : (Oven.enterIsolating o).integrator = o.integrator := rfl
@[simp] theorem Oven.enterIsolating_filtered (o : Oven) : (Oven.enterIsolating o).filtered = o.filtered := rfl
@[simp] theorem Oven.enterIsolating_invalid (o : Oven) : (Oven.enterIsolating o).invalid = o.invalid := rfl
@[simp] theorem Oven.enterIsolating_feedback (o : Oven) : (Oven.enterIsolating o).feedback = o.feedback := rfl
@[simp] theorem Oven.enterIsolating_stuck (o : Oven) : (Oven.enterIsolating o).stuck = o.stuck := rfl
@[simp] theorem Oven.enterIsolating_stuckCount (o : Oven) : (Oven.enterIsolating o).stuckCount = o.stuckCount := rfl
@[simp] theorem Oven.enterIsolating_noDraw (o : Oven) : (Oven.enterIsolating o).noDraw = 0 := rfl
@[simp] theorem Oven.enterIsolating_isoCount (o : Oven) : (Oven.enterIsolating o).isoCount = 0 := rfl

/-! Entry to REGULATE (R156, R158). -/

@[simp] theorem Oven.enterRegulate_number (g : Config) (o : Oven) : (Oven.enterRegulate g o).number = o.number := rfl
@[simp] theorem Oven.enterRegulate_phase (g : Config) (o : Oven) : (Oven.enterRegulate g o).phase = o.phase := rfl
@[simp] theorem Oven.enterRegulate_minutes (g : Config) (o : Oven) :
    (Oven.enterRegulate g o).minutes = o.minutes := rfl
@[simp] theorem Oven.enterRegulate_target (g : Config) (o : Oven) : (Oven.enterRegulate g o).target = o.target := rfl
@[simp] theorem Oven.enterRegulate_allowance (g : Config) (o : Oven) :
    (Oven.enterRegulate g o).allowance = o.allowance := rfl
@[simp] theorem Oven.enterRegulate_stage (g : Config) (o : Oven) : (Oven.enterRegulate g o).stage = o.stage := rfl
@[simp] theorem Oven.enterRegulate_inhibited (g : Config) (o : Oven) :
    (Oven.enterRegulate g o).inhibited = o.inhibited := rfl
@[simp] theorem Oven.enterRegulate_hardCount (g : Config) (o : Oven) :
    (Oven.enterRegulate g o).hardCount = o.hardCount := rfl
@[simp] theorem Oven.enterRegulate_mode (g : Config) (o : Oven) : (Oven.enterRegulate g o).mode = .regulate := rfl
@[simp] theorem Oven.enterRegulate_command (g : Config) (o : Oven) :
    (Oven.enterRegulate g o).command = o.command := rfl
@[simp] theorem Oven.enterRegulate_integrator (g : Config) (o : Oven) :
    (Oven.enterRegulate g o).integrator = presetIntegrator g o := rfl
@[simp] theorem Oven.enterRegulate_filtered (g : Config) (o : Oven) :
    (Oven.enterRegulate g o).filtered = o.filtered := rfl
@[simp] theorem Oven.enterRegulate_invalid (g : Config) (o : Oven) :
    (Oven.enterRegulate g o).invalid = o.invalid := rfl
@[simp] theorem Oven.enterRegulate_feedback (g : Config) (o : Oven) :
    (Oven.enterRegulate g o).feedback = o.feedback := rfl
@[simp] theorem Oven.enterRegulate_stuck (g : Config) (o : Oven) : (Oven.enterRegulate g o).stuck = o.stuck := rfl
@[simp] theorem Oven.enterRegulate_stuckCount (g : Config) (o : Oven) :
    (Oven.enterRegulate g o).stuckCount = o.stuckCount := rfl
@[simp] theorem Oven.enterRegulate_noDraw (g : Config) (o : Oven) : (Oven.enterRegulate g o).noDraw = o.noDraw := rfl
@[simp] theorem Oven.enterRegulate_isoCount (g : Config) (o : Oven) :
    (Oven.enterRegulate g o).isoCount = o.isoCount := rfl

/-! A SEED (R6). -/

@[simp] theorem Oven.seeded_number (p : Phase) (m : Nat) (t : Nat) (e : Nat) (o : Oven) :
    (Oven.seeded p m t e o).number = o.number := rfl
@[simp] theorem Oven.seeded_phase (p : Phase) (m : Nat) (t : Nat) (e : Nat) (o : Oven) :
    (Oven.seeded p m t e o).phase = o.phase := rfl
@[simp] theorem Oven.seeded_minutes (p : Phase) (m : Nat) (t : Nat) (e : Nat) (o : Oven) :
    (Oven.seeded p m t e o).minutes = if p = .empty then 0 else clampNat m 0 4095 := rfl
@[simp] theorem Oven.seeded_target (p : Phase) (m : Nat) (t : Nat) (e : Nat) (o : Oven) :
    (Oven.seeded p m t e o).target = clampNat t 600 2400 := rfl
@[simp] theorem Oven.seeded_allowance (p : Phase) (m : Nat) (t : Nat) (e : Nat) (o : Oven) :
    (Oven.seeded p m t e o).allowance = e := rfl
@[simp] theorem Oven.seeded_stage (p : Phase) (m : Nat) (t : Nat) (e : Nat) (o : Oven) :
    (Oven.seeded p m t e o).stage = o.stage := rfl
@[simp] theorem Oven.seeded_inhibited (p : Phase) (m : Nat) (t : Nat) (e : Nat) (o : Oven) :
    (Oven.seeded p m t e o).inhibited = o.inhibited := rfl
@[simp] theorem Oven.seeded_hardCount (p : Phase) (m : Nat) (t : Nat) (e : Nat) (o : Oven) :
    (Oven.seeded p m t e o).hardCount = o.hardCount := rfl
@[simp] theorem Oven.seeded_mode (p : Phase) (m : Nat) (t : Nat) (e : Nat) (o : Oven) :
    (Oven.seeded p m t e o).mode = o.mode := rfl
@[simp] theorem Oven.seeded_command (p : Phase) (m : Nat) (t : Nat) (e : Nat) (o : Oven) :
    (Oven.seeded p m t e o).command = o.command := rfl
@[simp] theorem Oven.seeded_integrator (p : Phase) (m : Nat) (t : Nat) (e : Nat) (o : Oven) :
    (Oven.seeded p m t e o).integrator = o.integrator := rfl
@[simp] theorem Oven.seeded_filtered (p : Phase) (m : Nat) (t : Nat) (e : Nat) (o : Oven) :
    (Oven.seeded p m t e o).filtered = o.filtered := rfl
@[simp] theorem Oven.seeded_invalid (p : Phase) (m : Nat) (t : Nat) (e : Nat) (o : Oven) :
    (Oven.seeded p m t e o).invalid = o.invalid := rfl
@[simp] theorem Oven.seeded_feedback (p : Phase) (m : Nat) (t : Nat) (e : Nat) (o : Oven) :
    (Oven.seeded p m t e o).feedback = o.feedback := rfl
@[simp] theorem Oven.seeded_stuck (p : Phase) (m : Nat) (t : Nat) (e : Nat) (o : Oven) :
    (Oven.seeded p m t e o).stuck = o.stuck := rfl
@[simp] theorem Oven.seeded_stuckCount (p : Phase) (m : Nat) (t : Nat) (e : Nat) (o : Oven) :
    (Oven.seeded p m t e o).stuckCount = o.stuckCount := rfl
@[simp] theorem Oven.seeded_noDraw (p : Phase) (m : Nat) (t : Nat) (e : Nat) (o : Oven) :
    (Oven.seeded p m t e o).noDraw = o.noDraw := rfl
@[simp] theorem Oven.seeded_isoCount (p : Phase) (m : Nat) (t : Nat) (e : Nat) (o : Oven) :
    (Oven.seeded p m t e o).isoCount = o.isoCount := rfl

/-! A change of a door record (R122, R123). -/

@[simp] theorem Door.changed_present (s : DoorState) (d : Door) : (Door.changed s d).present = d.present := rfl
@[simp] theorem Door.changed_latched (s : DoorState) (d : Door) : (Door.changed s d).latched = d.latched := rfl
@[simp] theorem Door.changed_state (s : DoorState) (d : Door) : (Door.changed s d).state = s := rfl
@[simp] theorem Door.changed_openSecs (s : DoorState) (d : Door) :
    (Door.changed s d).openSecs = if s = .checking then 0 else d.openSecs := rfl
@[simp] theorem Door.changed_warned (s : DoorState) (d : Door) :
    (Door.changed s d).warned = (d.warned && s != .checking) := rfl
@[simp] theorem Door.changed_overdue (s : DoorState) (d : Door) :
    (Door.changed s d).overdue = (d.overdue && s != .checking) := rfl
@[simp] theorem Door.changed_conflict (s : DoorState) (d : Door) :
    (Door.changed s d).conflict = (d.conflict && s == .removed) := rfl
@[simp] theorem Door.changed_score (s : DoorState) (d : Door) : (Door.changed s d).score = d.score := rfl
@[simp] theorem Door.changed_ref (s : DoorState) (d : Door) : (Door.changed s d).ref = d.ref := rfl
@[simp] theorem Door.changed_last (s : DoorState) (d : Door) : (Door.changed s d).last = d.last := rfl
@[simp] theorem Door.changed_checks (s : DoorState) (d : Door) : (Door.changed s d).checks = d.checks := rfl
@[simp] theorem Door.changed_dead (s : DoorState) (d : Door) : (Door.changed s d).dead = d.dead := rfl

/-! The oven and door records after one of them is changed. -/

/-- The oven record at index j after the one at index i is changed. -/
theorem ovenAt_modifyOven (i j : Nat) (f : Oven → Oven) (c : Controller) :
    ovenAt (modifyOven i f c) j = if i = j then (ovenAt c j).map f else ovenAt c j := by
  simp [ovenAt, modifyOven, List.getElem?_modify]
  split <;> simp

/-- The oven record that was changed. -/
@[simp] theorem ovenAt_modifyOven_self (i : Nat) (f : Oven → Oven) (c : Controller) :
    ovenAt (modifyOven i f c) i = (ovenAt c i).map f := by simp [ovenAt_modifyOven]

/-- Another oven record. -/
theorem ovenAt_modifyOven_ne {i j : Nat} (h : i ≠ j) (f : Oven → Oven) (c : Controller) :
    ovenAt (modifyOven i f c) j = ovenAt c j := by simp [ovenAt_modifyOven, h]

/-- The oven records are read from the list alone. -/
theorem ovenAt_congr {c d : Controller} (h : d.table.ovens = c.table.ovens) (j : Nat) : ovenAt d j = ovenAt c j := by
  simp [ovenAt, h]

/-- The door records are read from the list alone. -/
theorem doorAt_congr {c d : Controller} (h : d.doors.doors = c.doors.doors) (j : Nat) : doorAt d j = doorAt c j := by
  simp [doorAt, h]

/-- The door record of channel j after that of channel i is changed. -/
theorem door_modifyDoor (i j : Nat) (f : Door → Door) (c : Controller) :
    (modifyDoor i f c).doors.doors[j]? = if i = j then (c.doors.doors[j]?).map f else c.doors.doors[j]? := by
  simp [modifyDoor, List.getElem?_modify]
  split <;> simp

/-- The number of oven records stays. -/
@[simp] theorem modifyOven_length (i : Nat) (f : Oven → Oven) (c : Controller) :
    (modifyOven i f c).table.ovens.length = c.table.ovens.length := by simp [modifyOven]

/-- The number of door records stays. -/
@[simp] theorem modifyDoor_length (i : Nat) (f : Door → Door) (c : Controller) :
    (modifyDoor i f c).doors.doors.length = c.doors.doors.length := by simp [modifyDoor]

end Sys2Proof.Machine
end

