-- ==== Sys2Proof/Laws/Phase.lean ====
section
/-! SUPPORT. What a change of an oven's phase and the following of a mode can do: the oven record at the index takes the phase,
the stage and the mode that follow; a positioner frame may be requested; and telegrams are offered. -/

namespace Sys2Proof.Machine

open Sys2Proof

/-- The oven record after a change of phase, with a door of the oven REMOVED or none (R12, R156). -/
def movedOven (g : Config) (p : Phase) (removed : Bool) (o : Oven) : Oven :=
  if removed then ({ o with phase := p }).withStage g else (({ o with phase := p }).withStage g).enterMode g

/-- c with the positioner frame and the held request as they stand in d. -/
def withFrameOf (d c : Controller) : Controller :=
  { c with reg := { c.reg with frame := d.reg.frame, frameHeld := d.reg.frameHeld } }

/-- c with the oven record at index i changed by f. -/
def withOven (i : Nat) (f : Oven → Oven) (c : Controller) : Controller :=
  { c with table := { c.table with ovens := c.table.ovens.modify i f } }

/-- The mode entry leaves the number, phase, minutes, T, E, stage, inhibited flag and hard push count. -/
theorem enterMode_keeps (g : Config) (o : Oven) :
    (o.enterMode g).number = o.number ∧ (o.enterMode g).phase = o.phase ∧ (o.enterMode g).minutes = o.minutes
      ∧ (o.enterMode g).target = o.target ∧ (o.enterMode g).allowance = o.allowance ∧ (o.enterMode g).stage = o.stage
      ∧ (o.enterMode g).inhibited = o.inhibited ∧ (o.enterMode g).hardCount = o.hardCount
      ∧ (o.enterMode g).filtered = o.filtered ∧ (o.enterMode g).invalid = o.invalid
      ∧ (o.enterMode g).feedback = o.feedback ∧ (o.enterMode g).stuck = o.stuck
      ∧ (o.enterMode g).stuckCount = o.stuckCount := by
  unfold Oven.enterMode
  split <;> simp

/-- What a change of phase leaves of the oven record. -/
theorem movedOven_keeps (g : Config) (p : Phase) (removed : Bool) (o : Oven) :
    (movedOven g p removed o).number = o.number ∧ (movedOven g p removed o).phase = p
      ∧ (movedOven g p removed o).minutes = o.minutes ∧ (movedOven g p removed o).target = o.target
      ∧ (movedOven g p removed o).allowance = o.allowance ∧ (movedOven g p removed o).inhibited = o.inhibited
      ∧ (movedOven g p removed o).hardCount = o.hardCount := by
  have h := enterMode_keeps g (({ o with phase := p }).withStage g)
  unfold movedOven
  split <;> simp [h]

/-- The configuration is read from the start-up record alone. -/
theorem cfg_congr {c d : Controller} (h : d.start = c.start) : cfg d = cfg c := by simp [cfg, h]

/-- The doors' demand is read from the door records alone. -/
theorem anyRemoved_congr {c d : Controller} (h : d.doors = c.doors) (i : Nat) : anyRemoved d i = anyRemoved c i := by
  simp [anyRemoved, doorAt, h]

/-- A requested frame changes the frame and the held request alone. -/
theorem requestFrame_eq (c : Controller) : requestFrame c = withFrameOf (requestFrame c) c := by
  unfold requestFrame
  split <;> rfl

/-- What a mode that follows the phase does: the oven record enters the mode, and a frame may be requested. -/
theorem followPhase_eq (i : Nat) (c : Controller) :
    followPhase i c = withFrameOf (followPhase i c) (withOven i (Oven.enterMode (cfg c)) c) := by
  unfold followPhase
  split
  · next h =>
    have hx : c.table.ovens[i]? = none := by simpa [phaseAt, ovenAt] using h
    have : c.table.ovens.modify i (Oven.enterMode (cfg c)) = c.table.ovens := by
      apply List.ext_getElem?
      intro j
      rw [List.getElem?_modify]
      split
      · next e => subst e; simp [hx]
      · simp
    simp [withFrameOf, withOven, this]
  · next p _ =>
    dsimp only
    split
    · rw [requestFrame_eq]
      rfl
    · rfl

/-- The oven records after a change of phase. -/
theorem setPhase_ovens (i : Nat) (p : Phase) (c : Controller) :
    (setPhase i p c).table.ovens = c.table.ovens.modify i (movedOven (cfg c) p (anyRemoved c i)) := by
  simp only [setPhase, takeUpPhase]
  generalize hm : modifyOven i (fun o => ({ o with phase := p }).withStage (cfg c)) c = m
  have hq := OnlyOffers.queuePhase i m
  have ht : (queuePhase i m).table.ovens
      = c.table.ovens.modify i (fun o => ({ o with phase := p }).withStage (cfg c)) := by
    rw [hq.table, ← hm]
    rfl
  have hc : cfg (queuePhase i m) = cfg c := by
    rw [cfg_congr hq.start, ← hm]
    rfl
  have ha : anyRemoved (queuePhase i m) i = anyRemoved c i := by
    rw [anyRemoved_congr hq.doors, ← hm]
    rfl
  rw [ha]
  split
  · next h =>
    rw [ht]
    congr 1
    funext o
    simp [movedOven, h]
  · next h =>
    rw [followPhase_eq]
    simp only [withFrameOf, withOven, ht, hc]
    apply List.ext_getElem?
    intro j
    simp only [List.getElem?_modify]
    by_cases e : i = j
    · subst e
      simp [movedOven, h, Function.comp_def]
    · simp [e]

/-- Offers only, carried over to controllers that differ in their oven table and regulation records. -/
theorem OnlyOffers.transport {m q c d : Controller} (h : OnlyOffers m q)
    (hc : m = { c with table := m.table, reg := m.reg }) (hd : d = { q with table := d.table, reg := d.reg })
    (ht : d.table = c.table) (hr : d.reg = { c.reg with main := { c.reg.main with queued := d.reg.main.queued } }) :
    OnlyOffers c d where
  start := by rw [hd]; rw [hc] at h; exact h.start
  time := by rw [hd]; rw [hc] at h; exact h.time
  table := ht
  round := by rw [hd]; rw [hc] at h; exact h.round
  held := by rw [hd]; rw [hc] at h; exact h.held
  doors := by rw [hd]; rw [hc] at h; exact h.doors
  scan := by rw [hd]; rw [hc] at h; exact h.scan
  due := by rw [hd]; rw [hc] at h; exact h.due
  line := by rw [hd]; rw [hc] at h; exact h.line
  phase := by rw [hd]; rw [hc] at h; exact h.phase
  track := by rw [hd]; rw [hc] at h; exact h.track
  reg := hr
  events := by rw [hd]; rw [hc] at h; exact h.events
  job := by rw [hd]; rw [hc] at h; exact h.job

/-- What a change of phase can do. -/
theorem OnlyOffers.setPhase (i : Nat) (p : Phase) (c : Controller) :
    OnlyOffers (withFrameOf (setPhase i p c) (withOven i (movedOven (cfg c) p (anyRemoved c i)) c)) (setPhase i p c) := by
  have ho := setPhase_ovens i p c
  revert ho
  simp only [Machine.setPhase, takeUpPhase]
  generalize hm : modifyOven i (fun o => ({ o with phase := p }).withStage (cfg c)) c = m
  have hq := OnlyOffers.queuePhase i m
  have hmr : m.reg = c.reg := by rw [← hm]; rfl
  have hmt : m.table = { c.table with ovens := m.table.ovens } := by rw [← hm]; rfl
  have hm' : m = { c with table := m.table, reg := m.reg } := by rw [← hm]; rfl
  split
  · intro ho
    refine hq.transport hm' rfl ?_ ?_
    · simp only [withFrameOf, withOven, ← ho]
      rw [hq.table, hmt]
    · have := hq.reg
      rw [hmr] at this
      simp only [withFrameOf, withOven]
      rw [this]
  · obtain ⟨Q, hQ⟩ : ∃ Q, Q = Machine.queuePhase i m := ⟨_, rfl⟩
    rw [← hQ] at hq ⊢
    have hf := followPhase_eq i Q
    generalize followPhase i Q = F at hf ⊢
    intro ho
    have hft : F.table = { Q.table with ovens := F.table.ovens } := by rw [hf]; rfl
    have hf' : F = { Q with table := F.table, reg := F.reg } := by rw [hf]; rfl
    refine hq.transport hm' hf' ?_ ?_
    · simp only [withFrameOf, withOven, ← ho]
      rw [hft, hq.table, hmt]
    · have := hq.reg
      rw [hmr] at this
      rw [hf]
      simp only [withFrameOf, withOven]
      rw [this]

end Sys2Proof.Machine
end

