-- ==== Sys2Proof/WellFormed.lean ====
section
/-! DEFINITION. The checks on a command's operands that their types do not make: a telegram has at most 8 payload
characters and a destination of 0 to 31 (section 2.9), and a door channel is 0 to 15 (chapter 6, section 6.1).
The meanings are total: a command that fails a check still runs (a frame of more than 8 payload characters is the
length fault of R26, a channel above 15 has no door record). -/

namespace Sys2Proof

/-- A frame the layout of section 2.9 allows: n is 0 to 8 and the destination 0 to 31. -/
def Frame.wellFormed (f : Frame) : Bool :=
  decide (f.payload.length ≤ 8) && decide (f.dest.toNat ≤ 31)

/-- The operands of a command lie in the ranges the manual gives them. -/
def Instr.wellFormed : Instr → Bool
  | .telegramReceived f => f.wellFormed
  | .doorInputAccepted c => decide (c < 16)
  | .doorWarn c => decide (c < 16)
  | .doorOverdue c => decide (c < 16)
  | _ => true

end Sys2Proof
end

