-- ==== Sys2Proof/Tests/Slice0.lean ====
section
/-! SUPPORT. Tests: the operands that the well-formedness checks refuse, the worked examples of spec/ (each with its
chapter), one-step checks of the commands with the outcome the manual gives, and for each statement with hypotheses a
witness, a state that meets all of them. -/

open Sys2Proof Sys2Proof.Machine

-- The tests are checked one after another: a test that evaluates in the kernel waits there for all that stands before it.
set_option Elab.async false

namespace Sys2Proof.Tests

/-! ## Well-formedness: an ill-formed operand for each check is refused -/

theorem test_wf_payload_of_nine_refused : (Instr.telegramReceived ⟨0, 0, List.replicate 9 0, 0⟩).wellFormed = false := by
  decide

theorem test_wf_destination_32_refused : (Instr.telegramReceived ⟨0, 32, [], 0⟩).wellFormed = false := by decide

theorem test_wf_input_channel_16_refused : (Instr.doorInputAccepted 16).wellFormed = false := by decide

theorem test_wf_warn_channel_16_refused : (Instr.doorWarn 16).wellFormed = false := by decide

theorem test_wf_overdue_channel_16_refused : (Instr.doorOverdue 16).wellFormed = false := by decide

theorem test_wf_limits_accepted :
    (Instr.telegramReceived ⟨0, 31, List.replicate 8 0, 0⟩).wellFormed = true ∧ (Instr.doorWarn 15).wellFormed = true := by
  decide

/-! ## Worked examples of the manual -/

/-- R30: the nine bytes 31 to 39 hex give 29B1 hex. -/
theorem test_crc : crc16 [0x31, 0x32, 0x33, 0x34, 0x35, 0x36, 0x37, 0x38, 0x39] = 0x29B1 := by decide +kernel

/-- R173: 2.5 gives 3, −2.5 gives −3, −8.5 gives −9 and 99.609 gives 100. -/
theorem test_rounding :
    roundDiv 5 2 = 3 ∧ roundDiv (-5) 2 = -3 ∧ roundDiv (-17) 2 = -9 ∧ roundDiv 204000 2048 = 100 := by decide +kernel

/-- Section 2.2, "two bids meet on the line"; section 3.2, the identifiers of station 6. -/
theorem test_identifiers :
    (bidTelegram 4 191 0 0).ident = 38884 ∧ (bidTelegram 11 185 0 0).ident = 38699 ∧ (bidTelegram 6 200 43 0).ident = 39174
      ∧ (claimTelegram 6 200 43 0).ident = 22790 := by decide

/-- Section 2.9: the identifier's bits of the example of section 2.2 spell class 4, sub 185, source 11. -/
theorem test_frame_read_back :
    (telegramOf ⟨0x972B, 0, [], 0⟩).cls = 4 ∧ (telegramOf ⟨0x972B, 0, [], 0⟩).sub = 185
      ∧ (telegramOf ⟨0x972B, 0, [], 0⟩).src = 11 := by decide

/-- R25: a marked character carries its byte most significant bit first between the start bit and the mark and stop bits. -/
theorem test_character : characterBits true 0x97 = 0b01001011111#11 ∧ characterBits false 0x2B = 0b00010101101#11 := by
  decide

/-- A configuration in the ranges of section 11.4, with the defaults of the manual and the profile of the examples. -/
def gW : Config :=
  { Config.blank with
    first := 41, count := 2, last := 43, source := 5, channels := List.replicate 9 ⟨2048, 2000⟩, uchg := 600
    unknownRow := ⟨0, 120, 120, 100, 800⟩, earlyRow := ⟨0, 150, 120, 150, 900⟩, mainRow := ⟨150, 120, 100, 100, 800⟩
    lateRow := ⟨700, 100, 80, 100, 800⟩, finishRow := ⟨900, 100, 60, 100, 800⟩, refs := List.replicate 16 240
    tower := 120, tc := 500, shift := 2, kp := 8, ki := 20, r := 20, riso := 100, dmin := 50, leakOffset := 30
    tstale := 5, tdw := 480, tdo := 900, margin := 64, nchk := 8, tw := 1500, tclaim := 45, jobLimit := 20
    holdLimit := 120, staleLimit := 30, tnb := 300, tfix := 90, tspot := 4, hardPush := 600, planT := 1080, planE := 30
    planNmin := 180 }

/-- Section 1.5, "stages of one charge". -/
theorem test_stages :
    stageFor gW 1080 161 = .early ∧ stageFor gW 1080 162 = .main ∧ stageFor gW 1080 459 = .main
      ∧ stageFor gW 1080 972 = .finish ∧ stageFor gW 1080 1100 = .finish ∧ stageFor gW 1140 459 = .main
      ∧ stageStart gW 1140 .main = 171 ∧ stageStart gW 1140 .late = 798 ∧ stageStart gW 1140 .finish = 1026 := by
  decide +kernel

/-- The table of R174. -/
theorem test_scale_table :
    scalePressure ⟨2048, 2000⟩ 2150 = 100 ∧ scalePressure ⟨2048, 2000⟩ 1946 = -100 ∧ scalePressure ⟨0, 4000⟩ 4000 = 3000
      ∧ scalePressure ⟨4095, 4000⟩ 9 = -3000 ∧ scalePressure ⟨2048, 100⟩ 2049 = 0
      ∧ scalePressure ⟨2048, 2048⟩ 2060 = 12 := by decide +kernel

/-- The table of R175. -/
theorem test_filter_table :
    filterPressure 2 (some 90) 100 = 93 ∧ filterPressure 2 (some 93) 100 = 95 ∧ filterPressure 2 (some 99) 100 = 99
      ∧ filterPressure 2 (some 90) 80 = 87 ∧ filterPressure 3 (some 96) 100 = 97 ∧ filterPressure 3 (some 97) 100 = 97
      ∧ filterPressure 1 (some 0) (-3000) = -1500 ∧ filterPressure 2 none 140 = 140 := by decide +kernel

/-- The codes of R183. -/
theorem test_feedback_codes :
    scaleFeedback 9 = 2 ∧ scaleFeedback 42 = 10 ∧ scaleFeedback 43 = 11 ∧ scaleFeedback 4075 = 995
      ∧ scaleFeedback 4086 = 998 := by decide +kernel

/-- An oven record of the section, COKING in REGULATE. -/
def ovenW : Oven :=
  { number := 41, phase := .coking, minutes := 1062, target := 1080, allowance := 30, stage := some .finish,
    inhibited := false, hardCount := 0, mode := .regulate, command := 400, integrator := 409600, filtered := some 100,
    invalid := 0, feedback := some 400, stuck := false, stuckCount := 0, noDraw := 0, isoCount := 0 }

/-- The table of R177, both profiles. -/
theorem test_setpoint_table :
    setpoint gW { ovenW with minutes := 100 } = 131 ∧ setpoint gW { ovenW with minutes := 459 } = 110
      ∧ setpoint gW { ovenW with minutes := 755 } = 100 ∧ setpoint gW { ovenW with minutes := 756 } = 100
      ∧ setpoint gW { ovenW with minutes := 1000 } = 90 ∧ setpoint gW { ovenW with minutes := 1100 } = 60
      ∧ setpoint { gW with finishRow := ⟨1000, 100, 60, 100, 800⟩ } { ovenW with minutes := 1079 } = 80
      ∧ setpoint { gW with finishRow := ⟨1000, 100, 60, 100, 800⟩ } { ovenW with minutes := 1080 } = 60 := by
  decide +kernel

/-- Section 9.5, "leaving a closed valve", computation 1: e = 30 by a Pf 30 Pa above the setpoint of 150. -/
theorem test_leaving_a_closed_valve :
    (({ ovenW with minutes := 0, command := 0, integrator := 153600, filtered := some 180 }).compute gW false
        (some 0)).command = 20
      ∧ (({ ovenW with minutes := 0, command := 0, integrator := 153600, filtered := some 180 }).compute gW false
        (some 0)).integrator = 154200
      ∧ (({ ovenW with minutes := 0, command := 160, integrator := 158400, filtered := some 180 }).compute gW false
        (some 0)).command = 170 := by decide +kernel

/-- Section 9.7, case 1: oven 43 in mid-charge, from the code read to the command, the integrator and Pf. -/
theorem test_worked_case_1 :
    let o := { ovenW with minutes := 459, filtered := some 90, integrator := 409600, command := 398 }
    let d := ovenCompletion gW ⟨2048, 2000⟩ false ⟨false, some (-420), 0, 0, false, false⟩ (some 2150) none o
    d.filtered = some 93 ∧ d.integrator = 409260 ∧ d.command = 391 := by decide +kernel

/-- Section 9.7, cases 2 and 3: a LEAKING door with the slew limit, and insufficient draw. -/
theorem test_worked_cases_2_and_3 :
    let o := { ovenW with minutes := 459, filtered := some 140, integrator := 307200, command := 300 }
    let p := { ovenW with minutes := 459, filtered := some 93, integrator := 409600, command := 398 }
    (o.compute gW true (some (-420))).integrator = 308400 ∧ (o.compute gW true (some (-420))).command = 320
      ∧ (p.compute gW false (some 60)).integrator = 409600 ∧ (p.compute gW false (some 60)).command = 391
      ∧ (p.compute gW false (some 60)).noDraw = 1 := by decide +kernel

/-- Section 9.7, cases 4 and 5: a narrower row (LATE with Umax 500, at m = 756), and a saturated integrator. -/
theorem test_worked_cases_4_and_5 :
    let g := { gW with lateRow := ⟨700, 100, 80, 100, 500⟩ }
    let o := { ovenW with minutes := 756, filtered := some 100, integrator := 614400, command := 600 }
    let p := { ovenW with minutes := 459, filtered := some 150, integrator := 819200, command := 800 }
    (o.compute g false (some (-420))).integrator = 512000 ∧ (o.compute g false (some (-420))).command = 580
      ∧ (p.compute gW false (some (-420))).integrator = 819200 ∧ (p.compute gW false (some (-420))).command = 800
      ∧ ({ p with filtered := some 70 }.compute gW false (some (-420))).integrator = 818400
      ∧ ({ p with filtered := some 70 }.compute gW false (some (-420))).command = 780 := by decide +kernel

/-- Section 8.6, "a valve that jams and frees", completions 6 and 9. -/
theorem test_stuck_flag_turns :
    (({ ovenW with command := 500, stuckCount := 2 }).stuckCheck 410).stuck = true
      ∧ (({ ovenW with command := 490, stuck := true, stuckCount := 2 }).stuckCheck 488).stuck = false := by decide +kernel

/-- Section 8.7, "isolating oven 43", completions 4 and 6. -/
theorem test_isolation_steps :
    (({ ovenW with mode := .isolating, command := 91 }).modeWork gW false none).command = 0
      ∧ (({ ovenW with mode := .isolating, command := 0, isoCount := 1 }).isolationCheck (some 3)).isoCount = 2 := by
  decide +kernel

/-- Section 5.3, "travel limits". -/
theorem test_travel_limits :
    travelLimit gW ⟨some .oven, some 51, none, none, 0, false⟩ 43 = 122
      ∧ travelLimit gW ⟨some .transit, some 51, none, none, 0, false⟩ 43 = 122
      ∧ travelLimit gW ⟨some .tower, some 51, none, none, 0, false⟩ 43 = 398
      ∧ travelLimit gW ⟨none, none, none, none, 0, false⟩ 43 = 398
      ∧ travelLimit { gW with tfix := 600, tspot := 30, tower := 200 } ⟨some .tower, none, none, none, 0, false⟩ 1 = 3600 := by
  decide

/-- Section 6.1, "one input settling": the samples of the eight ticks. -/
theorem test_one_input_settling :
    [false, false, true, false, false, false, false].foldl (fun i x => DoorInput.sample x i) ⟨some true, 0⟩ = ⟨some true, 4⟩
      ∧ DoorInput.sample false ⟨some true, 4⟩ = ⟨some false, 0⟩ := by decide

/-- A door record, TIGHT and latched. -/
def doorW : Door :=
  { present := true, latched := true, state := .tight, openSecs := 0, warned := false, overdue := false, conflict := false,
    score := 0, ref := 240, last := none, checks := 0, dead := 0 }

/-- Section 7.5, "a relatched door found leaking": the nine samples. -/
theorem test_relatched_door_found_leaking :
    [250, 310, 320, 45, 305, 290, 315, 330, 300].foldl (fun d n => judgeDoor 64 n d) { doorW with state := .checking, checks := 8 }
      = { doorW with state := .leaking, score := 8, last := some 300 } := by decide +kernel

/-- Section 7.6, "drift of a sealing door". -/
theorem test_drift :
    driftRef 240 280 = 241 ∧ driftRef 241 250 = 241 ∧ driftRef 241 200 = 240 ∧ driftRef 240 272 = 241
      ∧ classify 64 240 340 = .exceeding := by decide +kernel

/-! ## States for the one-step checks and the witnesses -/

/-- Station 6, ACTIVE, with the two ovens 41 and 42, every door TIGHT, both neighbours known, no push, an idle line. -/
def cW : Controller :=
  { Controller.atReset false with
    start := ⟨false, false, .active, some gW, false, [], none, 6#5, none⟩
    line := ⟨6, .idle, [], [], false⟩
    table := ⟨[ovenW, { ovenW with number := 42, minutes := 300, stage := some .main }], some ⟨40, .coking, 1001, 0, true⟩,
      some ⟨43, .coking, 500, 0, true⟩, 1080, 30, 180, some 60, false⟩
    doors := ⟨List.replicate 16 ⟨some true, 0⟩, List.replicate 16 ⟨some true, 0⟩, List.replicate 4 doorW⟩
    track := ⟨⟨none, none, 0, false⟩, ⟨none, none, 0, false⟩, ⟨some .tower, none, some .empty, none, 0, false⟩, Call.unused⟩
    reg := ⟨none, some 50, none, none, none, false, true, ⟨false, some (-400), 0, 0, false, false⟩⟩ }

/-- A telegram of the given kind's class and sub, with the given source and payload numbers, addressed to all. -/
def telW (cls sub src : Nat) (p : List Nat) : Telegram := ⟨cls, sub, src, 0, p.map (BitVec.ofNat 8)⟩

/-- The controller with a telegram at the head of the receive queue. -/
def withHead (t : Telegram) (c : Controller) : Controller := { c with line := { c.line with rx := [t] } }

/-- The controller after one command that answers a next state. -/
def after (i : Instr) (c : Controller) : Controller :=
  match exec i ⟨[], c⟩ with
  | .next s => s.ctl
  | _ => c

/-- A push job of oven 41 in a state. -/
def jobW (s : JobState) : Job := { Job.idleRecord with state := s, oven := some 41, ownClaim := some 22790 }

/-- The machines at oven 41, as the permit asks. -/
def trackW : Tracker :=
  ⟨⟨some 41, some .atSpot, 0, false⟩, ⟨some 41, some .guideSet, 0, false⟩, ⟨some .oven, some 41, some .empty, none, 0, false⟩,
    Call.unused⟩

/-- Station 6 with both doors of oven 41 off, its valve CLOSED, the machines in place, and a job in a state. -/
def pushW (s : JobState) (p : Phase) : Controller :=
  { cW with
    job := (jobW s).enter s
    track := trackW
    table := { cW.table with ovens := cW.table.ovens.set 0 { ovenW with phase := p, stage := none, mode := .closed, command := 0 } }
    doors := { cW.doors with doors :=
      [{ doorW with state := .removed }, { doorW with state := .removed }, doorW, doorW] } }

/-- A configuration image for ovens 41 and 42 of 43, without the optional part but for the tower position. -/
def imageW : List Byte :=
  let row := [0, 100, 0, 60, 0, 100, 3, 32]
  let content := [41, 2, 43, 0, 5] ++ (List.replicate 9 [8, 0, 7, 208]).flatten ++ [2, 88] ++ [0, 120, 0, 100, 3, 32] ++ row
    ++ [0, 150] ++ row ++ [2, 188] ++ row ++ [3, 132] ++ row ++ (List.replicate 16 [0, 240]).flatten ++ [255, 255, 255, 255] ++ [120]
  let b := (124 :: content).map (BitVec.ofNat 8)
  b ++ bytes2 (crc16 b)

/-- The load of the image is due to complete, in LOADING. -/
def loadW : Controller :=
  { cW with
    start := { cW.start with line := .loading, config := none, image := imageW }
    due := { Due.nothing with loadComplete := true } }

/-! ## One-step checks -/

/-- Section 3.2, "eligibility and urgency in station 6": ovens 41 and 43 are eligible, and 43 is chosen with urgency 55. -/
def cSix : Controller :=
  { cW with
    start := { cW.start with config := some { gW with count := 8, last := 96 } }
    table := { cW.table with
      ovens := [(1062, 1080, 30), (395, 1080, 30), (1071, 1080, 30), (0, 1080, 30), (1085, 1080, 30), (1090, 1080, 30),
          (120, 1080, 30), (1120, 1140, 40)].mapIdx fun i m =>
        { ovenW with
          number := 41 + i, minutes := m.1, target := m.2.1, allowance := m.2.2, inhibited := i == 4
          phase := if i = 3 then .sticker else .coking }
      above := some ⟨49, .coking, 500, 0, false⟩ }
    doors := { cW.doors with doors := (List.replicate 16 doorW).set 5 { doorW with state := .leaking } } }

theorem test_eligibility_of_station_6 :
    (List.range 8).filter (eligible cSix) = [0, 2] ∧ (chooseOven cSix).map (fun p => (p.1, urgency p.2)) = some (2, 55) := by
  decide +kernel

/-- R50: PUSHER READY opens the round with 1500 ms and queues the BID 39174 of the example. -/
theorem test_pusher_ready_bids :
    (after .pusher (withHead (telW 1 1 25 [0, 5, 0, 0, 0]) cSix)).round = ⟨true, 1500, some 39174, false, []⟩
      ∧ (after .pusher (withHead (telW 1 1 25 [0, 5, 0, 0, 0]) cSix)).line.tx.map (·.tel.ident) = [39174] := by
  decide +kernel

/-- R6, R12: a SEED sets the minutes and T, and the stage follows (section 1.5: T = 1140 at m = 459 is MAIN). -/
theorem test_seed :
    (ovenAt (after .seed (withHead (telW 6 2 30 [42, 3, 1, 203, 4, 116]) cW)) 1).map (fun o => (o.minutes, o.target, o.stage))
      = some (459, 1140, some .main) := by decide +kernel

/-- R13: a PLAN of T = 500, E = 65, Nmin = 180 is clamped in two fields, and each clamp is counted under kind 8. -/
theorem test_plan_clamped :
    (after .plan (withHead (telW 6 1 30 [1, 244, 65, 0, 180]) cW)).table.pendT = 600
      ∧ ((after .plan (withHead (telW 6 1 30 [1, 244, 65, 0, 180]) cW)).events.entry 8).count = 2 := by decide +kernel

/-- R163: a MAIN of FE5C hex is −420 Pa. -/
theorem test_main_is_signed :
    (after .main (withHead (telW 5 2 5 [0xFE, 0x5C]) cW)).reg.main.value = some (-420) := by decide +kernel

/-- R78, R127: a door of oven 41 that comes off in CLAIMED: the valve is CLOSED, the oven ISOLATED, the job in DOORS. -/
theorem test_early_door :
    let c := { cW with
      job := jobW .claimed
      doors := { cW.doors with presentIn := cW.doors.presentIn.set 1 ⟨some false, 0⟩ }
      due := { Due.nothing with doorInput := [1] } }
    (after (.doorInputAccepted 1) c).job.state = .doors
      ∧ (ovenAt (after (.doorInputAccepted 1) c) 0).map (fun o => (o.phase, o.mode, o.command)) = some (.isolated, .closed, 0)
      ∧ ((after (.doorInputAccepted 1) c).events.entry 15).count = 1 := by decide +kernel

/-- R79, R81: the second door off in DOORS, with the machines in place, gives the permit at once. -/
theorem test_permit_given :
    let c := { pushW .doors .isolated with
      doors := { cW.doors with
        presentIn := (cW.doors.presentIn.set 0 ⟨some false, 0⟩).set 1 ⟨some false, 0⟩
        doors := [{ doorW with state := .removed }, doorW, doorW, doorW] }
      due := { Due.nothing with doorInput := [1] } }
    (after (.doorInputAccepted 1) c).job.state = .permitted ∧ (after (.doorInputAccepted 1) c).job.permitOut = true := by
  decide +kernel

/-- R82, R88: the push starts and ends; a force of 600 kN is a hard push and the oven is EMPTY. -/
theorem test_push_end :
    let d := after .pusher (withHead (telW 1 1 25 [41, 4, 2, 88, 1]) { pushW .pushing .pushing with
      job := { (jobW .pushing).enter .pushing with started := true } })
    d.job.state = .reclosing ∧ (ovenAt d 0).map (fun o => (o.phase, o.minutes, o.hardCount)) = some (.empty, 0, 1)
      ∧ (d.events.entry 26).count = 1 := by decide +kernel

/-- R84: the guide car leaves in PUSHING, and the push is held. -/
theorem test_push_held :
    let d := after .guide (withHead (telW 1 2 26 [41, 1]) (pushW .pushing .pushing))
    d.job.state = .held ∧ d.job.holdOut = true ∧ d.job.permitOut = false ∧ d.line.tx.map (·.tel.kind) = [some .halt] := by
  decide +kernel

/-- R65: a foreign CLAIM is recorded; chapter 3's station 11 claims oven 85 with 22699. -/
theorem test_claim_recorded :
    (after .claim (withHead (telW 2 197 11 [85, 4, 0]) cW)).held.claim = some ⟨11, 85, 22699⟩ := by decide +kernel

/-- R27: a telegram that begins before the station has counted its 12 bit times is received, and none of its own starts. -/
theorem test_early_telegram_is_received :
    let c := { withHead (telW 5 2 5 [0, 0]) cW with line := ⟨6, .ended, [], [⟨telW 5 1 6 [41, 3, 0, 0, 0], false⟩], false⟩ }
    (after (.telegramReceived (frameOf (telW 5 2 5 [0xFE, 0x5C]))) c).line.rx = [telW 5 2 5 [0xFE, 0x5C]]
      ∧ (after .telegramStart c).line.phase = .ended ∧ (after .lineIdle c).line.phase = .idle := by decide +kernel

/-- R196 and the default fields of section 11.4: the image of the witnesses loads; fields beyond n take their defaults. -/
theorem test_load :
    (after .loadComplete loadW).start.line = .listen
      ∧ (after .loadComplete loadW).start.config.map (fun g => (g.tower, g.tc, g.planT, g.hardPush)) = some (120, 500, 1080, 600) := by
  decide +kernel

/-- Section 11.2, "clamping a careless image": Tc 730, f_LATE 120, f_FINISH 1100, Tdw 900 with Tdo at its default 900. -/
theorem test_careless_image :
    let careless : Config := { gW with
      tc := 730
      lateRow := ⟨120, 100, 80, 100, 800⟩
      finishRow := ⟨1100, 100, 60, 100, 800⟩
      tdw := 900
      tdo := 900 }
    let p := fixSteps.foldl applyFix (careless, 0)
    p.1.tc = 750 ∧ p.1.finishRow.f = 1000 ∧ p.1.lateRow.f = 150 ∧ p.1.tdo = 900 ∧ p.2 = 3 := by decide +kernel

/-! ## Witnesses: for each statement with hypotheses, states that meet all of them; for a statement of several clauses a
state for each clause, at a boundary value of its range -/

/-- The controller with what is due, taken as it stands. -/
def dueW (d : Due) (c : Controller) : Controller := { c with due := d }

theorem witness_PowerOnHoldsReset : (∀ x, Instr.powerOnAssert ≠ .powerOnRelease x) ∧ ∀ x, Instr.loadComplete ≠ .powerOnRelease x :=
  ⟨fun _ h => (nomatch h), fun _ h => (nomatch h)⟩

/-- LOADING with RESTART asserted. -/
def restartW : Controller := { cW with start := { cW.start with restart := true, line := .loading } }

theorem witness_ReleaseBeginsRead :
    ((Controller.atReset false).start.powerOn = true ∧ (Controller.atReset false).start.restart = false)
      ∧ Ready restartW ∧ restartW.start.restart = true := by decide

theorem witness_RestartActs :
    ∀ s ∈ [JobState.idle, .bidding, .claiming, .held], Ready (pushW s .isolated) ∧ (pushW s .isolated).start.restart = false
      ∧ (pushW s .isolated).job.state = s := by decide

/-- LOADING with the given bytes read. -/
def readW (b : List Byte) : Controller := { cW with start := { cW.start with line := .loading, reading := true, image := b } }

theorem witness_ImageByteTaken :
    (Ready (readW [0]) ∧ nothingWaits (readW [0]) = true ∧ (readW [0]).start.reading = true
        ∧ ((readW [0]).start.image ++ [(0 : Byte)]).length < imageByte ((readW [0]).start.image ++ [(0 : Byte)]) 0 + 3)
      ∧ Ready (readW [0, 0]) ∧ nothingWaits (readW [0, 0]) = true ∧ (readW [0, 0]).start.reading = true
        ∧ imageByte ((readW [0, 0]).start.image ++ [(0 : Byte)]) 0 + 3 ≤ ((readW [0, 0]).start.image ++ [(0 : Byte)]).length := by
  decide

theorem witness_FailedLoadFaults :
    ((dueW { Due.nothing with byteTimeout := true } (readW [5])).start.powerOn = false
        ∧ (dueW { Due.nothing with byteTimeout := true } (readW [5])).due.byteTimeout = true
        ∧ (dueW { Due.nothing with byteTimeout := true } (readW [5])).start.reading = true)
      ∧ (dueW { Due.nothing with loadComplete := true } (readW [0, 0, 0])).start.powerOn = false
        ∧ (dueW { Due.nothing with loadComplete := true } (readW [0, 0, 0])).due.loadComplete = true
        ∧ imageByte (readW [0, 0, 0]).start.image 0 + 3 ≤ (readW [0, 0, 0]).start.image.length
        ∧ ¬ soundLoad (readW [0, 0, 0]).start.straps (readW [0, 0, 0]).start.image := by decide +kernel

/-- The invariant of the counters for a state whose parts are those of cW, or absent, but for the ovens and the counts of the
events. -/
theorem countersInv_of (c : Controller) (ho : ∀ o ∈ c.table.ovens, o.countersRight)
    (he : c.events.entries = cW.events.entries)
    (h : (∀ d ∈ c.doors.doors, d = doorW) ∧ c.table.below = cW.table.below ∧ c.table.above = cW.table.above
      ∧ (c.job.minutes ≤ 255 ∧ c.job.holdSecs ≤ 300)
      ∧ (c.track.pusher.age ≤ 60 ∧ c.track.guide.age ≤ 60 ∧ c.track.car.age ≤ 60)
      ∧ (c.reg.main.age ≤ 60 ∧ c.reg.main.invalid ≤ 255) ∧ c.held.age ≤ 90 ∧ c.scan.count ≤ 65535
      ∧ (c.start.config = none ∨ c.start.config = some gW)) : CountersInv c := by
  obtain ⟨hd, hb, ha, hj, ht, hm, hh, hs, hg⟩ := h
  refine ⟨by rw [he]; decide, by rw [he]; decide, ?_, ho, ?_, ?_, hj, ht, hm, hh, hs, ?_⟩
  · intro d h
    obtain rfl := hd d h
    exact ⟨by decide, by decide, by decide, by decide, by decide, by decide, fun n h => nomatch h⟩
  · intro n h
    rw [hb] at h
    cases h
    unfold Neighbour.countersRight
    decide
  · intro n h
    rw [ha] at h
    cases h
    unfold Neighbour.countersRight
    decide
  · intro g h
    obtain hg | hg := hg <;> rw [hg] at h <;> cases h
    unfold CounterLimits
    decide

theorem witness_ColdLoad :
    loadW.start.powerOn = false ∧ loadW.due.loadComplete = true
      ∧ imageByte loadW.start.image 0 + 3 ≤ loadW.start.image.length ∧ soundLoad loadW.start.straps loadW.start.image
      ∧ (∀ old, loadW.start.config = some old →
          ¬ (old.first = (loadedConfig loadW.start.image).1.first ∧ old.count = (loadedConfig loadW.start.image).1.count
            ∧ old.last = (loadedConfig loadW.start.image).1.last))
      ∧ CountersInv loadW :=
  ⟨by decide +kernel, by decide +kernel, by decide +kernel, by decide +kernel, fun old h => (nomatch h),
    countersInv_of _ (by unfold Oven.countersRight; decide) rfl (by decide)⟩

/-- The same load at a warm start whose configuration in force names another last oven of the battery. -/
def otherW : Controller := { loadW with start := { loadW.start with config := some { gW with last := 44 } } }

/-- LISTEN before the first 10 ms tick: an image loaded, no input accepted, no door record. -/
def firstTickW : Controller :=
  { cW with
    start := { cW.start with line := .listen, listen := some 10 }
    doors := ⟨List.replicate 16 ⟨none, 0⟩, List.replicate 16 ⟨none, 0⟩, []⟩ }

theorem witness_DoorsFormed :
    (∀ c ∈ [loadW, otherW],
      c.start.powerOn = false ∧ c.due.loadComplete = true ∧ c.start.image = imageW ∧ c.start.straps = 6
        ∧ inputsAccepted c = true)
      ∧ imageByte imageW 0 + 3 ≤ imageW.length ∧ soundLoad 6 imageW ∧ loadW.start.config = none
      ∧ (otherW.start.config = some { gW with last := 44 } ∧ (loadedConfig imageW).1.last = 43)
      ∧ CountersInv loadW :=
  ⟨by decide +kernel, by decide +kernel, by decide +kernel, by decide +kernel, by decide +kernel,
    countersInv_of _ (by unfold Oven.countersRight; decide) rfl (by decide)⟩

theorem witness_DoorsFormed_tick :
    (Ready firstTickW ∧ firstTickW.start.config = some gW ∧ firstTickW.doors.doors = [] ∧ firstTickW.job.oven = none
        ∧ (∀ ch ∈ [0, 15], firstTickW.doors.presentIn[ch]? = some ⟨none, 0⟩ ∧ firstTickW.doors.latchedIn[ch]? = some ⟨none, 0⟩)
        ∧ ovenAt firstTickW 0 = some ovenW
        ∧ anyRemoved (after (.tick10ms 0xFFFF 0xFFFF) firstTickW) 0 = false
        ∧ anyRemoved (after (.tick10ms 0xFFFE 0xFFFF) firstTickW) 0 = true)
      ∧ CountersInv firstTickW :=
  ⟨by decide +kernel, countersInv_of _ (by unfold Oven.countersRight; decide) rfl (by decide)⟩

/-- The load of a warm start with the push job and the doors of oven 41 in the given states. -/
def warmW (s : JobState) (p : Phase) (off : Bool) : Controller :=
  let c := pushW s p
  { c with
    start := { loadW.start with config := some gW }
    doors := if off then c.doors else cW.doors
    due := loadW.due }

theorem witness_WarmLoadKeeps :
    (∀ s ∈ [JobState.idle, .bidding, .claiming],
      (warmW s .coking false).start.powerOn = false ∧ (warmW s .coking false).due.loadComplete = true
        ∧ imageByte (warmW s .coking false).start.image 0 + 3 ≤ (warmW s .coking false).start.image.length
        ∧ soundLoad (warmW s .coking false).start.straps (warmW s .coking false).start.image
        ∧ (warmW s .coking false).start.config = some gW
        ∧ gW.first = (loadedConfig imageW).1.first ∧ gW.count = (loadedConfig imageW).1.count
        ∧ gW.last = (loadedConfig imageW).1.last ∧ (warmW s .coking false).start.line = .loading
        ∧ (warmW s .coking false).job.state = s)
      ∧ CountersInv (warmW .idle .coking false) :=
  ⟨by decide +kernel, countersInv_of _ (by unfold Oven.countersRight; decide) rfl (by decide)⟩

theorem witness_WarmLoadSettles :
    ∀ off ∈ [true, false], ∀ p ∈ [Phase.isolating, .isolated, .pushing, .empty, .sticker],
      (warmW .pushing p off).start.powerOn = false ∧ (warmW .pushing p off).due.loadComplete = true
        ∧ (warmW .pushing p off).start.image = imageW ∧ (warmW .pushing p off).start.straps = 6
        ∧ imageByte imageW 0 + 3 ≤ imageW.length ∧ soundLoad 6 imageW
        ∧ (warmW .pushing p off).start.config = some gW ∧ (warmW .pushing p off).start.line = .loading
        ∧ (warmW .pushing p off).job.state.beyondClaiming = true ∧ (warmW .pushing p off).job.oven = some 41
        ∧ ovenIndex (warmW .pushing p off) 41 = some 0 ∧ (ovenAt (warmW .pushing p off) 0).map (·.phase) = some p
        ∧ anyRemoved (warmW .pushing p off) 0 = off := by decide +kernel

/-- LISTEN, its timer due. -/
def listenW : Controller :=
  { cW with start := { cW.start with line := .listen, listen := none }, due := { Due.nothing with listenTimer := true } }

theorem witness_BecomesActive :
    listenW.start.powerOn = false ∧ listenW.due.listenTimer = true ∧ listenW.start.line = .listen ∧ listenW.line.tx = []
      ∧ ovenAt listenW 0 = some ovenW
      ∧ listenW.table.ovens.getLast? = some { ovenW with number := 42, minutes := 300, stage := some .main }
      ∧ listenW.table.ovens.length ≤ 8 ∧ ovenW.number ≠ 42 ∧ ovenW.number ≤ 192 ∧ 42 ≤ 192
      ∧ listenW.table.seedNeeded = false := by decide

/-- The same with a RELEASE owed, and kind 30 to report. -/
theorem witness_BecomesActive_waiting :
    let c := { listenW with
      job := { listenW.job with owed := some ⟨41, .aborted⟩ }
      events := ⟨List.replicate 29 EventEntry.emptied ++ [⟨1, none⟩], 0xFFFFFFFF, false, none⟩ }
    c.start.powerOn = false ∧ c.due.listenTimer = true ∧ c.start.line = .listen ∧ c.line.tx = []
      ∧ ovenAt c 0 = some ovenW ∧ c.table.ovens.getLast? = some { ovenW with number := 42, minutes := 300, stage := some .main }
      ∧ c.table.ovens.length ≤ 8 ∧ c.job.owed = some ⟨41, .aborted⟩ ∧ c.events.queued = false
      ∧ (after .listenTimerExpiry c).events.reportable 30 = true := by decide +kernel

/-- The same at the first entry of a cold start, oven 42 UNKNOWN. -/
def seedsW : Controller :=
  { listenW with table := { listenW.table with
      ovens := [ovenW, { ovenW with number := 42, phase := .unknown, minutes := 0, stage := none }]
      seedNeeded := true } }

theorem witness_BecomesActive_seeds :
    (seedsW.start.powerOn = false ∧ seedsW.due.listenTimer = true ∧ seedsW.start.line = .listen ∧ seedsW.line.tx = []
        ∧ ovenAt seedsW 0 = some ovenW ∧ seedsW.table.ovens.length ≤ 8 ∧ thirtyEntries seedsW ∧ seedsW.table.seedNeeded = true
        ∧ (seedsW.events.entry 7).first = none ∧ phaseAt seedsW 1 = some .unknown ∧ ∀ j, j < 1 → phaseAt seedsW j ≠ some .unknown)
      ∧ CountersInv seedsW :=
  ⟨by decide, countersInv_of _ (by unfold Oven.countersRight; decide) rfl (by decide)⟩

/-- Station 6 with its control period, its answer limit and the image byte's 100 ms at the given ticks, none at 0. -/
def tickW (n : Nat) : Controller :=
  { cW with
    start := { cW.start with line := .loading, reading := true, byteLeft := if n = 0 then none else some n }
    reg := { cW.reg with period := if n = 0 then none else some n, answer := if n = 0 then none else some n } }

theorem witness_TickCounts :
    (Ready cW ∧ nothingWaits cW = true ∧ cW.doors.doors ≠ [])
      ∧ (Ready firstTickW ∧ nothingWaits firstTickW = true ∧ firstTickW.start.config ≠ none ∧ firstTickW.doors.doors = [])
      ∧ (Ready { firstTickW with start := restartW.start } ∧ nothingWaits { firstTickW with start := restartW.start } = true)
      ∧ ∀ n ∈ [0, 1, 2], Ready (tickW n) ∧ nothingWaits (tickW n) = true ∧ (tickW n).doors.doors ≠ []
        ∧ ((tickW n).reg.period = none ↔ n = 0) ∧ ((tickW n).reg.answer = none ↔ n = 0)
        ∧ ((tickW n).start.byteLeft = none ↔ n = 0) := by decide

theorem witness_InputsDebounced :
    Ready cW ∧ cW.doors.presentIn[15]? = some ⟨some true, 0⟩ ∧ cW.doors.latchedIn[15]? = some ⟨some true, 0⟩
      ∧ [false, false, false, false, false].length ≤ 5 := by decide

theorem witness_SecondTickCounts :
    ((dueW { Due.nothing with second := true } (pushW .held .pushing)).start.powerOn = false
        ∧ (dueW { Due.nothing with second := true } (pushW .held .pushing)).due.second = true
        ∧ nothingWaits (dueW { Due.nothing with second := true } (pushW .held .pushing)) = true
        ∧ receiving (pushW .held .pushing) = true ∧ (pushW .held .pushing).job.state = .held
        ∧ (pushW .held .pushing).table.edge = some 60 ∧ (pushW .held .pushing).start.listen = none)
      ∧ ∀ n ∈ [1, 10],
        let c := { restartW with start := { restartW.start with listen := some n }, table := { cW.table with edge := none } }
        nothingWaits (dueW { Due.nothing with second := true } c) = true ∧ c.start.powerOn = false ∧ c.start.listen = some n
          ∧ c.table.edge = none ∧ receiving c = false := by decide

theorem witness_MinuteTickCounts :
    (dueW { Due.nothing with minute := true } (pushW .staged .isolated)).start.powerOn = false
      ∧ (dueW { Due.nothing with minute := true } (pushW .staged .isolated)).due.minute = true
      ∧ nothingWaits (dueW { Due.nothing with minute := true } (pushW .staged .isolated)) = true
      ∧ (pushW .staged .isolated).round.opened = false ∧ receiving (pushW .staged .isolated) = true
      ∧ (pushW .staged .isolated).job.state = .staged
      ∧ phaseAt (pushW .staged .isolated) 0 = some .isolated ∧ phaseAt (pushW .staged .isolated) 1 = some .coking := by decide

/-- The controller with an Nmin that no oven's neighbours reach. -/
def noneW : Controller := { cW with table := { cW.table with nmin := 600 } }

/-- The minute tick of an open round without an own bid, with the given bid list. -/
def minuteW (bids : List Bid) : Controller :=
  { cW with round := ⟨true, 500, none, false, bids⟩, due := { Due.nothing with minute := true } }

/-- An open round without an eligible oven, and one whose head of the list has the identifier of the own BID: before the tick
39462, after it 39430. -/
theorem witness_MinuteTickCounts_noBid :
    (let c := { minuteW [] with table := noneW.table };
      c.start.powerOn = false ∧ c.due.minute = true ∧ nothingWaits c = true ∧ isActive c = true ∧ c.job.state = .idle
        ∧ c.round.opened = true ∧ c.round.ownBid = none ∧ chooseOven c = none
        ∧ chooseOven { c with table := minutesRisen c } = none)
      ∧ ∀ x ∈ [(true, 39462, ovenW), (false, 39430, { ovenW with minutes := 1063 })],
        let c := minuteW [⟨6, 41, x.2.1⟩]
        c.start.powerOn = false ∧ c.due.minute = true ∧ nothingWaits c = true
          ∧ chooseOven (if x.1 then c else { c with table := minutesRisen c }) = some (0, x.2.2)
          ∧ (bidTelegram (ownNumber c) (255 - urgency x.2.2) x.2.2.number x.2.2.minutes).ident = x.2.1 := by decide +kernel

/-- A door of oven 42, channel 3, whose accepted pair has changed, its record and the pair as given. -/
def inputW (s : DoorState) (p l : Bool) : Controller :=
  { cW with
    doors := ⟨cW.doors.presentIn.set 3 ⟨some p, 0⟩, cW.doors.latchedIn.set 3 ⟨some l, 0⟩, cW.doors.doors.set 3 { doorW with state := s }⟩
    due := { Due.nothing with doorInput := [3] } }

theorem witness_DoorDerived :
    ∀ s ∈ [DoorState.tight, .removed, .unlatched], ∀ p ∈ [true, false], ∀ l ∈ [true, false],
      (inputW s p l).start.powerOn = false ∧ 3 ∈ (inputW s p l).due.doorInput ∧ 3 ∉ (inputW s p l).due.doorWarn
        ∧ 3 ∉ (inputW s p l).due.doorOverdue ∧ (inputW s p l).doors.doors[3]? = some { doorW with state := s }
        ∧ p = acceptedAt (inputW s p l).doors.presentIn 3 ∧ l = acceptedAt (inputW s p l).doors.latchedIn 3 := by decide

/-- A door that has read REMOVED with latched yes before in its stay. -/
theorem witness_DoorDerived_conflict :
    let c := { inputW .removed false true with doors :=
      { (inputW .removed false true).doors with doors := cW.doors.doors.set 3 { doorW with state := .removed, conflict := true } } };
    c.start.powerOn = false ∧ 3 ∈ c.due.doorInput ∧ 3 ∉ c.due.doorWarn ∧ 3 ∉ c.due.doorOverdue ∧ thirtyEntries c
      ∧ c.doors.doors[3]? = some { doorW with state := .removed, conflict := true } ∧ acceptedAt c.doors.presentIn 3 = false
      ∧ acceptedAt c.doors.latchedIn 3 = true ∧ doorW.conflict = false ∧ (c.events.entry 17).first = none
      ∧ thirtyEntries (inputW .tight false true) := by decide

theorem witness_DemandMovesValve :
    (∀ s ∈ [DoorState.tight, .removed], ∀ p ∈ [true, false],
      (inputW s p true).start.powerOn = false ∧ 3 ∈ (inputW s p true).due.doorInput ∧ 3 ∉ (inputW s p true).due.doorWarn
        ∧ 3 ∉ (inputW s p true).due.doorOverdue ∧ (ovenAt (inputW s p true) (3 / 2)).isSome = true
        ∧ jobIndex (inputW s p true) ≠ some (3 / 2) ∧ thirtyEntries (inputW s p true)
        ∧ acceptedAt (inputW s p true).doors.presentIn 3 = p)
      ∧ anyRemoved (inputW .tight false true) 1 = false ∧ anyRemoved (inputW .removed true true) 1 = true
      ∧ anyRemoved (after (.doorInputAccepted 3) (inputW .removed true true)) 1 = false := by decide +kernel

/-- The door of channel 1 whose accepted pair has changed, on the oven of a job in a state: the state of the other door, its own
record, and its PRESENT level; the LATCHED level is high. -/
def jobDoorW (s : JobState) (p : Phase) (other this : DoorState) (present : Bool) : Controller :=
  { pushW s p with
    doors := ⟨(cW.doors.presentIn.set 0 ⟨some (other != .removed), 0⟩).set 1 ⟨some present, 0⟩, cW.doors.latchedIn,
      [{ doorW with state := other }, { doorW with state := this }, doorW, doorW]⟩
    due := { Due.nothing with doorInput := [1] } }

theorem witness_DemandMovesValve_job :
    (∀ x ∈ [(JobState.claimed, Phase.isolating, DoorState.tight, DoorState.tight, false),
        (.doors, .isolated, .tight, .tight, false), (.doors, .isolated, .removed, .tight, false),
        (.permitted, .isolated, .removed, .removed, true), (.pushing, .pushing, .removed, .removed, true),
        (.reclosing, .empty, .tight, .removed, true), (.reclosing, .empty, .removed, .removed, true)],
      let c := jobDoorW x.1 x.2.1 x.2.2.1 x.2.2.2.1 x.2.2.2.2
      c.start.powerOn = false ∧ 1 ∈ c.due.doorInput ∧ 1 ∉ c.due.doorWarn ∧ 1 ∉ c.due.doorOverdue
        ∧ c.doors.doors[1]? = some { doorW with state := x.2.2.2.1 } ∧ (ovenAt c (1 / 2)).isSome = true ∧ receiving c = true
        ∧ c.job.oven = some 41 ∧ ovenIndex c 41 = some (1 / 2) ∧ thirtyEntries c ∧ c.job.state = x.1
        ∧ acceptedAt c.doors.presentIn 1 = x.2.2.2.2 ∧ acceptedAt c.doors.latchedIn 1 = true ∧ isActive c = true ∧ roomFor 4 c
        ∧ c.job.owed = none)
      ∧ anyRemoved (jobDoorW .claimed .isolating .tight .tight false) (1 / 2) = false
      ∧ bothRemoved (after (.doorInputAccepted 1) (jobDoorW .doors .isolated .tight .tight false)) (1 / 2) = false
      ∧ (∀ t ∈ [(trackW, true), (cW.track, false)],
        bothRemoved (after (.doorInputAccepted 1) { jobDoorW .doors .isolated .removed .tight false with track := t.1 }) (1 / 2) = true
          ∧ permitConditions (after (.doorInputAccepted 1) { jobDoorW .doors .isolated .removed .tight false with track := t.1 })
            (1 / 2) 41 = t.2)
      ∧ bothLatched (after (.doorInputAccepted 1) (jobDoorW .reclosing .empty .tight .removed true)) (1 / 2) = true
      ∧ bothLatched (after (.doorInputAccepted 1) (jobDoorW .reclosing .empty .removed .removed true)) (1 / 2) = false := by
  decide +kernel

/-- An opening of the door of channel 3 that has reached its warning or overdue point. -/
def openingW (secs : Nat) : Controller :=
  { cW with
    doors := { cW.doors with doors := cW.doors.doors.set 3 { doorW with state := .unlatched, openSecs := secs } }
    due := if secs < 900 then { Due.nothing with doorWarn := [3] } else { Due.nothing with doorOverdue := [3] } }

theorem witness_OpeningPoints :
    ((openingW 480).start.powerOn = false ∧ thirtyEntries (openingW 480)
        ∧ (openingW 480).doors.doors[3]? = some { doorW with state := .unlatched, openSecs := 480 }
        ∧ 3 ∈ (openingW 480).due.doorWarn ∧ (cfg (openingW 480)).tdw ≤ 480)
      ∧ (openingW 900).start.powerOn = false ∧ thirtyEntries (openingW 900)
        ∧ (openingW 900).doors.doors[3]? = some { doorW with state := .unlatched, openSecs := 900 }
        ∧ 3 ∈ (openingW 900).due.doorOverdue ∧ 3 ∉ (openingW 900).due.doorWarn ∧ (cfg (openingW 900)).tdo ≤ 900
        ∧ jobIndex (openingW 900) ≠ some (3 / 2) := by decide

theorem witness_OpeningPoints_job :
    ∀ s ∈ [JobState.claimed, .doors, .staged, .permitted, .held],
      let c := { pushW s .isolated with
        doors := { cW.doors with doors := [doorW, { doorW with state := .removed, openSecs := 900, warned := true }, doorW, doorW] }
        due := { Due.nothing with doorOverdue := [1] } }
      c.start.powerOn = false ∧ thirtyEntries c
        ∧ c.doors.doors[1]? = some { doorW with state := .removed, openSecs := 900, warned := true } ∧ 1 ∈ c.due.doorOverdue
        ∧ 1 ∉ c.due.doorWarn ∧ (cfg c).tdo ≤ 900 ∧ receiving c = true ∧ c.job.oven = some 41 ∧ ovenIndex c 41 = some (1 / 2)
        ∧ (ovenAt c (1 / 2)).isSome = true ∧ c.job.state = s ∧ c.job.started = false ∧ isActive c = true ∧ roomFor 4 c := by decide

/-- The job limit is due, at the limit of 20 minutes. -/
def limitW (s : JobState) (p : Phase) (off : Bool) : Controller :=
  let c := pushW s p
  { c with
    job := { c.job with minutes := 20 }
    doors := if off then c.doors else cW.doors
    due := { Due.nothing with jobLimit := true } }

theorem witness_TimersAbortJob :
    (∀ s ∈ [JobState.claimed, .doors, .staged], ∀ off ∈ [true, false],
      (limitW s .isolated off).start.powerOn = false ∧ (limitW s .isolated off).due.jobLimit = true
        ∧ isActive (limitW s .isolated off) = true ∧ (limitW s .isolated off).job.state = s
        ∧ (cfg (limitW s .isolated off)).jobLimit ≤ (limitW s .isolated off).job.minutes
        ∧ (limitW s .isolated off).job.oven = some 41 ∧ ovenIndex (limitW s .isolated off) 41 = some 0
        ∧ (ovenAt (limitW s .isolated off) 0).isSome = true ∧ thirtyEntries (limitW s .isolated off)
        ∧ roomFor 4 (limitW s .isolated off) ∧ anyRemoved (limitW s .isolated off) 0 = off
        ∧ bothLatched (limitW s .isolated off) 0 = !off)
      ∧ (dueW { Due.nothing with holdTimer := true } (pushW .held .pushing)).start.powerOn = false
        ∧ (dueW { Due.nothing with holdTimer := true } (pushW .held .pushing)).due.holdTimer = true
        ∧ receiving (pushW .held .pushing) = true ∧ (pushW .held .pushing).job.state = .held
        ∧ (pushW .held .pushing).job.oven = some 41 ∧ ovenIndex (pushW .held .pushing) 41 = some 0
        ∧ bothLatched (pushW .held .pushing) 0 = false ∧ thirtyEntries (pushW .held .pushing) := by decide

/-- Records at their limits, their ends due. -/
def staleW : Controller :=
  { cW with
    table := { cW.table with below := some ⟨40, .coking, 1001, 300, true⟩, above := some ⟨43, .coking, 500, 300, true⟩ }
    track := ⟨⟨none, none, 30, false⟩, ⟨none, none, 30, false⟩, ⟨none, none, none, none, 30, false⟩, Call.unused⟩
    reg := { cW.reg with main := ⟨false, some (-400), 0, 5, false, false⟩ }
    due := { Due.nothing with lostBelow := true, lostAbove := true, stalePusher := true, staleGuide := true, staleCar := true,
                              mainStale := true } }

theorem witness_RecordsGoStale :
    staleW.start.powerOn = false ∧ thirtyEntries staleW ∧ nothingWaits staleW = true ∧ staleW.job.oven = none
      ∧ staleW.table.below = some ⟨40, .coking, 1001, 300, true⟩ ∧ staleW.table.above = some ⟨43, .coking, 500, 300, true⟩
      ∧ (cfg staleW).tnb ≤ 300 ∧ staleW.due.lostBelow = true ∧ staleW.due.lostAbove = true
      ∧ staleW.due.stalePusher = true ∧ staleW.track.pusher.stale = false ∧ (cfg staleW).staleLimit ≤ staleW.track.pusher.age
      ∧ staleW.due.staleGuide = true ∧ staleW.track.guide.stale = false ∧ (cfg staleW).staleLimit ≤ staleW.track.guide.age
      ∧ staleW.due.staleCar = true ∧ staleW.track.car.stale = false ∧ (cfg staleW).staleLimit ≤ staleW.track.car.age
      ∧ staleW.due.mainStale = true ∧ staleW.reg.main.tap = false ∧ staleW.reg.main.stale = false
      ∧ (cfg staleW).tstale ≤ staleW.reg.main.age := by decide

/-- The machines of a push at the stale limit, their staleness due; the job in every state that is told of it. -/
theorem witness_RecordsGoStale_push :
    ∀ s ∈ [JobState.permitted, .pushing, .held, .staged, .claimed],
      let c := { pushW s .isolated with
        track := ⟨{ trackW.pusher with age := 30 }, { trackW.guide with age := 30 }, { trackW.car with age := 30 }, Call.unused⟩
        due := staleW.due }
      c.start.powerOn = false ∧ nothingWaits c = true ∧ thirtyEntries c ∧ receiving c = true ∧ isActive c = true ∧ roomFor 3 c
        ∧ c.job.state = s ∧ c.job.oven = some 41 ∧ ovenIndex c 41 = some 0
        ∧ (c.due.stalePusher = true ∧ c.track.pusher.stale = false ∧ (cfg c).staleLimit ≤ c.track.pusher.age)
        ∧ (c.due.staleGuide = true ∧ c.track.guide.stale = false ∧ (cfg c).staleLimit ≤ c.track.guide.age)
        ∧ c.due.staleCar = true ∧ c.track.car.stale = false ∧ (cfg c).staleLimit ≤ c.track.car.age := by decide

/-- The window's expiry due, with the given bid list; the own bid is for oven 41, sub 255 − 46 = 209 of chapter 3's example. -/
def windowW (bids : List Bid) : Controller :=
  { cW with
    job := { Job.idleRecord with state := .bidding }
    round := ⟨true, 0, some (bidTelegram 6 209 41 1062).ident, true, bids⟩
    due := { Due.nothing with bidWindow := true } }

theorem witness_WindowDecides :
    ((windowW [⟨6, 41, 39462⟩]).start.powerOn = false ∧ (windowW [⟨6, 41, 39462⟩]).due.bidWindow = true
        ∧ isActive (windowW [⟨6, 41, 39462⟩]) = true ∧ roomFor 1 (windowW [⟨6, 41, 39462⟩])
        ∧ (windowW [⟨6, 41, 39462⟩]).job.state = .bidding ∧ (windowW [⟨6, 41, 39462⟩]).round.ownSent = true
        ∧ (windowW [⟨6, 41, 39462⟩]).round.bids = [⟨6, 41, 39462⟩] ∧ 6 = ownNumber (windowW [⟨6, 41, 39462⟩])
        ∧ ovenIndex (windowW [⟨6, 41, 39462⟩]) 41 = some 0 ∧ ovenAt (windowW [⟨6, 41, 39462⟩]) 0 = some ovenW
        ∧ eligible (windowW [⟨6, 41, 39462⟩]) 0 = true)
      ∧ (windowW [⟨11, 85, 39083⟩, ⟨6, 41, 39462⟩]).due.bidWindow = true
        ∧ winningBid (windowW [⟨11, 85, 39083⟩, ⟨6, 41, 39462⟩]) = none
        ∧ nothingWaits (windowW [⟨11, 85, 39083⟩, ⟨6, 41, 39462⟩]) = true
        ∧ (windowW [⟨11, 85, 39083⟩, ⟨6, 41, 39462⟩]).job.state = .bidding
      ∧ let c := { windowW [⟨11, 85, 39083⟩] with job := jobW .claimed };
        c.start.powerOn = false ∧ c.due.bidWindow = true ∧ winningBid c = none ∧ nothingWaits c = true
          ∧ c.job.state ≠ .bidding := by decide +kernel

/-- A tap station, the main value current. -/
def tapW : Controller := { cW with reg := { cW.reg with main := ⟨true, some (-400), 0, 0, false, false⟩ } }

theorem witness_TimersQueueTelegrams :
    ((dueW { Due.nothing with edgeRefresh := true } cW).start.powerOn = false
        ∧ (dueW { Due.nothing with edgeRefresh := true } cW).due.edgeRefresh = true ∧ isActive cW = true ∧ roomFor 2 cW
        ∧ ovenAt cW 0 = some ovenW
        ∧ cW.table.ovens.getLast? = some { ovenW with number := 42, minutes := 300, stage := some .main }
        ∧ ovenW.number ≠ 42 ∧ ovenW.number ≤ 192)
      ∧ ((dueW { Due.nothing with mainSend := true } tapW).due.mainSend = true ∧ isActive tapW = true ∧ roomFor 1 tapW
        ∧ tapW.reg.main.tap = true ∧ tapW.reg.main.stale = false ∧ tapW.reg.main.queued = false
        ∧ tapW.reg.main.value = some (-400))
      ∧ nothingWaits (dueW { Due.nothing with mainSend := true } cW) = true ∧ cW.reg.main.tap = false := by decide

/-- A CALL for oven 42 sent, its travel limit over. -/
def lateW (n : Nat) : Controller :=
  { cW with
    track := { cW.track with call := ⟨.sent, some 42, false, 90, 0, n⟩ }
    due := { Due.nothing with travelTimer := true } }

theorem witness_TravelTimerExpires :
    ((lateW 0).start.powerOn = false ∧ (lateW 0).due.travelTimer = true ∧ (lateW 0).track.call.step = .sent
        ∧ thirtyEntries (lateW 0) ∧ (lateW 0).track.call.expiries = 0)
      ∧ (lateW 1).start.powerOn = false ∧ (lateW 1).due.travelTimer = true ∧ (lateW 1).track.call.step = .sent
        ∧ thirtyEntries (lateW 1) ∧ (lateW 1).track.call.expiries ≠ 0 ∧ beforePermit (lateW 1).job.state = false := by decide

theorem witness_TravelTimerExpires_job :
    ∀ s ∈ [JobState.claimed, .doors, .staged],
      let c := { pushW s .isolated with track := (lateW 1).track, due := (lateW 1).due }
      c.start.powerOn = false ∧ c.due.travelTimer = true ∧ c.track.call.step = .sent ∧ thirtyEntries c
        ∧ c.track.call.expiries ≠ 0 ∧ receiving c = true ∧ c.job.oven = some 41 ∧ ovenIndex c 41 = some 0
        ∧ (ovenAt c 0).isSome = true ∧ c.job.state = s := by decide

/-- A converter cycle in flight with the given samples. -/
def cycleW (wanted : Nat) (got : List SampleCode) (d : Due) : Controller :=
  { cW with reg := { cW.reg with cycle := some ⟨wanted, got⟩, answer := some 3 }, due := d }

theorem witness_PeriodStartsCycle :
    (cW.reg.cycle = none ∧ nothingWaits (dueW { Due.nothing with controlPeriod := true } cW) = true
        ∧ (dueW { Due.nothing with controlPeriod := true } cW).start.powerOn = false)
      ∧ (cycleW 16 [] { Due.nothing with controlPeriod := true }).due.controlPeriod = true
        ∧ (cycleW 16 [] { Due.nothing with controlPeriod := true }).reg.cycle ≠ none
        ∧ thirtyEntries (cycleW 16 [] { Due.nothing with controlPeriod := true }) := by decide

theorem witness_SamplesTakenInOrder :
    (Ready cW ∧ nothingWaits cW = true ∧ cW.reg.cycle = none)
      ∧ (Ready (cycleW 16 (List.replicate 14 0) Due.nothing) ∧ nothingWaits (cycleW 16 (List.replicate 14 0) Due.nothing) = true
        ∧ (List.replicate 14 (0 : SampleCode)).length + 1 < 16)
      ∧ (Ready (cycleW 16 (List.replicate 15 0) Due.nothing) ∧ nothingWaits (cycleW 16 (List.replicate 15 0) Due.nothing) = true
        ∧ (List.replicate 15 (0 : SampleCode)).length + 1 = 16)
      ∧ nothingWaits (cycleW 16 [] { Due.nothing with answerLimit := true }) = true
        ∧ (cycleW 16 [] { Due.nothing with answerLimit := true }).start.powerOn = false
        ∧ (cycleW 16 [] { Due.nothing with answerLimit := true }).reg.cycle ≠ none := by decide

/-- Samples of a whole cycle of 17: code 9 and 4086 are the last valid ones at the rails, 8 and 4087 are invalid (R154). -/
def samplesW : List SampleCode := [9, 4087] ++ List.replicate 6 2048 ++ [4086, 8] ++ List.replicate 6 2048 ++ [2048]

theorem witness_CompletionWorks :
    (cycleW 17 samplesW { Due.nothing with cycleComplete := true }).start.powerOn = false
      ∧ (cycleW 17 samplesW { Due.nothing with cycleComplete := true }).due.cycleComplete = true
      ∧ (cycleW 17 samplesW { Due.nothing with cycleComplete := true }).job.oven = none
      ∧ ovenAt (cycleW 17 samplesW { Due.nothing with cycleComplete := true }) 0 = some ovenW
      ∧ sampleAt ⟨17, samplesW⟩ 1 = some 9 ∧ sampleAt ⟨17, samplesW⟩ 2 = none ∧ sampleAt ⟨17, samplesW⟩ 9 = some 4086
      ∧ sampleAt ⟨17, samplesW⟩ 10 = none ∧ sampleAt ⟨17, samplesW⟩ 17 = some 2048 := by decide

/-- The completion of a cycle with oven 41 as given, the main pressure measured here or heard. -/
def workW (tap : Bool) (o : Oven) : Controller :=
  let c := cycleW 17 samplesW { Due.nothing with cycleComplete := true }
  { c with table := { c.table with ovens := c.table.ovens.set 0 o }, reg := { c.reg with main := { c.reg.main with tap := tap } } }

theorem witness_CompletionWorks_modes :
    (∀ tap ∈ [true, false], ∀ m ∈ [ValveMode.regulate, .hold, .closed, .forced, .isolating],
      (workW tap { ovenW with mode := m }).start.powerOn = false ∧ (workW tap { ovenW with mode := m }).due.cycleComplete = true
        ∧ (workW tap { ovenW with mode := m }).reg.main.tap = tap ∧ (workW tap { ovenW with mode := m }).reg.framesOn = true
        ∧ (workW tap { ovenW with mode := m }).reg.frame = none
        ∧ ((ovenAt (after .converterCycleComplete (workW tap { ovenW with mode := m })) 0).bind (·.filtered)).isSome = true
        ∧ (after .converterCycleComplete (workW tap { ovenW with mode := m })).reg.main.value.isSome = true
        ∧ (after .converterCycleComplete (workW tap { ovenW with mode := m })).reg.main.stale = false)
      ∧ CountersInv (workW false ovenW) ∧ CountersInv (workW false { ovenW with mode := .isolating, isoCount := 2 }) :=
  ⟨by decide +kernel, countersInv_of _ (by unfold Oven.countersRight; decide) rfl (by decide),
    countersInv_of _ (by unfold Oven.countersRight; decide) rfl (by decide)⟩

/-- A CLAIMED job whose oven the completion does not report: the isolation count still 0. -/
theorem witness_CompletionWorks_notIsolated :
    let o := { ovenW with phase := .isolating, mode := .isolating, command := 50 }
    let c := { workW false o with job := jobW .claimed }
    (c.start.powerOn = false ∧ c.due.cycleComplete = true ∧ ovenAt c 0 = some o ∧ o.mode = .isolating)
      ∧ CountersInv c ∧ ¬ IsolationReported c 0 o (sampleAt ⟨17, samplesW⟩ 9) :=
  ⟨by decide, countersInv_of _ (by unfold Oven.countersRight; decide) rfl (by decide), fun h => absurd h.2.2.2.2.1 (by decide)⟩

/-- Oven 41 of a CLAIMED job at the completion that reports it isolated: command 50 with Riso 100, feedback code 42. -/
def isolationW : Controller :=
  let o := { ovenW with phase := .isolating, mode := .isolating, command := 50, isoCount := 1 }
  { cycleW 16 (List.replicate 8 2048 ++ List.replicate 8 42) { Due.nothing with cycleComplete := true } with
    job := jobW .claimed
    table := { cW.table with ovens := cW.table.ovens.set 0 o } }

theorem witness_CompletionWorks_isolated :
    (isolationW.start.powerOn = false ∧ isolationW.due.cycleComplete = true
        ∧ isolationW.reg.cycle = some ⟨16, List.replicate 8 2048 ++ List.replicate 8 42⟩ ∧ anyRemoved isolationW 0 = false
        ∧ isolationW.job.oven = some 41 ∧ isActive isolationW = true ∧ roomFor 4 isolationW ∧ isolationW.job.owed = none)
      ∧ ∃ o, ovenAt isolationW 0 = some o
        ∧ IsolationReported isolationW 0 o (sampleAt ⟨16, List.replicate 8 2048 ++ List.replicate 8 42⟩ 9) :=
  ⟨by decide, _, rfl, by decide, by decide, by decide, by decide, by decide, by decide, 42, by decide, by decide⟩

theorem witness_StagesStayWithin :
    (ovenW.filtered = some 100 ∧ 0 ≤ gW.r ∧ (rowInForce gW ovenW).umin ≤ (rowInForce gW ovenW).umax
        ∧ (rowInForce gW ovenW).umin ≤ ovenW.command ∧ ovenW.command ≤ (rowInForce gW ovenW).umax
        ∧ (0 ≤ (rowInForce gW ovenW).umin ∧ (rowInForce gW ovenW).umin ≤ 1000)
        ∧ 0 ≤ (rowInForce gW ovenW).umax ∧ (rowInForce gW ovenW).umax ≤ 1000)
      ∧ (9 ≤ 9 ∧ 9 ≤ 4086) ∧ ovenW.phase = .coking
      ∧ (stageRow gW (stageFor gW ovenW.target ovenW.minutes)).b ≤ (stageRow gW (stageFor gW ovenW.target ovenW.minutes)).a := by
  decide +kernel

/-- A positioner frame on the link. -/
def frameW (requested : Bool) : Controller :=
  { cW with reg := { cW.reg with frame := some (List.replicate 8 0), frameHeld := requested } }

theorem witness_FrameEndServesHeld :
    (Ready (frameW true) ∧ nothingWaits (frameW true) = true ∧ (frameW true).reg.frame ≠ none
        ∧ (frameW true).reg.frameHeld = true ∧ (frameW true).reg.framesOn = true)
      ∧ Ready (frameW false) ∧ nothingWaits (frameW false) = true ∧ (frameW false).reg.frame ≠ none
        ∧ (frameW false).reg.frameHeld = false := by decide

/-- The scanner with the given doors latched, a gate of the given channel running or none. -/
def scanW (doors : List DoorState) (running spoiled : Bool) (ch : Nat) (d : Due) : Controller :=
  { cW with
    doors := { cW.doors with doors := doors.map fun s => { doorW with state := s } }
    scan := ⟨running, ch, 240, spoiled, 0, !running⟩
    due := d }

/-- A channel without a door record is not in the ring. -/
theorem inRing_of_absent (c : Controller) (j : Nat) (h : c.doors.doors.length ≤ j) : inRing c j = false := by
  simp [inRing, doorAt, List.getElem?_eq_none h]

theorem witness_GatesGoRound :
    (nothingWaits (scanW [.removed, .tight, .tight, .tight] false false 0 { Due.nothing with gateStart := true }) = true
        ∧ inRing (scanW [.removed, .tight, .tight, .tight] false false 0 { Due.nothing with gateStart := true }) 1 = true
        ∧ (∀ j, j < 1 → inRing (scanW [.removed, .tight, .tight, .tight] false false 0 { Due.nothing with gateStart := true }) j = false))
      ∧ (nothingWaits (scanW [] false false 0 { Due.nothing with gateStart := true }) = true
        ∧ ∀ j, inRing (scanW [] false false 0 { Due.nothing with gateStart := true }) j = false)
      ∧ (Ready (scanW [.tight, .tight, .tight, .tight] true false 3 Due.nothing)
        ∧ nothingWaits (scanW [.tight, .tight, .tight, .tight] true false 3 Due.nothing) = true)
      ∧ (Ready (scanW [.tight, .tight, .tight, .tight] false false 3 Due.nothing)
        ∧ nothingWaits (scanW [.tight, .tight, .tight, .tight] false false 3 Due.nothing) = true)
      ∧ (nothingWaits (scanW [.tight, .removed, .removed, .tight] true true 0 { Due.nothing with gateExpiry := true }) = true
        ∧ inRing (scanW [.tight, .removed, .removed, .tight] true true 0 { Due.nothing with gateExpiry := true }) 3 = true
        ∧ ∀ j, 0 < j → j < 3 →
            inRing (scanW [.tight, .removed, .removed, .tight] true true 0 { Due.nothing with gateExpiry := true }) j = false)
      ∧ (nothingWaits (scanW [.removed, .unlatched] true true 1 { Due.nothing with gateExpiry := true }) = true
        ∧ (scanW [.removed, .unlatched] true true 1 { Due.nothing with gateExpiry := true }).scan.spoiled = true
        ∧ ∀ j, inRing (scanW [.removed, .unlatched] true true 1 { Due.nothing with gateExpiry := true }) j = false)
      ∧ nothingWaits (scanW [.removed, .tight, .tight, .tight] true true 3 { Due.nothing with gateExpiry := true }) = true
        ∧ inRing (scanW [.removed, .tight, .tight, .tight] true true 3 { Due.nothing with gateExpiry := true }) 1 = true
        ∧ (∀ j, 3 < j → inRing (scanW [.removed, .tight, .tight, .tight] true true 3 { Due.nothing with gateExpiry := true }) j = false)
        ∧ ∀ j, j < 1 →
            inRing (scanW [.removed, .tight, .tight, .tight] true true 3 { Due.nothing with gateExpiry := true }) j = false := by
  refine ⟨⟨by decide, by decide, by decide⟩, ⟨by decide, fun j => inRing_of_absent _ j (Nat.zero_le j)⟩, ⟨by decide, by decide⟩,
    ⟨by decide, by decide⟩, ⟨by decide, by decide, ?_⟩, ⟨by decide, by decide, ?_⟩, by decide, by decide,
    fun j h => inRing_of_absent _ j h, by decide⟩
  · intro j h1 h2
    match j, h1, h2 with
    | 1, _, _ => decide
    | 2, _, _ => decide
  · intro j
    match j with
    | 0 => decide
    | 1 => decide
    | j + 2 => exact inRing_of_absent _ _ (by simp [scanW])

/-- A gate of channel 0 over, with the given count; Ref 240 and M 64, so Thr is 300 and a count below 60 is dead. -/
def judgedW (s : DoorState) (n : Nat) : Controller :=
  { scanW [s, .tight, .tight, .tight] true false 0 { Due.nothing with gateExpiry := true } with
    scan := ⟨true, 0, n, false, 0, false⟩ }

theorem witness_GateResultJudged :
    (∀ s ∈ [DoorState.tight, .leaking, .checking], ∀ n ∈ [59, 60, 300, 301, 65535],
      (judgedW s n).start.powerOn = false ∧ (judgedW s n).due.gateExpiry = true ∧ thirtyEntries (judgedW s n)
        ∧ (judgedW s n).scan.channel = 0 ∧ (judgedW s n).scan.count = n ∧ (judgedW s n).scan.spoiled = false
        ∧ (judgedW s n).doors.doors[0]? = some { doorW with state := s })
      ∧ 240 + (roundDiv ((240 * (cfg (judgedW .tight 0)).margin : Nat) : Int) 256).toNat = 300 ∧ 240 / 4 = 60 := by
  decide +kernel

/-- A judged gate of channel 3 of 0 to 3: the next channel in the ring is the lowest, or channel 3 itself where no other door is
scannable. -/
def lastGateW (s : DoorState) : Controller :=
  { scanW [.removed, s, s, .checking] true false 3 { Due.nothing with gateExpiry := true } with
    scan := ⟨true, 3, 240, false, 0, false⟩ }

theorem witness_GateResultJudged_next :
    (inRing (judgedW .tight 60) 1 = true ∧ (0 < 1 ∧ ∀ j, 0 < j → j < 1 → inRing (judgedW .tight 60) j = false))
      ∧ ∀ x ∈ [(DoorState.tight, 1), (.unlatched, 3)],
        (lastGateW x.1).start.powerOn = false ∧ (lastGateW x.1).due.gateExpiry = true ∧ thirtyEntries (lastGateW x.1)
          ∧ (lastGateW x.1).scan.spoiled = false ∧ (lastGateW x.1).doors.doors[3]? = some { doorW with state := .checking }
          ∧ inRing (lastGateW x.1) x.2 = true ∧ x.2 ≤ 3 ∧ (∀ j, 3 < j → inRing (lastGateW x.1) j = false)
          ∧ ∀ j, j < x.2 → inRing (lastGateW x.1) j = false := by
  refine ⟨⟨by decide, by decide, by omega⟩, fun x hx => ?_⟩
  obtain rfl | rfl : x = (.tight, 1) ∨ x = (.unlatched, 3) := by simpa using hx
  · exact ⟨rfl, rfl, by decide, rfl, rfl, by decide, by decide, fun j h => inRing_of_absent _ j h, by decide⟩
  · exact ⟨rfl, rfl, by decide, rfl, rfl, by decide, by decide, fun j h => inRing_of_absent _ j h, by decide⟩

/-- A full transmit queue: seven PHASEs and a MAIN. -/
def fullW : List TxEntry :=
  ([41, 42, 43, 44, 45, 46, 47].map fun n => ⟨telW 5 1 6 [n, 3, 0, 0, 0], false⟩) ++ [⟨telW 5 2 6 [0, 0], false⟩]

/-- Station 6 with a transmit queue. -/
def queueW (q : List TxEntry) : Controller := { cW with line := { cW.line with tx := q } }

theorem witness_QueueTakesOffer :
    (txAscending fullW ∧ txAscending [] ∧ isActive (queueW fullW) = true ∧ (queueW fullW).line.tx.length = 8
        ∧ thirtyEntries (queueW fullW))
      ∧ isActive (dueW Due.nothing listenW) = false
      ∧ ((telW 5 1 6 [41, 3, 0, 1, 0]).kind = some .phase ∧ ∃ e ∈ fullW, samePlace (telW 5 1 6 [41, 3, 0, 1, 0]) e.tel = true)
      ∧ ((telW 4 209 6 [41, 4, 38]).kind = some .bid
        ∧ ∃ e ∈ [(⟨telW 4 210 6 [42, 4, 38], false⟩ : TxEntry)], samePlace (telW 4 209 6 [41, 4, 38]) e.tel = true)
      ∧ (∀ e ∈ (queueW (fullW.take 7)).line.tx, samePlace (telW 3 1 6 [41, 1]) e.tel = false)
      ∧ (queueW (fullW.take 7)).line.tx.length < 8
      ∧ ((∀ e ∈ fullW, samePlace (telW 7 1 6 []) e.tel = false) ∧ ∀ e ∈ fullW, e.tel.ident ≤ (telW 7 1 6 []).ident)
      ∧ (∀ e ∈ fullW, samePlace (telW 3 1 6 [41, 1]) e.tel = false)
      ∧ ∃ e ∈ fullW, (telW 3 1 6 [41, 1]).ident < e.tel.ident := by
  refine ⟨⟨?_, ?_, by decide, by decide, by decide⟩, by decide, by decide, by decide, by decide, by decide, by decide, by decide,
    by decide⟩
  · unfold txAscending
    decide
  · exact List.Pairwise.nil

/-- A free place and what waits for it: a RELEASE owed, and kind 30 to report. -/
theorem witness_QueueTakesOffer_waiting :
    (∀ n ∈ [0, 6, 7, 8], ∀ w ∈ [none, some (⟨41, .pushed⟩ : OwedRelease)],
      let c := { queueW (fullW.take n) with
        job := { Job.idleRecord with owed := w }
        events := ⟨List.replicate 29 EventEntry.emptied ++ [⟨1, none⟩], 0xFFFFFFFF, false, none⟩ }
      isActive c = true ∧ c.line.tx.length = n ∧ c.job.owed = w ∧ c.events.queued = false ∧ c.events.reportable 30 = true)
      ∧ ∀ n, txAscending (fullW.take n) := by
  have h : txAscending fullW := by unfold txAscending; decide
  exact ⟨by decide, fun n => List.Pairwise.sublist (List.take_sublist n fullW) h⟩

theorem witness_EventCounted :
    thirtyEntries { cW with events := { cW.events with enable := 0xFFFFFFFF } } ∧ isActive cW = true ∧ cW.events.queued = false
      ∧ kindEnabled 0xFFFFFFFF 1 = true ∧ kindEnabled 0xFFFFFFFF 30 = true ∧ cW.line.tx.length < 8 := by decide

theorem witness_AcceptanceByClass :
    ∀ p ∈ [(telW 0 1 30 [41, 1], Kind.halt), (telW 1 1 25 [0, 5, 0, 0, 0], .pusher), (telW 2 197 11 [85, 4, 0], .claim),
        (telW 3 1 24 [85, 1], .release), (telW 4 197 1 [85, 4, 0], .bid), (telW 5 1 5 [40, 3, 0, 0, 0], .phase),
        (telW 5 2 5 [0, 0], .main), (telW 6 5 30 [0, 0, 0, 0], .mask), (telW 7 1 24 [1, 0, 1], .event)],
      p.1.kind = some p.2 ∧ p.1.src ≠ ownNumber cW ∧ p.1.src ≠ 0 ∧ p.1.src ≠ 29 ∧ p.1.src ≠ 31
        ∧ sourceAllowed p.2 p.1.src = true ∧ p.1.payload.length = kindLength p.2 := by decide

/-- Station 6 in LISTEN, ACTIVE or SILENT with so many telegrams in its receive queue. -/
def hearW (l : LineState) (n : Nat) : Controller :=
  { cW with
    start := { cW.start with line := l }
    line := { cW.line with rx := List.replicate n (telW 5 2 5 [0, 0]) } }

/-- The line unit at a position. -/
def atW (p : LinePhase) (c : Controller) : Controller := { c with line := { c.line with phase := p } }

theorem witness_TelegramHeard :
    (∀ p ∈ [LinePhase.idle, .ended, .receiving],
      Ready (atW p (hearW .active 3)) ∧ nothingWaits (atW p (hearW .active 3)) = true ∧ thirtyEntries (atW p (hearW .active 3))
        ∧ hasFooting (atW p (hearW .active 3)) = true)
      ∧ 8 < (List.replicate 9 (0 : Byte)).length
      ∧ frameCheckAgrees { frameOf (telW 5 2 5 [0, 0]) with crc := 0 } = false
      ∧ frameCheckAgrees (frameOf (telW 5 2 5 [0, 0])) = true
      ∧ acceptance (hearW .active 3) (telegramOf (frameOf (telW 5 2 5 [0]))) = .badLength
      ∧ acceptance (hearW .active 3) (telegramOf (frameOf (telW 7 1 5 [1, 0, 1]))) = .discard
      ∧ acceptance (hearW .active 3) (telegramOf (frameOf (telW 5 2 5 [0, 0]))) = .accept
      ∧ (hearW .active 3).line.rx.length < 4 ∧ 4 ≤ (hearW .active 4).line.rx.length ∧ hasFooting (hearW .active 4) = true
      ∧ (hasFooting (atW .counting (hearW .active 0)) = false ∧ Ready (atW .counting (hearW .active 0))
        ∧ nothingWaits (atW .counting (hearW .active 0)) = true)
      ∧ receiving (hearW .silent 0) = true
      ∧ (atW .counting (hearW .silent 0)).line.phase = .counting ∧ (atW .ended (hearW .silent 0)).line.phase = .ended := by
  decide +kernel

theorem witness_DuplicateSilences :
    ∀ l ∈ [LineState.listen, .active, .silent],
      Ready (hearW l 0) ∧ thirtyEntries (hearW l 0) ∧ hasFooting (hearW l 0) = true
        ∧ (frameOf (telW 5 1 6 [41, 3, 0, 0, 0])).payload.length ≤ 8 ∧ frameCheckAgrees (frameOf (telW 5 1 6 [41, 3, 0, 0, 0])) = true
        ∧ (telegramOf (frameOf (telW 5 1 6 [41, 3, 0, 0, 0]))).src = ownNumber (hearW l 0) ∧ ownNumber (hearW l 0) ≠ 0
        ∧ ownNumber (hearW l 0) ≤ 24 := by decide +kernel

/-- Station 6 with an EVENT at the head of its queue; kind 30 is the one to report. -/
def eventW : Controller :=
  { queueW [⟨eventTelegram 6, false⟩] with
    events := { cW.events with entries := (List.replicate 29 EventEntry.emptied) ++ [⟨1, none⟩], enable := 0xFFFFFFFF, queued := true } }

theorem witness_HeadGoesOut :
    (∀ p ∈ [LinePhase.counting, .ended, .receiving], Ready (atW p (queueW fullW)) ∧ nothingWaits (atW p (queueW fullW)) = true
        ∧ (atW p (queueW fullW)).line.phase ≠ .idle)
      ∧ (Ready (queueW fullW) ∧ nothingWaits (queueW fullW) = true ∧ isActive (queueW fullW) = true
        ∧ (queueW fullW).line.phase = .idle ∧ ∃ e l, fullW = e :: l ∧ e.tel.kind ≠ some .event)
      ∧ Ready eventW ∧ nothingWaits eventW = true ∧ eventW.line.tx = [⟨eventTelegram 6, false⟩]
        ∧ (eventTelegram 6).kind = some .event ∧ eventW.events.reportable 30 = true
        ∧ ∀ m, 1 ≤ m → m < 30 → eventW.events.reportable m = false :=
  ⟨by decide, ⟨by decide, by decide, by decide, by decide, _, _, rfl, by decide⟩, by decide, by decide, by decide, by decide,
    by decide, fun m h1 h2 => (by decide : ∀ m, m < 30 → 1 ≤ m → eventW.events.reportable m = false) m h2 h1⟩

/-- Station 6 sends a telegram of its own. -/
def sendingW (t : Telegram) (f : Fate) : Controller := { cW with line := ⟨6, .sending t f, [], [⟨t, true⟩], false⟩ }

/-- Station 6 sends a telegram with a PERMIT and an EVENT behind it. -/
def brokenW (f : Fate) : Controller :=
  { sendingW (telW 4 209 6 [41, 4, 38]) f with
    line := ⟨6, .sending (telW 4 209 6 [41, 4, 38]) f, [], [⟨telW 3 2 6 [41, 2], false⟩, ⟨telW 4 209 6 [41, 4, 38], true⟩,
      ⟨eventTelegram 6, false⟩], false⟩
    events := eventW.events }

theorem witness_BrokenOffStays :
    ∀ f ∈ [Fate.queued, .replaced, .withdrawn],
      Ready (brokenW f) ∧ (brokenW f).line.phase = .sending (telW 4 209 6 [41, 4, 38]) f ∧ f ≠ .dropped
        ∧ nothingWaits (brokenW f) = true ∧ thirtyEntries (brokenW f) ∧ (brokenW f).job.owed = none
        ∧ (brokenW f).events.queued = true
        ∧ (⟨telW 3 2 6 [41, 2], false⟩ : TxEntry) ∈ (brokenW f).line.tx.map (fun e => ⟨e.tel, false⟩) := by decide

/-- Station 6 sends a telegram while its round is open with its own bid 39462, its CALL for oven 41 waits and kind 30 is
carried. -/
def reportW (t : Telegram) (f : Fate) : Controller :=
  { sendingW t f with
    round := ⟨true, 700, some 39462, false, []⟩
    track := { cW.track with call := ⟨.pending, some 41, true, 0, 0, 0⟩ }
    events := { cW.events with entries := List.replicate 29 EventEntry.emptied ++ [⟨1, none⟩], carried := some 30 } }

theorem witness_SentIsReported :
    (∀ t ∈ [telW 0 1 6 [41, 1], telW 3 1 6 [41, 1], telW 3 2 6 [41, 1], telW 5 1 6 [41, 3, 0, 0, 0], telW 4 209 6 [41, 4, 38],
        telW 4 208 6 [41, 4, 38], telW 5 2 6 [0, 0], telW 7 1 6 [30, 0, 1], telW 3 3 6 [41]], ∀ f ∈ [Fate.queued, .withdrawn],
      Ready (reportW t f) ∧ thirtyEntries (reportW t f) ∧ (reportW t f).line.phase = .sending t f)
      ∧ Fate.queued ≠ .withdrawn
      ∧ ((telW 4 209 6 [41, 4, 38]).kind = some .bid ∧ (reportW (telW 4 209 6 [41, 4, 38]) .queued).round.opened = true
        ∧ (reportW (telW 4 209 6 [41, 4, 38]) .queued).round.ownBid = some (telW 4 209 6 [41, 4, 38]).ident
        ∧ (reportW (telW 4 208 6 [41, 4, 38]) .queued).round.ownBid ≠ some (telW 4 208 6 [41, 4, 38]).ident)
      ∧ (telW 5 2 6 [0, 0]).kind = some .main ∧ (telW 5 2 6 [0, 0]).kind ≠ some .claim
      ∧ ((telW 7 1 6 [30, 0, 1]).kind = some .event ∧ (reportW (telW 7 1 6 [30, 0, 1]) .queued).events.carried = some 30)
      ∧ (telW 3 3 6 [41]).kind = some .call ∧ (reportW (telW 3 3 6 [41]) .queued).track.call.step = .pending
        ∧ (reportW (telW 3 3 6 [41]) .queued).track.call.oven = some 41 ∧ (telW 3 3 6 [41]).oven = 41
        ∧ (reportW (telW 3 3 6 [41]) .queued).track.car.place ≠ some .oven := by decide +kernel

theorem witness_SentIsReported_queue :
    Ready (brokenW .queued) ∧ thirtyEntries (brokenW .queued)
      ∧ (telW 4 209 6 [41, 4, 38]).kind ≠ some .claim ∧ (telW 4 209 6 [41, 4, 38]).kind ≠ some .event
      ∧ (brokenW .queued).job.owed = none ∧ (brokenW .queued).events.queued = true
      ∧ ((brokenW .queued).line.tx.filter (fun x => !x.onLine)).length = 2 := by decide

/-- A PHASE sent while a RELEASE is owed, six or seven entries waiting besides. -/
theorem witness_SentIsReported_owed :
    ∀ n ∈ [6, 7],
      let t := telW 5 1 6 [48, 3, 0, 0, 0]
      let c := { cW with
        line := ⟨6, .sending t .queued, [], fullW.take n ++ [⟨t, true⟩], false⟩
        job := { Job.idleRecord with owed := some ⟨41, .pushed⟩ } }
      Ready c ∧ thirtyEntries c ∧ c.line.phase = .sending t .queued ∧ t.kind ≠ some .claim ∧ t.kind ≠ some .event
        ∧ isActive c = true ∧ c.job.owed = some ⟨41, .pushed⟩ ∧ (c.line.tx.filter (fun x => !x.onLine)).length = n := by decide

/-- An EVENT sent that carries LONE TELEGRAM itself or another kind, with no further kind enabled; withdrawn, or reported. -/
theorem witness_SentIsReported_event :
    ∀ j ∈ [3, 30], ∀ f ∈ [Fate.queued, .withdrawn],
      let c := { reportW (telW 7 1 6 [j, 0, 1]) f with events := { cW.events with carried := some j, queued := true, enable := 0 } }
      Ready c ∧ thirtyEntries c ∧ c.line.phase = .sending (telW 7 1 6 [j, 0, 1]) f ∧ (telW 7 1 6 [j, 0, 1]).kind = some .event
        ∧ c.events.carried = some j
        ∧ ∀ b ∈ [true, false], ∀ m, m < 31 → (after (.telegramSent b) c).events.reportable m = false := by decide +kernel

/-- A CALL for oven 41 sent with the call PENDING or SENT, for another oven, or absent, and the quench car at oven 41, at another
oven, in transit, at the tower or nowhere, EMPTY or LOADING, its spot known or not, its record stale or not. -/
def callSentW (k : CallStep) (oven : Nat) (place : Option CarPlace) (spot : Option Nat) (st : CarState) (stale : Bool) : Controller :=
  { sendingW (telW 3 3 6 [41]) .queued with
    track := { cW.track with
      car := ⟨place, spot, some st, none, 0, stale⟩
      call := ⟨k, if k = .none then none else some oven, true, 0, 0, 0⟩ } }

theorem witness_SentIsReported_call :
    (∀ k ∈ [CallStep.none, .pending, .sent], ∀ n ∈ [41, 42], ∀ x ∈ [(some CarPlace.oven, some 41), (some .oven, some 42),
        (some .oven, none), (some .transit, some 42), (some .tower, some 41), (none, none)], ∀ b ∈ [true, false],
      Ready (callSentW k n x.1 x.2 .empty b) ∧ thirtyEntries (callSentW k n x.1 x.2 .empty b)
        ∧ (callSentW k n x.1 x.2 .empty b).line.phase = .sending (telW 3 3 6 [41]) .queued
        ∧ (callSentW k n x.1 x.2 .empty b).track.call.step = k)
      ∧ ((telW 3 3 6 [41]).kind = some .call ∧ (telW 3 3 6 [41]).oven = 41 ∧ Fate.queued ≠ .withdrawn)
      ∧ (callSentW .pending 41 (some .oven) (some 41) .empty false).track.car = ⟨some .oven, some 41, some .empty, none, 0, false⟩
      ∧ (callSentW .pending 41 (some .oven) (some 41) .loading false).track.car.state ≠ some .empty
      ∧ (callSentW .pending 42 (some .oven) (some 41) .empty false).track.call.oven ≠ some 41 := by decide +kernel

/-- The own CLAIM of oven 41 on the line. -/
def claimingW (inhibited : Bool) : Controller :=
  { sendingW (telW 2 200 6 [41, 4, 38]) .queued with
    job := jobW .claiming
    table := { cW.table with ovens := cW.table.ovens.set 0 { ovenW with inhibited := inhibited } } }

theorem witness_SentClaimClaims :
    ∀ b ∈ [true, false],
      Ready (claimingW b) ∧ isActive (claimingW b) = true ∧ roomFor 4 (claimingW b)
        ∧ (claimingW b).line.phase = .sending (telW 2 200 6 [41, 4, 38]) .queued ∧ Fate.queued ≠ .withdrawn
        ∧ (telW 2 200 6 [41, 4, 38]).kind = some .claim ∧ (claimingW b).job.state = .claiming
        ∧ (claimingW b).job.ownClaim = some (telW 2 200 6 [41, 4, 38]).ident ∧ (claimingW b).job.oven = some 41
        ∧ ovenIndex (claimingW b) 41 = some 0 ∧ ovenAt (claimingW b) 0 = some { ovenW with inhibited := b }
        ∧ anyRemoved (claimingW b) 0 = false ∧ thirtyEntries (claimingW b) := by decide

theorem witness_SentClaimClaims_doors :
    ∀ s ∈ [DoorState.tight, .removed],
      let c := { claimingW false with doors := { cW.doors with doors :=
        [{ doorW with state := s }, { doorW with state := .removed }, doorW, doorW] } }
      Ready c ∧ isActive c = true ∧ roomFor 4 c ∧ thirtyEntries c ∧ anyRemoved c 0 = true
        ∧ (bothRemoved c 0 = true ↔ s = .removed) ∧ ovenAt c 0 = some ovenW := by decide

theorem witness_GuideTaken :
    (Hands (withHead (telW 1 2 26 [193, 4]) cW) .guide (telW 1 2 26 [193, 4]) []
        ∧ nothingWaits (withHead (telW 1 2 26 [193, 4]) cW) = true ∧ 192 < (telW 1 2 26 [193, 4]).at 0)
      ∧ (Hands (withHead (telW 1 2 26 [192, 0]) cW) .guide (telW 1 2 26 [192, 0]) [] ∧ (telW 1 2 26 [192, 0]).at 1 < 1)
      ∧ (Hands (withHead (telW 1 2 26 [192, 5]) cW) .guide (telW 1 2 26 [192, 5]) [] ∧ 4 < (telW 1 2 26 [192, 5]).at 1)
      ∧ ∀ st ∈ [1, 2, 3, 4], Hands (withHead (telW 1 2 26 [192, st]) cW) .guide (telW 1 2 26 [192, st]) []
        ∧ (telW 1 2 26 [192, st]).at 0 ≤ 192 ∧ (telW 1 2 26 [192, st]).at 1 = st := by decide

/-- Station 6 with a push of oven 41 in a state and its call at a step, CALL queued as given. -/
def carW (s : JobState) (k : CallStep) (queued : Bool) : Controller :=
  { pushW s .isolated with track := { trackW with call := ⟨k, if k = .none then none else some 41, queued, 0, 50, 0⟩ } }

theorem witness_PusherAndCarTaken :
    (∀ p ∈ [[193, 1, 0, 0, 0], [0, 0, 0, 0, 0], [0, 7, 0, 0, 0], [0, 1, 0, 0, 2], [192, 1, 0, 0, 1], [0, 6, 0, 0, 1]],
      Hands (withHead (telW 1 1 25 p) cW) .pusher (telW 1 1 25 p) [] ∧ nothingWaits (withHead (telW 1 1 25 p) cW) = true
        ∧ (withHead (telW 1 1 25 p) cW).job.oven = none)
      ∧ ∀ p ∈ [[0, 0, 1, 0], [5, 0, 1, 0], [1, 0, 0, 0], [1, 0, 7, 0], [1, 193, 1, 0], [1, 0, 1, 193], [4, 192, 6, 192]],
        Hands (withHead (telW 1 3 27 p) cW) .qcar (telW 1 3 27 p) [] ∧ nothingWaits (withHead (telW 1 3 27 p) cW) = true
          ∧ (withHead (telW 1 3 27 p) cW).job.oven = none ∧ cW.track.call.step = .none := by
  decide

/-- QCAR reports during a push: the car at oven 41 or at the tower, EMPTY or not, without a target or with one; the call at each
step. -/
theorem witness_PusherAndCarTaken_call :
    (∀ s ∈ [JobState.claimed, .doors, .staged, .permitted, .pushing, .held], ∀ k ∈ [CallStep.none, .pending, .sent],
      ∀ p ∈ [[1, 41, 1, 0], [2, 0, 1, 0], [2, 0, 1, 192], [1, 41, 2, 0]],
      Hands (withHead (telW 1 3 27 p) (carW s k false)) .qcar (telW 1 3 27 p) [] ∧ (carW s k false).job.state = s
        ∧ (carW s k false).job.state.claimedToHeld = true ∧ (carW s k false).job.oven = some 41
        ∧ (carW s k false).track.call.step = k ∧ (k ≠ .none → (carW s k false).track.call.oven = some 41)
        ∧ (carW s k false).track.call.queued = false ∧ isActive (carW s k false) = true ∧ roomFor 1 (carW s k false))
      ∧ ((telW 1 3 27 [1, 41, 1, 0]).at 1 = 41 ∧ carPlaceOf ((telW 1 3 27 [1, 41, 1, 0]).at 0) = some .oven
        ∧ carStateOf ((telW 1 3 27 [1, 41, 1, 0]).at 2) = some .empty)
      ∧ ((telW 1 3 27 [2, 0, 1, 0]).at 3 = 0 ∧ carPlaceOf ((telW 1 3 27 [2, 0, 1, 0]).at 0) = some .tower)
      ∧ (telW 1 3 27 [2, 0, 1, 192]).at 3 = 192
      ∧ carStateOf ((telW 1 3 27 [1, 41, 2, 0]).at 2) = some .loading := by decide +kernel

/-- A SENT call and an EMPTY car whose spot is the call oven but which stands at the tower or is in transit, with a target or a
CALL queued; and a PUSHER READY with the job IDLE that opens no round. -/
theorem witness_PusherAndCarTaken_stays :
    (∀ p ∈ [[2, 41, 1, 192], [4, 41, 1, 192], [2, 41, 1, 0], [4, 41, 1, 0], [1, 42, 1, 192]],
      Hands (withHead (telW 1 3 27 p) (carW .claimed .sent true)) .qcar (telW 1 3 27 p) []
        ∧ (carW .claimed .sent true).job.state.claimedToHeld = true ∧ (carW .claimed .sent true).track.call.step = .sent
        ∧ (carW .claimed .sent true).track.call.queued = true ∧ (carW .claimed .sent true).track.call.oven = some 41)
      ∧ ([1, 2, 4].map carPlaceOf = [some .oven, some .tower, some .transit] ∧ carStateOf 1 = some .empty)
      ∧ (∀ c ∈ [dueW Due.nothing listenW, { cW with held := ⟨some ⟨11, 85, 22699⟩, 45, 45, none, none⟩ },
          { cW with round := ⟨true, 700, none, false, []⟩ }, { cW with start := { cW.start with line := .silent } }],
        Hands (withHead (telW 1 1 25 [192, 5, 0, 0, 0]) c) .pusher (telW 1 1 25 [192, 5, 0, 0, 0]) []
          ∧ nothingWaits (withHead (telW 1 1 25 [192, 5, 0, 0, 0]) c) = true ∧ c.job.state = .idle
          ∧ (isActive c = false ∨ c.held.claim ≠ none ∨ c.round.opened = true)) := by decide +kernel

/-- PUSHER reports of a push under way that are no push start and no push end: TRAVEL, AT_SPOT, READY and FAULT at the job oven,
and PUSHING and RETURNED at another; and a QCAR in CLAIMING and RECLOSING. -/
theorem witness_PusherAndCarTaken_push :
    (∀ s ∈ [JobState.bidding, .claiming, .claimed, .doors, .staged, .permitted, .pushing, .held, .reclosing],
      ∀ p ∈ [[41, 1, 0, 0, 0], [41, 2, 0, 0, 0], [41, 5, 0, 0, 0], [41, 6, 0, 0, 0], [42, 3, 0, 0, 0], [0, 4, 0, 0, 1]],
      Hands (withHead (telW 1 1 25 p) (pushW s .isolated)) .pusher (telW 1 1 25 p) []
        ∧ nothingWaits (withHead (telW 1 1 25 p) (pushW s .isolated)) = true ∧ (pushW s .isolated).job.state = s
        ∧ (pushW s .isolated).job.oven = some 41 ∧ ovenIndex (pushW s .isolated) 41 = some 0 ∧ thirtyEntries (pushW s .isolated)
        ∧ isActive (pushW s .isolated) = true ∧ roomFor 3 (withHead (telW 1 1 25 p) (pushW s .isolated)))
      ∧ [1, 2, 3, 4, 5, 6].map pusherStateOf
          = [some .travel, some .atSpot, some .pushing, some .returned, some .ready, some .fault]
      ∧ ∀ s ∈ [JobState.claiming, .reclosing],
        Hands (withHead (telW 1 3 27 [1, 41, 1, 0]) (pushW s .empty)) .qcar (telW 1 3 27 [1, 41, 1, 0]) []
          ∧ nothingWaits (withHead (telW 1 3 27 [1, 41, 1, 0]) (pushW s .empty)) = true ∧ (pushW s .empty).job.state = s
          ∧ (pushW s .empty).job.oven = some 41 ∧ (pushW s .empty).track.call.step = .none := by decide +kernel

theorem witness_EvaluationActs :
    (∀ s ∈ [JobState.staged, .permitted, .pushing, .held, .idle],
      receiving (pushW s .isolated) = true ∧ (pushW s .isolated).job.oven = some 41 ∧ ovenIndex (pushW s .isolated) 41 = some 0
        ∧ (ovenAt (pushW s .isolated) 0).isSome = true ∧ permitConditions (pushW s .isolated) 0 41 = true
        ∧ isActive (pushW s .isolated) = true ∧ roomFor 2 (pushW s .isolated) ∧ thirtyEntries (pushW s .isolated)
        ∧ (pushW s .isolated).job.state = s
        ∧ permitConditions { pushW s .isolated with track := cW.track } 0 41 = false)
      ∧ ({ (pushW .held .isolated) with job := { jobW .held with cause := some .condition } } : Controller).job.cause
          = some .condition := by decide

/-- A HALT of the supervisory station for oven 41. -/
def haltT : Telegram := telW 0 1 30 [41, 1]

theorem witness_HaltTaken :
    (∀ s ∈ [JobState.claimed, .doors, .permitted, .pushing, .held, .staged, .idle, .reclosing],
      Hands (withHead haltT (pushW s .isolated)) .halt haltT [] ∧ haltT.src = 30 ∧ (pushW s .isolated).job.oven = some haltT.oven
        ∧ (pushW s .isolated).job.state = s ∧ thirtyEntries (pushW s .isolated)
        ∧ nothingWaits (withHead haltT (pushW s .isolated)) = true ∧ ovenIndex (pushW s .isolated) haltT.oven = some 0
        ∧ (ovenAt (pushW s .isolated) 0).isSome = true
        ∧ anyRemoved { pushW s .isolated with doors := cW.doors } 0 = false
        ∧ bothLatched (pushW s .isolated) 0 = false)
      ∧ Hands (withHead (telW 0 1 24 [41, 1]) cW) .halt (telW 0 1 24 [41, 1]) [] ∧ (telW 0 1 24 [41, 1]).src ≠ 30 := by decide

theorem witness_PushStartsAndEnds :
    (∀ q ∈ [(JobState.permitted, Phase.isolated, [41, 3, 0, 0, 0]), (.pushing, .pushing, [41, 4, 2, 88, 1]),
        (.pushing, .pushing, [41, 4, 2, 87, 0])],
      Hands (withHead (telW 1 1 25 q.2.2) (pushW q.1 q.2.1)) .pusher (telW 1 1 25 q.2.2) []
        ∧ isActive (pushW q.1 q.2.1) = true ∧ roomFor 4 (pushW q.1 q.2.1) ∧ thirtyEntries (pushW q.1 q.2.1)
        ∧ (pushW q.1 q.2.1).job.oven = some 41 ∧ (pushW q.1 q.2.1).job.state = q.1 ∧ ovenIndex (pushW q.1 q.2.1) 41 = some 0
        ∧ (ovenAt (pushW q.1 q.2.1) 0).map (fun o => (o.phase, o.command)) = some (q.2.1, 0)
        ∧ bothRemoved (pushW q.1 q.2.1) 0 = true ∧ (telW 1 1 25 q.2.2).at 0 = 41 ∧ (telW 1 1 25 q.2.2).at 4 ≤ 1)
      ∧ guideCondition (pushW .permitted .isolated) 41 = true ∧ carCondition (pushW .permitted .isolated) 41 = true
      ∧ (cfg (pushW .pushing .pushing)).hardPush ≤ (telW 1 1 25 [41, 4, 2, 88, 1]).at2 2
      ∧ (telW 1 1 25 [41, 4, 2, 87, 0]).at2 2 < (cfg (pushW .pushing .pushing)).hardPush := by decide

/-- The reports out of order: the job's state, whether the push has started, the oven's phase, and the PUSHER's payload. -/
theorem witness_PushStartsAndEnds_order :
    (∀ q ∈ [(JobState.staged, false, Phase.isolated, [41, 3, 0, 0, 0]), (.held, false, .isolated, [41, 3, 0, 0, 0]),
        (.staged, false, .isolated, [41, 4, 2, 88, 1]), (.permitted, false, .isolated, [41, 4, 2, 87, 0]),
        (.held, false, .isolated, [41, 4, 2, 88, 1]), (.claimed, false, .isolating, [41, 3, 0, 0, 0]),
        (.doors, false, .isolated, [41, 4, 0, 0, 1]), (.reclosing, false, .isolated, [41, 4, 0, 0, 1]),
        (.reclosing, true, .pushing, [41, 3, 0, 0, 0]), (.reclosing, true, .pushing, [41, 4, 2, 88, 1]),
        (.reclosing, true, .empty, [41, 4, 2, 88, 1])],
      let c := { pushW q.1 q.2.2.1 with job := { (jobW q.1).enter q.1 with started := q.2.1 } }
      Hands (withHead (telW 1 1 25 q.2.2.2) c) .pusher (telW 1 1 25 q.2.2.2) [] ∧ thirtyEntries c ∧ c.job.oven = some 41
        ∧ ovenIndex c 41 = some 0 ∧ (ovenAt c 0).map (fun o => (o.phase, o.command)) = some (q.2.2.1, 0)
        ∧ (telW 1 1 25 q.2.2.2).at 0 = 41 ∧ (telW 1 1 25 q.2.2.2).at 4 ≤ 1 ∧ c.job.state = q.1 ∧ c.job.started = q.2.1
        ∧ c.job.ended = false ∧ bothRemoved c 0 = true ∧ bothLatched c 0 = false
        ∧ nothingWaits (withHead (telW 1 1 25 q.2.2.2) c) = true ∧ isActive c = true ∧ roomFor 4 c ∧ c.job.owed = none)
      ∧ (guideCondition (pushW .staged .isolated) 41 = true ∧ carCondition (pushW .staged .isolated) 41 = true)
      ∧ guideCondition { pushW .staged .isolated with track := cW.track } 41 = false
      ∧ ∀ x ∈ [HoldCause.condition, .supervisory],
        ({ pushW .held .isolated with job := { (jobW .held).enter .held with cause := some x } } : Controller).job.cause = some x := by
  decide

/-- PUSHING at the job oven in PUSHING and in HELD after the start, the machines in place or gone. -/
theorem witness_PushStartsAndEnds_repeated :
    ∀ x ∈ [(JobState.pushing, none, trackW, true), (.held, some HoldCause.supervisory, trackW, true),
        (.held, some .condition, trackW, true), (.held, some .condition, cW.track, false)],
      let t := telW 1 1 25 [41, 3, 0, 0, 0]
      let c := withHead t { pushW x.1 .pushing with
        job := { (jobW x.1).enter x.1 with started := true, cause := x.2.1 }, track := x.2.2.1 }
      (Hands c .pusher t [] ∧ thirtyEntries c ∧ c.job.oven = some 41 ∧ ovenIndex c 41 = some 0 ∧ (ovenAt c 0).isSome = true)
        ∧ (t.at 0 = 41 ∧ t.at 1 = 3 ∧ t.at 4 ≤ 1 ∧ c.job.state = x.1 ∧ c.job.started = true ∧ c.job.cause = x.2.1)
        ∧ nothingWaits c = true
        ∧ permitConditions { withRx [] c with track := { c.track with pusher := ⟨some 41, some .pushing, 0, false⟩ } } 0 41
          = x.2.2.2 := by decide

/-- PUSHING and RETURNED at the job oven in BIDDING and CLAIMING. -/
theorem witness_PushStartsAndEnds_early :
    ∀ s ∈ [JobState.bidding, .claiming], ∀ p ∈ [[41, 3, 0, 0, 0], [41, 4, 0, 0, 1]],
      let c := withHead (telW 1 1 25 p) (pushW s .coking)
      Hands c .pusher (telW 1 1 25 p) [] ∧ thirtyEntries c ∧ c.job.oven = some 41 ∧ ovenIndex c 41 = some 0
        ∧ (ovenAt c 0).isSome = true ∧ (telW 1 1 25 p).at 0 = 41 ∧ (telW 1 1 25 p).at 4 ≤ 1 ∧ c.job.state = s
        ∧ nothingWaits c = true := by decide

/-- RETURNED at the job oven with both doors latched, before the start and after it. -/
theorem witness_PushStartsAndEnds_latched :
    ∀ x ∈ [(JobState.staged, false, Phase.isolated), (.permitted, false, .isolated), (.held, false, .isolated),
        (.pushing, true, .pushing), (.held, true, .pushing), (.held, true, .sticker)],
      let t := telW 1 1 25 [41, 4, 2, 88, 1]
      let c := withHead t { pushW x.1 x.2.2 with job := { (jobW x.1).enter x.1 with started := x.2.1 }, doors := cW.doors }
      (Hands c .pusher t [] ∧ thirtyEntries c ∧ c.job.oven = some 41 ∧ ovenIndex c 41 = some 0 ∧ phaseAt c 0 = some x.2.2)
        ∧ t.at 0 = 41 ∧ t.at 1 = 4 ∧ t.at 4 ≤ 1 ∧ c.job.state = x.1 ∧ c.job.started = x.2.1 ∧ bothLatched c 0 = true
        ∧ isActive c = true ∧ roomFor 4 c := by decide

/-- A PUSHER READY. -/
def readyT : Telegram := telW 1 1 25 [192, 5, 0, 0, 0]

theorem witness_RoundOpensAndBids :
    (∀ c ∈ [cW, noneW],
      Hands (withHead readyT c) .pusher readyT [] ∧ isActive c = true ∧ roomFor 1 (withHead readyT c)
        ∧ c.job = { Job.idleRecord with owed := c.job.owed } ∧ c.held.claim = none ∧ c.round.opened = false
        ∧ readyT.at 0 ≤ 192 ∧ readyT.at 1 = 5 ∧ readyT.at 4 ≤ 1 ∧ nothingWaits (withHead readyT c) = true)
      ∧ chooseOven (withHead readyT cW) = some (0, ovenW) ∧ chooseOven (withHead readyT noneW) = none
      ∧ (∀ bids ∈ [[], [(⟨7, 60, 39463⟩ : Bid)]],
        (minuteW bids).start.powerOn = false ∧ (minuteW bids).due.minute = true ∧ isActive (minuteW bids) = true
          ∧ roomFor 1 (minuteW bids) ∧ (minuteW bids).job = { Job.idleRecord with owed := (minuteW bids).job.owed }
          ∧ (minuteW bids).round.opened = true ∧ (minuteW bids).round.ownBid = none ∧ (minuteW bids).round.bids = bids
          ∧ chooseOven (minuteW bids) = some (0, ovenW)
          ∧ chooseOven { minuteW bids with table := minutesRisen (minuteW bids) } = some (0, { ovenW with minutes := 1063 }))
      ∧ (bidTelegram 6 (255 - urgency ovenW) 41 1062).ident = 39462
      ∧ (bidTelegram 6 (255 - urgency { ovenW with minutes := 1063 }) 41 1063).ident < 39463 := by decide +kernel

/-- Oven 41 in a phase, no push under way. -/
def phaseW (p : Phase) : Controller := { cW with table := { cW.table with ovens := cW.table.ovens.set 0 { ovenW with phase := p } } }

theorem witness_ChargeTaken :
    (∀ p ∈ [Phase.empty, .charging], ∀ code ∈ [1, 2],
      Hands (withHead (telW 1 4 28 [41, code]) (phaseW p)) .charge (telW 1 4 28 [41, code]) []
        ∧ ovenIndex (phaseW p) (telW 1 4 28 [41, code]).oven = some 0 ∧ ovenAt (phaseW p) 0 = some { ovenW with phase := p }
        ∧ anyRemoved (phaseW p) 0 = false ∧ (phaseW p).job.oven = none ∧ thirtyEntries (phaseW p)
        ∧ roomFor 3 (withHead (telW 1 4 28 [41, code]) (phaseW p)) ∧ (telW 1 4 28 [41, code]).at 1 = code)
      ∧ ∀ q ∈ [[43, 1], [43, 2], [40, 1], [41, 0], [41, 3]],
        Hands (withHead (telW 1 4 28 q) (phaseW .empty)) .charge (telW 1 4 28 q) []
          ∧ nothingWaits (withHead (telW 1 4 28 q) (phaseW .empty)) = true
          ∧ (ovenIndex (phaseW .empty) (telW 1 4 28 q).oven = none ∨ (telW 1 4 28 q).at 1 ≠ 1 ∧ (telW 1 4 28 q).at 1 ≠ 2) := by decide

/-- A CHARGE for oven 42 during a push of oven 41, for oven 41 under a raised demand with no push, and in RECLOSING. -/
theorem witness_ChargeTaken_push :
    (∀ code ∈ [1, 2], ∀ s ∈ [JobState.claimed, .pushing],
      let t := telW 1 4 28 [42, code]
      let c := withHead t (pushW s .isolated)
      Hands c .charge t [] ∧ ovenIndex c t.oven = some 1 ∧ (ovenAt c 1).isSome = true ∧ thirtyEntries c ∧ roomFor 3 c
        ∧ jobIndex c = some 0 ∧ anyRemoved c 1 = false)
      ∧ ∀ x ∈ [(Phase.empty, 1), (.charging, 2)], ∀ s ∈ [JobState.idle, .reclosing],
        let t := telW 1 4 28 [41, x.2]
        let c := withHead t { pushW s x.1 with job := if s = .idle then Job.idleRecord else jobW s }
        Hands c .charge t [] ∧ ovenIndex c t.oven = some 0 ∧ phaseAt c 0 = some x.1 ∧ thirtyEntries c ∧ roomFor 3 c
          ∧ anyRemoved c 0 = true ∧ c.job.state = s ∧ t.at 1 = x.2 := by decide

theorem witness_SeedTaken :
    (∀ x ∈ [1, 3, 7],
      Hands (withHead (telW 6 2 30 [41, x, 15, 255, 9, 96]) cW) .seed (telW 6 2 30 [41, x, 15, 255, 9, 96]) []
        ∧ ovenIndex cW (telW 6 2 30 [41, x, 15, 255, 9, 96]).oven = some 0 ∧ ovenAt cW 0 = some ovenW ∧ anyRemoved cW 0 = false
        ∧ cW.job.oven = none ∧ (telW 6 2 30 [41, x, 15, 255, 9, 96]).at 1 = x
        ∧ roomFor 2 (withHead (telW 6 2 30 [41, x, 15, 255, 9, 96]) cW))
      ∧ (Hands (withHead (telW 6 2 30 [41, 3, 0, 0, 0, 0]) (pushW .reclosing .empty)) .seed (telW 6 2 30 [41, 3, 0, 0, 0, 0]) []
        ∧ (pushW .reclosing .empty).job.oven = some (telW 6 2 30 [41, 3, 0, 0, 0, 0]).oven
        ∧ (pushW .reclosing .empty).job.state = .reclosing ∧ thirtyEntries (pushW .reclosing .empty))
      ∧ nothingWaits cW = true ∧ ovenIndex cW 43 = none ∧ ovenIndex cW 40 = none := by decide

/-- A SEED of oven 42 during a push of oven 41, its doors on or off; and one of oven 41 with a job in BIDDING. -/
theorem witness_SeedTaken_push :
    (∀ x ∈ [1, 3, 7], ∀ off ∈ [true, false],
      let t := telW 6 2 30 [42, x, 15, 255, 9, 96]
      let c := withHead t { pushW .pushing .pushing with doors := { cW.doors with doors :=
        [doorW, doorW, { doorW with state := if off then .removed else .tight }, doorW] } }
      Hands c .seed t [] ∧ ovenIndex c t.oven = some 1 ∧ (ovenAt c 1).isSome = true ∧ jobIndex c = some 0
        ∧ t.at 1 = x ∧ roomFor 2 c ∧ anyRemoved c 1 = off)
      ∧ (let t := telW 6 2 30 [41, 3, 15, 255, 9, 96]
        let c := withHead t (pushW .bidding .coking)
        Hands c .seed t [] ∧ ovenIndex c t.oven = some 0 ∧ c.job.state = .bidding ∧ roomFor 2 c) := by decide

theorem witness_ClearAndInhibitTaken :
    (∀ code ∈ [1, 2], Hands (withHead (telW 6 3 30 [41, code]) (phaseW .sticker)) .clear (telW 6 3 30 [41, code]) []
        ∧ (phaseW .sticker).job.oven = none ∧ ovenIndex (phaseW .sticker) (telW 6 3 30 [41, code]).oven = some 0
        ∧ ovenAt (phaseW .sticker) 0 = some { ovenW with phase := .sticker } ∧ anyRemoved (phaseW .sticker) 0 = false
        ∧ nothingWaits (withHead (telW 6 3 30 [41, code]) (phaseW .sticker)) = true)
      ∧ (ovenAt (phaseW .empty) 0).map (·.phase) = some .empty
      ∧ (∀ b ∈ [true, false], ∀ code ∈ [1, 2],
        Hands (withHead (telW 6 4 30 [41, code]) (claimingW b)) .inhibit (telW 6 4 30 [41, code]) []
          ∧ ovenAt (claimingW b) 0 = some { ovenW with inhibited := b })
      ∧ cW.job.oven = none ∧ ovenIndex cW 43 = none ∧ roomFor 1 (withHead (telW 6 4 30 [41, 1]) cW)
        ∧ nothingWaits (withHead (telW 6 4 30 [43, 1]) cW) = true := by decide

/-- CLEAR STICKER for the oven of a RECLOSING job and for one outside the section, and an INHIBIT SET in CLAIMED and DOORS, with
a door off and with none, and in the states in which the job goes on. -/
theorem witness_ClearAndInhibitTaken_job :
    (let c := { pushW .reclosing .sticker with doors := cW.doors };
      Hands (withHead (telW 6 3 30 [41, 1]) c) .clear (telW 6 3 30 [41, 1]) [] ∧ jobIndex c = some 0 ∧ c.job.state = .reclosing
        ∧ phaseAt c 0 = some .sticker ∧ anyRemoved c 0 = false ∧ isActive c = true ∧ roomFor 1 c)
      ∧ (∀ code ∈ [1, 2], Hands (withHead (telW 6 3 30 [43, code]) cW) .clear (telW 6 3 30 [43, code]) []
        ∧ nothingWaits (withHead (telW 6 3 30 [43, code]) cW) = true ∧ ovenIndex cW (telW 6 3 30 [43, code]).oven = none)
      ∧ ∀ s ∈ [JobState.claimed, .doors, .staged, .permitted, .pushing, .held, .reclosing],
        Hands (withHead (telW 6 4 30 [41, 1]) (pushW s .isolated)) .inhibit (telW 6 4 30 [41, 1]) []
          ∧ (pushW s .isolated).job.oven = some (telW 6 4 30 [41, 1]).oven ∧ (pushW s .isolated).job.state = s
          ∧ (ovenAt (pushW s .isolated) 0).map (·.inhibited) = some false ∧ thirtyEntries (pushW s .isolated)
          ∧ anyRemoved (pushW s .isolated) 0 = true ∧ anyRemoved { pushW s .isolated with doors := cW.doors } 0 = false := by decide

theorem witness_PlanAndMaskTaken :
    (Hands (withHead (telW 6 1 30 [2, 88, 64, 2, 88]) cW) .plan (telW 6 1 30 [2, 88, 64, 2, 88]) [] ∧ thirtyEntries cW
        ∧ (telW 6 1 30 [2, 88, 64, 2, 88]).at2 0 = 600 ∧ (telW 6 1 30 [2, 88, 64, 2, 88]).at2 3 = 600)
      ∧ (Hands (withHead (telW 6 5 30 [0, 0, 0, 0]) eventW) .mask (telW 6 5 30 [0, 0, 0, 0]) [] ∧ eventW.events.queued = true
        ∧ eventW.job.owed = none ∧ ∀ j, 1 ≤ j → j ≤ 30 → 0 < (eventW.events.entry j).count → kindEnabled 0 j = false)
      ∧ ({ eventW with events := { eventW.events with queued := false } } : Controller).events.queued = false
        ∧ isActive eventW = true ∧ roomFor 2 eventW ∧ 0 < (eventW.events.entry 30).count ∧ kindEnabled 0x00000004 30 = true :=
  ⟨by decide, ⟨by decide, by decide, by decide, fun j _ _ _ => by simp [kindEnabled]⟩, by decide⟩

theorem witness_PlanAndMaskTaken_counts : CountersInv (withHead (telW 6 1 30 [1, 244, 65, 0, 180]) cW) :=
  countersInv_of _ (by unfold Oven.countersRight; decide) rfl (by decide)

theorem witness_PhaseAndMainHeard :
    (∀ code ∈ [0, 7, 8], Hands (withHead (telW 5 1 5 [40, code, 15, 255, 0]) cW) .phase (telW 5 1 5 [40, code, 15, 255, 0]) []
        ∧ nothingWaits (withHead (telW 5 1 5 [40, code, 15, 255, 0]) cW) = true
        ∧ (telW 5 1 5 [40, code, 15, 255, 0]).at 1 = code)
      ∧ Hands (withHead (telW 5 2 5 [128, 0]) cW) .main (telW 5 2 5 [128, 0]) []
        ∧ nothingWaits (withHead (telW 5 2 5 [128, 0]) cW) = true := by decide

/-- A BID of station 11 in an open round of station 6's own bid, sent or not. -/
def bidW (sent : Bool) : Controller :=
  { withHead (telW 4 197 11 [85, 4, 0]) cW with
    job := { Job.idleRecord with state := .bidding }
    round := ⟨true, 700, some 39462, sent, []⟩ }

theorem witness_BidTaken :
    (Hands (withHead (telW 4 197 11 [85, 4, 0]) cW) .bid (telW 4 197 11 [85, 4, 0]) [] ∧ cW.round.opened = false
        ∧ nothingWaits (withHead (telW 4 197 11 [85, 4, 0]) cW) = true)
      ∧ (Hands (bidW true) .bid (telW 4 197 11 [85, 4, 0]) [] ∧ (bidW true).round.opened = true ∧ nothingWaits (bidW true) = true
        ∧ (bidW true).round.ownSent = true)
      ∧ (Hands (bidW false) .bid (telW 4 197 11 [85, 4, 0]) [] ∧ (bidW false).job.state = .bidding
        ∧ (bidW false).round.ownSent = false ∧ (bidW false).round.ownBid = some 39462
        ∧ (telW 4 197 11 [85, 4, 0]).ident < 39462)
      ∧ ([⟨11, 85, 39083⟩, ⟨17, 131, 39089⟩] : List Bid).length ≤ 16
        ∧ ([⟨11, 85, 39083⟩, ⟨17, 131, 39089⟩] : List Bid).Pairwise (fun x y => x.ident ≤ y.ident)
        ∧ ([⟨11, 85, 39083⟩, ⟨17, 131, 39089⟩] : List Bid).Pairwise (fun x y => x.src ≠ y.src) := by decide

/-- A CLAIM of station 11, identifier 22699, taken with a job in a state and the own claim of the given identifier. -/
def foreignW (s : JobState) (own : Nat) : Controller :=
  { withHead (telW 2 197 11 [85, 4, 0]) cW with job := { jobW s with ownClaim := some own } }

theorem witness_ClaimTaken :
    (∀ s ∈ [JobState.idle, .bidding, .claiming, .claimed, .doors], ∀ own ∈ [22699, 22700],
      Hands (foreignW s own) .claim (telW 2 197 11 [85, 4, 0]) [] ∧ nothingWaits (foreignW s own) = true
        ∧ (foreignW s own).held.claim = none ∧ (foreignW s own).round.opened = false ∧ (foreignW s own).job.state = s
        ∧ (foreignW s own).job.ownClaim = some own ∧ (foreignW s own).job.oven = some 41 ∧ ovenIndex (foreignW s own) 41 = some 0
        ∧ ovenAt (foreignW s own) 0 = some ovenW ∧ anyRemoved (foreignW s own) 0 = false ∧ thirtyEntries (foreignW s own))
      ∧ (telW 2 197 11 [85, 4, 0]).ident = 22699
      ∧ ({ foreignW .bidding 0 with round := ⟨true, 700, some 39462, true, []⟩ } : Controller).round.opened = true := by decide

/-- A holder of a less and of a more urgent claim than 22699, and station 11 as the holder. -/
theorem witness_ClaimTaken_record :
    ∀ k ∈ [(⟨12, 86, 22700⟩ : HeldClaim), ⟨12, 86, 22698⟩, ⟨11, 86, 22698⟩],
      let c := { foreignW .idle 0 with held := ⟨some k, 3, 45, none, none⟩ }
      Hands c .claim (telW 2 197 11 [85, 4, 0]) [] ∧ nothingWaits c = true ∧ c.held.claim = some k
        ∧ (k.holder = (telW 2 197 11 [85, 4, 0]).src ∨ (telW 2 197 11 [85, 4, 0]).ident < k.ident
          ∨ k.ident ≤ (telW 2 197 11 [85, 4, 0]).ident) := by decide

/-- R63: a CLAIM taken with a door of the job oven off. -/
theorem witness_ClaimTaken_beyond :
    ∀ s ∈ [JobState.claimed, .doors, .staged, .permitted, .pushing, .held, .reclosing], ∀ own ∈ [22699, 22700],
      let c := { pushW s .isolated with
        job := { (jobW s).enter s with ownClaim := some own }
        line := (foreignW s own).line }
      Hands c .claim (telW 2 197 11 [85, 4, 0]) [] ∧ nothingWaits c = true ∧ c.held.claim = none ∧ c.round.opened = false
        ∧ c.job.ownClaim = some own ∧ c.job.oven = some 41 ∧ ovenIndex c 41 = some 0 ∧ c.job.state = s ∧ anyRemoved c 0 = true := by
  decide

/-- Station 6 holds the claim of station 11 for oven 85; its age has reached the limit where it is due to expire. -/
def holdingW (d : Due) : Controller := { cW with held := ⟨some ⟨11, 85, 22699⟩, 45, 45, none, none⟩, due := d }

/-- Station 6 after that claim has expired. -/
def expiredW : Controller := { cW with held := ⟨none, 0, 45, some 11, some 85⟩ }

theorem witness_HeldClaimEnds :
    (∀ p ∈ [telW 3 1 11 [85, 1], telW 3 1 11 [84, 1], telW 3 1 12 [85, 1]],
      Hands (withHead p (holdingW Due.nothing)) .release p [] ∧ nothingWaits (withHead p (holdingW Due.nothing)) = true
        ∧ (holdingW Due.nothing).held.claim = some ⟨11, 85, 22699⟩)
      ∧ (Hands (withHead (telW 3 1 11 [85, 1]) expiredW) .release (telW 3 1 11 [85, 1]) [] ∧ expiredW.held.claim = none
        ∧ expiredW.held.expHolder = some (telW 3 1 11 [85, 1]).src ∧ expiredW.held.expOven = some (telW 3 1 11 [85, 1]).oven
        ∧ thirtyEntries expiredW ∧ nothingWaits (withHead (telW 3 1 11 [85, 1]) expiredW) = true)
      ∧ Hands (withHead (telW 3 2 11 [85, 1]) (holdingW Due.nothing)) .permit (telW 3 2 11 [85, 1]) []
      ∧ Hands (withHead (telW 3 3 11 [85]) (holdingW Due.nothing)) .call (telW 3 3 11 [85]) []
      ∧ (holdingW { Due.nothing with claimExpired := true }).start.powerOn = false
        ∧ (holdingW { Due.nothing with claimExpired := true }).due.claimExpired = true
        ∧ thirtyEntries (holdingW { Due.nothing with claimExpired := true }) := by decide

/-- The premises of the invariant of a call: a call that stands, and a step that answers next. -/
theorem witness_CallKept :
    (carW .staged .sent false).track.call.step ≠ .none ∧ CallInv (carW .staged .sent false)
      ∧ step ⟨[.lineIdle], carW .staged .sent false⟩ = .next ⟨[], carW .staged .sent false⟩ :=
  ⟨by decide, fun _ => ⟨by decide, 41, by decide, by decide⟩, rfl⟩

end Sys2Proof.Tests
end

section
/-! SUPPORT. The pushing order: when an oven is eligible (R45) and when the series rule holds for it (R46), one
equivalence for each function of the model that takes part in the evaluation. -/

namespace Sys2Proof.Machine

open Sys2Proof

/-! ## The series rule (R46) -/

/-- The two passing rows of R46's table. -/
theorem seriesPasses_iff {nmin minutes : Nat} {p : Phase} :
    seriesPasses nmin p minutes = true ↔ p = .coking ∧ nmin ≤ minutes ∨ p = .sticker := by
  simp [seriesPasses]

/-- A neighbour inside the section passes by its oven record, which must be there. -/
theorem ownPasses_iff {c : Controller} {i : Nat} :
    ownPasses c i = true ↔ ∃ o, ovenAt c i = some o
      ∧ (o.phase = .coking ∧ c.table.nmin ≤ o.minutes ∨ o.phase = .sticker) := by
  simp only [ownPasses, Option.any_eq_true, seriesPasses_iff]

/-- A neighbour across the section boundary: an absent record asks nothing, an unknown one fails. -/
theorem recordPasses_iff {c : Controller} {r : Option Neighbour} :
    recordPasses c r = true ↔ ∀ n, r = some n →
      n.known = true ∧ (n.heard = .coking ∧ c.table.nmin ≤ n.minutes ∨ n.heard = .sticker) := by
  cases r with
  | none => simp [recordPasses]
  | some n => simp [recordPasses, seriesPasses_iff]

/-- The same under a condition on the oven's place in the section. -/
theorem imp_recordPasses_iff {place : Prop} {c : Controller} {r : Option Neighbour} :
    (place → recordPasses c r = true) ↔ ∀ n, place → r = some n →
      n.known = true ∧ (n.heard = .coking ∧ c.table.nmin ≤ n.minutes ∨ n.heard = .sticker) :=
  (imp_congr_right fun _ => recordPasses_iff).trans forall_comm

/-- Each side is checked once: below by the oven record before this one, or at index 0 by the BELOW record; above by the
oven record after it, or at the last index by the ABOVE record. -/
theorem seriesRule_iff {c : Controller} {i : Nat} :
    seriesRule c i = true ↔
      (0 < i → ownPasses c (i - 1) = true) ∧ (i = 0 → recordPasses c c.table.below = true)
      ∧ (i + 1 < c.table.ovens.length → ownPasses c (i + 1) = true)
      ∧ (c.table.ovens.length ≤ i + 1 → recordPasses c c.table.above = true) := by
  simp only [seriesRule, Bool.and_eq_true, ← and_assoc (a := 0 < i → _)]
  refine and_congr ?below ?above
  case below =>
    by_cases hfirst : i = 0
    · simp [hfirst]
    · simp [hfirst, Nat.pos_of_ne_zero hfirst]
  case above =>
    by_cases hinner : i + 1 < c.table.ovens.length
    · simp [hinner, Nat.not_le.mpr hinner]
    · simp [hinner, Nat.le_of_not_lt hinner]

/-! ## The oven's own record and its doors (R45) -/

/-- What R45 asks of the oven record itself. -/
theorem Oven.ready_iff {o : Oven} :
    o.ready = true ↔ o.phase = .coking ∧ o.target - o.allowance ≤ o.minutes ∧ o.inhibited = false
      ∧ o.hardCount < 15 ∧ o.stuck = false := by
  simp [Oven.ready, and_assoc]

/-- A door record that is there and TIGHT or LEAKING, as `bothSettled` asks of each of the two. -/
theorem doorSettled_iff {d : Option DoorState} :
    d.any (fun s => s == .tight || s == .leaking) = true ↔ d = some .tight ∨ d = some .leaking := by
  cases d with
  | none => simp
  | some s => simp

/-- R45 asks it of both door records of the oven. -/
theorem bothSettled_iff {c : Controller} {i : Nat} :
    bothSettled c i = true ↔ (doorAt c (2 * i) = some .tight ∨ doorAt c (2 * i) = some .leaking)
      ∧ (doorAt c (2 * i + 1) = some .tight ∨ doorAt c (2 * i + 1) = some .leaking) := by
  simp only [bothSettled, Bool.and_eq_true, doorSettled_iff]

/-! ## The conditions of eligibility -/

/-- The evaluation by its parts. -/
theorem eligible_iff {c : Controller} {i : Nat} :
    eligible c i = true ↔
      (∃ o, ovenAt c i = some o ∧ o.ready = true) ∧ bothSettled c i = true ∧ seriesRule c i = true := by
  simp only [eligible, Bool.and_eq_true, Option.any_eq_true, and_assoc]

/-- Settles O45: each part of the evaluation says its share of R45's list. -/
theorem eligibleOvens : Obligations.EligibleOvens := by
  intro c i
  rw [eligible_iff, bothSettled_iff, seriesRule_iff, imp_recordPasses_iff, imp_recordPasses_iff]
  simp only [Oven.ready_iff, ownPasses_iff, ← exists_and_right, and_assoc]

end Sys2Proof.Machine
end

section
/-! SUPPORT. The debounce of the door inputs (R119, R120): what one 10 ms tick makes of the two input lists, and how many
differing samples in a row an input takes. -/

namespace Sys2Proof.Machine

open Sys2Proof

/-! ## One tick (R119) -/

/-- Each input takes the sample of its own channel. -/
@[simp] theorem getElem?_sampleInputs (levels : BitVec 16) (l : List DoorInput) (ch : Nat) :
    (sampleInputs levels l)[ch]? = (l[ch]?).map (DoorInput.sample (levels.getLsbD ch)) := by
  simp [sampleInputs]

/-- The tick samples the present inputs; neither the forming of the door records nor the other timers touch them. -/
@[simp] theorem tickBase_presentIn (present latched : BitVec 16) (c : Controller) :
    (tickBase present latched c).doors.presentIn = sampleInputs present c.doors.presentIn := by
  simp [tickBase, doorTick]

/-- The same for the latched inputs. -/
@[simp] theorem tickBase_latchedIn (present latched : BitVec 16) (c : Controller) :
    (tickBase present latched c).doors.latchedIn = sampleInputs latched c.doors.latchedIn := by
  simp [tickBase, doorTick]

/-- On a ready controller the tick's work is followed only by what is offered to a free place. -/
theorem exec_tick10ms_of_ready {q : List Instr} {c : Controller} (present latched : BitVec 16) (h : Ready c) :
    exec (.tick10ms present latched) ⟨q, c⟩ = .next ⟨q, freePlace (tickBase present latched c)⟩ :=
  act_of_ready h

/-! ## Samples in a row (R120) -/

/-- A sample equal to the accepted value starts the count again. -/
theorem DoorInput.sample_equal (a : Bool) (run : Nat) : DoorInput.sample a ⟨some a, run⟩ = ⟨some a, 0⟩ := by
  simp [DoorInput.sample]

/-- A differing sample is accepted where the run count was already 4. -/
theorem DoorInput.sample_differing_at_four (a : Bool) : DoorInput.sample (!a) ⟨some a, 4⟩ = ⟨some (!a), 0⟩ := by
  simp [DoorInput.sample]

/-- Before that it raises the run count. -/
theorem DoorInput.sample_differing_before_four {run : Nat} (a : Bool) (h : run ≠ 4) :
    DoorInput.sample (!a) ⟨some a, run⟩ = ⟨some a, run + 1⟩ := by
  simp [DoorInput.sample, h]

/-- Where `n + 1` differing samples are missing, so many samples or fewer are accepted only if they are just these. -/
theorem accepted_foldl_sample (a : Bool) (xs : List Bool) {run n : Nat} (hrun : run + n = 4) (hlen : xs.length ≤ n + 1) :
    (xs.foldl (fun i x => DoorInput.sample x i) ⟨some a, run⟩).accepted
      = some (if xs = List.replicate (n + 1) (!a) then !a else a) := by
  induction xs generalizing run n with
  | nil => simp [List.replicate_succ]
  | cons x xs ih =>
    have hshort : xs.length ≤ n := by simpa using hlen
    obtain rfl | rfl : x = a ∨ x = !a := by cases x <;> cases a <;> simp
    · -- the count starts again, and what is left is too short to reach five
      have hrest : xs ≠ List.replicate (4 + 1) (!x) := by
        intro h
        simp [h] at hshort
        omega
      rw [List.foldl_cons, DoorInput.sample_equal, ih (Nat.zero_add 4) (by omega), if_neg hrest]
      simp [List.replicate_succ]
    · cases n with
      | zero =>
        obtain rfl : run = 4 := hrun
        obtain rfl : xs = [] := List.length_eq_zero_iff.mp (Nat.le_zero.mp hshort)
        simp [DoorInput.sample_differing_at_four]
      | succ n =>
        rw [List.foldl_cons, DoorInput.sample_differing_before_four a (by omega), ih (by omega) hshort]
        simp [List.replicate_succ]

/-- Settles O13: the tick hands each input the sample of its channel, and five differing ones are what it takes from a
run count of 0. -/
theorem inputsDebounced : Obligations.InputsDebounced := by
  refine ⟨fun q c p l ch i hready => ⟨_, exec_tick10ms_of_ready p l hready, ?present, ?latched⟩, fun a xs hlen => ?samples⟩
  case present =>
    intro hi
    have hnext : (freePlace (tickBase p l c)).doors.presentIn[ch]? = some (DoorInput.sample (p.getLsbD ch) i) := by simp [hi]
    exact hnext
  case latched =>
    intro hi
    have hnext : (freePlace (tickBase p l c)).doors.latchedIn[ch]? = some (DoorInput.sample (l.getLsbD ch) i) := by simp [hi]
    exact hnext
  case samples => exact accepted_foldl_sample a xs (Nat.zero_add 4) hlen

end Sys2Proof.Machine
end

section
/-! SUPPORT. What a step is made of. `Move` names the small changes that every command is composed of, each under the condition
the model's code establishes at that place; `Moves` is a run of them. The work of each block is shown once to be a run of moves,
so that an invariant is proved by looking at the moves alone. -/

-- The lemmas are checked one after another, as the tests are.
set_option Elab.async false

namespace Sys2Proof.Machine

open Sys2Proof

/-! ## The small changes -/

/-- A door record changes state: the effects of R128 before the push job is told. -/
def doorMoved (ch : Nat) (old new : DoorState) (c : Controller) : Controller :=
  let i := ch / 2
  let was := anyRemoved c i
  let c := modifyDoor ch (Door.changed new) c
  let c := countConflict ch c
  let c := if new = .removed then countUnauthorised ch c else c
  let now := anyRemoved c i
  let c := if !was && now then forceClose i c else if was && !now then followPhase i c else c
  let c := if new = .checking then scanEntersChecking ch c else c
  if old.latchedState && !new.latchedState then scanLeaves ch c else c

theorem changeDoor_eq (ch : Nat) (old new : DoorState) (c : Controller) :
    changeDoor ch old new c = jobOnDoor (ch / 2) new (doorMoved ch old new c) := rfl

/-- Entry to RECLOSING before the doors are looked at (R89). -/
def reclosingEntered (c : Controller) : Controller :=
  c |> enterJob .reclosing |> stopHold |> withdrawKind .permit |> dropCall

theorem enterReclosing_eq (c : Controller) : enterReclosing c = checkReclosing (reclosingEntered c) := rfl

/-- The station becomes ACTIVE, before the blocks take up their part (R197). -/
def activated (c : Controller) : Controller := modifyStart (fun u => { u with line := .active, listen := none }) c

/-- c with the given push job record. -/
def withJob (j : Job) (c : Controller) : Controller := { c with job := j }

/-- c with the given call. -/
def withCall (k : Call) (c : Controller) : Controller := { c with track := { c.track with call := k } }

/-- c with the given oven records. -/
def withOvens (l : List Oven) (c : Controller) : Controller := { c with table := { c.table with ovens := l } }

/-- c with the given door records. -/
def withDoors (l : List Door) (c : Controller) : Controller := { c with doors := { c.doors with doors := l } }

/-- The ages of the three machine records lie within 0..60 (R104). -/
def Tracker.agesRight (k : Tracker) : Prop := k.pusher.age ≤ 60 ∧ k.guide.age ≤ 60 ∧ k.car.age ≤ 60

/-- The main age and invalid count lie within their ranges (R161, R163). -/
def MainRecord.countersRight (m : MainRecord) : Prop := m.age ≤ 60 ∧ m.invalid ≤ 255

/-- The event table has thirty entries, each count within 0..255 (R187). -/
def EntriesRight (l : List EventEntry) : Prop := l.length = 30 ∧ ∀ e ∈ l, e.count ≤ 255

/-- A change beside the push job, the call, the ovens, the doors, the events counted and the station line state: it keeps what
the invariants say of the fields it may touch. -/
structure Aside (c d : Controller) : Prop where
  powerOn : d.start.powerOn = c.start.powerOn := by rfl
  restart : d.start.restart = c.start.restart := by rfl
  line : d.start.line = c.start.line := by rfl
  config : d.start.config = c.start.config := by rfl
  reading : d.start.reading = c.start.reading := by rfl
  loadDue : d.due.loadComplete = c.due.loadComplete := by rfl
  job : d.job = c.job := by rfl
  call : d.track.call = c.track.call := by rfl
  ovens : d.table.ovens = c.table.ovens := by rfl
  doors : d.doors.doors = c.doors.doors := by rfl
  entries : EntriesRight c.events.entries → EntriesRight d.events.entries := by exact id
  number : d.line.number = c.line.number := by rfl
  rx : c.line.rx.length ≤ 4 → d.line.rx.length ≤ 4 := by exact id
  tx : (d.line.tx.map (·.tel)).Sublist (c.line.tx.map (·.tel)) := by exact List.Sublist.refl _
  round : RoundInv c → RoundInv d := by exact id
  held : c.held.age ≤ 90 → d.held.age ≤ 90 := by exact id
  scan : c.scan.count ≤ 65535 → d.scan.count ≤ 65535 := by exact id
  ages : c.track.agesRight → d.track.agesRight := by exact id
  main : c.reg.main.countersRight → d.reg.main.countersRight := by exact id
  below : (∀ n, c.table.below = some n → n.countersRight) → ∀ n, d.table.below = some n → n.countersRight := by exact id
  above : (∀ n, c.table.above = some n → n.countersRight) → ∀ n, d.table.above = some n → n.countersRight := by exact id

/-- The push job record j may take the place of c's in a state it enters: not IDLE, the outputs following it (R72). The states
that assert an output are entered only where the station receives, and a call stands for the oven as before. -/
structure Enters (c : Controller) (j : Job) : Prop where
  busy : j.state ≠ .idle
  permit : j.permitOut = (j.state == .permitted || j.state == .pushing)
  hold : j.holdOut = (j.state == .held)
  runs : j.state = .permitted ∨ j.state = .pushing ∨ j.state = .held → receiving c = true
  call : (j.state.claimedToHeld = true ∧ j.oven = c.job.oven) ∨ c.job.state.claimedToHeld = false
  counts : c.job.minutes ≤ 255 ∧ c.job.holdSecs ≤ 300 → j.minutes ≤ 255 ∧ j.holdSecs ≤ 300

/-- The push job record j may take the place of c's within its state, which is not IDLE. -/
structure StaysIn (c : Controller) (j : Job) : Prop where
  busy : c.job.state ≠ .idle
  state : j.state = c.job.state := by rfl
  permit : j.permitOut = c.job.permitOut := by rfl
  hold : j.holdOut = c.job.holdOut := by rfl
  oven : j.oven = c.job.oven := by rfl
  counts : c.job.minutes ≤ 255 ∧ c.job.holdSecs ≤ 300 → j.minutes ≤ 255 ∧ j.holdSecs ≤ 300 := by exact id

/-- A call that stands in k is the one that stands in c, or is for the oven of a job in CLAIMED to HELD (R106). -/
def CallFor (c : Controller) (k : Call) : Prop :=
  k.step ≠ .none → (c.track.call.step ≠ .none ∧ k.oven = c.track.call.oven)
    ∨ (c.job.state.claimedToHeld = true ∧ ∃ n, c.job.oven = some n ∧ k.oven = some n)

/-- The oven record o may become o': what the invariants say of it is kept. -/
structure OvenStep (g : Config) (o o' : Oven) : Prop where
  valve : ValveLimits g → ∀ r, o.valveRight r → o'.valveRight r
  counts : o.countersRight → o'.countersRight

/-- The door records l may take the place of c's: none comes off or is put back, and the counters stay right. -/
structure DoorStep (c : Controller) (l : List Door) : Prop where
  removed : ∀ ch, (l[ch]?).map (·.state) = some .removed ↔ doorAt c ch = some .removed
  counts : c.scan.count ≤ 65535 → (∀ d ∈ c.doors.doors, d.countersRight) → ∀ d ∈ l, d.countersRight

/-- The small changes that the commands are composed of. -/
inductive Move : Controller → Controller → Prop where
  | count (k : EventKind) (first : Option Nat) (c : Controller) : Move c (count k first c)
  | offer (t : Telegram) (c : Controller) (own : t.src = ownNumber c) : Move c (offer t c)
  | offerEvent (c : Controller) : Move c (offerEvent c)
  | withdraw (p : Telegram → Bool) (c : Controller) : Move c (withdraw p c)
  | aside {c d : Controller} (h : Aside c d) : Move c d
  | owes (w : Option OwedRelease) (c : Controller) : Move c (withJob { c.job with owed := w } c)
  | enters {c : Controller} {j : Job} (h : Enters c j) : Move c (withJob j c)
  | stays {c : Controller} {j : Job} (h : StaysIn c j) : Move c (withJob j c)
  | idles {c : Controller} (h : c.job.state.claimedToHeld = false ∨ c.track.call.step = .none) : Move c (idleJob c)
  | recloses (c : Controller) : Move c (reclosingEntered c)
  | call {c : Controller} {k : Call} (h : CallFor c k) : Move c (withCall k c)
  | ovens {c : Controller} {l : List Oven}
      (h : ∀ i o', l[i]? = some o' → ∃ o, ovenAt c i = some o ∧ OvenStep (cfg c) o o') : Move c (withOvens l c)
  | setPhase (i : Nat) (p : Phase) (c : Controller) : Move c (setPhase i p c)
  | doors {c : Controller} {l : List Door} (h : DoorStep c l) : Move c (withDoors l c)
  | door {c : Controller} {ch : Nat} {d : Door} (p l : Bool) (hd : c.doors.doors[ch]? = some d)
      (hn : deriveState p l d.state ≠ d.state) : Move c (doorMoved ch d.state (deriveState p l d.state) c)
  | forms {c : Controller} (h : c.doors.doors = []) : Move c (formDoors c)
  | silences {c : Controller} (h : receiving c = true) : Move c (enterSilent c)
  | activates {c : Controller} (h : c.start.line = .listen) : Move c (activated c)

/-- A run of moves. -/
inductive Moves : Controller → Controller → Prop where
  | refl {c : Controller} : Moves c c
  | tail {b c d : Controller} (h : Moves b c) (m : Move c d) : Moves b d

/-- What each move keeps, a run of moves keeps. -/
theorem Moves.keeps {P : Controller → Prop} (hP : ∀ {c d}, Move c d → P c → P d) {c d : Controller} (h : Moves c d)
    (hc : P c) : P d := by
  induction h with
  | refl => exact hc
  | tail _ hm ih => exact hP hm ih

/-! ## What the moves leave to the job -/

/-- From c to d the push job and the call stay but for what an offer can do to them. -/
structure JobStays (c d : Controller) : Prop where
  start : d.start = c.start
  job : c.job.state ≠ .bidding → d.job = { c.job with owed := d.job.owed }
  call : d.track.call = { c.track.call with queued := d.track.call.queued }

namespace JobStays

variable {b c d : Controller}

theorem refl (c : Controller) : JobStays c c := ⟨rfl, fun _ => rfl, rfl⟩

theorem trans (h : JobStays b c) (k : JobStays c d) : JobStays b d where
  start := k.start.trans h.start
  job hb := by
    have hc := h.job hb
    have hcb : c.job.state ≠ .bidding := by rw [hc]; exact hb
    rw [k.job hcb, hc]
  call := by rw [k.call, h.call]

theorem of_offers (h : OnlyOffers c d) : JobStays c d where
  start := h.start
  job hb := h.job.resolve_right fun k => hb k.1
  call := by rw [h.track]

theorem state (h : JobStays c d) (hb : c.job.state ≠ .bidding) : d.job.state = c.job.state := by rw [h.job hb]

theorem oven (h : JobStays c d) (hb : c.job.state ≠ .bidding) : d.job.oven = c.job.oven := by rw [h.job hb]

theorem step (h : JobStays c d) : d.track.call.step = c.track.call.step := by rw [h.call]

theorem receiving (h : JobStays c d) : receiving d = receiving c := by simp [Machine.receiving, h.start]

theorem setPhase (i : Nat) (p : Phase) (c : Controller) : JobStays c (setPhase i p c) := by
  have h := of_offers (OnlyOffers.setPhase i p c)
  exact ⟨h.start, h.job, h.call⟩

theorem settlePhase (i : Nat) (c : Controller) : JobStays c (settlePhase i c) := by
  unfold Machine.settlePhase
  split
  · split
    · exact refl c
    · exact setPhase i _ c
  · exact refl c

theorem modifyOven (i : Nat) (f : Oven → Oven) (c : Controller) : JobStays c (modifyOven i f c) := ⟨rfl, fun _ => rfl, rfl⟩

theorem count (k : EventKind) (first : Option Nat) (c : Controller) : JobStays c (count k first c) :=
  of_offers (.count k first c)

theorem ite {p : Prop} [Decidable p] {x y : Controller} (hx : p → JobStays c x) (hy : ¬p → JobStays c y) :
    JobStays c (if p then x else y) := by
  split
  · exact hx ‹_›
  · exact hy ‹_›

theorem tablePushEnd (i n force : Nat) (completed : Bool) (c : Controller) :
    JobStays c (tablePushEnd i n force completed c) := by
  simp only [Machine.tablePushEnd]
  have hhard : JobStays c (if (cfg c).hardPush ≤ force then
      Machine.count .hardPush (some n) (Machine.modifyOven i (fun o => { o with hardCount := min 15 (o.hardCount + 1) }) c)
      else c) :=
    ite (fun _ => (modifyOven i _ c).trans (count _ _ _)) fun _ => refl c
  refine hhard.trans ?_
  generalize (if (cfg c).hardPush ≤ force then _ else c) = m
  split
  · exact ite (fun _ => (modifyOven i _ m).trans (setPhase i _ _)) fun _ => (setPhase i _ m).trans (count _ _ _)
  · exact ite (fun _ => (modifyOven i _ m).trans (setPhase i _ _)) fun _ => count _ _ m
  · exact refl m

end JobStays

/-- Whether the station receives is read from the start-up record alone. -/
theorem receiving_congr {c d : Controller} (h : d.start = c.start) : receiving d = receiving c := by simp [receiving, h]

/-! ## Offers and withdrawals -/

/-- A withdrawal leaves the station number. -/
theorem ownNumber_withdraw (p : Telegram → Bool) (c : Controller) : ownNumber (withdraw p c) = ownNumber c := by
  simp [ownNumber]

namespace Moves

variable {b c : Controller}

theorem move (h : Moves b c) {d : Controller} (m : Move c d) : Moves b d := h.tail m

theorem count (h : Moves b c) (k : EventKind) (first : Option Nat) : Moves b (count k first c) := h.move (.count k first c)

theorem offer (h : Moves b c) {t : Telegram} (own : t.src = ownNumber c) : Moves b (offer t c) := h.move (.offer t c own)

theorem offerEvent (h : Moves b c) : Moves b (offerEvent c) := h.move (.offerEvent c)

theorem withdraw (h : Moves b c) (p : Telegram → Bool) : Moves b (withdraw p c) := h.move (.withdraw p c)

theorem aside (h : Moves b c) {d : Controller} (k : Aside c d) : Moves b d := h.move (.aside k)

theorem setPhase (h : Moves b c) (i : Nat) (p : Phase) : Moves b (setPhase i p c) := h.move (.setPhase i p c)

theorem withdrawKind (h : Moves b c) (k : Kind) : Moves b (withdrawKind k c) := h.withdraw _

theorem withdrawHalt (h : Moves b c) (n : Nat) : Moves b (withdrawHalt n c) := h.withdraw _

theorem queuePhase (h : Moves b c) (i : Nat) : Moves b (queuePhase i c) := by
  unfold Machine.queuePhase
  split
  · exact h.offer rfl
  · exact h

theorem ite {p : Prop} [Decidable p] {x y : Controller} (hx : p → Moves b x) (hy : ¬p → Moves b y) :
    Moves b (if p then x else y) := by
  split
  · exact hx ‹_›
  · exact hy ‹_›

theorem offerPermit (h : Moves b c) (n code : Nat) : Moves b (offerPermit n code c) :=
  (h.withdrawKind .permit).offer (ownNumber_withdraw _ c).symm

theorem offerHalt (h : Moves b c) (n : Nat) : Moves b (offerHalt n c) :=
  (h.withdrawKind .permit).offer (ownNumber_withdraw _ c).symm

theorem offerRelease (h : Moves b c) (n : Nat) (o : PushOutcome) : Moves b (offerRelease n o c) :=
  (h.withdrawKind .permit).offer (ownNumber_withdraw _ c).symm

theorem owes (h : Moves b c) (w : Option OwedRelease) : Moves b { c with job := { c.job with owed := w } } :=
  h.move (.owes w c)

theorem offerOwed (h : Moves b c) : Moves b (offerOwed c) := by
  unfold Machine.offerOwed
  split
  · exact ite (fun _ => (h.owes none).offerRelease _ _) fun _ => h
  · exact h

theorem freePlace (h : Moves b c) : Moves b (freePlace c) := h.offerOwed.offerEvent

end Moves

end Sys2Proof.Machine
end

section
/-! SUPPORT. The work of the quench car call and of the push job, shown to be runs of moves. -/

-- The lemmas are checked one after another, as the tests are.
set_option Elab.async false

namespace Sys2Proof.Machine

open Sys2Proof

/-! ## Facts on the states of a job -/

theorem JobState.ne_idle_of_claimedToHeld {s : JobState} (h : s.claimedToHeld = true) : s ≠ .idle ∧ s ≠ .bidding := by
  cases s <;> simp_all [JobState.claimedToHeld]

theorem JobState.ne_idle_of_beyondClaiming {s : JobState} (h : s.beyondClaiming = true) : s ≠ .idle ∧ s ≠ .bidding := by
  cases s <;> simp_all [JobState.beyondClaiming]

theorem JobState.beyondClaiming_of_claimedToHeld {s : JobState} (h : s.claimedToHeld = true) : s.beyondClaiming = true := by
  cases s <;> simp_all [JobState.claimedToHeld, JobState.beyondClaiming]

theorem beforePermit_claimedToHeld {s : JobState} (h : beforePermit s = true) : s.claimedToHeld = true := by
  cases s <;> simp_all [JobState.claimedToHeld, beforePermit]

/-- A state other than those that assert an output may be entered wherever the call allows it. -/
theorem Enters.quiet {c : Controller} {s : JobState} (hbusy : s ≠ .idle) (hp : s ≠ .permitted) (hq : s ≠ .pushing)
    (hh : s ≠ .held) (hcall : s.claimedToHeld = true ∨ c.job.state.claimedToHeld = false) :
    Enters c (c.job.enter s) where
  busy := hbusy
  permit := rfl
  hold := rfl
  runs h := by simp_all
  call := hcall.imp (⟨·, rfl⟩) id
  counts := id

/-- A state of a push under way is entered where the station receives. -/
theorem Enters.running {c : Controller} {s : JobState} (hs : s.claimedToHeld = true) (hr : receiving c = true) :
    Enters c (c.job.enter s) where
  busy := (JobState.ne_idle_of_claimedToHeld hs).1
  permit := rfl
  hold := rfl
  runs _ := hr
  call := .inl ⟨hs, rfl⟩
  counts := id

/-- A call that keeps its oven, and stands only where it stood. -/
theorem CallFor.kept {c : Controller} {k : Call} (ho : k.oven = c.track.call.oven)
    (hs : c.track.call.step = .none → k.step = .none) : CallFor c k :=
  fun hn => .inl ⟨fun h => hn (hs h), ho⟩

/-- A call that stands no more. -/
theorem CallFor.over {c : Controller} {k : Call} (h : k.step = .none) : CallFor c k := fun hn => (hn h).elim

theorem dropCall_step (c : Controller) : (dropCall c).track.call.step = .none := by
  unfold dropCall
  split
  · assumption
  · rfl

theorem OvenStep.refl (g : Config) (o : Oven) : OvenStep g o o := ⟨fun _ _ => id, id⟩

/-- A change beside the valve that keeps the counters right. -/
theorem OvenStep.beside {g : Config} {o o' : Oven} (hp : o'.phase = o.phase) (hm : o'.mode = o.mode)
    (hc : o'.command = o.command) (hi : o'.integrator = o.integrator) (hcount : o.countersRight → o'.countersRight) :
    OvenStep g o o' where
  valve _ r h := by simpa only [Oven.valveRight, hp, hm, hc, hi] using h
  counts := hcount

theorem startPush_state {c : Controller} (i : Nat) (hb : c.job.state ≠ .bidding) :
    (startPush i c).job.state = c.job.state :=
  (JobStays.setPhase i .pushing (withJob { c.job with started := true } c)).state hb

theorem startPush_receiving (i : Nat) (c : Controller) : receiving (startPush i c) = receiving c :=
  (JobStays.setPhase i .pushing (withJob { c.job with started := true } c)).receiving

namespace Moves

variable {b c : Controller}

/-! ## The quench car call -/

theorem modifyCall (h : Moves b c) {f : Call → Call} (hf : CallFor c (f c.track.call)) : Moves b (modifyCall f c) :=
  h.move (.call hf)

theorem modifyOven (h : Moves b c) (i : Nat) {f : Oven → Oven} (hf : ∀ o, OvenStep (cfg c) o (f o)) :
    Moves b (modifyOven i f c) := by
  refine h.move (.ovens fun j o' hj => ?_)
  rw [List.getElem?_modify] at hj
  obtain ⟨o, ho, rfl⟩ := Option.map_eq_some_iff.mp hj
  refine ⟨o, ho, ?_⟩
  split
  · exact hf o
  · exact .refl _ o

theorem stopTravel (h : Moves b c) : Moves b (stopTravel c) := h.aside {}

theorem offerCall (h : Moves b c) : Moves b (offerCall c) := by
  unfold Machine.offerCall
  split
  · exact (h.modifyCall (.kept rfl id)).offer rfl
  · exact h

theorem dropCall (h : Moves b c) : Moves b (dropCall c) :=
  ite (fun _ => h) fun _ => (h.modifyCall (.over rfl)).stopTravel

theorem arrive (h : Moves b c) : Moves b (arrive c) := (h.modifyCall (.over rfl)).stopTravel

theorem requestCall (h : Moves b c) {n : Nat} (hs : c.job.state.claimedToHeld = true) (hn : c.job.oven = some n) :
    Moves b (requestCall n c) := by
  simp only [Machine.requestCall]
  have hm := h.stopTravel.modifyCall (f := fun k =>
    { k with step := .pending, oven := some n, queued := false, expiries := 0, remaining := 0 })
    fun _ => .inr ⟨hs, n, hn, rfl⟩
  exact ite (fun _ => hm.offerCall) fun _ => hm

theorem callSent (h : Moves b c) (n : Nat) : Moves b (callSent n c) := by
  simp only [Machine.callSent]
  refine ite (fun _ => h) fun _ => ?_
  split
  · exact h
  · exact h.modifyCall (.kept rfl id)
  · next hp =>
    have hm := h.modifyCall (f := fun k => { k with step := .sent, queued := false }) (.kept rfl fun hn => by simp [hn] at hp)
    exact ite (fun _ => hm.arrive) fun _ => hm.modifyCall (.kept rfl id)

theorem callOnQcar (h : Moves b c) : Moves b (callOnQcar c) := by
  unfold Machine.callOnQcar
  split
  · exact h
  · exact ite (fun _ => h.offerCall) fun _ => h
  · exact ite (fun _ => h.arrive) fun _ => ite (fun _ => h.offerCall) fun _ => h

/-! ## Hold, resume and the evaluation -/

theorem enterJob (h : Moves b c) {s : JobState} (hs : Enters c (c.job.enter s)) : Moves b (enterJob s c) :=
  h.move (.enters hs)

theorem stopHold (h : Moves b c) (hb : c.job.state ≠ .idle) : Moves b (stopHold c) :=
  (h.move (.stays (j := { c.job with holdSecs := 0, cause := none })
    { busy := hb, counts := fun hc => ⟨hc.1, Nat.zero_le _⟩ })).aside {}

theorem holdPush (h : Moves b c) (cause : HoldCause) (n : Nat) (hs : c.job.state.claimedToHeld = true)
    (hr : receiving c = true) : Moves b (holdPush cause n c) := by
  simp only [Machine.holdPush]
  have hstop := h.stopHold (JobState.ne_idle_of_claimedToHeld hs).1
  have hrun : receiving (if cause = .condition then Machine.offerHalt n (Machine.stopHold c) else Machine.stopHold c) = true := by
    split <;> simp [Machine.receiving] at hr ⊢ <;> exact hr
  have hm : Moves b (if cause = .condition then Machine.offerHalt n (Machine.stopHold c) else Machine.stopHold c) :=
    ite (fun _ => hstop.offerHalt n) fun _ => hstop
  generalize (if cause = .condition then Machine.offerHalt n (Machine.stopHold c) else Machine.stopHold c) = m at hm hrun ⊢
  exact (hm.move (.enters (j := { m.job.enter .held with cause := some cause, holdSecs := 0 })
    { Enters.running (s := .held) rfl hrun with counts := fun hc => ⟨hc.1, Nat.zero_le _⟩ })).count _ _

theorem resumePush (h : Moves b c) (n : Nat) (hs : c.job.state.claimedToHeld = true) (hr : receiving c = true) :
    Moves b (resumePush n c) := by
  simp only [Machine.resumePush]
  have hm := ((h.stopHold (JobState.ne_idle_of_claimedToHeld hs).1).withdrawHalt n).offerPermit n permitPushCode
  have hrun : receiving (Machine.offerPermit n permitPushCode (Machine.withdrawHalt n (Machine.stopHold c))) = true := by
    simpa [Machine.receiving] using hr
  exact ite (fun _ => hm.enterJob (.running rfl hrun)) fun _ => hm.enterJob (.running rfl hrun)

theorem evaluateFor (h : Moves b c) (i n : Nat) (hr : receiving c = true) : Moves b (evaluateFor i n c) := by
  unfold Machine.evaluateFor
  split
  · exact ite (fun _ => (h.offerPermit n _).enterJob (.running rfl (by simpa [Machine.receiving] using hr))) fun _ => h
  · next hs => exact ite (fun _ => h) fun _ => h.holdPush _ _ (by simp [hs, JobState.claimedToHeld]) hr
  · next hs => exact ite (fun _ => h) fun _ => h.holdPush _ _ (by simp [hs, JobState.claimedToHeld]) hr
  · next hs => exact ite (fun _ => h.resumePush n (by simp [hs, JobState.claimedToHeld]) hr) fun _ => h
  · exact h

theorem evaluate (h : Moves b c) : Moves b (evaluate c) := by
  unfold Machine.evaluate
  split
  · exact ite (fun hr => h.evaluateFor _ _ hr) fun _ => h
  · exact h

/-! ## The ends of a job -/

theorem settlePhase (h : Moves b c) (i : Nat) : Moves b (settlePhase i c) := by
  unfold Machine.settlePhase
  split
  · exact ite (fun _ => h) fun _ => h.setPhase i _
  · exact h

theorem idleJob (h : Moves b c) (hi : c.job.state.claimedToHeld = false ∨ c.track.call.step = .none) :
    Moves b (idleJob c) := h.move (.idles hi)

theorem completeReclosing (h : Moves b c) (i n : Nat) (hs : c.job.state = .reclosing) :
    Moves b (completeReclosing i n c) := by
  simp only [Machine.completeReclosing]
  generalize (if c.job.ended then PushOutcome.pushed else .aborted) = o
  have hst := ((JobStays.of_offers (.offerRelease n o c)).trans (.settlePhase i _)).state (by simp [hs])
  exact ((h.offerRelease n o).settlePhase i).idleJob (.inl (by rw [hst, hs]; rfl))

theorem checkReclosing (h : Moves b c) : Moves b (checkReclosing c) := by
  unfold Machine.checkReclosing
  split
  · exact ite (fun hs => h.completeReclosing _ _ hs.1) fun _ => h
  · exact h

theorem enterReclosing (h : Moves b c) : Moves b (enterReclosing c) :=
  checkReclosing (h.move (.recloses c))

theorem abortJob (h : Moves b c) (r : AbortReason) : Moves b (abortJob r c) := by
  simp only [Machine.abortJob]
  have hm := h.count .jobAborted (some r.code)
  split
  · refine ite (fun _ => ?_) fun _ => ite (fun _ => (hm.offerHalt _).enterReclosing) fun _ => hm.enterReclosing
    refine (((hm.settlePhase _).dropCall).offerRelease _ _).idleJob (.inr ?_)
    rw [(JobStays.of_offers (.offerRelease _ _ _)).step]
    exact dropCall_step _
  · exact hm

theorem abandonJob (h : Moves b c) (i n : Nat) : Moves b (abandonJob i n c) := by
  refine ((((h.settlePhase i).dropCall).withdrawKind .permit).idleJob (.inr ?_)).count _ _
  rw [(JobStays.of_offers (.withdrawKind _ _)).step]
  exact dropCall_step _

theorem abandonClaim (h : Moves b c) (n : Nat) (hs : c.job.state = .claiming) : Moves b (abandonClaim n c) := by
  refine (h.offerRelease n .abandoned).idleJob (.inl ?_)
  rw [(JobStays.of_offers (.offerRelease _ _ _)).state (by simp [hs]), hs]
  rfl

/-! ## Push start and push end -/

theorem startPush (h : Moves b c) (i : Nat) (hb : c.job.state ≠ .idle) : Moves b (startPush i c) :=
  (h.move (.stays (j := { c.job with started := true }) { busy := hb })).setPhase i _

theorem tablePushEnd (h : Moves b c) (i n force : Nat) (completed : Bool) :
    Moves b (tablePushEnd i n force completed c) := by
  simp only [Machine.tablePushEnd]
  have hhard : Moves b (if (cfg c).hardPush ≤ force then
      Machine.count .hardPush (some n) (Machine.modifyOven i (fun o => { o with hardCount := min 15 (o.hardCount + 1) }) c)
      else c) :=
    ite (fun _ => (h.modifyOven i (f := fun o => { o with hardCount := min 15 (o.hardCount + 1) }) fun o =>
      .beside rfl rfl rfl rfl fun ⟨hm, _, hrest⟩ => ⟨hm, Nat.min_le_left _ _, hrest⟩).count _ _) fun _ => h
  generalize (if (cfg c).hardPush ≤ force then _ else c) = m at hhard ⊢
  have hzero : Moves b (Machine.modifyOven i (fun o => { o with minutes := 0 }) m) :=
    hhard.modifyOven i fun o => .beside rfl rfl rfl rfl fun ⟨_, hrest⟩ => ⟨Nat.zero_le _, hrest⟩
  split
  · exact ite (fun _ => hzero.setPhase i _) fun _ => (hhard.setPhase i _).count _ _
  · exact ite (fun _ => hzero.setPhase i _) fun _ => hhard.count _ _
  · exact hhard

theorem takePushEnd (h : Moves b c) (i n force : Nat) (completed : Bool) (hb : c.job.state.beyondClaiming = true) :
    Moves b (takePushEnd i n force completed c) := by
  have hs := JobState.ne_idle_of_beyondClaiming hb
  have hk := (JobStays.tablePushEnd i n force completed c).state hs.2
  exact (h.tablePushEnd i n force completed).move
    (.stays (j := { (Machine.tablePushEnd i n force completed c).job with ended := true }) { busy := by rw [hk]; exact hs.1 })

theorem pusherPushing (h : Moves b c) (i n : Nat) (hr : receiving c = true) : Moves b (pusherPushing i n c) := by
  unfold Machine.pusherPushing
  split
  · next hs => exact (h.startPush i (by simp [hs])).enterJob (.running rfl (by rwa [startPush_receiving]))
  · next hs =>
    exact (h.startPush i (by simp [hs])).holdPush _ _ (by rw [startPush_state i (by simp [hs]), hs]; rfl)
      (by rwa [startPush_receiving])
  · next hs => exact ite (fun _ => h) fun _ => h.startPush i (by simp [hs])
  · exact h

theorem pusherReturned (h : Moves b c) (i n force : Nat) (completed : Bool) :
    Moves b (pusherReturned i n force completed c) := by
  have hstart {s : JobState} (hs : c.job.state = s) (hi : s.beyondClaiming = true) :
      Moves b (Machine.enterReclosing (Machine.takePushEnd i n force completed (Machine.startPush i c))) := by
    subst hs
    have hne := JobState.ne_idle_of_beyondClaiming hi
    exact ((h.startPush i hne.1).takePushEnd i n force completed (by rwa [startPush_state i hne.2])).enterReclosing
  unfold Machine.pusherReturned
  split
  · next hs => exact (h.takePushEnd i n force completed (by simp [hs, JobState.beyondClaiming])).enterReclosing
  · next hs => exact hstart hs rfl
  · next hs => exact hstart hs rfl
  · next hs =>
    exact ite (fun _ => (h.takePushEnd i n force completed (by simp [hs, JobState.beyondClaiming])).enterReclosing)
      fun _ => hstart hs rfl
  · next hs => exact ite (fun _ => h.takePushEnd i n force completed (by simp [hs, JobState.beyondClaiming])) fun _ => h
  · exact h

/-! ## Reports to the push job -/

theorem jobOnPusher (h : Moves b c) (spot : Option Nat) (st : PusherState) (force : Nat) (completed : Bool)
    (hr : receiving c = true) : Moves b (jobOnPusher spot st force completed c) := by
  unfold Machine.jobOnPusher
  split
  · refine ite (fun _ => ?_) fun _ => h.evaluate
    split
    · exact (h.pusherPushing _ _ hr).evaluate
    · exact (h.pusherReturned _ _ force completed).evaluate
    · exact h.evaluate
  · exact h

theorem earlyDoor (h : Moves b c) (i n : Nat) : Moves b (earlyDoor i n c) := by
  simp only [Machine.earlyDoor]
  have hm := (((h.count .earlyDoor (some n)).setPhase i .isolated).offerPermit n permitDoorsCode).enterJob
    (s := .doors) (.quiet nofun nofun nofun nofun (.inl rfl))
  exact ite (fun _ => (hm.enterJob (s := .staged) (.quiet nofun nofun nofun nofun (.inl rfl))).evaluate) fun _ => hm

theorem jobOnDoor (h : Moves b c) (i : Nat) (d : DoorState) : Moves b (jobOnDoor i d c) := by
  unfold Machine.jobOnDoor
  refine ite (fun _ => ?_) fun _ => h
  split
  · exact ite (fun _ => h.earlyDoor _ _) fun _ => h
  · exact ite (fun _ => (h.enterJob (s := .staged) (.quiet nofun nofun nofun nofun (.inl rfl))).evaluate) fun _ => h
  · exact h.checkReclosing
  · exact h.evaluate

theorem jobOnOverdue (h : Moves b c) (i : Nat) : Moves b (jobOnOverdue i c) := ite (fun _ => h.abortJob _) fun _ => h

theorem jobOnIsolated (h : Moves b c) (i : Nat) : Moves b (jobOnIsolated i c) := by
  unfold Machine.jobOnIsolated
  refine ite (fun _ => ?_) fun _ => h
  split
  · exact ((h.setPhase i .isolated).offerPermit _ _).enterJob (.quiet nofun nofun nofun nofun (.inl rfl))
  · exact h

theorem jobOnCommand (h : Moves b c) (i : Nat) (before : Option Int) : Moves b (jobOnCommand i before c) :=
  ite (fun _ => h.evaluate) fun _ => h

theorem jobOnInhibit (h : Moves b c) (i : Nat) : Moves b (jobOnInhibit i c) := ite (fun _ => h.abortJob _) fun _ => h

theorem jobOnLateCar (h : Moves b c) : Moves b (jobOnLateCar c) := ite (fun _ => h.abortJob _) fun _ => h

theorem jobOnHalt (h : Moves b c) (src n : Nat) (hr : receiving c = true) : Moves b (jobOnHalt src n c) := by
  unfold Machine.jobOnHalt
  refine ite (fun _ => ?_) fun _ => h
  split
  · exact h.abortJob _
  · exact h.abortJob _
  · exact h.abortJob _
  · next hs => exact h.holdPush _ _ (by rw [hs]; rfl) hr
  · next hs => exact h.holdPush _ _ (by rw [hs]; rfl) hr
  · next hs => exact h.move (.stays (j := { c.job with cause := some .supervisory }) { busy := by simp [hs] })
  · exact h

/-! ## The sent CLAIM -/

theorem enterClaimed (h : Moves b c) (i n : Nat) (hn : c.job.oven = some n) :
    Moves b (enterClaimed i n c) := by
  simp only [Machine.enterClaimed]
  obtain ⟨j, hj⟩ : ∃ j : Job, j = { c.job.enter .claimed with
    minutes := 0, started := false, ended := false, cause := none, holdSecs := 0 } := ⟨_, rfl⟩
  have hent : Enters c j := by
    subst hj
    exact { Enters.quiet (s := .claimed) (c := c) nofun nofun nofun nofun (.inl rfl) with
      counts := fun _ => ⟨Nat.zero_le _, Nat.zero_le _⟩ }
  have hk := JobStays.setPhase i .isolating (withJob j c)
  have hst : (withJob j c).job.state = .claimed := by subst hj; rfl
  have hov : (withJob j c).job.oven = some n := by subst hj; exact hn
  have hm : Moves b (Machine.requestCall n (Machine.setPhase i .isolating (withJob j c))) :=
    ((h.move (.enters hent)).setPhase i .isolating).requestCall (by rw [hk.state (by simp [hst]), hst]; rfl)
      (by rw [hk.oven (by simp [hst]), hov])
  subst hj
  exact ite (fun _ => hm.earlyDoor i n) fun _ => hm

theorem claimSent (h : Moves b c) (ident : Nat) : Moves b (claimSent ident c) := by
  unfold Machine.claimSent
  refine ite (fun hs => ?_) fun _ => h
  split
  · next hn _ => exact ite (fun _ => h.abandonClaim _ hs.1) fun _ => h.enterClaimed _ _ hn
  · exact h

end Moves

end Sys2Proof.Machine
end

section
/-! SUPPORT. The work of the doors, the leak scanner, the pushing order unit, the machine tracker, the oven table and the
regulation unit, shown to be runs of moves. -/

-- The lemmas are checked one after another, as the tests are.
set_option Elab.async false

namespace Sys2Proof.Machine

open Sys2Proof

/-! ## What the records keep -/

/-- A door record changed in none of the fields that the counters and the valves are judged by. -/
theorem DoorStep.modify {c : Controller} (ch : Nat) {f : Door → Door} (hs : ∀ d, (f d).state = d.state)
    (hf : ∀ d, d.countersRight → (f d).countersRight) : DoorStep c (c.doors.doors.modify ch f) where
  removed x := by
    simp only [doorAt, List.getElem?_modify]
    by_cases h : ch = x <;> cases c.doors.doors[x]? <;> simp [h, hs]
  counts _ hall d hd := by
    obtain ⟨x, hx, rfl⟩ := List.getElem_of_mem hd
    rw [List.getElem_modify]
    have hold := hall (c.doors.doors[x]'(by simpa using hx)) (List.getElem_mem _)
    split
    · exact hf _ hold
    · exact hold

theorem sublist_filter_tel (p : TxEntry → Bool) (q : List TxEntry) :
    ((q.filter p).map (·.tel)).Sublist (q.map (·.tel)) := List.filter_sublist.map _

theorem leakThreshold_le (margin ref : Nat) : ref ≤ leakThreshold margin ref := Nat.le_add_right _ _

theorem driftRef_within (ref n : Nat) : 1 ≤ driftRef ref n ∧ driftRef ref n ≤ 65535 := by
  unfold driftRef clampInt
  generalize (ref : Int) + roundDiv _ 64 = x
  split
  · decide
  · split
    · decide
    · omega

theorem stateAfter_ne_checking {d : DoorState} {score checks : Nat} (h : stateAfter d score checks ≠ .checking)
    (hd : d = .checking) : checks = 0 := by
  subst hd
  simp only [stateAfter] at h
  refine Classical.byContradiction fun hn => ?_
  simp [hn] at h

/-- A judged sample takes no door off and puts none back. -/
theorem stateAfter_removed {d : DoorState} {score checks : Nat} : stateAfter d score checks = .removed ↔ d = .removed := by
  cases d <;> simp only [stateAfter] <;> (repeat' split) <;> simp

/-- A judged sample opens and closes no door. -/
theorem stateAfter_unlatched {d : DoorState} {score checks : Nat} : stateAfter d score checks = .unlatched ↔ d = .unlatched := by
  cases d <;> simp only [stateAfter] <;> (repeat' split) <;> simp

/-- What a judged sample makes of a door record, dead or not (R141 to R146). -/
theorem judgeDoor_cases (margin n : Nat) (d : Door) :
    judgeDoor margin n d = { d with last := some n, dead := min 4 (d.dead + 1) }
      ∨ ∃ score checks ref, judgeDoor margin n d = { d with
          last := some n, dead := 0, score := score, checks := checks, state := stateAfter d.state score checks, ref := ref }
        ∧ (d.score ≤ 15 → score ≤ 15) ∧ (checks = d.checks ∨ d.state = .checking)
        ∧ (ref = d.ref ∨ 1 ≤ ref ∧ ref ≤ 65535) := by
  unfold judgeDoor
  dsimp only
  split
  · exact .inl rfl
  · refine .inr ⟨_, _, _, rfl, fun h => ?_, ?_, ?_⟩
    · cases classify margin d.ref n <;> simp only [scoreAfter] <;> omega
    · split
      · exact .inr ‹_›
      · exact .inl rfl
    · split
      · exact .inr (driftRef_within _ _)
      · exact .inl rfl

theorem judgeDoor_state (margin n : Nat) (d : Door) :
    ((judgeDoor margin n d).state = .removed ↔ d.state = .removed)
      ∧ ((judgeDoor margin n d).state = .unlatched ↔ d.state = .unlatched) := by
  obtain h | ⟨score, checks, ref, h, _⟩ := judgeDoor_cases margin n d <;> rw [h]
  · exact ⟨Iff.rfl, Iff.rfl⟩
  · exact ⟨stateAfter_removed, stateAfter_unlatched⟩

theorem judgeDoor_countersRight {margin n : Nat} {d : Door} (hn : n ≤ 65535) (h : d.countersRight) :
    (judgeDoor margin n d).countersRight := by
  obtain ⟨hscore, hdead, hopen, hshut, hchk, href, hlast⟩ := h
  have hst := judgeDoor_state margin n d
  have hopened : (judgeDoor margin n d).opened = d.opened := by
    rw [Bool.eq_iff_iff]
    simp [Door.opened, hst.1, hst.2]
  obtain hj | ⟨score, checks, ref, hj, hs, hc, hr⟩ := judgeDoor_cases margin n d
  · rw [hj]
    exact ⟨hscore, Nat.min_le_left _ _, hopen, hshut, hchk, href, fun m hm => by cases hm; exact hn⟩
  · rw [hj] at hopened ⊢
    refine ⟨hs hscore, Nat.zero_le _, hopen, fun ho => hshut (hopened ▸ ho), fun hne => ?_, ?_, fun m hm => by cases hm; exact hn⟩
    · obtain rfl | hd := hc
      · by_cases hd : d.state = .checking
        · exact stateAfter_ne_checking hne hd
        · exact hchk hd
      · exact stateAfter_ne_checking hne hd
    · obtain rfl | hr := hr
      · exact href
      · exact hr

namespace Moves

variable {b c : Controller}

/-! ## Doors and the leak scanner -/

theorem modifyDoor (h : Moves b c) (ch : Nat) {f : Door → Door} (hs : ∀ d, (f d).state = d.state)
    (hf : ∀ d, d.countersRight → (f d).countersRight) : Moves b (modifyDoor ch f c) :=
  h.move (.doors (.modify ch hs hf))

theorem judgeSample (h : Moves b c) (ch : Nat) : Moves b (judgeSample ch c) := by
  simp only [Machine.judgeSample]
  split
  · exact h
  · next d hd =>
    have hj : Moves b (Machine.modifyDoor ch (fun _ => judgeDoor (cfg c).margin c.scan.count d) c) := by
      refine h.move (.doors ⟨fun x => ?_, fun hn hall e he => ?_⟩)
      · simp only [doorAt, List.getElem?_modify]
        by_cases hx : ch = x
        · subst hx
          simp [hd, (judgeDoor_state _ _ d).1]
        · simp [hx]
      · obtain ⟨x, hx, rfl⟩ := List.getElem_of_mem he
        rw [List.getElem_modify]
        split
        · exact judgeDoor_countersRight hn (hall d (List.mem_of_getElem? hd))
        · exact hall _ (List.getElem_mem _)
    generalize Machine.modifyDoor ch (fun _ => judgeDoor (cfg c).margin c.scan.count d) c = m at hj ⊢
    have hover : Moves b (if c.scan.count = 65535 then
        Machine.count .leakOverrange (some (ovenNumber c (ch / 2))) m else m) := ite (fun _ => hj.count _ _) fun _ => hj
    generalize (if c.scan.count = 65535 then _ else m) = m at hover ⊢
    have hdead : Moves b (if reachesDead d (judgeDoor (cfg c).margin c.scan.count d) then
        Machine.count .leakSensorDead (some (ovenNumber c (ch / 2))) m else m) := ite (fun _ => hover.count _ _) fun _ => hover
    exact ite (fun _ => hdead.count _ _) fun _ => hdead

theorem startGate (h : Moves b c) (ch : Nat) : Moves b (startGate ch c) := h.aside { scan := fun _ => Nat.zero_le _ }

theorem idleScanner (h : Moves b c) : Moves b (idleScanner c) := h.aside {}

theorem gateExpires (h : Moves b c) : Moves b (gateExpires c) := by
  simp only [Machine.gateExpires]
  have hj : Moves b (if (c.scan.spoiled || !inRing c c.scan.channel) = true then c else Machine.judgeSample c.scan.channel c) :=
    ite (fun _ => h) fun _ => h.judgeSample _
  split
  · exact hj.startGate _
  · exact hj.idleScanner

theorem gateStarts (h : Moves b c) : Moves b (gateStarts c) := by
  unfold Machine.gateStarts
  split
  · exact h.startGate _
  · exact h.idleScanner

theorem leakPulse (h : Moves b c) : Moves b (leakPulse c) :=
  ite (fun _ => h.aside { scan := fun _ => Nat.min_le_left _ _ }) fun _ => h

theorem countConflict (h : Moves b c) (ch : Nat) : Moves b (countConflict ch c) := by
  unfold Machine.countConflict
  split
  · exact ite (fun _ => (h.modifyDoor ch (f := fun d => { d with conflict := true }) (fun _ => rfl) fun _ => id).count _ _)
      fun _ => h
  · exact h

/-- A change of the accepted pair changes no state of the door. -/
theorem pair (h : Moves b c) (ch : Nat) (p l : Bool) :
    Moves b (Machine.modifyDoor ch (fun d => { d with present := p, latched := l }) c) :=
  h.modifyDoor ch (fun _ => rfl) fun _ => id

theorem deriveDoor (h : Moves b c) (ch : Nat) : Moves b (deriveDoor ch c) := by
  simp only [Machine.deriveDoor]
  split
  · exact h
  · next d hd =>
    have hm := h.pair ch (acceptedAt c.doors.presentIn ch) (acceptedAt c.doors.latchedIn ch)
    refine ite (fun _ => hm.countConflict ch) fun hn => ?_
    rw [changeDoor_eq]
    exact (hm.move (.door (d := { d with present := acceptedAt c.doors.presentIn ch, latched := acceptedAt c.doors.latchedIn ch })
      _ _ (by simp [Machine.modifyDoor, hd]) hn)).jobOnDoor _ _

theorem doorWarns (h : Moves b c) (ch : Nat) : Moves b (doorWarns ch c) :=
  ite (fun _ => (h.modifyDoor ch (f := fun d => { d with warned := true }) (fun _ => rfl) fun _ => id).count _ _) fun _ => h

theorem doorOverdues (h : Moves b c) (ch : Nat) : Moves b (doorOverdues ch c) :=
  ite (fun _ => ((h.modifyDoor ch (f := fun d => { d with overdue := true }) (fun _ => rfl) fun _ => id).count _ _).jobOnOverdue _)
    fun _ => h

end Moves

end Sys2Proof.Machine
end

section
/-! SUPPORT. The work of the pushing order unit, the machine tracker and the oven table, shown to be runs of moves. -/

-- The lemmas are checked one after another, as the tests are.
set_option Elab.async false

namespace Sys2Proof.Machine

open Sys2Proof

/-! ## The bid list (R52) -/

theorem mem_insertBid {x b : Bid} {l : List Bid} : x ∈ insertBid b l ↔ x = b ∨ x ∈ l := by
  induction l with
  | nil => simp [insertBid]
  | cons y ys ih =>
    simp only [insertBid]
    split
    · simp only [List.mem_cons, ih]
      exact or_left_comm
    · simp

theorem length_insertBid (b : Bid) (l : List Bid) : (insertBid b l).length = l.length + 1 := by
  induction l with
  | nil => rfl
  | cons y ys ih =>
    simp only [insertBid]
    split <;> simp [ih]

/-- A bid takes its place without disturbing the order. -/
theorem insertBid_ascending {b : Bid} {l : List Bid} (h : l.Pairwise fun a b => a.ident ≤ b.ident) :
    (insertBid b l).Pairwise fun a b => a.ident ≤ b.ident := by
  induction l with
  | nil => simp [insertBid]
  | cons y ys ih =>
    obtain ⟨hy, hys⟩ := List.pairwise_cons.mp h
    simp only [insertBid]
    split
    · next hle =>
      refine List.pairwise_cons.mpr ⟨fun x hx => ?_, ih hys⟩
      obtain rfl | hx := mem_insertBid.mp hx
      · exact hle
      · exact hy x hx
    · next hlt =>
      refine List.pairwise_cons.mpr ⟨fun x hx => ?_, h⟩
      obtain rfl | hx := List.mem_cons.mp hx
      · omega
      · have := hy x hx
        omega

/-- A bid of a source that has none in the list keeps the sources apart. -/
theorem insertBid_apart {b : Bid} {l : List Bid} (h : l.Pairwise fun a b => a.src ≠ b.src) (hb : ∀ x ∈ l, x.src ≠ b.src) :
    (insertBid b l).Pairwise fun a b => a.src ≠ b.src := by
  induction l with
  | nil => simp [insertBid]
  | cons y ys ih =>
    obtain ⟨hy, hys⟩ := List.pairwise_cons.mp h
    simp only [insertBid]
    split
    · refine List.pairwise_cons.mpr ⟨fun x hx => ?_, ih hys fun x hx => hb x (List.mem_cons_of_mem _ hx)⟩
      obtain rfl | hx := mem_insertBid.mp hx
      · exact hb y List.mem_cons_self
      · exact hy x hx
    · exact List.pairwise_cons.mpr ⟨fun x hx => (hb x hx).symm, h⟩

/-- The bid list is well made: at most 16 bids, ascending, no two of one source. -/
structure BidsRight (l : List Bid) : Prop where
  size : l.length ≤ 16
  ascending : l.Pairwise fun a b => a.ident ≤ b.ident
  apart : l.Pairwise fun a b => a.src ≠ b.src

theorem BidsRight.nil : BidsRight [] := ⟨Nat.zero_le _, .nil, .nil⟩

theorem BidsRight.of_roundInv {c : Controller} (h : RoundInv c) : BidsRight c.round.bids := ⟨h.1, h.2.1, h.2.2.1⟩

theorem BidsRight.enterBid {l : List Bid} (h : BidsRight l) (b : Bid) : BidsRight (enterBid b l) := by
  unfold Machine.enterBid
  dsimp only
  have hrest : BidsRight (l.filter fun x => x.src != b.src) :=
    ⟨Nat.le_trans (List.length_filter_le _ _) h.size, h.ascending.filter _, h.apart.filter _⟩
  have hother : ∀ x ∈ l.filter fun x => x.src != b.src, x.src ≠ b.src := by simp
  generalize l.filter (fun x => x.src != b.src) = rest at hrest hother ⊢
  have hins := insertBid_ascending (b := b) hrest.ascending
  have hapart := insertBid_apart hrest.apart hother
  split
  · exact ⟨by rw [length_insertBid]; omega, hins, hapart⟩
  · split
    · exact hrest
    · have hlen := hrest.size
      exact ⟨by rw [List.length_dropLast, length_insertBid]; omega, hins.sublist (List.dropLast_sublist _),
        hapart.sublist (List.dropLast_sublist _)⟩

theorem RoundInv.of_opened {c : Controller} (ho : c.round.opened = true) (hb : BidsRight c.round.bids) : RoundInv c :=
  ⟨hb.size, hb.ascending, hb.apart, fun h => by simp [ho] at h⟩

theorem RoundInv.of_closed {c : Controller} (h : c.round = Round.closedRecord) : RoundInv c := by
  have hb := BidsRight.nil
  exact ⟨by simp [h, Round.closedRecord], by simp [h, Round.closedRecord], by simp [h, Round.closedRecord], fun _ => h⟩

/-- A change of an open round that keeps it open and its list well made. -/
theorem Aside.round_of {c : Controller} {r : Round} (ho : r.opened = true) (hb : BidsRight c.round.bids → BidsRight r.bids) :
    Aside c { c with round := r } :=
  { round := fun h => .of_opened ho (hb (.of_roundInv h)) }

theorem clampNat_le {x lo hi : Nat} (h : lo ≤ hi) : clampNat x lo hi ≤ hi := by
  unfold clampNat
  split
  · exact h
  · split <;> omega

theorem Oven.seeded_minutes_le {p : Phase} {m t e : Nat} (o : Oven) : (o.seeded p m t e).minutes ≤ 4095 := by
  rw [Oven.seeded_minutes]
  split
  · exact Nat.zero_le _
  · exact clampNat_le (Nat.zero_le _)

theorem winningBid_bidding {c : Controller} {w : Bid × Oven} (h : winningBid c = some w) : c.job.state = .bidding := by
  unfold winningBid at h
  split at h
  · next hc => exact hc.1
  · cases h

namespace Moves

variable {b c : Controller}

/-! ## The pushing order unit -/

theorem queueBid (h : Moves b c) (o : Oven) (hs : c.job.state = .idle) (ho : c.round.opened = true) :
    Moves b (queueBid o c) := by
  have hm := h.aside (.round_of (r := { c.round with ownBid := some (bidFor c o).ident }) ho id)
  exact (hm.enterJob (s := .bidding) (.quiet nofun nofun nofun nofun (.inr (by simp [hs, JobState.claimedToHeld])))).offer rfl

theorem closeRound (h : Moves b c) : Moves b (closeRound c) := h.aside { round := fun _ => .of_closed rfl }

theorem openRound (h : Moves b c) : Moves b (openRound c) := by
  unfold Machine.openRound
  refine ite (fun hc => ?_) fun _ => h
  have hs : c.job.state = .idle := by simp at hc; exact hc.1.1.2
  have hm := h.aside (.round_of (r := ⟨true, (cfg c).tw, none, false, []⟩) rfl fun _ => .nil)
  dsimp only
  split
  · exact hm.queueBid _ hs rfl
  · exact hm

theorem minuteBid (h : Moves b c) : Moves b (minuteBid c) := by
  unfold Machine.minuteBid
  refine ite (fun hc => ?_) fun _ => h
  obtain ⟨ho, hs⟩ : c.round.opened = true ∧ c.job.state = .idle := by simp at hc; exact ⟨hc.1.1.1, hc.1.2⟩
  split
  · exact h
  · split
    · exact h.queueBid _ hs ho
    · exact ite (fun _ => h.queueBid _ hs ho) fun _ => h

theorem bidSent (h : Moves b c) (t : Telegram) : Moves b (bidSent t c) :=
  ite (fun hc => h.aside (.round_of hc.2 fun hb => hb.enterBid _)) fun _ => h

theorem idleBidding (h : Moves b c) (k : Kind) (hs : c.job.state.claimedToHeld = false) :
    Moves b (Machine.idleJob (Machine.withdrawKind k c)) :=
  (h.withdrawKind k).idleJob (.inl (by simpa using hs))

theorem takeBid (h : Moves b c) (t : Telegram) : Moves b (takeBid t c) := by
  simp only [Machine.takeBid]
  refine ite (fun ho => ?_) fun _ => h
  generalize hy : (c.job.state == .bidding && !c.round.ownSent && c.round.ownBid.any fun own => decide (t.ident < own)) = y
  have hm : Moves b (if y = true then Machine.idleJob (Machine.withdrawKind .bid c) else c) :=
    ite (fun hyes => h.idleBidding _ (by
      have hb : c.job.state = .bidding := by simp [hyes] at hy; exact hy.1.1
      rw [hb]; rfl)) fun _ => h
  have hopen : (if y = true then Machine.idleJob (Machine.withdrawKind .bid c) else c).round.opened = true := by
    split <;> simpa using ho
  exact hm.aside (.round_of hopen fun hb => hb.enterBid _)

theorem queueClaim (h : Moves b c) (w : Bid) (o : Oven) (hs : c.job.state = .bidding) : Moves b (queueClaim w o c) := by
  simp only [Machine.queueClaim]
  refine (h.move (.enters (j := { c.job.enter .claiming with oven := some w.oven, ownClaim := _ }) ?_)).offer rfl
  exact { Enters.quiet (s := .claiming) (c := c) nofun nofun nofun nofun (.inr (by simp [hs, JobState.claimedToHeld])) with
    call := .inr (by simp [hs, JobState.claimedToHeld]) }

/-- A BID queued is withdrawn with the job's return to IDLE. -/
theorem bidWithdrawn (h : Moves b c) :
    Moves b (if c.job.state = .bidding then Machine.idleJob (Machine.withdrawKind .bid c) else c) :=
  ite (fun hs => h.idleBidding _ (by rw [hs]; rfl)) fun _ => h

theorem windowExpires (h : Moves b c) : Moves b (windowExpires c) := by
  unfold Machine.windowExpires
  split
  · next hw => exact (h.queueClaim _ _ (winningBid_bidding hw)).closeRound
  · exact h.bidWithdrawn.closeRound

theorem modifyHeld (h : Moves b c) {f : HeldRecord → HeldRecord} (hf : c.held.age ≤ 90 → (f c.held).age ≤ 90) :
    Moves b (modifyHeld f c) := h.aside { held := hf }

theorem recordClaim (h : Moves b c) (t : Telegram) : Moves b (recordClaim t c) := by
  refine h.modifyHeld fun ha => ?_
  unfold HeldRecord.take
  split
  · exact Nat.zero_le _
  · split
    · exact Nat.zero_le _
    · exact ha

theorem claimClosesRound (h : Moves b c) : Moves b (claimClosesRound c) :=
  h.bidWithdrawn.closeRound

theorem takeClaim (h : Moves b c) (t : Telegram) : Moves b (takeClaim t c) := by
  unfold Machine.takeClaim
  refine ite (fun _ => h.claimClosesRound.recordClaim t) fun _ => ?_
  have hjob : Moves b (match c.job.oven, jobIndex c with
      | some n, some i =>
        if anyRemoved c i then Machine.recordClaim t c else Machine.recordClaim t (Machine.abandonJob i n c)
      | _, _ => Machine.recordClaim t c) := by
    split
    · exact ite (fun _ => h.recordClaim t) fun _ => (h.abandonJob _ _).recordClaim t
    · exact h.recordClaim t
  split
  · exact h.recordClaim t
  · exact h.recordClaim t
  · next hs => exact ite (fun _ => (h.idleBidding _ (by rw [hs]; rfl)).recordClaim t) fun _ => h
  · exact ite (fun _ => hjob) fun _ => h
  · exact ite (fun _ => hjob) fun _ => h
  · exact ite (fun _ => h.recordClaim t) fun _ => h

theorem holderSpeaks (h : Moves b c) (src : Nat) : Moves b (holderSpeaks src c) :=
  ite (fun _ => h.modifyHeld fun _ => Nat.zero_le _) fun _ => h

theorem takeRelease (h : Moves b c) (t : Telegram) : Moves b (takeRelease t c) :=
  ite (fun _ => ite (fun _ => h.modifyHeld fun _ => Nat.zero_le _) fun _ => h.holderSpeaks _)
    fun _ => ite (fun _ => (h.modifyHeld (f := fun k => { k with expHolder := none, expOven := none }) id).count _ _) fun _ => h

theorem claimExpires (h : Moves b c) : Moves b (claimExpires c) := by
  unfold Machine.claimExpires
  split
  · exact h
  · next k _ =>
    exact (h.modifyHeld (f := fun r =>
      { r with claim := none, age := 0, expHolder := some k.holder, expOven := some k.oven }) fun _ => Nat.zero_le _).count _ _

/-! ## The machine tracker -/

theorem takePusher (h : Moves b c) (t : Telegram) (hr : receiving c = true) : Moves b (takePusher t c) := by
  unfold Machine.takePusher
  split
  · exact h
  · next spot st force completed _ =>
    have hm : Moves b { c with track := { c.track with pusher := ⟨spot, some st, 0, false⟩ } } :=
      h.aside { ages := fun ⟨_, hg, hc⟩ => ⟨Nat.zero_le _, hg, hc⟩ }
    have hj := hm.jobOnPusher spot st force completed hr
    exact ite (fun _ => hj.openRound) fun _ => hj

theorem takeGuide (h : Moves b c) (t : Telegram) : Moves b (takeGuide t c) := by
  unfold Machine.takeGuide
  split
  · refine ite (fun _ => ?_) fun _ => h
    refine (h.aside (d := { c with track := { c.track with guide := _ } }) { ages := ?_ }).evaluate
    exact fun ⟨hp, _, hc⟩ => ⟨hp, Nat.zero_le _, hc⟩
  · exact h

theorem takeQcar (h : Moves b c) (t : Telegram) : Moves b (takeQcar t c) := by
  unfold Machine.takeQcar
  split
  · refine ite (fun _ => ?_) fun _ => h
    refine (h.aside (d := { c with track := { c.track with car := _ } }) { ages := ?_ }).callOnQcar.evaluate
    exact fun ⟨hp, hg, _⟩ => ⟨hp, hg, Nat.zero_le _⟩
  · exact h

theorem machineGoesStale (h : Moves b c) (m : MachineId) : Moves b (machineGoesStale m c) := by
  refine ite (fun _ => ?_) fun _ => h
  cases m <;> exact (h.aside {}).evaluate

theorem travelExpires (h : Moves b c) : Moves b (travelExpires c) :=
  ite (fun _ => ite (fun _ => (h.modifyCall (f := fun k => { k with expiries := 1, remaining := k.limit }) (.kept rfl id)).count _ _)
    fun _ => (h.modifyCall (.over rfl)).jobOnLateCar) fun _ => h

/-! ## The oven table -/

theorem tableSetPhase (h : Moves b c) (i : Nat) (p : Phase) : Moves b (tableSetPhase i p c) :=
  (h.setPhase i p).jobOnCommand _ _

theorem chargeStartAt (h : Moves b c) (i : Nat) : Moves b (chargeStartAt i c) := by
  unfold Machine.chargeStartAt
  split
  · have hdoors : Moves b (if bothSettled c i then c else Machine.count .chargeDoors (some (ovenNumber c i)) c) :=
      ite (fun _ => h) fun _ => h.count _ _
    exact hdoors.tableSetPhase i _
  · exact h.count _ _
  · exact h

theorem chargeEndAt (h : Moves b c) (i : Nat) : Moves b (chargeEndAt i c) := by
  unfold Machine.chargeEndAt
  split
  · exact (h.modifyOven i (f := fun o => { o with minutes := 0, target := c.table.pendT, allowance := c.table.pendE })
      fun o => .beside rfl rfl rfl rfl fun ⟨_, hrest⟩ => ⟨Nat.zero_le _, hrest⟩).tableSetPhase i _
  · exact h.count _ _
  · exact h

theorem takeChargeStart (h : Moves b c) (t : Telegram) : Moves b (takeChargeStart t c) := by
  refine ite (fun _ => ?_) fun _ => h
  split
  · exact h.chargeStartAt _
  · exact h

theorem takeChargeEnd (h : Moves b c) (t : Telegram) : Moves b (takeChargeEnd t c) := by
  refine ite (fun _ => ?_) fun _ => h
  split
  · exact h.chargeEndAt _
  · exact h

theorem takeSeed (h : Moves b c) (t : Telegram) : Moves b (takeSeed t c) := by
  unfold Machine.takeSeed
  split
  · next i p _ _ =>
    have hseed (o : Oven) : OvenStep (cfg c) o (o.seeded p (t.at2 2) (t.at2 4) c.table.pendE) :=
      .beside rfl rfl rfl rfl fun ⟨_, hrest⟩ => ⟨o.seeded_minutes_le, hrest⟩
    exact ite (fun _ => h.count _ _) fun _ => (h.modifyOven i hseed).tableSetPhase i p
  · exact h

theorem takeClearSticker (h : Moves b c) (t : Telegram) : Moves b (takeClearSticker t c) := by
  refine ite (fun _ => ?_) fun _ => h
  split
  · next i _ =>
    exact ite (fun _ => (h.modifyOven i (f := fun o => { o with minutes := 0 })
      fun o => .beside rfl rfl rfl rfl fun ⟨_, hrest⟩ => ⟨Nat.zero_le _, hrest⟩).tableSetPhase _ _) fun _ => h
  · exact h

theorem takeClearHardcount (h : Moves b c) (t : Telegram) : Moves b (takeClearHardcount t c) := by
  refine ite (fun _ => ?_) fun _ => h
  split
  · exact h.modifyOven _ (f := fun o => { o with hardCount := 0 })
      fun _ => .beside rfl rfl rfl rfl fun ⟨hm, _, hrest⟩ => ⟨hm, Nat.zero_le _, hrest⟩
  · exact h

theorem setInhibited (h : Moves b c) (i : Nat) (x : Bool) : Moves b (setInhibited i x c) :=
  ite (fun _ => (h.modifyOven i (f := fun o => { o with inhibited := x }) fun _ => .beside rfl rfl rfl rfl id).queuePhase i)
    fun _ => h

theorem takeInhibitSet (h : Moves b c) (t : Telegram) : Moves b (takeInhibitSet t c) := by
  refine ite (fun _ => ?_) fun _ => h
  split
  · exact ite (fun _ => (h.setInhibited _ _).jobOnInhibit _) fun _ => h
  · exact h

theorem takeInhibitClear (h : Moves b c) (t : Telegram) : Moves b (takeInhibitClear t c) := by
  refine ite (fun _ => ?_) fun _ => h
  split
  · exact h.setInhibited _ _
  · exact h

theorem countPlanClamp (h : Moves b c) (x y : Nat) : Moves b (countPlanClamp x y c) := ite (fun _ => h) fun _ => h.count _ _

theorem takePlan (h : Moves b c) (t : Telegram) : Moves b (takePlan t c) :=
  (((h.aside {}).countPlanClamp _ _).countPlanClamp _ _).countPlanClamp _ _

theorem takePhase (h : Moves b c) (t : Telegram) : Moves b (takePhase t c) := by
  unfold Machine.takePhase
  have hear (p : Phase) (n : Neighbour) (hn : n.countersRight) : (n.hear t.oven p (t.at2 2)).countersRight := by
    unfold Neighbour.hear
    split
    · exact ⟨clampNat_le (Nat.zero_le _), Nat.zero_le _⟩
    · exact hn
  split
  · refine h.aside { below := fun hb n hn => ?_, above := fun ha n hn => ?_ }
    · obtain ⟨m, hm, rfl⟩ := Option.map_eq_some_iff.mp hn
      exact hear _ m (hb m hm)
    · obtain ⟨m, hm, rfl⟩ := Option.map_eq_some_iff.mp hn
      exact hear _ m (ha m hm)
  · exact h

theorem neighbourIsLost (h : Moves b c) (e : Edge) : Moves b (neighbourIsLost e c) := by
  unfold Machine.neighbourIsLost
  split
  · refine ite (fun _ => ?_) fun _ => h
    cases e with
    | below =>
      refine (h.aside { below := fun hb n hn => ?_ }).count _ _
      obtain ⟨m, hm, rfl⟩ := Option.map_eq_some_iff.mp hn
      exact hb m hm
    | above =>
      refine (h.aside { above := fun hb n hn => ?_ }).count _ _
      obtain ⟨m, hm, rfl⟩ := Option.map_eq_some_iff.mp hn
      exact hb m hm
  · exact h

theorem queueEdgePhases (h : Moves b c) : Moves b (queueEdgePhases c) :=
  ite (fun _ => h.queuePhase _) fun _ => (h.queuePhase _).queuePhase _

theorem takeMask (h : Moves b c) (t : Telegram) : Moves b (takeMask t c) :=
  ite (fun _ => (h.aside {}).withdrawKind _) fun _ => (h.aside {}).offerEvent

end Moves

end Sys2Proof.Machine
end

section
/-! SUPPORT. The work of the regulation unit, the line unit and the ticks, shown to be runs of moves. -/

-- The lemmas are checked one after another, as the tests are.
set_option Elab.async false

namespace Sys2Proof.Machine

open Sys2Proof

/-! ## Clamping and the slew -/

theorem clampInt_cases {x lo hi : Int} (h : lo ≤ hi) : lo ≤ clampInt x lo hi ∧ clampInt x lo hi ≤ hi := by
  unfold clampInt
  split
  · exact ⟨Int.le_refl _, h⟩
  · split
    · exact ⟨h, Int.le_refl _⟩
    · omega

/-- Clamped between two numbers of per mille, in whichever order they stand, a number is one of per mille. -/
theorem PerMille.clampInt {x lo hi : Int} (hl : PerMille lo) (hh : PerMille hi) : PerMille (clampInt x lo hi) := by
  unfold Machine.clampInt
  split
  · exact hl
  · split
    · exact hh
    · exact ⟨by have := hl.1; omega, by have := hh.2; omega⟩

/-- The slewed command lies between the former one and the output. -/
theorem slewStage_between {g : Config} (hr : 0 ≤ g.r) (p u : Int) :
    (p ≤ slewStage g p u ∧ slewStage g p u ≤ u) ∨ (u ≤ slewStage g p u ∧ slewStage g p u ≤ p) := by
  unfold slewStage Machine.clampInt
  split
  · omega
  · split <;> omega

theorem PerMille.slewStage {g : Config} {p u : Int} (hr : 0 ≤ g.r) (hp : PerMille p) (hu : PerMille u) :
    PerMille (slewStage g p u) := by
  obtain ⟨hp0, hp1⟩ := hp
  obtain ⟨hu0, hu1⟩ := hu
  have := slewStage_between hr p u
  unfold PerMille
  omega

theorem ValveLimits.row {g : Config} (h : ValveLimits g) (o : Oven) : Row.limited (rowInForce g o) := by
  obtain ⟨_, hu, he, hm, hl, hf, _⟩ := h
  unfold rowInForce
  split
  · next s _ => cases s <;> assumption
  · exact hu

/-! ## The work on one oven at a completion (R155) -/

theorem takePressure_step (g : Config) (z : Channel) (x : Option Nat) (o : Oven) : OvenStep g o (o.takePressure g z x) := by
  cases x with
  | none =>
    exact .beside rfl rfl rfl rfl fun ⟨hm, hh, hs, hi, _, hn⟩ => ⟨hm, hh, hs, hi, Nat.min_le_left _ _, hn⟩
  | some code =>
    exact .beside rfl rfl rfl rfl fun ⟨hm, hh, hs, hi, _, hn⟩ => ⟨hm, hh, hs, hi, Nat.zero_le _, hn⟩

theorem takeFeedback_step (g : Config) (x : Option Nat) (o : Oven) : OvenStep g o (o.takeFeedback x) := by
  cases x with
  | none => exact .refl g o
  | some code => exact .beside rfl rfl rfl rfl id

theorem stuckCheck_step (g : Config) (f : Int) (o : Oven) : OvenStep g o (o.stuckCheck f) := by
  unfold Oven.stuckCheck
  split
  · split
    · exact .beside rfl rfl rfl rfl fun ⟨hm, hh, _, hrest⟩ => ⟨hm, hh, Nat.zero_le _, hrest⟩
    · next hlt => exact .beside rfl rfl rfl rfl fun ⟨hm, hh, _, hrest⟩ => ⟨hm, hh, by show o.stuckCount + 1 ≤ 3; omega, hrest⟩
  · exact .beside rfl rfl rfl rfl fun ⟨hm, hh, _, hrest⟩ => ⟨hm, hh, Nat.zero_le _, hrest⟩

theorem chooseMode_step (g : Config) (trusted : Bool) (o : Oven) : OvenStep g o (o.chooseMode g trusted) := by
  unfold Oven.chooseMode
  split
  · next hm =>
    split
    · exact ⟨fun _ r ⟨hc, hd, _⟩ => ⟨hc, fun h => by simp [hm] at hd; simp [hd] at h, nofun⟩, id⟩
    · exact .refl g o
  · next hm =>
    split
    · exact .refl g o
    · exact ⟨fun _ r ⟨hc, hd, _⟩ => ⟨hc, fun h => by simp [hm] at hd; simp [hd] at h, nofun⟩, id⟩
  · exact .refl g o

/-- A command and an integrator set in a mode other than CLOSED leave a valve right if the command is one of per mille. -/
theorem Oven.valveRight.of_open {r : Bool} {o o' : Oven} (h : o.valveRight r) (hm : o.mode ≠ .closed) (hm' : o'.mode = o.mode)
    (hp : o'.phase = o.phase) (hc : PerMille o'.command) : o'.valveRight r := by
  obtain ⟨_, hd, _⟩ := h
  refine ⟨hc, fun hx => ?_, fun hx => ?_⟩
  · rw [hp] at hx
    exact absurd (hd hx) hm
  · rw [hm'] at hx
    exact absurd hx hm

theorem compute_valveRight {g : Config} {leaking : Bool} {main : Option Int} {o : Oven} {r : Bool} (hg : ValveLimits g)
    (hm : o.mode = .regulate) (h : o.valveRight r) : (o.compute g leaking main).valveRight r := by
  unfold Oven.compute
  split
  · refine h.of_open (by simp [hm]) rfl rfl (h.1.slewStage hg.2.2.2.2.2.2.1 ?_)
    exact PerMille.clampInt (hg.row o).1 (hg.row o).2
  · exact h

theorem compute_countersRight {g : Config} {leaking : Bool} {main : Option Int} {o : Oven} (h : o.countersRight) :
    (o.compute g leaking main).countersRight := by
  unfold Oven.compute
  split
  · obtain ⟨hm, hh, hs, hi, hv, _⟩ := h
    refine ⟨hm, hh, hs, hi, hv, ?_⟩
    dsimp only
    split <;> omega
  · exact h

theorem modeWork_step (g : Config) (leaking : Bool) (main : Option Int) (o : Oven) :
    OvenStep g o (o.modeWork g leaking main) := by
  unfold Oven.modeWork
  split
  · exact ⟨fun _ r ⟨_, hd, _⟩ => ⟨⟨Int.le_refl 0, by show (0 : Int) ≤ 1000; decide⟩, hd, fun _ => ⟨rfl, rfl⟩⟩, id⟩
  · next hm => exact ⟨fun hg r h => h.of_open (by simp [hm]) rfl rfl hg.1, id⟩
  · next hm =>
    refine ⟨fun hg r h => h.of_open (by simp [hm]) rfl rfl ?_, id⟩
    have hriso := hg.2.2.2.2.2.2.2
    obtain ⟨h0, h1⟩ := h.1
    exact ⟨by show 0 ≤ max 0 (o.command - g.riso); omega, by show max 0 (o.command - g.riso) ≤ 1000; omega⟩
  · exact .refl g o
  · next hm => exact ⟨fun hg r h => compute_valveRight hg hm h, compute_countersRight⟩

theorem isolationCheck_step (g : Config) (f : Option Int) (o : Oven) : OvenStep g o (o.isolationCheck f) := by
  unfold Oven.isolationCheck
  split
  · split
    · exact .beside rfl rfl rfl rfl fun ⟨hm, hh, hs, _, hrest⟩ => ⟨hm, hh, hs, Nat.min_le_left _ _, hrest⟩
    · exact .beside rfl rfl rfl rfl fun ⟨hm, hh, hs, _, hrest⟩ => ⟨hm, hh, hs, Nat.zero_le _, hrest⟩
  · exact .refl g o

theorem OvenStep.trans {g : Config} {o p q : Oven} (h : OvenStep g o p) (k : OvenStep g p q) : OvenStep g o q :=
  ⟨fun hg r hr => k.valve hg r (h.valve hg r hr), fun hc => k.counts (h.counts hc)⟩

theorem ovenCompletion_step (g : Config) (z : Channel) (leaking : Bool) (main : MainRecord) (press fb : Option Nat)
    (o : Oven) : OvenStep g o (ovenCompletion g z leaking main press fb o) := by
  unfold ovenCompletion
  dsimp only
  have hin := (takePressure_step g z press o).trans (takeFeedback_step g fb _)
  generalize (o.takePressure g z press).takeFeedback fb = p at hin ⊢
  have hstuck : OvenStep g o (match fb.map scaleFeedback with
      | some f => p.stuckCheck f
      | none => p) := by
    split
    · exact hin.trans (stuckCheck_step g _ p)
    · exact hin
  exact ((hstuck.trans (chooseMode_step g _ _)).trans (modeWork_step g _ _ _)).trans (isolationCheck_step g _ _)

/-! ## The records of time -/

theorem MainRecord.takeSample_countersRight {g : Config} {x : Option Nat} {m : MainRecord} (h : m.countersRight) :
    (m.takeSample g x).countersRight := by
  unfold MainRecord.takeSample
  obtain ⟨ha, _⟩ := h
  split
  · exact ⟨ha, Nat.zero_le _⟩
  · dsimp only
    split
    · exact ⟨ha, Nat.min_le_left _ _⟩
    · exact ⟨ha, Nat.min_le_left _ _⟩

theorem MainRecord.second_countersRight {m : MainRecord} (h : m.countersRight) : m.second.countersRight := by
  unfold MainRecord.second
  split
  · exact h
  · exact ⟨Nat.min_le_left _ _, h.2⟩

theorem Neighbour.minute_countersRight {n : Neighbour} (h : n.countersRight) : n.minute.countersRight := by
  unfold Neighbour.minute
  split
  · exact ⟨Nat.min_le_left _ _, h.2⟩
  · exact h

theorem minute_step (g : Config) (o : Oven) : OvenStep g o (o.minute g) := by
  unfold Oven.minute
  split
  · exact .beside rfl rfl rfl rfl fun ⟨_, hrest⟩ => ⟨Nat.min_le_left _ _, hrest⟩
  · exact .refl g o

theorem Door.second_state (d : Door) : d.second.state = d.state := by
  unfold Door.second
  split <;> rfl

theorem Door.second_countersRight {d : Door} (h : d.countersRight) : d.second.countersRight := by
  unfold Door.second
  split
  · next ho =>
    obtain ⟨hs, hd, _, _, hrest⟩ := h
    exact ⟨hs, hd, Nat.min_le_left _ _, fun hn => absurd ho (by simpa [Door.opened] using hn), hrest⟩
  · exact h

/-- An entry changed to one within its range. -/
theorem EntriesRight.modify {l : List EventEntry} {i : Nat} {f : EventEntry → EventEntry}
    (hf : ∀ e : EventEntry, e.count ≤ 255 → (f e).count ≤ 255) (h : EntriesRight l) : EntriesRight (l.modify i f) := by
  refine ⟨by simpa using h.1, fun e he => ?_⟩
  obtain ⟨x, hx, rfl⟩ := List.getElem_of_mem he
  rw [List.getElem_modify]
  have hold := h.2 (l[x]'(by simpa using hx)) (List.getElem_mem _)
  split
  · exact hf _ hold
  · exact hold

namespace Moves

variable {b c : Controller}

theorem foldl {α : Type} {g : Controller → α → Controller} (hg : ∀ {c} x, Moves b c → Moves b (g c x)) (l : List α)
    (h : Moves b c) : Moves b (l.foldl g c) := by
  induction l generalizing c with
  | nil => exact h
  | cons x l ih => exact ih (hg x h)

/-! ## The regulation unit -/

theorem requestFrame (h : Moves b c) : Moves b (requestFrame c) := ite (fun _ => h.aside {}) fun _ => h.aside {}

theorem completeOven (h : Moves b c) (k : Cycle) (i : Nat) : Moves b (completeOven k c i) := by
  unfold Machine.completeOven
  split
  · exact h
  · next o ho =>
    dsimp only
    generalize ho' : ovenCompletion (cfg c) (channelOf (cfg c) (i + 1)) (anyLeaking c i) c.reg.main
      (sampleAt k (i + 1)) (sampleAt k (i + 9)) o = o'
    have hstep : OvenStep (cfg c) o o' := ho' ▸ ovenCompletion_step _ _ _ _ _ _ _
    have hm : Moves b (Machine.modifyOven i (fun _ => o') c) := by
      refine h.move (.ovens fun j p hj => ?_)
      rw [List.getElem?_modify] at hj
      obtain ⟨q, hq, rfl⟩ := Option.map_eq_some_iff.mp hj
      split
      · next e =>
        subst e
        exact ⟨o, ho, hstep⟩
      · exact ⟨q, hq, .refl _ q⟩
    generalize Machine.modifyOven i (fun _ => o') c = m at hm ⊢
    have hcount (p : Prop) [Decidable p] (kind : EventKind) {m : Controller} (hm : Moves b m) :
        Moves b (if p then Machine.count kind (some (ovenNumber c i)) m else m) :=
      ite (fun _ => hm.count _ _) fun _ => hm
    have hcounts := hcount (reachesNoDraw o o' = true) .draw (hcount (turnsStuck o o' = true) .sensor
      (hcount (sensorInvalid o o' = true) .sensor hm))
    exact (ite (fun _ => hcounts.jobOnIsolated i) fun _ => hcounts : Moves b (if becomesIsolated o o' = true then _ else _)).jobOnCommand
      i _

theorem completeMain (h : Moves b c) (k : Cycle) : Moves b (completeMain k c) := by
  refine ite (fun _ => ?_) fun _ => h
  have hm : Moves b (Machine.modifyMain (fun _ => c.reg.main.takeSample (cfg c) (sampleAt k 17)) c) :=
    h.aside { main := MainRecord.takeSample_countersRight }
  exact ite (fun _ => hm.count _ _) fun _ => hm

theorem cycleCompletes (h : Moves b c) : Moves b (cycleCompletes c) := by
  unfold Machine.cycleCompletes
  split
  · exact h
  · next k _ =>
    have hm : Moves b (Machine.modifyReg (fun r => { r with cycle := none, answer := none }) c) := h.aside {}
    exact (foldl (fun i h => h.completeOven k i) _ (hm.completeMain k)).requestFrame

theorem periodExpires (h : Moves b c) : Moves b (periodExpires c) := by
  unfold Machine.periodExpires
  split
  · exact h.count _ _
  · exact h.aside {}

theorem sampleArrives (h : Moves b c) (x : SampleCode) : Moves b (sampleArrives x c) := by
  unfold Machine.sampleArrives
  split
  · exact h
  · exact ite (fun _ => h) fun _ => ite (fun _ => h.aside {}) fun _ => h.aside {}

theorem answerExpires (h : Moves b c) : Moves b (answerExpires c) := by
  unfold Machine.answerExpires
  split
  · exact h
  · exact h.aside {}

theorem frameEnds (h : Moves b c) : Moves b (frameEnds c) := by
  unfold Machine.frameEnds
  split
  · exact h
  · have hm : Moves b (Machine.modifyReg (fun r => { r with frame := none }) c) := h.aside {}
    exact ite (fun _ => hm.requestFrame) fun _ => hm

theorem mainSendExpires (h : Moves b c) : Moves b (mainSendExpires c) := by
  unfold Machine.mainSendExpires
  split
  · refine ite (fun _ => ?_) fun _ => h
    exact (h.aside (d := Machine.modifyMain (fun m => { m with queued := true }) c) {}).offer rfl
  · exact h

theorem takeMain (h : Moves b c) (t : Telegram) : Moves b (takeMain t c) :=
  h.aside { main := fun ⟨_, hi⟩ => ⟨Nat.zero_le _, hi⟩ }

theorem mainGoesStale (h : Moves b c) : Moves b (mainGoesStale c) :=
  ite (fun _ => (h.aside (d := Machine.modifyMain (fun m => { m with stale := true }) c) {}).count _ _) fun _ => h

/-! ## The line unit -/

theorem endReception (h : Moves b c) (p : LinePhase) : Moves b (endReception p c) := h.aside {}

theorem storeTelegram (h : Moves b c) (t : Telegram) : Moves b (storeTelegram t c) := by
  refine ite (fun hlt => h.aside { rx := fun _ => ?_ }) fun _ => h.count _ _
  show (c.line.rx ++ [t]).length ≤ 4
  rw [List.length_append, List.length_singleton]
  omega

theorem duplicateHeard (h : Moves b c) (hr : receiving c = true) : Moves b (duplicateHeard c) :=
  ite (fun _ => h) fun _ => (h.count .duplicateId none).move (.silences (by simpa [receiving] using hr))

theorem judgeTelegram (h : Moves b c) (t : Telegram) (hr : receiving c = true) : Moves b (judgeTelegram t c) := by
  unfold Machine.judgeTelegram
  split
  · exact h
  · exact h.count _ _
  · exact h.duplicateHeard hr
  · exact h.storeTelegram t

theorem abandonTelegram (h : Moves b c) : Moves b (abandonTelegram c) := (h.endReception _).count _ _

theorem framingFaults (h : Moves b c) : Moves b (framingFaults c) := ite (fun _ => h.abandonTelegram) fun _ => h

theorem receiveFrame (h : Moves b c) (f : Frame) : Moves b (receiveFrame f c) := by
  refine ite (fun hf => ?_) fun _ => h
  have hr : receiving c = true := by simp [hasFooting] at hf; exact hf.1
  have hm := h.endReception .ended
  exact ite (fun _ => h.abandonTelegram) fun _ => ite (fun _ => hm.judgeTelegram _ hr) fun _ => hm.count _ _

theorem lineIdles (h : Moves b c) : Moves b (lineIdles c) := ite (fun _ => h.aside {}) fun _ => h

theorem telegramStarts (h : Moves b c) : Moves b (telegramStarts c) := by
  refine ite (fun _ => ?_) fun _ => h
  split
  · exact h
  · next e rest he =>
    split
    · next t d hb =>
      unfold buildHead at hb
      split at hb
      · split at hb
        · cases hb
          exact h.aside { tx := by simp [modifyLine, he] }
        · cases hb
      · cases hb
        exact h.aside { tx := by simp [modifyLine, he] }
    · exact h

theorem notTaken (h : Moves b c) (t : Telegram) : Moves b (notTaken t c) := by
  unfold Machine.notTaken
  split
  · exact ite (fun hs => h.idleJob (.inl (by rw [hs]; rfl))) fun _ => h
  · exact h.owes _
  · refine ite (fun _ => ?_) fun _ => h
    exact h.modifyCall (f := fun k => { k with queued := false }) (.kept rfl id)
  · exact h.aside {}
  · exact h.aside {}
  · exact h

theorem breakOff (h : Moves b c) (p : LinePhase) (t : Telegram) (f : Fate) : Moves b (breakOff p t f c) := by
  have hm : Moves b (modifyLine (fun l => { l with phase := p, tx := clearOnLine l.tx }) c) :=
    h.aside { tx := by simp [modifyLine, clearOnLine, Function.comp_def] }
  exact ite (fun _ => hm.notTaken t) fun _ => hm

theorem losesArbitration (h : Moves b c) : Moves b (losesArbitration c) := by
  unfold Machine.losesArbitration
  split
  · exact h.breakOff _ _ _
  · exact h

theorem lineErrs (h : Moves b c) : Moves b (lineErrs c) := by
  unfold Machine.lineErrs
  split
  · exact (h.breakOff _ _ _).count _ _
  · exact h

theorem emptyEntry (h : Moves b c) (j : Nat) : Moves b { c with events := { c.events.emptyEntry j with queued := false } } :=
  h.aside { entries := EntriesRight.modify fun _ _ => Nat.zero_le _ }

theorem eventSent (h : Moves b c) : Moves b (eventSent c) := by
  unfold Machine.eventSent
  split
  · exact (h.emptyEntry _).offerEvent
  · exact (h.aside (d := { c with events := { c.events with queued := false } }) {}).offerEvent

theorem reportSent (h : Moves b c) (t : Telegram) : Moves b (reportSent t c) := by
  unfold Machine.reportSent
  split
  · exact h.bidSent t
  · exact h.claimSent _
  · exact h.callSent _
  · exact h.aside {}
  · exact h.eventSent
  · exact h

theorem telegramCompletes (h : Moves b c) (ackLow : Bool) : Moves b (telegramCompletes ackLow c) := by
  unfold Machine.telegramCompletes
  split
  · next t f _ =>
    have hm : Moves b (modifyLine (fun l => { l with phase := .ended, tx := l.tx.filter fun e => !e.onLine }) c) :=
      h.aside { tx := sublist_filter_tel _ _ }
    dsimp only
    generalize modifyLine (fun l => { l with phase := .ended, tx := l.tx.filter fun e => !e.onLine }) c = m at hm ⊢
    have hsent : Moves b (if f = .withdrawn then m else Machine.reportSent t m) := ite (fun _ => hm) fun _ => hm.reportSent t
    exact ite (fun _ => hsent) fun _ => hsent.count _ _
  · exact h

theorem handOn (h : Moves b c) (k : Kind) (p : Telegram → Bool) {f : Telegram → Controller → Controller}
    (hf : ∀ {c} t, receiving c = true → Moves b c → Moves b (f t c)) : Moves b (handOn k p f c) := by
  unfold Machine.handOn
  split
  · next t rest hx =>
    refine ite (fun hc => hf t hc.1 (h.aside { rx := fun hl => ?_ })) fun _ => h
    rw [hx, List.length_cons] at hl
    show rest.length ≤ 4
    omega
  · exact h

end Moves

end Sys2Proof.Machine
end

section
/-! SUPPORT. The ticks and the taking of due events, shown to be runs of moves; and from there what every step keeps: an
invariant that the moves, the load and the reset inputs keep is kept by every command. -/

-- The lemmas are checked one after another, as the tests are.
set_option Elab.async false

namespace Sys2Proof.Machine

open Sys2Proof

theorem second_ages {k : Tracker} : k.aged.agesRight := ⟨Nat.min_le_left _ _, Nat.min_le_left _ _, Nat.min_le_left _ _⟩

theorem HeldRecord.minute_age {h : HeldRecord} (ha : h.age ≤ 90) : h.minute.age ≤ 90 := by
  unfold HeldRecord.minute
  split
  · exact Nat.min_le_left _ _
  · exact ha

/-- The doors' records at a second tick. -/
theorem DoorStep.second (c : Controller) : DoorStep c (c.doors.doors.map Door.second) where
  removed ch := by simp [doorAt, Function.comp_def, Door.second_state]
  counts _ hall d hd := by
    obtain ⟨e, he, rfl⟩ := List.mem_map.mp hd
    exact Door.second_countersRight (hall e he)

namespace Moves

variable {b c : Controller}

/-! ## The 10 ms tick -/

theorem windowTick (h : Moves b c) : Moves b (windowTick c) :=
  ite (fun ho => h.aside { round := fun hr => .of_opened ho (BidsRight.of_roundInv (c := c) hr) }) fun _ => h

theorem gateTick (h : Moves b c) : Moves b (gateTick c) := ite (fun _ => h.aside {}) fun _ => h.aside {}

theorem converterTick (h : Moves b c) : Moves b (converterTick c) := h.aside {}

theorem byteTick (h : Moves b c) : Moves b (byteTick c) := h.aside {}

theorem doorTick (h : Moves b c) (p l : BitVec 16) : Moves b (doorTick p l c) := h.aside {}

theorem lateForming (h : Moves b c) : Moves b (lateForming c) :=
  ite (fun hc => h.move (.forms (by simp at hc; exact hc.1.2))) fun _ => h

theorem timeTick (h : Moves b c) : Moves b (timeTick c) := ite (fun _ => h.aside {}) fun _ => h.aside {}

theorem tickBase (h : Moves b c) (p l : BitVec 16) : Moves b (tickBase p l c) :=
  ((((((h.windowTick).gateTick).converterTick).byteTick).doorTick p l).lateForming).timeTick

/-! ## The second tick -/

theorem doorsSecond (h : Moves b c) : Moves b (doorsSecond c) := (h.move (.doors (.second c))).aside {}

theorem neighboursSecond (h : Moves b c) : Moves b (neighboursSecond c) := by
  have second (r : Option Neighbour) (hr : ∀ n, r = some n → n.countersRight) (n : Neighbour)
      (hn : r.map Neighbour.second = some n) : n.countersRight := by
    obtain ⟨m, hm, rfl⟩ := Option.map_eq_some_iff.mp hn
    exact ⟨(hr m hm).1, Nat.min_le_left _ _⟩
  exact h.aside { below := second c.table.below, above := second c.table.above }

theorem trackerSecond (h : Moves b c) : Moves b (trackerSecond c) := by
  refine ite (fun _ => ?_) fun _ => h
  have hcall : CallFor c c.track.aged.call.secondTick := by
    unfold Call.secondTick
    split
    · exact .kept rfl id
    · exact .kept rfl id
  exact (h.move (.call hcall)).aside { ages := fun _ => second_ages }

theorem mainSecond (h : Moves b c) : Moves b (mainSecond c) :=
  ite (fun _ => h.aside { main := MainRecord.second_countersRight }) fun _ => h

theorem holdSecond (h : Moves b c) : Moves b (holdSecond c) := by
  refine ite (fun hc => ?_) fun _ => h
  have hs : c.job.state = .held := by simp at hc; exact hc.2
  exact (h.move (.stays (j := { c.job with holdSecs := min 300 (c.job.holdSecs + 1) })
    { busy := by simp [hs], counts := fun hc => ⟨hc.1, Nat.min_le_left _ _⟩ })).aside {}

theorem lineSecond (h : Moves b c) : Moves b (lineSecond c) := h.aside {}

theorem timeSecond (h : Moves b c) : Moves b (timeSecond c) := ite (fun _ => h.aside {}) fun _ => h.aside {}

theorem secondBase (h : Moves b c) : Moves b (secondBase c) :=
  ((((((h.doorsSecond).neighboursSecond).trackerSecond).mainSecond).holdSecond).lineSecond).timeSecond

/-! ## The minute tick -/

theorem tableMinute (h : Moves b c) : Moves b (tableMinute c) := by
  have hovens : Moves b (withOvens (c.table.ovens.map (Oven.minute (cfg c))) c) := by
    refine h.move (.ovens fun i o' hi => ?_)
    rw [List.getElem?_map] at hi
    obtain ⟨o, ho, rfl⟩ := Option.map_eq_some_iff.mp hi
    exact ⟨o, ho, minute_step _ o⟩
  have minute (r : Option Neighbour) (hr : ∀ n, r = some n → n.countersRight) (n : Neighbour)
      (hn : r.map Neighbour.minute = some n) : n.countersRight := by
    obtain ⟨m, hm, rfl⟩ := Option.map_eq_some_iff.mp hn
    exact Neighbour.minute_countersRight (hr m hm)
  exact hovens.aside { below := minute c.table.below, above := minute c.table.above }

theorem heldMinute (h : Moves b c) : Moves b (heldMinute c) := h.aside { held := HeldRecord.minute_age }

theorem jobMinute (h : Moves b c) : Moves b (jobMinute c) := by
  refine ite (fun hc => ?_) fun _ => h
  have hs : c.job.state.claimedToHeld = true := by simp at hc; exact hc.2
  exact (h.move (.stays (j := { c.job with minutes := min 255 (c.job.minutes + 1) })
    { busy := (JobState.ne_idle_of_claimedToHeld hs).1, counts := fun hc => ⟨Nat.min_le_left _ _, hc.2⟩ })).aside {}

theorem minuteBase (h : Moves b c) (bidFirst : Bool) : Moves b (minuteBase bidFirst c) :=
  ite (fun _ => (((h.minuteBid).tableMinute).heldMinute).jobMinute)
    fun _ => (((h.tableMinute).minuteBid).heldMinute).jobMinute

/-! ## Expiries -/

theorem holdExpires (h : Moves b c) : Moves b (holdExpires c) := ite (fun _ => h.abortJob _) fun _ => h

theorem jobLimitReached (h : Moves b c) : Moves b (jobLimitReached c) := ite (fun _ => h.abortJob _) fun _ => h

theorem edgeRefreshes (h : Moves b c) : Moves b (edgeRefreshes c) := ite (fun _ => h.queueEdgePhases) fun _ => h

theorem countSeedsNeeded (h : Moves b c) : Moves b (countSeedsNeeded c) :=
  ite (fun _ => foldl (fun _ h => ite (fun _ => h.count _ _) fun _ => h) _ (h.aside {})) fun _ => h

theorem listenExpires (h : Moves b c) : Moves b (listenExpires c) := by
  refine ite (fun hl => ?_) fun _ => h
  have hm := h.move (.activates hl)
  have he : Moves b { activated c with table := { (activated c).table with edge := some edgeTicks } } := hm.aside {}
  exact ((he.aside (d := modifyReg (fun r => { r with mainSend := if r.main.tap then some 1 else none }) _) {}).queueEdgePhases).countSeedsNeeded

/-! ## Taking what is due -/

theorem takeDue (h : Moves b c) (due : Bool) {clear : Due → Due} {f : Controller → Controller}
    (hc : (clear c.due).loadComplete = c.due.loadComplete) (hf : ∀ {c}, Moves b c → Moves b (f c)) :
    Moves b (takeDue due clear f c) :=
  ite (fun _ => (hf (h.aside { loadDue := hc })).freePlace) fun _ => h

theorem takeDoorWarn (h : Moves b c) (ch : Nat) : Moves b (takeDoorWarn ch c) := h.takeDue _ rfl fun h => h.doorWarns ch

theorem takeDoorOverdue (h : Moves b c) (ch : Nat) : Moves b (takeDoorOverdue ch c) :=
  ite (fun _ => (h.takeDoorWarn ch).takeDue _ rfl fun h => h.doorOverdues ch) fun _ => h

theorem takeDoorInput (h : Moves b c) (ch : Nat) : Moves b (takeDoorInput ch c) :=
  ite (fun _ => ((h.takeDoorWarn ch).takeDoorOverdue ch).takeDue _ rfl fun h => h.deriveDoor ch) fun _ => h

theorem takeGateExpiry (h : Moves b c) : Moves b (takeGateExpiry c) := h.takeDue _ rfl gateExpires
theorem takeGateStart (h : Moves b c) : Moves b (takeGateStart c) := h.takeDue _ rfl gateStarts
theorem takeAnswerLimit (h : Moves b c) : Moves b (takeAnswerLimit c) := h.takeDue _ rfl answerExpires
theorem takeCycleComplete (h : Moves b c) : Moves b (takeCycleComplete c) := h.takeDue _ rfl cycleCompletes
theorem takeControlPeriod (h : Moves b c) : Moves b (takeControlPeriod c) := h.takeDue _ rfl periodExpires
theorem takeBidWindow (h : Moves b c) : Moves b (takeBidWindow c) := h.takeDue _ rfl windowExpires
theorem takeSecond (h : Moves b c) : Moves b (takeSecond c) := h.takeDue _ rfl secondBase

theorem takeNeighbourLost (h : Moves b c) (e : Edge) : Moves b (takeNeighbourLost e c) := by
  cases e
  · exact h.takeDue _ rfl fun h => h.neighbourIsLost _
  · exact h.takeDue _ rfl fun h => h.neighbourIsLost _

theorem takeMachineStale (h : Moves b c) (m : MachineId) : Moves b (takeMachineStale m c) := by
  cases m
  · exact h.takeDue _ rfl fun h => h.machineGoesStale _
  · exact h.takeDue _ rfl fun h => h.machineGoesStale _
  · exact h.takeDue _ rfl fun h => h.machineGoesStale _

theorem takeMainStale (h : Moves b c) : Moves b (takeMainStale c) := h.takeDue _ rfl mainGoesStale
theorem takeHoldTimer (h : Moves b c) : Moves b (takeHoldTimer c) := h.takeDue _ rfl holdExpires
theorem takeTravelTimer (h : Moves b c) : Moves b (takeTravelTimer c) := h.takeDue _ rfl travelExpires
theorem takeListenTimer (h : Moves b c) : Moves b (takeListenTimer c) := h.takeDue _ rfl listenExpires
theorem takeEdgeRefresh (h : Moves b c) : Moves b (takeEdgeRefresh c) := h.takeDue _ rfl edgeRefreshes
theorem takeMainSend (h : Moves b c) : Moves b (takeMainSend c) := h.takeDue _ rfl mainSendExpires
theorem takeMinute (h : Moves b c) (bidFirst : Bool) : Moves b (takeMinute bidFirst c) :=
  h.takeDue _ rfl fun h => h.minuteBase bidFirst
theorem takeJobLimit (h : Moves b c) : Moves b (takeJobLimit c) := h.takeDue _ rfl jobLimitReached
theorem takeClaimExpired (h : Moves b c) : Moves b (takeClaimExpired c) := h.takeDue _ rfl claimExpires

theorem settleSecond (h : Moves b c) : Moves b (settleSecond c) := by
  unfold Machine.settleSecond
  have hs := h.takeSecond
  dsimp only
  generalize Machine.takeSecond c = m at hs ⊢
  have hwarn := foldl (fun ch h => h.takeDoorWarn ch) m.due.doorWarn hs
  generalize m.due.doorWarn.foldl (fun c ch => Machine.takeDoorWarn ch c) m = n at hwarn ⊢
  have hover := foldl (fun ch h => h.takeDoorOverdue ch) n.due.doorOverdue hwarn
  exact (((((((((((hover.takeNeighbourLost .below).takeNeighbourLost .above).takeMachineStale .pusher).takeMachineStale
    .guide).takeMachineStale .qcar).takeMainStale).takeHoldTimer).takeTravelTimer).takeListenTimer).takeEdgeRefresh).takeMainSend)

theorem settleMinute (h : Moves b c) : Moves b (settleMinute c) := ((h.takeMinute false).takeJobLimit).takeClaimExpired

end Moves

/-! ## What every step keeps -/

/-- A property that the work of every command keeps: the moves, the arrival of an image byte, the memory's missing answer and
the completion of a load. -/
structure KeptByWork (Q : Controller → Prop) : Prop where
  move {c d : Controller} : Move c d → Q c → Q d
  byte (x : Byte) {c : Controller} : Q c → Q (byteArrives x c)
  timeout {c : Controller} : Q c → Q (byteTimesOut c)
  load {c : Controller} : c.due.loadComplete = true → Q c →
    Q (loadCompletes (modifyDue (fun d => { d with loadComplete := false }) c))

/-- A property P that every step keeps: while POWER-ON is released it is Q, which the work keeps; and the reset inputs keep it. -/
structure KeptByStep (P Q : Controller → Prop) : Prop where
  work : KeptByWork Q
  toQ {c : Controller} : c.start.powerOn = false → P c → Q c
  ofQ {c : Controller} : Q c → P c
  atReset (r : Bool) : P (Controller.atReset r)
  release (x : BitVec 5) {c : Controller} : c.start.powerOn = true → P c → P (releasePowerOn x c)
  noted {c : Controller} : c.start.powerOn = true → P c → P (notedRestart c)
  restart {c : Controller} : c.start.restart = false → Q c → P (restartAsserts c)
  held {c : Controller} : c.start.powerOn = true → P c → Q c ∨ c.due = Due.nothing
  restartRelease (x : BitVec 5) {c : Controller} : c.start.restart = true → P c → P (releaseRestart x c)

namespace KeptByWork

variable {Q : Controller → Prop} {c d : Controller}

theorem moves (h : KeptByWork Q) (hm : Moves c d) (hc : Q c) : Q d := hm.keeps h.move hc

theorem takeByteTimeout (h : KeptByWork Q) (hc : Q c) : Q (takeByteTimeout c) := by
  unfold Machine.takeByteTimeout Machine.takeDue
  split
  · exact h.moves (Moves.freePlace .refl) (h.timeout (h.move (.aside {}) hc))
  · exact hc

theorem takeLoadComplete (h : KeptByWork Q) (hc : Q c) : Q (takeLoadComplete c) := by
  unfold Machine.takeLoadComplete Machine.takeDue
  split
  · next hd => exact h.moves (Moves.freePlace .refl) (h.load hd hc)
  · exact hc

theorem settleTick (h : KeptByWork Q) (hc : Q c) : Q (settleTick c) := by
  unfold Machine.settleTick
  have hbyte := h.takeByteTimeout (h.takeLoadComplete (h.moves (Moves.takeCycleComplete .refl) hc))
  refine h.moves ?_ hbyte
  generalize Machine.takeByteTimeout _ = m
  have hdoors := Moves.foldl (fun ch h => h.takeDoorInput ch) m.due.doorInput (c := m) .refl
  exact ((((((hdoors.takeGateExpiry).takeGateStart).takeAnswerLimit).takeCycleComplete).takeControlPeriod).takeBidWindow)

theorem settle (h : KeptByWork Q) (hc : Q c) : Q (settle c) := by
  unfold Machine.settle
  split
  · exact hc
  · exact h.moves ((Moves.settleSecond .refl).settleMinute) (h.settleTick hc)

end KeptByWork

theorem enterSilent_start (c : Controller) :
    (enterSilent c).start = { c.start with line := .silent, listen := none } := by
  simp only [enterSilent]
  split <;> rfl

theorem enterSilent_loadDue (c : Controller) : (enterSilent c).due.loadComplete = c.due.loadComplete := by
  simp only [enterSilent]
  split <;> rfl

theorem dropCall_loadDue (c : Controller) : (dropCall c).due.loadComplete = c.due.loadComplete := by
  unfold dropCall
  split <;> rfl

/-- What the entry to RECLOSING leaves of the start-up record and of the due load. -/
theorem reclosingEntered_start (c : Controller) :
    (reclosingEntered c).start = c.start ∧ (reclosingEntered c).due.loadComplete = c.due.loadComplete := by
  simp [reclosingEntered, dropCall_loadDue, stopHold]

/-- What a door's change of state leaves before the push job is told. -/
theorem doorMoved_frame (ch : Nat) (old new : DoorState) (c : Controller) :
    (doorMoved ch old new c).start = c.start ∧ (doorMoved ch old new c).due = c.due
      ∧ (doorMoved ch old new c).job = c.job ∧ (doorMoved ch old new c).track = c.track
      ∧ (doorMoved ch old new c).round = c.round ∧ (doorMoved ch old new c).held = c.held := by
  refine ⟨?start, ?due, ?job, ?track, ?round, ?held⟩
  case start => simp [doorMoved, apply_ite Controller.start]
  case due => simp [doorMoved, apply_ite Controller.due]
  case job => simp [doorMoved, apply_ite Controller.job]
  case track => simp [doorMoved, apply_ite Controller.track]
  case round => simp [doorMoved, apply_ite Controller.round]
  case held => simp [doorMoved, apply_ite Controller.held]

/-- What a move keeps of the start-up record. -/
theorem Move.start {c d : Controller} (h : Move c d) :
    d.start.powerOn = c.start.powerOn ∧ d.start.restart = c.start.restart ∧ d.start.config = c.start.config
      ∧ d.start.reading = c.start.reading ∧ d.due.loadComplete = c.due.loadComplete
      ∧ (d.start.line = c.start.line ∨ receiving c = true ∧ receiving d = true) := by
  cases h with
  | aside h => exact ⟨h.powerOn, h.restart, h.config, h.reading, h.loadDue, .inl h.line⟩
  | silences h =>
    rw [enterSilent_start, enterSilent_loadDue]
    exact ⟨rfl, rfl, rfl, rfl, rfl, .inr ⟨h, by simp [receiving, enterSilent_start]⟩⟩
  | activates h => exact ⟨rfl, rfl, rfl, rfl, rfl, .inr ⟨by simp [receiving, h], rfl⟩⟩
  | door =>
    rw [(doorMoved_frame _ _ _ _).1, (doorMoved_frame _ _ _ _).2.1]
    exact ⟨rfl, rfl, rfl, rfl, rfl, .inl rfl⟩
  | recloses =>
    rw [(reclosingEntered_start c).1, (reclosingEntered_start c).2]
    exact ⟨rfl, rfl, rfl, rfl, rfl, .inl rfl⟩
  | owes | enters | stays | call | ovens | doors => exact ⟨rfl, rfl, rfl, rfl, rfl, .inl rfl⟩
  | count | offer | offerEvent | withdraw | idles | setPhase | forms => simp

end Sys2Proof.Machine
end

section
/-! SUPPORT. What every step keeps: an invariant that the moves, the load and the reset inputs keep is kept by every command. -/

-- The lemmas are checked one after another, as the tests are.
set_option Elab.async false

namespace Sys2Proof.Machine

open Sys2Proof

/-! ## The RESTART input under the work -/

/-- The start-up record after a successful load (R197, R198). -/
theorem loadInForce_start (g : Config) (n : Nat) (c : Controller) :
    (loadInForce g n c).start = { c.start with line := .listen, config := some g, reading := false, byteLeft := none,
                                               listen := some 10 } := by
  simp only [loadInForce, enterListen, requestFrame_frame, modifyReg_frame]
  have hkeep (m : Controller) (b : Bool) : (if b = true then warmStart g m else coldStart g m).start = m.start := by
    cases b <;> simp
  simp only [modifyStart, hkeep]
  simp [listenTicks]

theorem enterConfigFault_start (c : Controller) :
    (enterConfigFault c).start = { c.start with line := .configFault, reading := false, byteLeft := none } := rfl

/-- The reset inputs are left by a load, whether it succeeds or fails. -/
theorem loadCompletes_inputs (c : Controller) :
    (loadCompletes c).start.powerOn = c.start.powerOn ∧ (loadCompletes c).start.restart = c.start.restart := by
  unfold loadCompletes
  split
  · rw [loadInForce_start]
    exact ⟨rfl, rfl⟩
  · exact ⟨rfl, rfl⟩

theorem restart_keptByWork (r : Bool) : KeptByWork fun c => c.start.restart = r where
  move h hc := h.start.2.1.trans hc
  byte x c hc := by
    unfold byteArrives
    split
    · exact hc
    · exact hc
  timeout {c} hc := by
    unfold byteTimesOut
    split
    · exact hc
    · exact hc
  load _ hc := (loadCompletes_inputs _).2.trans hc

/-- Taking what is due leaves the RESTART input as it is. -/
theorem settle_restart (c : Controller) : (settle c).start.restart = c.start.restart :=
  (restart_keptByWork c.start.restart).settle rfl

theorem powerOn_keptByWork (r : Bool) : KeptByWork fun c => c.start.powerOn = r where
  move h hc := h.start.1.trans hc
  byte x c hc := by
    unfold byteArrives
    split
    · exact hc
    · exact hc
  timeout {c} hc := by
    unfold byteTimesOut
    split
    · exact hc
    · exact hc
  load _ hc := (loadCompletes_inputs _).1.trans hc

/-! ## Every command -/

namespace KeptByStep

variable {P Q : Controller → Prop} {q : List Instr} {c : Controller} {t : State}

/-- A command from outside keeps what its work keeps. -/
theorem act (h : KeptByStep P Q) {f : Controller → Controller} (hf : ∀ {c}, Q c → Q (f c)) (hc : P c)
    (ht : act f ⟨q, c⟩ = .next t) : P t.ctl := by
  cases hp : c.start.powerOn with
  | true =>
    rw [act_of_powerOn hp] at ht
    cases ht
    exact hc
  | false =>
    simp only [Machine.act, hp] at ht
    cases ht
    exact h.ofQ (h.work.moves (Moves.freePlace .refl) (hf (h.work.settle (h.toQ hp hc))))

/-- A command that takes an event keeps what the taking keeps. -/
theorem event (h : KeptByStep P Q) {f : Controller → Controller} (hf : ∀ {c}, Q c → Q (f c)) (hc : P c)
    (ht : event f ⟨q, c⟩ = .next t) : P t.ctl := by
  cases hp : c.start.powerOn with
  | true =>
    rw [event_of_powerOn hp] at ht
    cases ht
    exact hc
  | false =>
    rw [event_of_running hp] at ht
    cases ht
    exact h.ofQ (hf (h.toQ hp hc))

/-- A command from outside whose work is a run of moves. -/
theorem actMoves (h : KeptByStep P Q) {f : Controller → Controller} (hf : ∀ {c}, Moves c (f c)) (hc : P c)
    (ht : Machine.act f ⟨q, c⟩ = .next t) : P t.ctl := h.act (fun hq => h.work.moves hf hq) hc ht

/-- A command that takes an event by a run of moves. -/
theorem eventMoves (h : KeptByStep P Q) {f : Controller → Controller} (hf : ∀ {c}, Moves c (f c)) (hc : P c)
    (ht : Machine.event f ⟨q, c⟩ = .next t) : P t.ctl := h.event (fun hq => h.work.moves hf hq) hc ht

/-- A telegram handed on to a block whose work is a run of moves while the station receives. -/
theorem hand (h : KeptByStep P Q) {k : Kind} {p : Telegram → Bool} {f : Telegram → Controller → Controller}
    (hf : ∀ {b c} t, receiving c = true → Moves b c → Moves b (f t c)) (hc : P c)
    (ht : Machine.act (handOn k p f) ⟨q, c⟩ = .next t) : P t.ctl :=
  h.actMoves (Moves.handOn .refl k p hf) hc ht

/-- The RESTART input asserted. -/
theorem restartAssert (h : KeptByStep P Q) (hc : P c) (ht : execRestartAssert ⟨q, c⟩ = .next t) : P t.ctl := by
  simp only [execRestartAssert] at ht
  cases ht
  split
  · next hp => exact h.noted hp hc
  · next hp =>
    split
    · exact hc
    · next hr =>
      refine h.restart ?_ (h.work.settle (h.toQ (by simpa using hp) hc))
      rw [settle_restart]
      simpa using hr

/-- The RESTART input released. -/
theorem restartReleased (h : KeptByStep P Q) (x : BitVec 5) (hc : P c) (ht : execRestartRelease x ⟨q, c⟩ = .next t) :
    P t.ctl := by
  simp only [execRestartRelease] at ht
  cases ht
  split
  · next hr =>
    refine h.restartRelease x ((settle_restart c).trans hr) ?_
    cases hp : c.start.powerOn with
    | false => exact h.ofQ (h.work.settle (h.toQ hp hc))
    | true =>
      obtain hq | hd := h.held hp hc
      · exact h.ofQ (h.work.settle hq)
      · rwa [settle_of_due_nothing hd]
  · exact hc

/-- POWER-ON released. -/
theorem powerOnReleased (h : KeptByStep P Q) (x : BitVec 5) (hc : P c) (ht : execPowerOnRelease x ⟨q, c⟩ = .next t) :
    P t.ctl := by
  simp only [execPowerOnRelease] at ht
  cases ht
  split
  · next hp => exact h.release x hp hc
  · exact hc

/-- Every command keeps P. -/
theorem exec (h : KeptByStep P Q) (i : Instr) (hc : P c) (ht : exec i ⟨q, c⟩ = .next t) : P t.ctl := by
  cases i with
  | powerOnAssert => cases ht; exact h.atReset _
  | powerOnRelease x => exact h.powerOnReleased x hc ht
  | restartAssert => exact h.restartAssert hc ht
  | restartRelease x => exact h.restartReleased x hc ht
  | configByteArrival x => exact h.act (h.work.byte x) hc ht
  | configByteTimeout => exact h.event h.work.takeByteTimeout hc ht
  | loadComplete => exact h.event h.work.takeLoadComplete hc ht
  | listenTimerExpiry => exact h.eventMoves (Moves.takeListenTimer .refl) hc ht
  | tick10ms p l => exact h.actMoves (Moves.tickBase .refl p l) hc ht
  | secondTick => exact h.eventMoves (Moves.takeSecond .refl) hc ht
  | minuteTick bidFirst => exact h.eventMoves (Moves.takeMinute .refl bidFirst) hc ht
  | doorInputAccepted ch => exact h.eventMoves (Moves.takeDoorInput .refl ch) hc ht
  | doorWarn ch => exact h.eventMoves (Moves.takeDoorWarn .refl ch) hc ht
  | doorOverdue ch => exact h.eventMoves (Moves.takeDoorOverdue .refl ch) hc ht
  | jobLimitReached => exact h.eventMoves (Moves.takeJobLimit .refl) hc ht
  | holdTimerExpiry => exact h.eventMoves (Moves.takeHoldTimer .refl) hc ht
  | neighbourLost e => exact h.eventMoves (Moves.takeNeighbourLost .refl e) hc ht
  | machineStale m => exact h.eventMoves (Moves.takeMachineStale .refl m) hc ht
  | mainStale => exact h.eventMoves (Moves.takeMainStale .refl) hc ht
  | claimExpired => exact h.eventMoves (Moves.takeClaimExpired .refl) hc ht
  | bidWindowExpiry => exact h.eventMoves (Moves.takeBidWindow .refl) hc ht
  | edgePhaseRefresh => exact h.eventMoves (Moves.takeEdgeRefresh .refl) hc ht
  | mainSendExpiry => exact h.eventMoves (Moves.takeMainSend .refl) hc ht
  | travelTimerExpiry => exact h.eventMoves (Moves.takeTravelTimer .refl) hc ht
  | controlPeriodExpiry => exact h.eventMoves (Moves.takeControlPeriod .refl) hc ht
  | sampleWord code => exact h.actMoves (Moves.sampleArrives .refl code) hc ht
  | answerLimitExpiry => exact h.eventMoves (Moves.takeAnswerLimit .refl) hc ht
  | converterCycleComplete => exact h.eventMoves (Moves.takeCycleComplete .refl) hc ht
  | positionerFrameEnd => exact h.actMoves (Moves.frameEnds .refl) hc ht
  | leakGateStart => exact h.eventMoves (Moves.takeGateStart .refl) hc ht
  | leakGateExpiry => exact h.eventMoves (Moves.takeGateExpiry .refl) hc ht
  | telegramReceived f => exact h.actMoves (Moves.receiveFrame .refl f) hc ht
  | telegramStart => exact h.actMoves (Moves.telegramStarts .refl) hc ht
  | arbitrationLost => exact h.actMoves (Moves.losesArbitration .refl) hc ht
  | lineError => exact h.actMoves (Moves.lineErrs .refl) hc ht
  | telegramSent ackLow => exact h.actMoves (Moves.telegramCompletes .refl ackLow) hc ht
  | halt => exact h.hand (fun _ hr hm => hm.jobOnHalt _ _ hr) hc ht
  | pusher => exact h.hand (fun t hr hm => hm.takePusher t hr) hc ht
  | guide => exact h.hand (fun t _ hm => hm.takeGuide t) hc ht
  | qcar => exact h.hand (fun t _ hm => hm.takeQcar t) hc ht
  | chargeStart => exact h.hand (fun t _ hm => hm.takeChargeStart t) hc ht
  | chargeEnd => exact h.hand (fun t _ hm => hm.takeChargeEnd t) hc ht
  | claim => exact h.hand (fun t _ hm => hm.takeClaim t) hc ht
  | bid => exact h.hand (fun t _ hm => hm.takeBid t) hc ht
  | release => exact h.hand (fun t _ hm => hm.takeRelease t) hc ht
  | permit => exact h.hand (fun _ _ hm => hm.holderSpeaks _) hc ht
  | call => exact h.hand (fun _ _ hm => hm.holderSpeaks _) hc ht
  | phase => exact h.hand (fun t _ hm => hm.takePhase t) hc ht
  | main => exact h.hand (fun t _ hm => hm.takeMain t) hc ht
  | plan => exact h.hand (fun t _ hm => hm.takePlan t) hc ht
  | seed => exact h.hand (fun t _ hm => hm.takeSeed t) hc ht
  | clearSticker => exact h.hand (fun t _ hm => hm.takeClearSticker t) hc ht
  | clearHardcount => exact h.hand (fun t _ hm => hm.takeClearHardcount t) hc ht
  | inhibitSet => exact h.hand (fun t _ hm => hm.takeInhibitSet t) hc ht
  | inhibitClear => exact h.hand (fun t _ hm => hm.takeInhibitClear t) hc ht
  | mask => exact h.hand (fun t _ hm => hm.takeMask t) hc ht
  | framingFault => exact h.actMoves (Moves.framingFaults .refl) hc ht
  | lineIdle => exact h.actMoves (Moves.lineIdles .refl) hc ht
  | leakSensorPulse => exact h.actMoves (Moves.leakPulse .refl) hc ht

/-- Every step keeps P. -/
theorem step (h : KeptByStep P Q) {s t : State} (hs : P s.ctl) (ht : step s = .next t) : P t.ctl := by
  obtain ⟨pending, c⟩ := s
  cases pending with
  | nil => cases ht; exact hs
  | cons i rest => exact h.exec i hs ht

end KeptByStep

end Sys2Proof.Machine
end

section
/-! SUPPORT. What the completion of a load leaves in each block, at a cold start and at a warm one (R196 to R198). -/

-- The lemmas are checked one after another, as the tests are.
set_option Elab.async false

namespace Sys2Proof.Machine

open Sys2Proof

/-- The controller that a successful load hands to its cold or warm start: the report-enable set taken, the corrections
counted, the values in force. -/
def loadBegun (g : Config) (n : Nat) (c : Controller) : Controller :=
  modifyStart (fun u => { u with config := some g, reading := false, byteLeft := none }) (countClamps n (takeReportSet g c))

theorem loadInForce_eq (g : Config) (n : Nat) (c : Controller) :
    loadInForce g n c = enterListen (if sameGeometry c.start.config g then warmStart g (loadBegun g n c)
      else coldStart g (loadBegun g n c)) := rfl

/-- The cold records, before the door records are formed. -/
def coldRecords (g : Config) (c : Controller) : Controller :=
  { abandonGate c with
    table := coldTable g
    round := Round.closedRecord
    held := HeldRecord.emptyRecord g.tclaim
    job := Job.idleRecord
    track := Tracker.unknown g.staleLimit
    doors := { c.doors with doors := [] }
    reg := freshRegulation g false c.reg
    due := Due.nothing }

theorem coldStart_eq (g : Config) (c : Controller) :
    coldStart g c = if inputsAccepted (coldRecords g c) then formDoors (coldRecords g c) else coldRecords g c := rfl

/-- The records that a warm start keeps or empties, once the push job is settled. -/
def warmRecords (g : Config) (c : Controller) : Controller :=
  { c with
    table := { c.table with edge := none, seedNeeded := false }
    round := Round.closedRecord
    held := HeldRecord.emptyRecord g.tclaim
    track := Tracker.unknown g.staleLimit
    doors := { c.doors with doors := c.doors.doors.map (Door.capChecks g.nchk) }
    reg := freshRegulation g c.reg.framesOn c.reg
    due := { c.due with stalePusher := false, staleGuide := false, staleCar := false, mainStale := false,
                        bidWindow := false, travelTimer := false } }

theorem warmStart_eq (g : Config) (c : Controller) : warmStart g c = warmRecords g (settleJob c) := rfl

/-- A load that succeeds or fails. -/
theorem loadCompletes_cases (c : Controller) :
    (∃ g n, loadCompletes c = loadInForce g n c ∧ g = (loadedConfig c.start.image).1) ∨ loadCompletes c = enterConfigFault c := by
  unfold loadCompletes
  split
  · exact .inl ⟨_, _, rfl, rfl⟩
  · exact .inr rfl

/-- What a successful load keeps: what the cold and the warm records have, and the entry to LISTEN keeps. -/
theorem loadInForce_keeps {P : Controller → Prop} {g : Config} {c : Controller} (n : Nat)
    (hcold : P (coldRecords g (loadBegun g n c)))
    (hforms : P (coldRecords g (loadBegun g n c)) → P (formDoors (coldRecords g (loadBegun g n c))))
    (hwarm : sameGeometry c.start.config g = true → P (warmStart g (loadBegun g n c)))
    (hlisten : ∀ {d}, d.start = (loadBegun g n c).start → P d → P (enterListen d)) : P (loadInForce g n c) := by
  rw [loadInForce_eq]
  refine hlisten ?_ ?_
  · split
    · simp
    · simp
  · split
    · exact hwarm ‹_›
    · rw [coldStart_eq]
      split
      · exact hforms hcold
      · exact hcold

/-! ## Changes of the start-up record alone -/

/-- From c to d nothing changed but the start-up record beside the configuration in force, what is due, and whether frames are
sent. -/
def StartOnly (c d : Controller) : Prop :=
  d.start.config = c.start.config
    ∧ d = { c with start := d.start, due := d.due, reg := { c.reg with framesOn := d.reg.framesOn } }

theorem StartOnly.byteArrives (x : Byte) (c : Controller) : StartOnly c (byteArrives x c) := by
  unfold Machine.byteArrives
  split
  · exact ⟨rfl, rfl⟩
  · exact ⟨rfl, rfl⟩

theorem StartOnly.enterConfigFault (c : Controller) : StartOnly c (enterConfigFault c) := ⟨rfl, rfl⟩

theorem StartOnly.byteTimesOut (c : Controller) : StartOnly c (byteTimesOut c) := by
  unfold Machine.byteTimesOut
  split
  · exact .enterConfigFault c
  · exact ⟨rfl, rfl⟩

theorem StartOnly.releasePowerOn (x : BitVec 5) (c : Controller) : StartOnly c (releasePowerOn x c) := by
  simp only [Machine.releasePowerOn]
  split
  · exact ⟨rfl, rfl⟩
  · exact ⟨rfl, rfl⟩

theorem StartOnly.notedRestart (c : Controller) : StartOnly c (notedRestart c) := ⟨rfl, rfl⟩

theorem StartOnly.releaseRestart (x : BitVec 5) (c : Controller) : StartOnly c (releaseRestart x c) := by
  simp only [Machine.releaseRestart]
  split
  · exact ⟨rfl, rfl⟩
  · exact ⟨rfl, rfl⟩

/-- An invariant that reads no more of the start-up record than the configuration in force is kept by every step where the moves,
the load and RESTART keep it. -/
theorem KeptByStep.of_startOnly {P : Controller → Prop} (move : ∀ {c d}, Move c d → P c → P d)
    (beside : ∀ {c d}, StartOnly c d → P c → P d)
    (load : ∀ (c : Controller) (n : Nat), P c → P (loadInForce (loadedConfig c.start.image).1 n c))
    (atReset : ∀ r, P (Controller.atReset r)) (restart : ∀ {c}, P c → P (restartAsserts c)) : KeptByStep P P where
  work :=
    { move := move
      byte := fun x _ h => beside (.byteArrives x _) h
      timeout := fun h => beside (.byteTimesOut _) h
      load := fun {c} _ h => by
        have hc : P (modifyDue (fun d => { d with loadComplete := false }) c) :=
          beside (c := c) ⟨rfl, rfl⟩ h
        obtain ⟨g, n, hl, rfl⟩ | hl := loadCompletes_cases (modifyDue (fun d => { d with loadComplete := false }) c)
        · rw [hl]
          exact load _ n hc
        · rw [hl]
          exact beside (.enterConfigFault _) hc }
  toQ _ h := h
  ofQ h := h
  atReset := atReset
  release x _ _ h := beside (.releasePowerOn x _) h
  noted _ h := beside (.notedRestart _) h
  restart _ h := restart h
  held _ h := .inl h
  restartRelease x _ _ h := beside (.releaseRestart x _) h

end Sys2Proof.Machine
end

section
/-! SUPPORT. The quench car call that every step keeps to the oven of a push job in CLAIMED to HELD (R106, R114). -/

-- The lemmas are checked one after another, as the tests are.
set_option Elab.async false

namespace Sys2Proof.Machine

open Sys2Proof

namespace CallInv

variable {c d : Controller}

theorem none (h : c.track.call.step = .none) : CallInv c := fun hn => absurd h hn

/-- The invariant reads the state and oven of the job, and the step and oven of the call. -/
theorem congr (hs : d.job.state = c.job.state) (ho : d.job.oven = c.job.oven) (hk : d.track.call = c.track.call)
    (h : CallInv c) : CallInv d := by
  unfold CallInv at h ⊢
  rw [hs, ho, hk]
  exact h

theorem offers (k : OnlyOffers c d) (h : CallInv c) : CallInv d := by
  have hk : d.track.call = { c.track.call with queued := d.track.call.queued } := (JobStays.of_offers k).call
  intro hn
  rw [hk] at hn ⊢
  obtain ⟨hs, hm⟩ := h hn
  have hj := (JobStays.of_offers k).job (JobState.ne_idle_of_claimedToHeld hs).2
  rw [hj]
  exact ⟨hs, hm⟩

theorem setPhase (i : Nat) (p : Phase) (h : CallInv c) : CallInv (setPhase i p c) :=
  offers (OnlyOffers.setPhase i p c) (h.congr rfl rfl rfl)

theorem reclosingEntered (c : Controller) : CallInv (reclosingEntered c) := none (dropCall_step _)

theorem enterSilent (h : CallInv c) : CallInv (enterSilent c) := by
  intro hn
  simp only [Machine.enterSilent] at hn ⊢
  split at hn
  · next hb =>
    have hs := (h hn).1
    obtain hb | hb := hb
    · rw [show c.job.state = .bidding from hb] at hs
      cases hs
    · rw [show c.job.state = .claiming from hb] at hs
      cases hs
  · next hb =>
    rw [if_neg hb]
    exact h hn

/-- Every move keeps the call to the job's oven. -/
theorem move (m : Move c d) (h : CallInv c) : CallInv d := by
  cases m with
  | count k first => exact h.offers (.count k first c)
  | offer t => exact h.offers (.offer t c)
  | offerEvent => exact h.offers (.offerEvent c)
  | withdraw p => exact h.offers (.withdraw p c)
  | aside k => exact h.congr (by rw [k.job]) (by rw [k.job]) k.call
  | owes w => exact h.congr rfl rfl rfl
  | @enters _ j k =>
    intro hn
    obtain ⟨hs, hm⟩ := h hn
    obtain ⟨hj, ho⟩ | hf := k.call
    · exact ⟨hj, by rw [show (withJob j c).job.oven = c.job.oven from ho]; exact hm⟩
    · simp [hf] at hs
  | stays k => exact h.congr k.state k.oven rfl
  | idles k =>
    obtain hs | hn := k
    · exact fun hn => absurd (h hn).1 (by simp [hs])
    · exact none hn
  | recloses => exact reclosingEntered c
  | call k =>
    intro hn
    obtain ⟨hc, ho⟩ | hj := k hn
    · obtain ⟨hs, m, hm, hk⟩ := h hc
      exact ⟨hs, m, hm, ho.trans hk⟩
    · exact hj
  | ovens | doors | activates => exact h.congr rfl rfl rfl
  | setPhase i p => exact h.setPhase i p
  | door =>
    obtain ⟨_, _, hj, ht, _⟩ := doorMoved_frame _ _ _ c
    exact h.congr (by rw [hj]) (by rw [hj]) (by rw [ht])
  | forms => exact h.congr (by simp) (by simp) (by simp)
  | silences => exact h.enterSilent

theorem loadInForce (g : Config) (n : Nat) (c : Controller) : CallInv (loadInForce g n c) := by
  refine none ?_
  refine loadInForce_keeps (P := fun d => d.track.call.step = .none) n rfl (fun h => ?_) (fun _ => rfl) (fun _ h => ?_)
  · simpa using h
  · simpa [enterListen] using h

/-- The call is kept by every step. -/
theorem keptByStep : KeptByStep CallInv CallInv :=
  .of_startOnly move
    (fun ⟨_, hd⟩ h => by
      rw [hd]
      exact h.congr rfl rfl rfl)
    (fun _ n _ => loadInForce _ n _) (fun _ => none rfl) fun {c} _ => none (by
      simp only [restartAsserts]
      split <;> rfl)

end CallInv

end Sys2Proof.Machine
end

section
/-! SUPPORT. The round record that every step keeps (R52, R57, R58, R64, R69). -/

-- The lemmas are checked one after another, as the tests are.
set_option Elab.async false

namespace Sys2Proof.Machine

open Sys2Proof

namespace RoundInv

variable {c d : Controller}

/-- The invariant reads the round record alone. -/
theorem congr (hr : d.round = c.round) (h : RoundInv c) : RoundInv d := by
  unfold RoundInv at h ⊢
  rwa [hr]

theorem enterSilent (c : Controller) : RoundInv (enterSilent c) := by
  refine .of_closed ?_
  simp only [Machine.enterSilent]
  split <;> rfl

/-- Every move keeps the round record right. -/
theorem move (m : Move c d) (h : RoundInv c) : RoundInv d := by
  cases m with
  | count | offer | offerEvent | withdraw | setPhase | forms => exact h.congr (by simp)
  | owes | enters | stays | idles | call | ovens | doors | activates => exact h.congr rfl
  | aside k => exact k.round h
  | recloses => exact h.congr (by simp [reclosingEntered])
  | door => exact h.congr (doorMoved_frame _ _ _ c).2.2.2.2.1
  | silences => exact enterSilent c

theorem loadInForce (g : Config) (n : Nat) (c : Controller) : RoundInv (loadInForce g n c) := by
  refine .of_closed ?_
  refine loadInForce_keeps (P := fun d => d.round = Round.closedRecord) n rfl (fun h => ?_) (fun _ => rfl) (fun _ h => ?_)
  · simpa using h
  · simpa [enterListen] using h

/-- The round record is kept by every step. -/
theorem keptByStep : KeptByStep RoundInv RoundInv :=
  .of_startOnly move
    (fun ⟨_, hd⟩ h => by
      rw [hd]
      exact h.congr rfl)
    (fun _ n _ => loadInForce _ n _) (fun _ => .of_closed rfl) fun {c} _ => .of_closed (by
      simp only [restartAsserts]
      split <;> rfl)

end RoundInv

end Sys2Proof.Machine
end

section
/-! SUPPORT. The reset inputs, the read and the due load that every step keeps (R194, R197, R198). -/

-- The lemmas are checked one after another, as the tests are.
set_option Elab.async false

namespace Sys2Proof.Machine

open Sys2Proof

/-- While POWER-ON is released: a RESTART asserted keeps the station in LOADING without reading, and the image is read, and a
load completes, in LOADING alone. -/
structure StartWork (c : Controller) : Prop where
  running : c.start.powerOn = false
  restart : c.start.restart = true → c.start.line = .loading ∧ c.start.reading = false ∧ c.due.loadComplete = false
  loading : c.start.reading = true ∨ c.due.loadComplete = true → c.start.line = .loading
  whole : c.due.loadComplete = true → c.start.reading = false

theorem receiving_of_loading {c : Controller} (h : c.start.line = .loading) : receiving c = false := by
  simp [receiving, h]

namespace StartWork

variable {c d : Controller}

theorem of_startRight (hp : c.start.powerOn = false) (h : StartRight c) : StartWork c :=
  ⟨hp, h.2.1, h.2.2.1, h.2.2.2⟩

theorem startRight (h : StartWork c) : StartRight c :=
  ⟨fun hp => by simp [h.running] at hp, h.restart, h.loading, h.whole⟩

/-- In a station that receives nothing is read, no load completes and RESTART is not asserted. -/
theorem of_receiving (h : StartWork c) (hr : receiving c = true) :
    c.start.restart = false ∧ c.start.reading = false ∧ c.due.loadComplete = false := by
  have hl : c.start.line ≠ .loading := fun hl => by simp [receiving_of_loading hl] at hr
  refine ⟨?_, ?_, ?_⟩
  · refine Classical.byContradiction fun hx => ?_
    exact hl (h.restart (by simpa using hx)).1
  · refine Classical.byContradiction fun hx => ?_
    exact hl (h.loading (.inl (by simpa using hx)))
  · refine Classical.byContradiction fun hx => ?_
    exact hl (h.loading (.inr (by simpa using hx)))

theorem move (m : Move c d) (h : StartWork c) : StartWork d := by
  obtain ⟨hp, hr, _, hrd, hld, hline⟩ := m.start
  obtain hline | ⟨hrc, _⟩ := hline
  · exact ⟨hp.trans h.running, by rw [hr, hline, hrd, hld]; exact h.restart, by rw [hline, hrd, hld]; exact h.loading,
      by rw [hrd, hld]; exact h.whole⟩
  · obtain ⟨h1, h2, h3⟩ := h.of_receiving hrc
    exact ⟨hp.trans h.running, by simp [hr, h1], by simp [hrd, hld, h2, h3], by simp [hld, h3]⟩

theorem byteArrives (x : Byte) (h : StartWork c) : StartWork (byteArrives x c) := by
  unfold Machine.byteArrives
  split
  · next hrd =>
    have hl := h.loading (.inl hrd)
    have hr : c.start.restart = false := by
      refine Classical.byContradiction fun hx => ?_
      simp [(h.restart (by simpa using hx)).2.1] at hrd
    exact ⟨h.running, fun hx => absurd hx (by simp [modifyStart, hr]), fun _ => hl, fun hx => by simpa [modifyStart] using hx⟩
  · exact h

/-- A read that goes on is the read of an image whose load does not complete yet. -/
theorem not_due_of_reading (h : StartWork c) (hrd : c.start.reading = true) : c.due.loadComplete = false := by
  refine Classical.byContradiction fun hx => ?_
  simp [h.whole (by simpa using hx)] at hrd

theorem not_restart_of_reading (h : StartWork c) (hrd : c.start.reading = true) : c.start.restart = false := by
  refine Classical.byContradiction fun hx => ?_
  simp [(h.restart (by simpa using hx)).2.1] at hrd

theorem not_restart_of_due (h : StartWork c) (hd : c.due.loadComplete = true) : c.start.restart = false := by
  refine Classical.byContradiction fun hx => ?_
  simp [(h.restart (by simpa using hx)).2.2] at hd

theorem byteTimesOut (h : StartWork c) : StartWork (byteTimesOut c) := by
  unfold Machine.byteTimesOut
  split
  · next hrd =>
    have hd := h.not_due_of_reading hrd
    have hr := h.not_restart_of_reading hrd
    exact ⟨h.running, by simp [enterConfigFault_start, hr], by simp [enterConfigFault_start, hd],
      fun _ => rfl⟩
  · exact h

theorem loadInForce_loadDue (g : Config) (n : Nat) {c : Controller} (hd : c.due.loadComplete = false) :
    (loadInForce g n c).due.loadComplete = false := by
  refine loadInForce_keeps (P := fun d => d.due.loadComplete = false) n rfl (fun h => ?_) (fun _ => ?_) (fun _ h => ?_)
  · simpa using h
  · rw [warmStart_eq]
    have hs : (loadBegun g n c).due = c.due := by
      unfold loadBegun
      simp only [modifyStart_frame, countClamps_frame]
      unfold takeReportSet
      split <;> rfl
    simpa [warmRecords, hs] using hd
  · simpa [enterListen] using h

theorem load (hd : c.due.loadComplete = true) (h : StartWork c) :
    StartWork (loadCompletes (modifyDue (fun d => { d with loadComplete := false }) c)) := by
  have hr := h.not_restart_of_due hd
  obtain ⟨g, n, hl, _⟩ | hl := loadCompletes_cases (modifyDue (fun d => { d with loadComplete := false }) c)
  · rw [hl]
    have hdue := loadInForce_loadDue g n (c := modifyDue (fun d => { d with loadComplete := false }) c) rfl
    refine ⟨?_, ?_, ?_, ?_⟩
    · rw [loadInForce_start]
      exact h.running
    · rw [loadInForce_start]
      exact fun hx => absurd hx (by simp [hr])
    · rw [loadInForce_start, hdue]
      simp
    · rw [hdue]
      simp
  · rw [hl]
    exact ⟨h.running, fun hx => absurd hx (by simp [enterConfigFault_start, hr]), by simp [enterConfigFault_start, modifyDue],
      by simp [modifyDue]⟩

theorem restartAsserts (h : StartWork c) : StartWork (restartAsserts c) := by
  simp only [Machine.restartAsserts]
  split
  · exact ⟨h.running, fun _ => ⟨rfl, rfl, rfl⟩, fun _ => rfl, fun _ => rfl⟩
  · exact ⟨h.running, fun _ => ⟨rfl, rfl, rfl⟩, fun _ => rfl, fun _ => rfl⟩

theorem keptByWork : KeptByWork StartWork where
  move := move
  byte x _ h := h.byteArrives x
  timeout h := h.byteTimesOut
  load hd h := h.load hd

end StartWork

namespace StartRight

variable {c : Controller}

theorem atReset (r : Bool) : StartRight (Controller.atReset r) :=
  ⟨fun _ => rfl, fun _ => ⟨rfl, rfl, rfl⟩, fun _ => rfl, fun _ => rfl⟩

/-- Held by POWER-ON, the controller is at its reset. -/
theorem eq_atReset (h : StartRight c) (hp : c.start.powerOn = true) : c = Controller.atReset c.start.restart := h.1 hp

theorem release (x : BitVec 5) (hp : c.start.powerOn = true) (h : StartRight c) : StartRight (releasePowerOn x c) := by
  have hc := h.eq_atReset hp
  generalize c.start.restart = r at hc
  subst hc
  cases r
  · exact ⟨nofun, nofun, fun _ => rfl, nofun⟩
  · exact ⟨nofun, fun _ => ⟨rfl, rfl, rfl⟩, fun _ => rfl, nofun⟩

theorem noted (hp : c.start.powerOn = true) (h : StartRight c) : StartRight (notedRestart c) := by
  rw [h.eq_atReset hp]
  exact atReset true

theorem restartRelease (x : BitVec 5) (hr : c.start.restart = true) (h : StartRight c) : StartRight (releaseRestart x c) := by
  cases hp : c.start.powerOn with
  | true =>
    rw [h.eq_atReset hp]
    exact atReset false
  | false =>
    obtain ⟨_, _, hd⟩ := h.2.1 hr
    simp only [releaseRestart, hp]
    refine ⟨fun hx => ?_, nofun, fun _ => rfl, fun hx => ?_⟩
    · simp [beginRead, modifyStart, hp] at hx
    · simp [hd] at hx

theorem held (hp : c.start.powerOn = true) (h : StartRight c) : c.due = Due.nothing := by
  rw [h.eq_atReset hp]
  rfl

end StartRight

end Sys2Proof.Machine
end

section
/-! SUPPORT. The permit and hold outputs and the IDLE record that every step keeps (R71, R72). -/

-- The lemmas are checked one after another, as the tests are.
set_option Elab.async false

namespace Sys2Proof.Machine

open Sys2Proof

/-- The outputs and the record in IDLE are right. -/
structure JobRight (c : Controller) : Prop where
  outputs : OutputsRight c
  idle : IdleRight c

/-- The outputs are released in a state that asserts none, which is right wherever the station stands. -/
structure JobQuiet (c : Controller) : Prop where
  permit : c.job.permitOut = false
  hold : c.job.holdOut = false
  state : c.job.state ≠ .permitted ∧ c.job.state ≠ .pushing ∧ c.job.state ≠ .held
  idle : IdleRight c

namespace JobQuiet

variable {c d : Controller}

theorem right (h : JobQuiet c) : JobRight c := by
  refine ⟨?_, h.idle⟩
  unfold OutputsRight
  split
  · simp [h.permit, h.hold, h.state]
  · exact ⟨h.permit, h.hold⟩

theorem congr (h : JobQuiet c) (hj : d.job = { c.job with owed := d.job.owed }) : JobQuiet d := by
  obtain ⟨hp, hh, hs, hi⟩ := h
  refine ⟨by rw [hj]; exact hp, by rw [hj]; exact hh, by rw [hj]; exact hs, fun hx => ?_⟩
  rw [hj] at hx
  rw [hj, hi hx]

/-- A job in IDLE. -/
theorem of_idle (h : d.job = { Job.idleRecord with owed := d.job.owed }) : JobQuiet d := by
  refine ⟨?_, ?_, ⟨?_, ?_, ?_⟩, fun _ => h⟩ <;> rw [h] <;> simp [Job.idleRecord]

theorem offers (k : OnlyOffers c d) (h : JobQuiet c) : JobQuiet d := by
  obtain hj | ⟨_, hj⟩ := k.job
  · exact h.congr hj
  · exact of_idle hj

theorem setPhase (i : Nat) (p : Phase) (h : JobQuiet c) : JobQuiet (setPhase i p c) :=
  offers (OnlyOffers.setPhase i p c) (h.congr rfl)

/-- A settled job is in IDLE or in RECLOSING. -/
theorem settleJob (c : Controller) : JobQuiet (settleJob c) := by
  have hidle : JobQuiet (idleJob c) := of_idle rfl
  have hat (i n : Nat) (p : Phase) : JobQuiet (settleJobAt i n p c) := by
    simp only [settleJobAt]
    split
    · have hq : JobQuiet (modifyJob (fun j => { j.enter .reclosing with
          started := (settledFlags p).1, ended := (settledFlags p).2, minutes := 0, holdSecs := 0, cause := none }) c) :=
        ⟨rfl, rfl, ⟨nofun, nofun, nofun⟩, nofun⟩
      split
      · exact hq.setPhase i _
      · exact hq
    · have hq : JobQuiet (modifyJob (fun j => { j.toIdle with owed := some ⟨n, settledOutcome p⟩ }) c) := of_idle rfl
      unfold settlePhase
      split
      · split
        · exact hq
        · exact hq.setPhase i _
      · exact hq
  unfold Machine.settleJob
  split
  · split
    · split
      · exact hat _ _ _
      · exact hidle
    · exact hidle
  · exact hidle

theorem loadInForce (g : Config) (n : Nat) (c : Controller) : JobQuiet (loadInForce g n c) := by
  refine loadInForce_keeps (P := JobQuiet) n (of_idle rfl) (fun h => h.congr (by simp)) (fun _ => ?_)
    (fun _ h => h.congr (by simp [enterListen]))
  rw [warmStart_eq]
  exact (settleJob _).congr rfl

end JobQuiet

namespace JobRight

variable {c d : Controller}

/-- Both are read from the job and from whether the station receives. -/
theorem congr (h : JobRight c) (hr : receiving d = receiving c) (hj : d.job = { c.job with owed := d.job.owed }) :
    JobRight d := by
  obtain ⟨ho, hi⟩ := h
  refine ⟨?_, fun hs => ?_⟩
  · unfold OutputsRight at ho ⊢
    rw [hr, hj]
    exact ho
  · rw [hj] at hs
    rw [hj, hi hs]

theorem offers (k : OnlyOffers c d) (h : JobRight c) : JobRight d := by
  obtain hj | ⟨_, hj⟩ := k.job
  · exact h.congr (receiving_congr k.start) hj
  · exact (JobQuiet.of_idle hj).right

theorem enters {j : Job} (k : Enters c j) : JobRight (withJob j c) := by
  refine ⟨?_, fun hs => absurd hs k.busy⟩
  unfold OutputsRight
  split
  · exact ⟨k.permit, k.hold⟩
  · next hr =>
    have hn : ¬ (j.state = .permitted ∨ j.state = .pushing ∨ j.state = .held) := fun hx => hr (k.runs hx)
    simp only [not_or] at hn
    exact ⟨k.permit.trans (by simp [hn.1, hn.2.1]), k.hold.trans (by simp [hn.2.2])⟩

theorem stays {j : Job} (k : StaysIn c j) (h : JobRight c) : JobRight (withJob j c) := by
  refine ⟨?_, fun hs => absurd (k.state.symm.trans hs) k.busy⟩
  have ho := h.outputs
  unfold OutputsRight at ho ⊢
  simp only [withJob, k.permit, k.hold, k.state]
  exact ho

theorem idleJob (c : Controller) : JobRight (idleJob c) := (JobQuiet.of_idle rfl).right

theorem reclosingEntered (c : Controller) : JobRight (reclosingEntered c) := by
  have hs : (Machine.reclosingEntered c).job.state = .reclosing := by simp [Machine.reclosingEntered, stopHold, enterJob, modifyJob]
  refine JobQuiet.right ⟨?_, ?_, by simp [hs], fun hx => by simp [hs] at hx⟩
  · simp [Machine.reclosingEntered, stopHold, enterJob, modifyJob]
  · simp [Machine.reclosingEntered, stopHold, enterJob, modifyJob]

theorem enterSilent (hr : receiving c = true) (h : JobRight c) : JobRight (enterSilent c) := by
  have hs : receiving (Machine.enterSilent c) = true := by simp [receiving, enterSilent_start]
  obtain hj | hj : (Machine.enterSilent c).job = c.job ∨ (Machine.enterSilent c).job = c.job.toIdle := by
    simp only [Machine.enterSilent]
    split
    · exact .inr rfl
    · exact .inl rfl
  · exact h.congr (hs.trans hr.symm) (by rw [hj])
  · exact (JobQuiet.of_idle (by rw [hj]; rfl)).right

/-- Every move keeps the outputs and the IDLE record right. -/
theorem move (m : Move c d) (h : JobRight c) : JobRight d := by
  cases m with
  | count k first => exact h.offers (.count k first c)
  | offer t => exact h.offers (.offer t c)
  | offerEvent => exact h.offers (.offerEvent c)
  | withdraw p => exact h.offers (.withdraw p c)
  | aside k => exact h.congr (by simp [receiving, k.line]) (by rw [k.job])
  | owes w => exact h.congr rfl rfl
  | enters k => exact enters k
  | stays k => exact h.stays k
  | idles => exact idleJob c
  | recloses => exact reclosingEntered c
  | call | ovens | doors => exact h.congr rfl rfl
  | setPhase i p =>
    have k := OnlyOffers.setPhase i p c
    exact JobRight.offers k (h.congr rfl rfl)
  | door =>
    obtain ⟨hs, _, hj, _⟩ := doorMoved_frame _ _ _ c
    exact h.congr (receiving_congr hs) (by rw [hj])
  | forms => exact h.congr (receiving_congr (by simp)) (by simp)
  | silences hr => exact h.enterSilent hr
  | activates hl => exact h.congr (by simp [receiving, hl, activated, modifyStart]) rfl

end JobRight

/-- While POWER-ON is released: the outputs and the IDLE record are right, and the start-up record is. -/
structure OutputsWork (c : Controller) : Prop where
  job : JobRight c
  start : StartWork c

namespace OutputsWork

variable {c : Controller}

theorem keptByWork : KeptByWork OutputsWork where
  move m h := ⟨h.job.move m, h.start.move m⟩
  byte x c h := by
    refine ⟨h.job.congr ?_ (by simp), h.start.byteArrives x⟩
    unfold byteArrives
    split <;> rfl
  timeout {c} h := by
    refine ⟨?_, h.start.byteTimesOut⟩
    unfold byteTimesOut
    split
    · next hrd =>
      have hr := receiving_of_loading (h.start.loading (.inl hrd))
      exact h.job.congr (by rw [hr]; rfl) rfl
    · exact h.job
  load {c} hd h := by
    refine ⟨?_, h.start.load hd⟩
    obtain ⟨g, n, hl, _⟩ | hl := loadCompletes_cases (modifyDue (fun d => { d with loadComplete := false }) c)
    · rw [hl]
      exact (JobQuiet.loadInForce g n _).right
    · rw [hl]
      have hr := receiving_of_loading (h.start.loading (.inr hd))
      exact h.job.congr (by rw [hr]; rfl) rfl

theorem restartAsserts (h : OutputsWork c) : JobRight (restartAsserts c) := by
  have hline : (Machine.restartAsserts c).start.line = .loading ∧ (Machine.restartAsserts c).job = c.job.atRestart := by
    simp only [Machine.restartAsserts]
    split <;> exact ⟨rfl, rfl⟩
  obtain ⟨hl, hj⟩ := hline
  have hq : c.job.atRestart = c.job.toIdle
      ∨ c.job.atRestart = { c.job with permitOut := false, holdOut := false } := by
    unfold Job.atRestart
    split
    · exact .inl rfl
    · exact .inl rfl
    · exact .inr rfl
  obtain hq | hq := hq
  · exact (JobQuiet.of_idle (by rw [hj, hq]; rfl)).right
  · refine ⟨?_, fun hs => ?_⟩
    · unfold OutputsRight
      rw [receiving_of_loading hl, hj, hq]
      exact ⟨rfl, rfl⟩
    · rw [hj, hq] at hs ⊢
      rw [show c.job = _ from h.job.idle hs]
      rfl

/-- The outputs are kept by every step. -/
theorem keptByStep : KeptByStep OutputsInv OutputsWork where
  work := keptByWork
  toQ hp h := ⟨⟨h.1, h.2.1⟩, .of_startRight hp h.2.2⟩
  ofQ h := ⟨h.job.outputs, h.job.idle, h.start.startRight⟩
  atReset r := ⟨(JobQuiet.of_idle rfl).right.outputs, fun _ => rfl, .atReset r⟩
  release x c hp h := by
    have hj : (releasePowerOn x c).job = { Job.idleRecord with owed := (releasePowerOn x c).job.owed } := by
      rw [(StartOnly.releasePowerOn x c).2, h.2.2.eq_atReset hp]
      rfl
    have hq := (JobQuiet.of_idle hj).right
    exact ⟨hq.outputs, hq.idle, h.2.2.release x hp⟩
  noted {c} hp h := by
    have hq : JobRight (notedRestart c) := JobRight.congr (c := c) ⟨h.1, h.2.1⟩ rfl rfl
    exact ⟨hq.outputs, hq.idle, h.2.2.noted hp⟩
  restart _ h := ⟨h.restartAsserts.outputs, h.restartAsserts.idle, h.start.restartAsserts.startRight⟩
  held hp h := .inr (h.2.2.held hp)
  restartRelease x c hr h := by
    have hl := receiving_of_loading (h.2.2.2.1 hr).1
    have hq : JobRight (releaseRestart x c) := by
      refine JobRight.congr (c := c) ⟨h.1, h.2.1⟩ ?_ ?_
      · rw [hl]
        refine receiving_of_loading ?_
        simp only [releaseRestart]
        split
        · exact (h.2.2.2.1 hr).1
        · rfl
      · rw [(StartOnly.releaseRestart x c).2]
    exact ⟨hq.outputs, hq.idle, h.2.2.restartRelease x hr⟩

end OutputsWork

/-- Settles O56: the outputs and the call are each kept by every move, by a load and by the reset inputs. -/
theorem outputsKept : Obligations.OutputsKept :=
  ⟨fun _ _ hs ht => OutputsWork.keptByStep.step hs ht, fun _ _ hs ht => CallInv.keptByStep.step hs ht⟩

end Sys2Proof.Machine
end

section
/-! SUPPORT. The two queues that every step keeps within their sizes, in order, of the station's own number, and empty outside
ACTIVE (R35 to R37, R39, R44). -/

-- The lemmas are checked one after another, as the tests are.
set_option Elab.async false

namespace Sys2Proof.Machine

open Sys2Proof

/-- The queues are right. -/
structure TxRight (c : Controller) : Prop where
  rx : c.line.rx.length ≤ 4
  size : c.line.tx.length ≤ 8
  ascending : txAscending c.line.tx
  own : ∀ e ∈ c.line.tx, e.tel.src = ownNumber c
  silent : isActive c = false → c.line.tx = []

/-- Two telegrams of one station that contend for the place of a PHASE or a HALT bear one identifier (R40). -/
theorem ident_of_samePlace {t u : Telegram} (hs : samePlace t u = true) (hb : t.kind ≠ some .bid) (hc : t.kind ≠ some .claim)
    (hsrc : t.src = u.src) : t.ident = u.ident := by
  have hk : t.kind = u.kind := by
    simp only [samePlace, Bool.and_eq_true, beq_iff_eq] at hs
    exact hs.1
  have hcs : t.cls = u.cls ∧ t.sub = u.sub := by
    have hcases : t.kind = some .phase ∨ t.kind = some .halt := by
      simp only [samePlace, Bool.and_eq_true] at hs
      obtain ⟨_, hm⟩ := hs
      split at hm <;> simp_all
    have hphase (v : Telegram) (h : v.kind = some .phase) : v.cls = 5 ∧ v.sub = 1 := by
      unfold Telegram.kind kindOf at h
      split at h <;> simp_all
    have hhalt (v : Telegram) (h : v.kind = some .halt) : v.cls = 0 ∧ v.sub = 1 := by
      unfold Telegram.kind kindOf at h
      split at h <;> simp_all
    obtain h | h := hcases
    · obtain ⟨h1, h2⟩ := hphase t h
      obtain ⟨h3, h4⟩ := hphase u (hk ▸ h)
      exact ⟨h1.trans h3.symm, h2.trans h4.symm⟩
    · obtain ⟨h1, h2⟩ := hhalt t h
      obtain ⟨h3, h4⟩ := hhalt u (hk ▸ h)
      exact ⟨h1.trans h3.symm, h2.trans h4.symm⟩
  unfold Telegram.ident
  rw [hcs.1, hcs.2, hsrc]

/-- Contents replaced in their place keep the order of the queue. -/
theorem txAscending_replaceInPlace {t : Telegram} {q : List TxEntry}
    (hi : ∀ e ∈ q, samePlace t e.tel = true → t.ident = e.tel.ident) (h : txAscending q) : txAscending (replaceInPlace t q) := by
  unfold txAscending replaceInPlace
  rw [List.pairwise_map]
  refine h.imp_of_mem fun {a b} ha hb hab => ?_
  have hid (e : TxEntry) (he : e ∈ q) : (if samePlace t e.tel then (⟨t, false⟩ : TxEntry) else e).tel.ident = e.tel.ident := by
    split
    · next hs => exact hi e he hs
    · rfl
  rw [hid a ha, hid b hb]
  exact hab

namespace TxRight

variable {c d : Controller}

/-- An empty transmit queue is right whatever the station's number and state. -/
theorem of_empty (hr : c.line.rx.length ≤ 4) (ht : c.line.tx = []) : TxRight c :=
  ⟨hr, by simp [ht], by simp [ht, txAscending], by simp [ht], fun _ => ht⟩

/-- The queues are read from the line unit's record and the station line state. -/
theorem congr (h : TxRight c) (hline : d.line = c.line) (hstart : d.start.line = c.start.line) : TxRight d := by
  obtain ⟨hrx, hsize, hasc, hown, hsilent⟩ := h
  have ha : isActive d = isActive c := by simp [isActive, hstart]
  refine ⟨by rw [hline]; exact hrx, by rw [hline]; exact hsize, by rw [hline]; exact hasc, ?_, ?_⟩
  · rw [show ownNumber d = ownNumber c by simp [ownNumber, hline], hline]
    exact hown
  · rw [ha, hline]
    exact hsilent

/-- The queue becomes q, the station number and the rest staying. -/
theorem queue {q : List TxEntry} (h : TxRight c) (hn : d.line.number = c.line.number) (hr : d.line.rx = c.line.rx)
    (ht : d.line.tx = q) (hstart : d.start.line = c.start.line) (hsize : q.length ≤ 8) (hasc : txAscending q)
    (hown : ∀ e ∈ q, e.tel.src = ownNumber c) (hsilent : isActive c = false → q = []) : TxRight d where
  rx := by rw [hr]; exact h.rx
  size := by rw [ht]; exact hsize
  ascending := by rw [ht]; exact hasc
  own := by
    rw [ht, show ownNumber d = ownNumber c from hn]
    exact hown
  silent := by
    rw [ht, show isActive d = isActive c by simp [isActive, hstart]]
    exact hsilent

/-- A shorter queue in the same order. -/
theorem thinned (h : TxRight c) (hn : d.line.number = c.line.number) (hr : d.line.rx.length ≤ 4)
    (ht : (d.line.tx.map (·.tel)).Sublist (c.line.tx.map (·.tel))) (hstart : d.start.line = c.start.line) : TxRight d where
  rx := hr
  size := by
    have := ht.length_le
    simp only [List.length_map] at this
    exact Nat.le_trans this h.size
  ascending := by
    have hc := h.ascending
    unfold txAscending at hc ⊢
    rw [← List.pairwise_map (f := fun e : TxEntry => e.tel) (R := fun a b => a.ident ≤ b.ident)] at hc ⊢
    exact hc.sublist ht
  own e he := by
    obtain ⟨x, hx, hxe⟩ := List.mem_map.mp (ht.subset (List.mem_map_of_mem (f := fun e : TxEntry => e.tel) he))
    rw [← hxe, show ownNumber d = ownNumber c from hn]
    exact h.own x hx
  silent ha := by
    have hc := h.silent (by rw [← ha]; simp [isActive, hstart])
    rw [hc] at ht
    exact List.map_eq_nil_iff.mp (List.sublist_nil.mp ht)

/-- An entry of the station's own that takes a place of its own. -/
theorem inserted {t : Telegram} (h : TxRight c) (hn : d.line.number = c.line.number) (hr : d.line.rx = c.line.rx)
    (ht : d.line.tx = insertEntry ⟨t, false⟩ c.line.tx) (hstart : d.start.line = c.start.line) (ha : isActive c = true)
    (hroom : txRoom c = true) (hown : t.src = ownNumber c) : TxRight d := by
  refine h.queue hn hr ht hstart ?_ (txAscending_insertEntry h.ascending) (fun e he => ?_) (fun hx => by simp [ha] at hx)
  · rw [length_insertEntry]
    exact of_decide_eq_true hroom
  · obtain rfl | he := mem_insertEntry.mp he
    · exact hown
    · exact h.own e he

theorem offerEvent (h : TxRight c) : TxRight (offerEvent c) := by
  unfold Machine.offerEvent
  split
  · next hc =>
    simp only [Bool.and_eq_true] at hc
    exact h.inserted (t := eventTelegram (ownNumber c)) rfl rfl rfl rfl hc.1.1.1 hc.2 rfl
  · exact h

theorem count (k : EventKind) (first : Option Nat) (h : TxRight c) : TxRight (count k first c) :=
  offerEvent (h.congr rfl rfl)

theorem setFate (f : Fate) (h : TxRight c) : TxRight (setFate f c) :=
  h.queue (by simp) (by simp) (setFate_tx f c) (by simp) h.size h.ascending h.own h.silent

theorem notTaken (t : Telegram) (h : TxRight c) : TxRight (notTaken t c) :=
  h.congr (by simp) (by simp)

theorem withdraw (p : Telegram → Bool) (h : TxRight c) : TxRight (withdraw p c) := by
  have hq : TxRight (setTx (c.line.tx.filter fun e => !p e.tel) c) :=
    h.thinned rfl h.rx (sublist_filter_tel _ _) rfl
  simp only [Machine.withdraw]
  split
  · exact hq.setFate _
  · exact hq

theorem replaceEntry {t : Telegram} (h : TxRight c) (ha : isActive c = true) (hown : t.src = ownNumber c)
    (hany : c.line.tx.any (fun e => samePlace t e.tel) = true) : TxRight (replaceEntry t c) := by
  have hq : TxRight (setTx (if t.kind = some .bid ∨ t.kind = some .claim then
      insertEntry ⟨t, false⟩ (c.line.tx.filter fun e => !samePlace t e.tel) else replaceInPlace t c.line.tx) c) := by
    refine h.queue (q := if t.kind = some .bid ∨ t.kind = some .claim then
      insertEntry ⟨t, false⟩ (c.line.tx.filter fun e => !samePlace t e.tel) else replaceInPlace t c.line.tx) rfl rfl rfl rfl ?_ ?_ ?_
      (fun hx => by simp [ha] at hx)
    · split
      · rw [length_insertEntry]
        obtain ⟨e, he, hs⟩ := List.any_eq_true.mp hany
        have := List.length_filter_lt_length_iff_exists (p := fun e : TxEntry => !samePlace t e.tel) |>.mpr ⟨e, he, by simp [hs]⟩
        have := h.size
        omega
      · rw [replaceInPlace, List.length_map]
        exact h.size
    · split
      · exact txAscending_insertEntry (h.ascending.filter _)
      · next hk =>
        simp only [not_or] at hk
        exact txAscending_replaceInPlace (fun e he hs => ident_of_samePlace hs hk.1 hk.2 (hown.trans (h.own e he).symm))
          h.ascending
    · intro e he
      split at he
      · obtain rfl | he := mem_insertEntry.mp he
        · exact hown
        · exact h.own e (List.mem_filter.mp he).1
      · obtain ⟨x, hx, rfl⟩ := List.mem_map.mp he
        split
        · exact hown
        · exact h.own x hx
  simp only [Machine.replaceEntry]
  split
  · exact hq.setFate _
  · exact hq

theorem displaceLast {t : Telegram} (h : TxRight c) (ha : isActive c = true) (hown : t.src = ownNumber c) :
    TxRight (displaceLast t c) := by
  simp only [Machine.displaceLast]
  split
  · exact h
  · have hq : TxRight (setTx (insertEntry ⟨t, false⟩ c.line.tx).dropLast c) := by
      refine h.queue (q := (insertEntry ⟨t, false⟩ c.line.tx).dropLast) rfl rfl rfl rfl ?_ ((txAscending_insertEntry h.ascending).sublist (List.dropLast_sublist _))
        (fun e he => ?_) (fun hx => by simp [ha] at hx)
      · rw [List.length_dropLast, length_insertEntry]
        exact h.size
      · obtain rfl | he := mem_insertEntry.mp ((List.dropLast_sublist _).subset he)
        · exact hown
        · exact h.own e he
    refine count _ _ ?_
    split
    · exact hq.setFate _
    · exact hq.notTaken _

theorem offer {t : Telegram} (h : TxRight c) (hown : t.src = ownNumber c) : TxRight (offer t c) := by
  unfold Machine.offer
  split
  · exact h.notTaken t
  · next ha =>
    have ha : isActive c = true := by simpa using ha
    split
    · next hany => exact h.replaceEntry ha hown hany
    · split
      · next hroom => exact h.inserted rfl rfl rfl rfl ha hroom hown
      · split
        · exact (h.notTaken t).count _ _
        · exact h.displaceLast ha hown

theorem queuePhase (i : Nat) (h : TxRight c) : TxRight (queuePhase i c) := by
  unfold Machine.queuePhase
  split
  · exact h.offer rfl
  · exact h

theorem setPhase (i : Nat) (p : Phase) (h : TxRight c) : TxRight (setPhase i p c) := by
  simp only [Machine.setPhase]
  have hq : TxRight (Machine.queuePhase i (modifyOven i (fun o => ({ o with phase := p }).withStage (cfg c)) c)) :=
    queuePhase i (h.congr rfl rfl)
  exact hq.congr (by simp) (by simp)

theorem countConflict (ch : Nat) (h : TxRight c) : TxRight (countConflict ch c) := by
  unfold Machine.countConflict
  split
  · split
    · exact count _ _ (h.congr rfl rfl)
    · exact h
  · exact h

theorem countUnauthorised (ch : Nat) (h : TxRight c) : TxRight (countUnauthorised ch c) := by
  unfold Machine.countUnauthorised
  split
  · exact h
  · exact h.count _ _

theorem doorMoved (ch : Nat) (old new : DoorState) (h : TxRight c) : TxRight (doorMoved ch old new c) := by
  simp only [Machine.doorMoved]
  have hconf : TxRight (Machine.countConflict ch (modifyDoor ch (Door.changed new) c)) := countConflict ch (h.congr rfl rfl)
  generalize Machine.countConflict ch (modifyDoor ch (Door.changed new) c) = m at hconf ⊢
  have hun : TxRight (if new = .removed then Machine.countUnauthorised ch m else m) := by
    split
    · exact hconf.countUnauthorised ch
    · exact hconf
  refine hun.congr ?_ ?_
  · simp [apply_ite Controller.line]
  · simp [apply_ite Controller.start]

theorem formDoors (h : TxRight c) : TxRight (formDoors c) := by
  have heffects (m : Controller) (ch : Nat) (hm : TxRight m) : TxRight (formingEffects ch m) := by
    unfold formingEffects
    split
    · dsimp only
      have hu := (hm.countConflict ch).countUnauthorised ch
      split
      · exact hu
      · exact hu.congr (by simp) (by simp)
    · exact hm
  have hfold (l : List Nat) (m : Controller) (hm : TxRight m) : TxRight (l.foldl (fun c ch => formingEffects ch c) m) := by
    induction l generalizing m with
    | nil => exact hm
    | cons x l ih => exact ih _ (heffects m x hm)
  have hbegin : TxRight (withDoors ((List.range (2 * (cfg c).count)).map (formedDoor c)) c) := h.congr rfl rfl
  exact (hfold (List.range (2 * (cfg c).count)) _ hbegin).congr rfl rfl

theorem enterSilent (h : TxRight c) : TxRight (enterSilent c) := by
  have hl : (Machine.enterSilent c).line.tx = [] ∧ (Machine.enterSilent c).line.rx = c.line.rx := by
    simp only [Machine.enterSilent]
    split <;> exact ⟨rfl, rfl⟩
  exact .of_empty (by rw [hl.2]; exact h.rx) hl.1

/-- Every move keeps the queues right. -/
theorem move (m : Move c d) (h : TxRight c) : TxRight d := by
  cases m with
  | count k first => exact h.count k first
  | offer t _ own => exact h.offer own
  | offerEvent => exact h.offerEvent
  | withdraw p => exact h.withdraw p
  | aside k => exact h.thinned k.number (k.rx h.rx) k.tx k.line
  | owes | enters | stays | idles | call | ovens | doors => exact h.congr rfl rfl
  | recloses =>
    have hq : TxRight (withdrawKind .permit (stopHold (enterJob .reclosing c))) := withdraw _ (h.congr rfl rfl)
    exact hq.congr (by simp [reclosingEntered]) (by simp [reclosingEntered])
  | setPhase i p => exact h.setPhase i p
  | door => exact h.doorMoved _ _ _
  | forms => exact h.formDoors
  | silences => exact h.enterSilent
  | activates =>
    exact ⟨h.rx, h.size, h.ascending, h.own, fun hx => by simp [isActive, activated, modifyStart] at hx⟩

theorem settleJob (h : TxRight c) : TxRight (settleJob c) := by
  have hat (i n : Nat) (p : Phase) : TxRight (settleJobAt i n p c) := by
    simp only [settleJobAt]
    split
    · split
      · exact setPhase i _ (h.congr rfl rfl)
      · exact h.congr rfl rfl
    · exact (Moves.settlePhase .refl i).keeps (fun m h => h.move m) (h.congr rfl rfl)
  have hidle : TxRight (idleJob c) := h.congr rfl rfl
  unfold Machine.settleJob
  split
  · split
    · split
      · exact hat _ _ _
      · exact hidle
    · exact hidle
  · exact hidle

theorem countClamps (n : Nat) (h : TxRight c) : TxRight (countClamps n c) :=
  (Moves.foldl (fun _ h => h.count _ _) (List.range n) (c := c) .refl).keeps (fun m h => h.move m) h

/-- At the entry to LISTEN the transmit queue is empty, so that it may take a new station number. -/
theorem enterListen (ha : isActive c = false) (h : TxRight c) : TxRight (enterListen c) := by
  have ht : (Machine.enterListen c).line.tx = [] := by simpa [Machine.enterListen] using h.silent ha
  have hr : (Machine.enterListen c).line.rx = c.line.rx := by simp [Machine.enterListen]
  exact .of_empty (by rw [hr]; exact h.rx) ht

theorem loadInForce (g : Config) (n : Nat) (ha : isActive c = false) (h : TxRight c) : TxRight (loadInForce g n c) := by
  have hbegun : TxRight (loadBegun g n c) := by
    have hreport : TxRight (takeReportSet g c) := by
      unfold takeReportSet
      split
      · exact h.congr rfl rfl
      · exact h
    exact (hreport.countClamps n).congr rfl rfl
  have hline : (loadBegun g n c).start.line = c.start.line := by
    simp [loadBegun, modifyStart]
  have hactive (d : Controller) (hd : d.start = (loadBegun g n c).start) : isActive d = false := by
    rw [← ha]
    simp [isActive, hd, hline]
  refine loadInForce_keeps n (hbegun.congr rfl rfl) (fun h => h.formDoors) (fun _ => ?_) fun hd h => h.enterListen (hactive _ hd)
  rw [warmStart_eq]
  exact hbegun.settleJob.congr rfl rfl

end TxRight

/-- While POWER-ON is released: the queues are right, and the start-up record is. -/
structure QueuesWork (c : Controller) : Prop where
  queues : TxRight c
  start : StartWork c

namespace QueuesWork

variable {c : Controller}

theorem inactive_of_loading (h : c.start.line = .loading) : isActive c = false := by simp [isActive, h]

/-- A change from LOADING that leaves the line unit alone: the transmit queue was empty and stays so. -/
theorem leavesLoading {d : Controller} (h : TxRight c) (hl : c.start.line = .loading) (hd : d.line = c.line) : TxRight d :=
  .of_empty (by rw [hd]; exact h.rx) (by rw [hd]; exact h.silent (inactive_of_loading hl))

theorem keptByWork : KeptByWork QueuesWork where
  move m h := ⟨h.queues.move m, h.start.move m⟩
  byte x c h := by
    refine ⟨h.queues.congr (by simp) ?_, h.start.byteArrives x⟩
    unfold byteArrives
    split <;> rfl
  timeout {c} h := by
    refine ⟨?_, h.start.byteTimesOut⟩
    unfold byteTimesOut
    split
    · next hrd => exact leavesLoading h.queues (h.start.loading (.inl hrd)) rfl
    · exact h.queues
  load {c} hd h := by
    refine ⟨?_, h.start.load hd⟩
    have hl := h.start.loading (.inr hd)
    obtain ⟨g, n, hc, _⟩ | hc := loadCompletes_cases (modifyDue (fun d => { d with loadComplete := false }) c)
    · rw [hc]
      exact TxRight.loadInForce g n (inactive_of_loading hl) (h.queues.congr rfl rfl)
    · rw [hc]
      exact leavesLoading h.queues hl rfl

theorem restartAsserts (c : Controller) : TxRight (restartAsserts c) := by
  have hl : (Machine.restartAsserts c).line.tx = [] ∧ (Machine.restartAsserts c).line.rx = [] := by
    simp only [Machine.restartAsserts]
    split <;> exact ⟨rfl, rfl⟩
  exact .of_empty (by simp [hl.2]) hl.1

/-- The queues are kept by every step. -/
theorem keptByStep : KeptByStep QueuesInv QueuesWork where
  work := keptByWork
  toQ hp h := ⟨⟨h.1, h.2.1, h.2.2.1, h.2.2.2.1, h.2.2.2.2.1⟩, .of_startRight hp h.2.2.2.2.2⟩
  ofQ h := ⟨h.queues.rx, h.queues.size, h.queues.ascending, h.queues.own, h.queues.silent, h.start.startRight⟩
  atReset r := ⟨Nat.zero_le _, Nat.zero_le _, .nil, nofun, fun _ => rfl, .atReset r⟩
  release x c hp h := by
    have hs := h.2.2.2.2.2
    have hl : (releasePowerOn x c).line.tx = [] ∧ (releasePowerOn x c).line.rx = [] := by
      rw [(StartOnly.releasePowerOn x c).2, hs.eq_atReset hp]
      exact ⟨rfl, rfl⟩
    have hq := TxRight.of_empty (by simp [hl.2]) hl.1
    exact ⟨hq.rx, hq.size, hq.ascending, hq.own, hq.silent, hs.release x hp⟩
  noted hp h := ⟨h.1, h.2.1, h.2.2.1, h.2.2.2.1, h.2.2.2.2.1, h.2.2.2.2.2.noted hp⟩
  restart {c} _ h :=
    have hq := restartAsserts c
    ⟨hq.rx, hq.size, hq.ascending, hq.own, hq.silent, h.start.restartAsserts.startRight⟩
  held hp h := .inr (h.2.2.2.2.2.held hp)
  restartRelease x c hr h := by
    have hs := h.2.2.2.2.2
    have hq := leavesLoading (d := releaseRestart x c) ⟨h.1, h.2.1, h.2.2.1, h.2.2.2.1, h.2.2.2.2.1⟩ (hs.2.1 hr).1
      (by rw [(StartOnly.releaseRestart x c).2])
    exact ⟨hq.rx, hq.size, hq.ascending, hq.own, hq.silent, hs.restartRelease x hr⟩

end QueuesWork

/-- Settles O58: the queues and the round record are each kept by every move, by a load and by the reset inputs. -/
theorem queuesKept : Obligations.QueuesKept :=
  fun _ _ hq hr ht => ⟨QueuesWork.keptByStep.step hq ht, RoundInv.keptByStep.step hr ht⟩

end Sys2Proof.Machine
end

section
/-! SUPPORT. What a change of state makes of a door record (R122, R123, R138, R144). -/

-- The lemmas are checked one after another, as the tests are.
set_option Elab.async false

namespace Sys2Proof.Machine

open Sys2Proof

/-- The record of a door whose input conflict has been looked at (R122). -/
def Door.conflicted (d : Door) : Door :=
  if d.state = .removed ∧ d.latched = true ∧ d.conflict = false then { d with conflict := true } else d

theorem modify_eq_self {α : Type} {l : List α} {i : Nat} {f : α → α} (h : ∀ x, l[i]? = some x → f x = x) : l.modify i f = l := by
  apply List.ext_getElem?
  intro j
  rw [List.getElem?_modify]
  by_cases hj : i = j
  · subst hj
    cases hx : l[i]? with
    | none => rfl
    | some x => simp [h x hx]
  · simp [hj]

theorem modify_congr {α : Type} {l : List α} {i : Nat} {f g : α → α} (h : ∀ x, l[i]? = some x → f x = g x) :
    l.modify i f = l.modify i g := by
  apply List.ext_getElem?
  intro j
  rw [List.getElem?_modify, List.getElem?_modify]
  by_cases hj : i = j
  · subst hj
    cases hx : l[i]? with
    | none => rfl
    | some x => simp [h x hx]
  · simp [hj]

theorem modify_comp {α : Type} (l : List α) (i : Nat) (f g : α → α) : (l.modify i f).modify i g = l.modify i (g ∘ f) := by
  apply List.ext_getElem?
  intro j
  simp only [List.getElem?_modify]
  by_cases hj : i = j <;> simp [hj, Function.comp_def]

/-- The door records after the conflict of a channel has been looked at. -/
theorem countConflict_doors (ch : Nat) (c : Controller) :
    (countConflict ch c).doors.doors = c.doors.doors.modify ch Door.conflicted := by
  unfold countConflict
  split
  · next d hd =>
    split
    · next hc =>
      simp only [count_frame]
      refine modify_congr fun x hx => ?_
      obtain rfl : d = x := by simpa [hd] using hx
      simp [Door.conflicted, hc]
    · next hc =>
      refine (modify_eq_self fun x hx => ?_).symm
      obtain rfl : d = x := by simpa [hd] using hx
      simp only [Door.conflicted, if_neg hc]
  · next hd => exact (modify_eq_self fun x hx => by simp [hd] at hx).symm

/-- The record of a door that has changed from a state to another: the opening's fields (R123), the conflict (R122), and the
score and check samples at the entry to and the leaving of the scannable states (R144), n being Nchk. -/
def Door.moved (n : Nat) (old new : DoorState) (d : Door) : Door :=
  { d with
    state := new
    openSecs := if new = .checking then 0 else d.openSecs
    warned := d.warned && new != .checking
    overdue := d.overdue && new != .checking
    conflict := new == .removed && (d.conflict || d.latched)
    score := if new = .checking then 0 else d.score
    checks := if old.latchedState && !new.latchedState then 0 else if new = .checking then n else d.checks }

/-! ## The stages of a change of state -/

/-- The record changes state, and what the change calls for is counted. -/
def doorCounted (ch : Nat) (new : DoorState) (c : Controller) : Controller :=
  let c := countConflict ch (modifyDoor ch (Door.changed new) c)
  if new = .removed then countUnauthorised ch c else c

/-- The valve follows the forced-close demand, which was raised before or not (R127). -/
def demandFollowed (i : Nat) (was : Bool) (c : Controller) : Controller :=
  if !was && anyRemoved c i then forceClose i c else if was && !anyRemoved c i then followPhase i c else c

/-- The scanner is told of the change (R138, R144). -/
def scanTold (ch : Nat) (old new : DoorState) (c : Controller) : Controller :=
  let c := if new = .checking then scanEntersChecking ch c else c
  if old.latchedState && !new.latchedState then scanLeaves ch c else c

theorem doorMoved_eq (ch : Nat) (old new : DoorState) (c : Controller) :
    doorMoved ch old new c = scanTold ch old new (demandFollowed (ch / 2) (anyRemoved c (ch / 2)) (doorCounted ch new c)) := rfl

theorem doorCounted_doors (ch : Nat) (new : DoorState) (c : Controller) :
    (doorCounted ch new c).doors.doors = c.doors.doors.modify ch (Door.conflicted ∘ Door.changed new) := by
  have hconf : (countConflict ch (modifyDoor ch (Door.changed new) c)).doors.doors
      = c.doors.doors.modify ch (Door.conflicted ∘ Door.changed new) := by
    rw [countConflict_doors, modifyDoor, modify_comp]
  simp only [doorCounted]
  split
  · simpa using hconf
  · exact hconf

@[simp] theorem doorCounted_frame (ch : Nat) (new : DoorState) (c : Controller) :
    (doorCounted ch new c).start = c.start ∧ (doorCounted ch new c).table = c.table ∧ (doorCounted ch new c).scan = c.scan
      ∧ (doorCounted ch new c).time = c.time ∧ (doorCounted ch new c).due = c.due
      ∧ (doorCounted ch new c).round = c.round ∧ (doorCounted ch new c).held = c.held
      ∧ (doorCounted ch new c).job = c.job ∧ (doorCounted ch new c).track = c.track
      ∧ (doorCounted ch new c).reg = c.reg := by
  simp only [doorCounted]
  split <;> simp

@[simp] theorem demandFollowed_frame (i : Nat) (was : Bool) (c : Controller) :
    (demandFollowed i was c).start = c.start ∧ (demandFollowed i was c).scan = c.scan
      ∧ (demandFollowed i was c).time = c.time ∧ (demandFollowed i was c).due = c.due
      ∧ (demandFollowed i was c).round = c.round ∧ (demandFollowed i was c).held = c.held
      ∧ (demandFollowed i was c).job = c.job ∧ (demandFollowed i was c).track = c.track
      ∧ (demandFollowed i was c).doors = c.doors ∧ (demandFollowed i was c).line = c.line
      ∧ (demandFollowed i was c).events = c.events := by
  unfold demandFollowed
  (repeat' split) <;> simp

/-- What the valve's following of the demand does: the oven enters CLOSED, or the mode of its phase, or stays. -/
theorem demandFollowed_eq (i : Nat) (was : Bool) (c : Controller) :
    demandFollowed i was c = withFrameOf (demandFollowed i was c) (withOven i (fun o =>
      if !was && anyRemoved c i then o.enterClosed else if was && !anyRemoved c i then o.enterMode (cfg c) else o) c) := by
  unfold demandFollowed
  split
  · rw [forceClose, requestFrame_eq]
    rfl
  · split
    · exact followPhase_eq i c
    · have hid : c.table.ovens.modify i (fun o => o) = c.table.ovens := modify_eq_self fun _ _ => rfl
      simp only [withOven, hid]
      rfl

@[simp] theorem scanTold_frame (ch : Nat) (old new : DoorState) (c : Controller) :
    (scanTold ch old new c).start = c.start ∧ (scanTold ch old new c).table = c.table
      ∧ (scanTold ch old new c).time = c.time ∧ (scanTold ch old new c).due = c.due
      ∧ (scanTold ch old new c).round = c.round ∧ (scanTold ch old new c).held = c.held
      ∧ (scanTold ch old new c).job = c.job ∧ (scanTold ch old new c).track = c.track
      ∧ (scanTold ch old new c).reg = c.reg ∧ (scanTold ch old new c).line = c.line
      ∧ (scanTold ch old new c).events = c.events := by
  simp only [scanTold]
  (repeat' split) <;> simp

theorem scanEntersChecking_doors (ch : Nat) (c : Controller) :
    (scanEntersChecking ch c).doors.doors = c.doors.doors.modify ch (fun d => { d with score := 0, checks := (cfg c).nchk }) := by
  simp only [scanEntersChecking]
  split <;> simp [modifyDoor]

theorem scanLeaves_doors (ch : Nat) (c : Controller) :
    (scanLeaves ch c).doors.doors = c.doors.doors.modify ch (fun d => { d with checks := 0 }) := by
  simp only [scanLeaves]
  split <;> simp [modifyDoor]

/-- The scanner's part in the record of the channel. -/
def Door.told (n : Nat) (old new : DoorState) (d : Door) : Door :=
  { d with
    score := if new = .checking then 0 else d.score
    checks := if old.latchedState && !new.latchedState then 0 else if new = .checking then n else d.checks }

theorem scanTold_doors (ch : Nat) (old new : DoorState) (c : Controller) :
    (scanTold ch old new c).doors.doors = c.doors.doors.modify ch (Door.told (cfg c).nchk old new) := by
  unfold scanTold
  by_cases hn : new = .checking
  · subst hn
    have hstay : ¬(old.latchedState && !DoorState.checking.latchedState) = true := by cases old <;> decide
    rw [if_neg hstay, if_pos rfl, scanEntersChecking_doors]
    exact modify_congr fun d _ => by simp [Door.told, DoorState.latchedState]
  · rw [if_neg hn]
    split
    · next hl =>
      rw [scanLeaves_doors]
      exact modify_congr fun d _ => by simp [Door.told, hn, hl]
    · next hl => exact (modify_eq_self fun d _ => by simp [Door.told, hn, hl]).symm

theorem scanTold_count (ch : Nat) (old new : DoorState) (c : Controller) :
    (scanTold ch old new c).scan.count = c.scan.count := by
  simp only [scanTold, scanEntersChecking, scanLeaves, startAtNextTick, modifyScan]
  (repeat' split) <;> rfl

/-- The door records after a change of state: the record of the channel moves, every other stays. -/
theorem doorMoved_doors (ch : Nat) (old new : DoorState) (c : Controller) :
    (doorMoved ch old new c).doors.doors = c.doors.doors.modify ch (Door.moved (cfg c).nchk old new) := by
  have hrecord (d : Door) : (Door.told (cfg c).nchk old new ∘ Door.conflicted ∘ Door.changed new) d
      = Door.moved (cfg c).nchk old new d := by
    obtain ⟨present, latched, state, openSecs, warned, overdue, conflict, score, ref, dead, checks⟩ := d
    cases new <;> cases latched <;> cases conflict <;> rfl
  rw [doorMoved_eq, scanTold_doors, (demandFollowed_frame _ _ _).2.2.2.2.2.2.2.2.1, doorCounted_doors, modify_comp,
    cfg_congr (c := c) (by simp)]
  exact modify_congr fun d _ => hrecord d

/-- The oven record at an index after a door of it has changed state (R127, R156). -/
def demandOven (g : Config) (was now : Bool) (o : Oven) : Oven :=
  if !was && now then o.enterClosed else if was && !now then o.enterMode g else o

/-- Whether a door of an oven is REMOVED after a change of state. -/
theorem doorMoved_anyRemoved (ch : Nat) (old new : DoorState) (c : Controller) (i : Nat) :
    anyRemoved (doorMoved ch old new c) i = anyRemoved (doorCounted ch new c) i := by
  have hdoor (j : Nat) : doorAt (doorMoved ch old new c) j = doorAt (doorCounted ch new c) j := by
    unfold doorAt
    rw [doorMoved_doors, doorCounted_doors, List.getElem?_modify, List.getElem?_modify]
    cases c.doors.doors[j]? with
    | none => rfl
    | some d =>
      by_cases hj : ch = j
      · simp [hj, Door.moved, Door.conflicted, Door.changed]
        split <;> rfl
      · simp [hj]
  simp only [anyRemoved, hdoor]

/-- The oven table after a door has changed state. -/
theorem doorMoved_table (ch : Nat) (old new : DoorState) (c : Controller) :
    (doorMoved ch old new c).table = { c.table with
      ovens := c.table.ovens.modify (ch / 2)
        (demandOven (cfg c) (anyRemoved c (ch / 2)) (anyRemoved (doorMoved ch old new c) (ch / 2))) } := by
  rw [doorMoved_anyRemoved, doorMoved_eq, (scanTold_frame _ _ _ _).2.1, demandFollowed_eq, withFrameOf, withOven,
    cfg_congr (c := c) (by simp), (doorCounted_frame _ _ _).2.1]
  rfl

end Sys2Proof.Machine
end

section
/-! SUPPORT. The counters that every step keeps within their ranges. -/

-- The lemmas are checked one after another, as the tests are.
set_option Elab.async false

namespace Sys2Proof.Machine

open Sys2Proof

/-! ## The event table -/

/-- The entries of the event table are right. -/
abbrev EventsRight (c : Controller) : Prop := EntriesRight c.events.entries

namespace EventsRight

variable {c d : Controller}

theorem congr (h : EventsRight c) (hd : d.events.entries = c.events.entries) : EventsRight d := by
  unfold EventsRight
  rwa [hd]

theorem offerEvent (h : EventsRight c) : EventsRight (offerEvent c) := by
  unfold Machine.offerEvent
  split
  · exact h.congr rfl
  · exact h

theorem count (k : EventKind) (first : Option Nat) (h : EventsRight c) : EventsRight (count k first c) :=
  offerEvent (h.modify fun _ _ => Nat.min_le_left _ _)

theorem notTaken (t : Telegram) (h : EventsRight c) : EventsRight (notTaken t c) := by
  refine h.congr ?_
  unfold Machine.notTaken
  (repeat' split) <;> rfl

theorem withdraw (p : Telegram → Bool) (h : EventsRight c) : EventsRight (withdraw p c) := by
  refine h.congr ?_
  simp only [Machine.withdraw]
  split
  · simp [setTx]
  · rfl

theorem replaceEntry (t : Telegram) (h : EventsRight c) : EventsRight (replaceEntry t c) := by
  refine h.congr ?_
  simp only [Machine.replaceEntry]
  split
  · simp [setTx]
  · rfl

theorem displaceLast (t : Telegram) (h : EventsRight c) : EventsRight (displaceLast t c) := by
  simp only [Machine.displaceLast]
  split
  · exact h
  · refine count _ _ ?_
    split
    · exact h.congr (by simp [setTx])
    · exact notTaken _ (h.congr rfl)

theorem offer (t : Telegram) (h : EventsRight c) : EventsRight (offer t c) := by
  unfold Machine.offer
  split
  · exact h.notTaken t
  · split
    · exact h.replaceEntry t
    · split
      · exact h.congr rfl
      · split
        · exact (h.notTaken t).count _ _
        · exact h.displaceLast t

theorem queuePhase (i : Nat) (h : EventsRight c) : EventsRight (queuePhase i c) := by
  unfold Machine.queuePhase
  split
  · exact h.offer _
  · exact h

theorem setPhase (i : Nat) (p : Phase) (h : EventsRight c) : EventsRight (setPhase i p c) := by
  simp only [Machine.setPhase]
  have hq : EventsRight (Machine.queuePhase i (modifyOven i (fun o => ({ o with phase := p }).withStage (cfg c)) c)) :=
    queuePhase i (h.congr rfl)
  exact hq.congr (by simp)

theorem countConflict (ch : Nat) (h : EventsRight c) : EventsRight (countConflict ch c) := by
  unfold Machine.countConflict
  split
  · split
    · exact count _ _ (h.congr rfl)
    · exact h
  · exact h

theorem countUnauthorised (ch : Nat) (h : EventsRight c) : EventsRight (countUnauthorised ch c) := by
  unfold Machine.countUnauthorised
  split
  · exact h
  · exact h.count _ _

theorem doorCounted (ch : Nat) (new : DoorState) (h : EventsRight c) : EventsRight (doorCounted ch new c) := by
  have hconf : EventsRight (Machine.countConflict ch (modifyDoor ch (Door.changed new) c)) := countConflict ch (h.congr rfl)
  simp only [Machine.doorCounted]
  split
  · exact hconf.countUnauthorised ch
  · exact hconf

theorem formingEffects (ch : Nat) (h : EventsRight c) : EventsRight (formingEffects ch c) := by
  unfold Machine.formingEffects
  split
  · dsimp only
    have hu := (h.countConflict ch).countUnauthorised ch
    split
    · exact hu
    · exact hu.congr (by simp)
  · exact h

end EventsRight

/-! ## The counters -/

/-- The counters are right. -/
structure Counted (c : Controller) : Prop where
  events : EventsRight c
  doors : ∀ d ∈ c.doors.doors, d.countersRight
  ovens : ∀ o ∈ c.table.ovens, o.countersRight
  below : ∀ n, c.table.below = some n → n.countersRight
  above : ∀ n, c.table.above = some n → n.countersRight
  job : c.job.minutes ≤ 255 ∧ c.job.holdSecs ≤ 300
  ages : c.track.agesRight
  main : c.reg.main.countersRight
  held : c.held.age ≤ 90
  scan : c.scan.count ≤ 65535
  config : ∀ g, c.start.config = some g → CounterLimits g

theorem counted_iff (c : Controller) : Counted c ↔ CountersInv c :=
  ⟨fun ⟨⟨hlen, hmax⟩, hdoors, hovens, hbelow, habove, hjob, hages, hmain, hheld, hscan, hconfig⟩ =>
      ⟨hlen, hmax, hdoors, hovens, hbelow, habove, hjob, hages, hmain, hheld, hscan, hconfig⟩,
    fun ⟨hlen, hmax, hdoors, hovens, hbelow, habove, hjob, hages, hmain, hheld, hscan, hconfig⟩ =>
      ⟨⟨hlen, hmax⟩, hdoors, hovens, hbelow, habove, hjob, hages, hmain, hheld, hscan, hconfig⟩⟩

/-- The configuration in force, blank where there is none, limits its counters. -/
theorem Counted.limits {c : Controller} (h : Counted c) : CounterLimits (cfg c) := by
  unfold cfg
  cases hc : c.start.config with
  | none => exact ⟨by simp [Config.blank], by simp [Config.blank]⟩
  | some g => exact h.config g hc

/-- A clamped number lies between its limits. -/
theorem clampNat_within {x lo hi : Nat} (h : lo ≤ hi) : lo ≤ clampNat x lo hi ∧ clampNat x lo hi ≤ hi := by
  unfold clampNat
  split
  · omega
  · split <;> omega

/-- The corrected values of an image limit their counters. -/
theorem loadedConfig_counterLimits (b : List Byte) : CounterLimits (loadedConfig b).1 := by
  have hrefs : (loadedConfig b).1.refs = (rawConfig b).refs.map fun x => clampNat x 1 65535 := rfl
  have hstale : (loadedConfig b).1.staleLimit = clampNat (rawConfig b).staleLimit 5 60 := rfl
  refine ⟨fun r hr => ?_, ?_⟩
  · rw [hrefs] at hr
    obtain ⟨x, _, rfl⟩ := List.mem_map.mp hr
    exact clampNat_within (by decide)
  · rw [hstale]
    exact clampNat_le (by decide)

theorem Oven.enterMode_countersRight {g : Config} {o : Oven} (h : o.countersRight) : (o.enterMode g).countersRight := by
  obtain ⟨hmin, hhard, hstuck, hiso, hinv, hdraw⟩ := h
  unfold Oven.enterMode
  split <;> exact ⟨hmin, hhard, hstuck, by simp [hiso], hinv, by simp [hdraw]⟩

theorem Oven.enterClosed_countersRight {o : Oven} (h : o.countersRight) : o.enterClosed.countersRight := by
  obtain ⟨hmin, hhard, hstuck, hiso, hinv, hdraw⟩ := h
  exact ⟨hmin, hhard, hstuck, Nat.zero_le 2, hinv, Nat.zero_le 255⟩

theorem movedOven_countersRight {g : Config} {p : Phase} {r : Bool} {o : Oven} (h : o.countersRight) :
    (movedOven g p r o).countersRight := by
  unfold movedOven
  split
  · exact h
  · exact Oven.enterMode_countersRight (o := ({ o with phase := p }).withStage g) h


theorem demandOven_countersRight {g : Config} {was now : Bool} {o : Oven} (h : o.countersRight) :
    (demandOven g was now o).countersRight := by
  unfold demandOven
  split
  · exact Oven.enterClosed_countersRight h
  · split
    · exact Oven.enterMode_countersRight h
    · exact h

theorem Oven.countersRight_modify {l : List Oven} {i : Nat} {f : Oven → Oven}
    (hf : ∀ o : Oven, o.countersRight → (f o).countersRight) (h : ∀ o ∈ l, o.countersRight) : ∀ o ∈ l.modify i f, o.countersRight := by
  intro o ho
  obtain ⟨j, hj⟩ := List.mem_iff_getElem?.mp ho
  rw [List.getElem?_modify] at hj
  obtain ⟨x, hx, rfl⟩ := Option.map_eq_some_iff.mp hj
  have hr := h x (List.mem_of_getElem? hx)
  split
  · exact hf x hr
  · exact hr

namespace Counted

variable {c d : Controller}

/-- The counters stay right where each part of the state that holds some keeps them so. -/
theorem change (h : Counted c) (events : EventsRight c → EventsRight d := by exact id)
    (doors : (∀ r ∈ c.doors.doors, r.countersRight) → ∀ r ∈ d.doors.doors, r.countersRight := by exact id)
    (ovens : (∀ o ∈ c.table.ovens, o.countersRight) → ∀ o ∈ d.table.ovens, o.countersRight := by exact id)
    (below : (∀ n, c.table.below = some n → n.countersRight) → ∀ n, d.table.below = some n → n.countersRight := by exact id)
    (above : (∀ n, c.table.above = some n → n.countersRight) → ∀ n, d.table.above = some n → n.countersRight := by exact id)
    (job : c.job.minutes ≤ 255 ∧ c.job.holdSecs ≤ 300 → d.job.minutes ≤ 255 ∧ d.job.holdSecs ≤ 300 := by exact id)
    (ages : c.track.agesRight → d.track.agesRight := by exact id)
    (main : c.reg.main.countersRight → d.reg.main.countersRight := by exact id)
    (held : c.held.age ≤ 90 → d.held.age ≤ 90 := by exact id)
    (scan : c.scan.count ≤ 65535 → d.scan.count ≤ 65535 := by exact id)
    (config : d.start.config = c.start.config := by rfl) : Counted d :=
  ⟨events h.events, doors h.doors, ovens h.ovens, below h.below, above h.above, job h.job, ages h.ages, main h.main, held h.held,
    scan h.scan, by rw [config]; exact h.config⟩

/-- Offers alone change no counter but those of the event table. -/
theorem offers (k : OnlyOffers c d) (he : EventsRight d) (h : Counted c) : Counted d := by
  refine h.change (events := fun _ => he) (doors := by simp [k.doors]) (ovens := by simp [k.table]) (below := by simp [k.table])
    (above := by simp [k.table]) (job := fun hj => ?_) (ages := by rw [k.track]; exact id) (main := by rw [k.reg]; exact id)
    (held := by simp [k.held]) (scan := by simp [k.scan]) (config := by rw [k.start])
  obtain hk | ⟨_, hk⟩ := k.job
  · rw [hk]
    exact hj
  · rw [hk]
    exact ⟨Nat.zero_le _, Nat.zero_le _⟩

theorem count (k : EventKind) (first : Option Nat) (h : Counted c) : Counted (count k first c) :=
  h.offers (.count k first c) (h.events.count k first)

theorem setPhase (i : Nat) (p : Phase) (h : Counted c) : Counted (setPhase i p c) := by
  refine offers (OnlyOffers.setPhase i p c) (h.events.setPhase i p) ?_
  exact h.change (ovens := Oven.countersRight_modify fun _ => movedOven_countersRight)

/-- The record of a door that moves as its input pair has it keeps its counters. -/
theorem door_moved {n : Nat} {p l : Bool} {r : Door} (hn : deriveState p l r.state ≠ r.state) (h : r.countersRight) :
    (Door.moved n r.state (deriveState p l r.state) r).countersRight := by
  obtain ⟨hscore, hdead, hopen, hclosed, hchecks, href, hlast⟩ := h
  refine ⟨?_, hdead, ?_, ?_, ?_, href, hlast⟩
  · simp only [Door.moved]
    split <;> omega
  · simp only [Door.moved]
    split <;> omega
  · intro ho
    have hnew : deriveState p l r.state = .checking := by
      revert ho hn
      simp only [Door.moved, Door.opened]
      cases p <;> cases l <;> cases r.state <;> simp [deriveState]
    simp [Door.moved, hnew]
  · intro hs
    have hs : deriveState p l r.state ≠ .checking := hs
    simp only [Door.moved, if_neg hs]
    split
    · rfl
    · next hleave =>
      refine hchecks fun hc => hleave ?_
      revert hs
      rw [hc]
      cases p <;> cases l <;> simp [deriveState, DoorState.latchedState]

theorem doorMoved {ch : Nat} {r : Door} (p l : Bool) (hd : c.doors.doors[ch]? = some r)
    (hn : deriveState p l r.state ≠ r.state) (h : Counted c) : Counted (doorMoved ch r.state (deriveState p l r.state) c) := by
  have hdoors : ∀ x ∈ (Machine.doorMoved ch r.state (deriveState p l r.state) c).doors.doors, x.countersRight := by
    intro x hx
    rw [doorMoved_doors] at hx
    obtain ⟨j, hj⟩ := List.mem_iff_getElem?.mp hx
    rw [List.getElem?_modify] at hj
    obtain ⟨y, hy, rfl⟩ := Option.map_eq_some_iff.mp hj
    split
    · next hch =>
      subst hch
      obtain rfl : r = y := by simpa [hd] using hy
      exact door_moved hn (h.doors r (List.mem_of_getElem? hd))
    · exact h.doors y (List.mem_of_getElem? hy)
  have hevents : EventsRight (Machine.doorMoved ch r.state (deriveState p l r.state) c) := by
    rw [doorMoved_eq]
    exact (h.events.doorCounted ch (deriveState p l r.state)).congr (by simp)
  have hovens : ∀ o ∈ (Machine.doorMoved ch r.state (deriveState p l r.state) c).table.ovens, o.countersRight := by
    rw [doorMoved_table]
    exact Oven.countersRight_modify (fun _ => demandOven_countersRight) h.ovens
  have hframe := doorMoved_frame ch r.state (deriveState p l r.state) c
  have hscan : (Machine.doorMoved ch r.state (deriveState p l r.state) c).scan.count = c.scan.count := by
    rw [doorMoved_eq, scanTold_count]
    simp
  have hmain : (Machine.doorMoved ch r.state (deriveState p l r.state) c).reg.main = c.reg.main := by
    rw [doorMoved_eq, (scanTold_frame _ _ _ _).2.2.2.2.2.2.2.2.1, demandFollowed_eq]
    simp [withFrameOf, withOven]
  obtain ⟨hstart, _, hjob, htrack, _, hheld⟩ := hframe
  exact h.change (events := fun _ => hevents) (doors := fun _ => hdoors) (ovens := fun _ => hovens)
    (below := by simp [doorMoved_table]) (above := by simp [doorMoved_table]) (job := by simp [hjob]) (ages := by simp [htrack])
    (main := by simp [hmain]) (held := by simp [hheld]) (scan := by simp [hscan]) (config := by rw [hstart])

theorem countConflict (ch : Nat) (h : Counted c) : Counted (countConflict ch c) := by
  unfold Machine.countConflict
  split
  · split
    · refine count _ _ (h.change (doors := fun hdoors x hx => ?_))
      obtain ⟨j, hj⟩ := List.mem_iff_getElem?.mp hx
      rw [modifyDoor, List.getElem?_modify] at hj
      obtain ⟨y, hy, rfl⟩ := Option.map_eq_some_iff.mp hj
      have hr := hdoors y (List.mem_of_getElem? hy)
      split
      · exact hr
      · exact hr
    · exact h
  · exact h

theorem countUnauthorised (ch : Nat) (h : Counted c) : Counted (countUnauthorised ch c) := by
  unfold Machine.countUnauthorised
  split
  · exact h
  · exact h.count _ _

theorem requestFrame (h : Counted c) : Counted (requestFrame c) := by
  rw [requestFrame_eq]
  exact h.change

theorem forceClose (i : Nat) (h : Counted c) : Counted (forceClose i c) :=
  requestFrame (h.change (ovens := Oven.countersRight_modify fun _ => Oven.enterClosed_countersRight))

theorem formingEffects (ch : Nat) (h : Counted c) : Counted (formingEffects ch c) := by
  unfold Machine.formingEffects
  split
  · dsimp only
    have hu := (h.countConflict ch).countUnauthorised ch
    split
    · exact hu
    · exact hu.forceClose _
  · exact h

/-- A record formed starts with its counts 0 and a reference within its range. -/
theorem formedDoor_right (h : Counted c) (ch : Nat) : (formedDoor c ch).countersRight := by
  refine ⟨Nat.zero_le _, Nat.zero_le _, Nat.zero_le _, fun _ => rfl, fun hs => ?_, ?_, nofun⟩
  · exact if_neg hs
  · change 1 ≤ (cfg c).refs.getD ch 1 ∧ (cfg c).refs.getD ch 1 ≤ 65535
    rw [List.getD_eq_getElem?_getD]
    cases hr : (cfg c).refs[ch]? with
    | none => exact ⟨Nat.le_refl 1, by decide⟩
    | some r => exact h.limits.1 r (List.mem_of_getElem? hr)

theorem formDoors (h : Counted c) : Counted (formDoors c) := by
  have hfold (l : List Nat) (m : Controller) (hm : Counted m) : Counted (l.foldl (fun c ch => Machine.formingEffects ch c) m) := by
    induction l generalizing m with
    | nil => exact hm
    | cons x l ih => exact ih _ (hm.formingEffects x)
  have hbegin : Counted (withDoors ((List.range (2 * (cfg c).count)).map (formedDoor c)) c) := by
    refine h.change (doors := fun _ r hr => ?_)
    obtain ⟨ch, _, rfl⟩ := List.mem_map.mp hr
    exact h.formedDoor_right ch
  exact (hfold (List.range (2 * (cfg c).count)) _ hbegin).change

theorem reclosingEntered (h : Counted c) : Counted (reclosingEntered c) := by
  have hjob : Counted (stopHold (enterJob .reclosing c)) :=
    h.change (job := fun hj => ⟨hj.1, Nat.zero_le _⟩)
  have hwith : Counted (withdrawKind .permit (stopHold (enterJob .reclosing c))) :=
    hjob.offers (.withdraw _ _) (hjob.events.withdraw _)
  have hcall : Machine.reclosingEntered c = dropCall (withdrawKind .permit (stopHold (enterJob .reclosing c))) := rfl
  rw [hcall, dropCall]
  split
  · exact hwith
  · exact hwith.change

theorem enterSilent (h : Counted c) : Counted (enterSilent c) := by
  simp only [Machine.enterSilent]
  split
  · exact h.change (job := fun _ => ⟨Nat.zero_le _, Nat.zero_le _⟩)
  · exact h.change

/-- Every move keeps the counters. -/
theorem move (m : Move c d) (h : Counted c) : Counted d := by
  cases m with
  | count k first => exact h.count k first
  | offer t => exact h.offers (.offer t c) (h.events.offer t)
  | offerEvent => exact h.offers (.offerEvent c) h.events.offerEvent
  | withdraw p => exact h.offers (.withdraw p c) (h.events.withdraw p)
  | aside k =>
    exact h.change (events := k.entries) (doors := by rw [k.doors]; exact id) (ovens := by rw [k.ovens]; exact id) (below := k.below)
      (above := k.above) (job := by rw [k.job]; exact id) (ages := k.ages) (main := k.main) (held := k.held) (scan := k.scan)
      (config := k.config)
  | owes | call | activates => exact h.change
  | enters k => exact h.change (job := k.counts)
  | stays k => exact h.change (job := k.counts)
  | idles => exact h.change (job := fun _ => ⟨Nat.zero_le _, Nat.zero_le _⟩)
  | recloses => exact h.reclosingEntered
  | ovens k =>
    refine h.change (ovens := fun hovens o ho => ?_)
    obtain ⟨i, hi⟩ := List.mem_iff_getElem?.mp ho
    obtain ⟨x, hx, hstep⟩ := k i o hi
    exact hstep.counts (hovens x (List.mem_of_getElem? hx))
  | setPhase i p => exact h.setPhase i p
  | doors k => exact h.change (doors := k.counts h.scan)
  | door p l hd hn => exact h.doorMoved p l hd hn
  | forms => exact h.formDoors
  | silences => exact h.enterSilent

theorem countClamps (n : Nat) (h : Counted c) : Counted (countClamps n c) :=
  (Moves.foldl (fun _ h => h.count _ _) (List.range n) (c := c) .refl).keeps move h

theorem settleJob (h : Counted c) : Counted (settleJob c) := by
  have hidle : Counted (idleJob c) := h.change (job := fun _ => ⟨Nat.zero_le _, Nat.zero_le _⟩)
  have hat (i n : Nat) (p : Phase) : Counted (settleJobAt i n p c) := by
    simp only [settleJobAt]
    split
    · split
      · exact setPhase i _ (h.change (job := fun _ => ⟨Nat.zero_le _, Nat.zero_le _⟩))
      · exact h.change (job := fun _ => ⟨Nat.zero_le _, Nat.zero_le _⟩)
    · exact (Moves.settlePhase .refl i).keeps move (h.change (job := fun _ => ⟨Nat.zero_le _, Nat.zero_le _⟩))
  unfold Machine.settleJob
  split
  · split
    · split
      · exact hat _ _ _
      · exact hidle
    · exact hidle
  · exact hidle

theorem loadBegun {g : Config} (n : Nat) (hg : CounterLimits g) (h : Counted c) : Counted (loadBegun g n c) := by
  have hreport : Counted (takeReportSet g c) := by
    unfold takeReportSet
    split
    · exact h.change
    · exact h
  have hn := hreport.countClamps n
  refine ⟨hn.events, hn.doors, hn.ovens, hn.below, hn.above, hn.job, hn.ages, hn.main, hn.held, hn.scan, fun g' hg' => ?_⟩
  obtain rfl : g = g' := by simpa [Machine.loadBegun, modifyStart] using hg'
  exact hg

/-- Records read afresh are within their ranges. -/
theorem unknown_agesRight {n : Nat} (h : n ≤ 60) : (Tracker.unknown n).agesRight := ⟨h, h, h⟩

theorem fresh_countersRight (tap : Bool) : (MainRecord.fresh tap).countersRight :=
  ⟨by cases tap <;> simp [MainRecord.fresh], Nat.zero_le _⟩

theorem coldRecords {g : Config} (hg : CounterLimits g) (h : Counted c) : Counted (coldRecords g c) := by
  refine h.change (doors := fun _ => nofun) (ovens := fun _ o ho => ?_) (below := fun _ n hn => ?_) (above := fun _ n hn => ?_)
    (job := fun _ => ⟨Nat.zero_le _, Nat.zero_le _⟩) (ages := fun _ => unknown_agesRight hg.2)
    (main := fun _ => fresh_countersRight _) (held := fun _ => Nat.zero_le _) (scan := fun _ => Nat.zero_le _)
  · obtain ⟨i, _, rfl⟩ := List.mem_map.mp ho
    exact ⟨Nat.zero_le _, Nat.zero_le _, Nat.zero_le _, Nat.zero_le _, Nat.zero_le _, Nat.zero_le _⟩
  · have hn : (neighboursOf g).1 = some n := hn
    simp only [neighboursOf] at hn
    split at hn
    · cases hn
      exact ⟨Nat.zero_le _, Nat.le_refl _⟩
    · cases hn
  · have hn : (neighboursOf g).2 = some n := hn
    simp only [neighboursOf] at hn
    split at hn
    · cases hn
      exact ⟨Nat.zero_le _, Nat.le_refl _⟩
    · cases hn

theorem capChecks_right {n : Nat} {r : Door} (h : r.countersRight) : (r.capChecks n).countersRight := by
  unfold Door.capChecks
  split
  · next hs =>
    obtain ⟨hscore, hdead, hopen, hclosed, _, href, hlast⟩ := h
    exact ⟨hscore, hdead, hopen, hclosed, fun hc => absurd hs hc, href, hlast⟩
  · exact h

theorem warmRecords {g : Config} (hg : CounterLimits g) (h : Counted c) : Counted (warmRecords g c) := by
  refine h.change (doors := fun hdoors r hr => ?_) (ages := fun _ => unknown_agesRight hg.2)
    (main := fun _ => fresh_countersRight _) (held := fun _ => Nat.zero_le _)
  obtain ⟨x, hx, rfl⟩ := List.mem_map.mp hr
  exact capChecks_right (hdoors x hx)

theorem loadInForce {g : Config} (n : Nat) (hg : CounterLimits g) (h : Counted c) : Counted (loadInForce g n c) := by
  have hbegun := h.loadBegun n hg
  refine loadInForce_keeps n (hbegun.coldRecords hg) (fun h => h.formDoors) (fun _ => ?_) fun _ h => ?_
  · rw [warmStart_eq]
    exact hbegun.settleJob.warmRecords hg
  · exact requestFrame (h.change)

theorem atReset (r : Bool) : Counted (Controller.atReset r) where
  events := ⟨List.length_replicate, fun e he => by
    rw [List.eq_of_mem_replicate he]
    exact Nat.zero_le _⟩
  doors _ h := nomatch h
  ovens _ h := nomatch h
  below _ h := nomatch h
  above _ h := nomatch h
  job := ⟨Nat.zero_le _, Nat.zero_le _⟩
  ages := unknown_agesRight (Nat.le_refl _)
  main := fresh_countersRight _
  held := Nat.zero_le _
  scan := Nat.zero_le _
  config _ h := nomatch h

theorem restartAsserts (h : Counted c) : Counted (restartAsserts c) := by
  have hjob : c.job.minutes ≤ 255 ∧ c.job.holdSecs ≤ 300 → c.job.atRestart.minutes ≤ 255 ∧ c.job.atRestart.holdSecs ≤ 300 := by
    unfold Job.atRestart
    split
    · exact fun _ => ⟨Nat.zero_le _, Nat.zero_le _⟩
    · exact fun _ => ⟨Nat.zero_le _, Nat.zero_le _⟩
    · exact id
  simp only [Machine.restartAsserts]
  split
  · exact h.change (job := hjob) (ages := fun _ => unknown_agesRight h.limits.2) (held := fun _ => Nat.zero_le _)
      (scan := fun _ => Nat.zero_le _)
  · exact h.change (job := hjob) (ages := fun _ => unknown_agesRight h.limits.2) (held := fun _ => Nat.zero_le _)
      (scan := fun _ => Nat.zero_le _)

/-- The counters are kept by every step. -/
theorem keptByStep : KeptByStep Counted Counted :=
  .of_startOnly move
    (fun ⟨hconfig, hd⟩ h => by
      rw [hd]
      exact h.change (config := hconfig))
    (fun c n h => h.loadInForce n (loadedConfig_counterLimits _)) atReset restartAsserts

end Counted

/-- Settles O59: the counters are kept by every move, by a load and by the reset inputs. -/
theorem countersKept : Obligations.CountersKept :=
  fun s t hs ht => (counted_iff t.ctl).mp (Counted.keptByStep.step ((counted_iff s.ctl).mpr hs) ht)

end Sys2Proof.Machine
end

section
/-! SUPPORT. The door records formed, and what their forming does to the ovens (R131, R148). -/

-- The lemmas are checked one after another, as the tests are.
set_option Elab.async false

namespace Sys2Proof.Machine

open Sys2Proof

/-- The controller once the effects of the channels below m have been worked in. -/
def formedUpTo (m : Nat) (c : Controller) : Controller :=
  (List.range m).foldl (fun c ch => formingEffects ch c) (withDoors ((List.range (2 * (cfg c).count)).map (formedDoor c)) c)

theorem formDoors_eq (c : Controller) : formDoors c = startAtNextTick (formedUpTo (2 * (cfg c).count) c) := rfl

theorem formedUpTo_succ (m : Nat) (c : Controller) : formedUpTo (m + 1) c = formingEffects m (formedUpTo m c) := by
  simp [formedUpTo, List.range_succ]

/-- The channel's own effect on the door records is the look at its conflict. -/
theorem formingEffects_doors (ch : Nat) (c : Controller) :
    (formingEffects ch c).doors.doors = c.doors.doors.modify ch Door.conflicted := by
  unfold formingEffects
  split
  · dsimp only
    split <;> simp [countConflict_doors]
  · next hr =>
    refine (modify_eq_self fun x hx => if_neg fun hc => hr ?_).symm
    simp [doorAt, hx, hc.1]

/-- Whether a door below a channel is a REMOVED one of an oven. -/
def removedBelow (m : Nat) (c : Controller) (i : Nat) : Bool :=
  (decide (2 * i < m) && doorAt c (2 * i) == some .removed) || (decide (2 * i + 1 < m) && doorAt c (2 * i + 1) == some .removed)

theorem removedBelow_succ (m : Nat) (c : Controller) (i : Nat) :
    removedBelow (m + 1) c i = (removedBelow m c i || (decide (m / 2 = i) && doorAt c m == some .removed)) := by
  by_cases hfirst : m = 2 * i
  · subst hfirst
    simp [removedBelow, show ¬ 2 * i + 1 < 2 * i by omega]
  · by_cases hsecond : m = 2 * i + 1
    · subst hsecond
      simp [removedBelow, show (2 * i + 1) / 2 = i by omega, show 2 * i < 2 * i + 1 + 1 by omega]
    · have h1 : (2 * i < m + 1) ↔ 2 * i < m := by omega
      have h2 : (2 * i + 1 < m + 1) ↔ 2 * i + 1 < m := by omega
      have h3 : ¬m / 2 = i := by omega
      simp [removedBelow, h1, h2, h3]

theorem Door.conflicted_state (d : Door) : d.conflicted.state = d.state := by
  unfold Door.conflicted
  split <;> rfl

/-- A change of door records that leaves their states leaves the doors' demand. -/
theorem doorAt_of_modify {c d : Controller} {ch : Nat} {f : Door → Door} (hd : d.doors.doors = c.doors.doors.modify ch f)
    (hf : ∀ r, (f r).state = r.state) (j : Nat) : doorAt d j = doorAt c j := by
  unfold doorAt
  rw [hd, List.getElem?_modify]
  cases c.doors.doors[j]? with
  | none => rfl
  | some x =>
    by_cases hj : ch = j
    · simp [hj, hf]
    · simp [hj]

theorem formingEffects_doorAt (ch : Nat) (c : Controller) (j : Nat) : doorAt (formingEffects ch c) j = doorAt c j :=
  doorAt_of_modify (formingEffects_doors ch c) Door.conflicted_state j

/-- A channel whose door is REMOVED closes its oven's valve, unless the oven's other door has done so. -/
theorem formingEffects_ovens (ch : Nat) (c : Controller) (i : Nat) :
    ovenAt (formingEffects ch c) i = (ovenAt c i).map fun o =>
      if doorAt c ch = some .removed ∧ ¬(ch % 2 = 1 ∧ doorAt c (ch - 1) = some .removed) ∧ ch / 2 = i then o.enterClosed else o := by
  have hcounted : (countUnauthorised ch (countConflict ch c)).table = c.table := by simp
  have hdoor (j : Nat) : doorAt (countUnauthorised ch (countConflict ch c)) j = doorAt c j :=
    doorAt_of_modify (ch := ch) (by simp [countConflict_doors]) Door.conflicted_state j
  unfold formingEffects
  split
  · next hr =>
    dsimp only
    rw [hdoor]
    split
    · next hother => simp [hr, hother, ovenAt]
    · next hother =>
      rw [forceClose, requestFrame_eq]
      simp only [ovenAt, withFrameOf, modifyOven, hcounted, List.getElem?_modify, hr, hother, not_false_eq_true, true_and]
      rfl
  · next hr => simp [hr]

theorem formedUpTo_doorAt (m : Nat) (c : Controller) (j : Nat) : doorAt (formedUpTo m c) j = doorAt (formedUpTo 0 c) j := by
  induction m with
  | zero => rfl
  | succ m ih => rw [formedUpTo_succ, formingEffects_doorAt, ih]

/-- The ovens with a REMOVED door among the channels worked in are closed, and the others stay. -/
theorem formedUpTo_ovens (m : Nat) (c : Controller) (i : Nat) :
    ovenAt (formedUpTo m c) i = (ovenAt c i).map fun o => if removedBelow m (formedUpTo 0 c) i then o.enterClosed else o := by
  induction m with
  | zero =>
    have hzero : removedBelow 0 (formedUpTo 0 c) i = false := by simp [removedBelow]
    rw [hzero]
    simp
    rfl
  | succ m ih =>
    rw [formedUpTo_succ, formingEffects_ovens, ih, Option.map_map]
    congr 1
    funext o
    simp only [Function.comp_apply, formedUpTo_doorAt m c, removedBelow_succ]
    generalize formedUpTo 0 c = c0
    by_cases hbelow : removedBelow m c0 i = true
    · simp only [hbelow, if_true, Bool.true_or]
      split <;> rfl
    · have hbelow : removedBelow m c0 i = false := by simpa using hbelow
      simp only [hbelow, Bool.false_or, Bool.and_eq_true, decide_eq_true_eq, beq_iff_eq, Bool.false_eq_true, if_false]
      refine ite_congr (propext ⟨fun ⟨hr, _, hi⟩ => ⟨hi, hr⟩, fun ⟨hi, hr⟩ => ⟨hr, fun ⟨hodd, hother⟩ => ?_, hi⟩⟩) (fun _ => rfl) fun _ => rfl
      have heven : m - 1 = 2 * i := by omega
      rw [heven] at hother
      have hlt : 2 * i < m := by omega
      simp [removedBelow, hother, hlt] at hbelow

/-- Beyond the last channel no door stands. -/
theorem formDoors_doorAt (c : Controller) (j : Nat) : doorAt (formDoors c) j = doorAt (formedUpTo 0 c) j :=
  formedUpTo_doorAt (2 * (cfg c).count) c j

theorem formedUpTo_zero_doors (c : Controller) :
    (formedUpTo 0 c).doors.doors = (List.range (2 * (cfg c).count)).map (formedDoor c) := rfl

/-- The ovens after the door records have been formed: each with a door REMOVED is closed, the others stay (R131). -/
theorem formDoors_ovens (c : Controller) (i : Nat) :
    ovenAt (formDoors c) i = (ovenAt c i).map fun o => if anyRemoved (formDoors c) i then o.enterClosed else o := by
  have hall : removedBelow (2 * (cfg c).count) (formedUpTo 0 c) i = anyRemoved (formDoors c) i := by
    have hin (j : Nat) : (decide (j < 2 * (cfg c).count) && doorAt (formedUpTo 0 c) j == some .removed)
        = (doorAt (formDoors c) j == some .removed) := by
      rw [formDoors_doorAt]
      by_cases hj : j < 2 * (cfg c).count
      · simp [hj]
      · simp [doorAt, formedUpTo_zero_doors, hj]
    rw [removedBelow, hin, hin, anyRemoved]
  rw [← hall]
  exact formedUpTo_ovens (2 * (cfg c).count) c i

end Sys2Proof.Machine
end

section
/-! SUPPORT. The valves that every step keeps CLOSED where they must be, and each command a number of per mille (R156). -/

-- The lemmas are checked one after another, as the tests are.
set_option Elab.async false

namespace Sys2Proof.Machine

open Sys2Proof

/-! ## The limits -/

theorem Config.blank_valveLimits : ValveLimits Config.blank := by
  simp [ValveLimits, Row.limited, PerMille, Config.blank]

theorem perMille_max {x y : Int} (hx : PerMille x) (hy : PerMille y) : PerMille (max x y) := by
  unfold PerMille at *
  omega

theorem perMille_clamped (x : Int) : PerMille (clampInt x 0 1000) :=
  PerMille.clampInt ⟨by decide, by decide⟩ ⟨by decide, by decide⟩

/-- A row put into its ranges and ordered is limited. -/
theorem limited_of_inRange {r : Row} (f : Nat) : Row.limited (rowOrdered { rowInRange r with f := f }) := by
  exact ⟨perMille_clamped _, perMille_max (perMille_clamped _) (perMille_clamped _)⟩

/-- The corrected values of an image limit the valves. -/
theorem loadedConfig_valveLimits (b : List Byte) : ValveLimits (loadedConfig b).1 := by
  have hrows : (loadedConfig b).1.unknownRow = rowOrdered (rowInRange (rawConfig b).unknownRow)
      ∧ (loadedConfig b).1.earlyRow = rowOrdered (rowInRange (rawConfig b).earlyRow)
      ∧ (loadedConfig b).1.mainRow = rowOrdered (rowInRange (rawConfig b).mainRow) := ⟨rfl, rfl, rfl⟩
  have hlate : ∃ f, (loadedConfig b).1.lateRow = rowOrdered { rowInRange (rawConfig b).lateRow with f := f } := ⟨_, rfl⟩
  have hfinish : ∃ f, (loadedConfig b).1.finishRow = rowOrdered { rowInRange (rawConfig b).finishRow with f := f } := ⟨_, rfl⟩
  have hnumbers : (loadedConfig b).1.uchg = clampInt (rawConfig b).uchg 0 1000 ∧ (loadedConfig b).1.r = clampInt (rawConfig b).r 1 1000
      ∧ (loadedConfig b).1.riso = clampInt (rawConfig b).riso 1 1000 := ⟨rfl, rfl, rfl⟩
  obtain ⟨hunknown, hearly, hmain⟩ := hrows
  obtain ⟨f, hlate⟩ := hlate
  obtain ⟨f', hfinish⟩ := hfinish
  obtain ⟨huchg, hr, hriso⟩ := hnumbers
  have hpos (x : Int) : 0 ≤ clampInt x 1 1000 := Int.le_trans (by decide) (clampInt_cases (by decide)).1
  exact ⟨huchg ▸ perMille_clamped _, hunknown ▸ limited_of_inRange _, hearly ▸ limited_of_inRange _,
    hmain ▸ limited_of_inRange _, hlate ▸ limited_of_inRange _, hfinish ▸ limited_of_inRange _, hr ▸ hpos _, hriso ▸ hpos _⟩

/-! ## One oven -/

theorem enterClosed_valveRight (r : Bool) (o : Oven) : o.enterClosed.valveRight r :=
  ⟨⟨Int.le_refl 0, by simp [Oven.enterClosed]⟩, fun _ => rfl, fun _ => ⟨rfl, rfl⟩⟩

/-- The mode of the phase is right where no door is REMOVED. -/
theorem enterMode_valveRight {g : Config} {o : Oven} (hg : ValveLimits g) (h : PerMille o.command) :
    (o.enterMode g).valveRight false := by
  unfold Oven.enterMode
  cases hp : o.phase with
  | empty | isolated | pushing | sticker => exact enterClosed_valveRight _ o
  | charging =>
    refine ⟨hg.1, fun hc => ?_, nofun⟩
    simp [Oven.enterForced, hp, Phase.closes] at hc
  | isolating =>
    refine ⟨h, fun hc => ?_, nofun⟩
    simp [Oven.enterIsolating, hp, Phase.closes] at hc
  | coking | unknown =>
    refine ⟨h, fun hc => ?_, nofun⟩
    simp [Oven.enterRegulate, hp, Phase.closes] at hc

theorem movedOven_valveRight {g : Config} {p : Phase} {r : Bool} {o : Oven} (hg : ValveLimits g) (h : o.valveRight r) :
    (movedOven g p r o).valveRight r := by
  obtain ⟨hcommand, hclosed, hzero⟩ := h
  cases r with
  | true => exact ⟨hcommand, fun _ => hclosed (.inl rfl), hzero⟩
  | false => exact enterMode_valveRight hg hcommand

theorem demandOven_valveRight {g : Config} {was now : Bool} {o : Oven} (hg : ValveLimits g) (h : o.valveRight was) :
    (demandOven g was now o).valveRight now := by
  cases was <;> cases now
  · exact h
  · exact enterClosed_valveRight _ o
  · exact enterMode_valveRight hg h.1
  · exact h

/-! ## The controller -/

/-- The valves are right. -/
structure Valved (c : Controller) : Prop where
  valves : ∀ i o, ovenAt c i = some o → o.valveRight (anyRemoved c i)
  config : ∀ g, c.start.config = some g → ValveLimits g

/-- The doors' demand is read from the door states alone. -/
theorem anyRemoved_of_doorAt {c d : Controller} (h : ∀ j, doorAt d j = doorAt c j) (i : Nat) : anyRemoved d i = anyRemoved c i := by
  simp [anyRemoved, h]

namespace Valved

variable {c d : Controller}

theorem limits (h : Valved c) : ValveLimits (cfg c) := by
  unfold cfg
  cases hc : c.start.config with
  | none => exact Config.blank_valveLimits
  | some g => exact h.config g hc

/-- The invariant is read from the oven records, the door states and the configuration in force. -/
theorem congr (h : Valved c) (ho : d.table.ovens = c.table.ovens) (hd : d.doors.doors = c.doors.doors)
    (hs : d.start.config = c.start.config) : Valved d where
  valves i o hi := by
    rw [ovenAt_congr ho] at hi
    rw [anyRemoved_of_doorAt (doorAt_congr hd)]
    exact h.valves i o hi
  config := by
    rw [hs]
    exact h.config

theorem offers (k : OnlyOffers c d) (h : Valved c) : Valved d :=
  h.congr (by rw [k.table]) (by rw [k.doors]) (by rw [k.start])

/-- The oven at one index becomes another that is right. -/
theorem modified {i : Nat} {f : Oven → Oven} (h : Valved c) (ho : d.table.ovens = c.table.ovens.modify i f)
    (hf : ∀ o, o.valveRight (anyRemoved c i) → (f o).valveRight (anyRemoved d i))
    (hd : ∀ j, j ≠ i → anyRemoved d j = anyRemoved c j) (hs : d.start.config = c.start.config) : Valved d where
  valves j o hj := by
    rw [ovenAt, ho, List.getElem?_modify] at hj
    obtain ⟨x, hx, rfl⟩ := Option.map_eq_some_iff.mp hj
    have hr := h.valves j x hx
    by_cases hij : i = j
    · subst hij
      simpa using hf x hr
    · simpa [hij, hd j (Ne.symm hij)] using hr
  config := by
    rw [hs]
    exact h.config

theorem setPhase (i : Nat) (p : Phase) (h : Valved c) : Valved (setPhase i p c) := by
  have hdoors : (Machine.setPhase i p c).doors = c.doors := by simp
  refine h.modified (setPhase_ovens i p c) (fun o ho => ?_) (fun j _ => anyRemoved_congr hdoors j) (by simp)
  rw [anyRemoved_congr hdoors]
  exact movedOven_valveRight h.limits ho

/-- A door's change of state moves the valve of its own oven alone. -/
theorem doorMoved_anyRemoved_ne (ch : Nat) (old new : DoorState) (c : Controller) {i : Nat} (hi : i ≠ ch / 2) :
    anyRemoved (doorMoved ch old new c) i = anyRemoved c i := by
  have hdoor (j : Nat) (hj : ch ≠ j) : doorAt (doorMoved ch old new c) j = doorAt c j := by
    simp [doorAt, doorMoved_doors, hj]
  rw [anyRemoved, anyRemoved, hdoor _ (by omega), hdoor _ (by omega)]

theorem doorMoved (ch : Nat) (old new : DoorState) (h : Valved c) : Valved (doorMoved ch old new c) := by
  refine h.modified (i := ch / 2) (by rw [doorMoved_table]) (fun o ho => demandOven_valveRight h.limits ho)
    (fun j hj => doorMoved_anyRemoved_ne ch old new c hj) (by rw [(doorMoved_frame _ _ _ _).1])

theorem formDoors (hd : c.doors.doors = []) (h : Valved c) : Valved (formDoors c) where
  valves i o hi := by
    rw [formDoors_ovens] at hi
    obtain ⟨x, hx, rfl⟩ := Option.map_eq_some_iff.mp hi
    have hr := h.valves i x hx
    split
    · exact enterClosed_valveRight _ x
    · next hn =>
      have hn : anyRemoved (Machine.formDoors c) i = false := by simpa using hn
      rw [hn]
      have hnone : anyRemoved c i = false := by simp [anyRemoved, doorAt, hd]
      rwa [hnone] at hr
  config := by simpa using h.config

/-- Every move keeps the valves right. -/
theorem move (m : Move c d) (h : Valved c) : Valved d := by
  cases m with
  | count k first => exact h.offers (.count k first c)
  | offer t => exact h.offers (.offer t c)
  | offerEvent => exact h.offers (.offerEvent c)
  | withdraw p => exact h.offers (.withdraw p c)
  | aside k => exact h.congr k.ovens k.doors k.config
  | owes | enters | stays | idles | call | activates => exact h.congr rfl rfl rfl
  | recloses => exact h.congr (by simp [reclosingEntered]) (by simp [reclosingEntered]) (by rw [(reclosingEntered_start c).1])
  | ovens k =>
    refine ⟨fun i o hi => ?_, h.config⟩
    obtain ⟨x, hx, hstep⟩ := k i o hi
    exact hstep.valve h.limits _ (h.valves i x hx)
  | setPhase i p => exact h.setPhase i p
  | @doors _ l k =>
    refine ⟨fun i o hi => ?_, h.config⟩
    have hone (j : Nat) : (doorAt (withDoors l c) j == some .removed) = (doorAt c j == some .removed) := by
      rw [Bool.eq_iff_iff, beq_iff_eq, beq_iff_eq]
      exact k.removed j
    have hall : anyRemoved (withDoors l c) i = anyRemoved c i := by simp only [anyRemoved, hone]
    rw [hall]
    exact h.valves i o hi
  | door => exact h.doorMoved _ _ _
  | forms hd => exact h.formDoors hd
  | silences =>
    have hkeep : (enterSilent c).table.ovens = c.table.ovens ∧ (enterSilent c).doors.doors = c.doors.doors := by
      simp only [enterSilent]
      split <;> exact ⟨rfl, rfl⟩
    exact h.congr hkeep.1 hkeep.2 (by rw [enterSilent_start])

theorem settleJob (h : Valved c) : Valved (settleJob c) := by
  have hidle : Valved (idleJob c) := h.congr rfl rfl rfl
  have hat (i n : Nat) (p : Phase) : Valved (settleJobAt i n p c) := by
    simp only [settleJobAt]
    split
    · split
      · exact setPhase i _ (h.congr rfl rfl rfl)
      · exact h.congr rfl rfl rfl
    · exact (Moves.settlePhase .refl i).keeps move (h.congr rfl rfl rfl)
  unfold Machine.settleJob
  split
  · split
    · split
      · exact hat _ _ _
      · exact hidle
    · exact hidle
  · exact hidle

theorem loadBegun {g : Config} (n : Nat) (hg : ValveLimits g) (h : Valved c) : Valved (loadBegun g n c) where
  valves := by
    have hreport : Valved (takeReportSet g c) := by
      unfold takeReportSet
      split
      · exact h.congr rfl rfl rfl
      · exact h
    have hclamps : Valved (countClamps n (takeReportSet g c)) :=
      (Moves.foldl (fun _ h => h.count _ _) (List.range n) (c := takeReportSet g c) .refl).keeps move hreport
    exact hclamps.valves
  config g' hg' := by
    obtain rfl : g = g' := by simpa [Machine.loadBegun, modifyStart] using hg'
    exact hg

theorem coldRecords {g : Config} (hg : ValveLimits g) (h : Valved c) : Valved (coldRecords g c) where
  valves i o hi := by
    have hi : ((List.range g.count).map (coldOven g))[i]? = some o := hi
    obtain ⟨_, _, rfl⟩ := List.mem_map.mp (List.mem_of_getElem? hi)
    refine ⟨hg.2.1.1, fun hc => ?_, nofun⟩
    simp [anyRemoved, doorAt, Machine.coldRecords, coldOven, Phase.closes] at hc
  config := h.config

theorem warmRecords (g : Config) (h : Valved c) : Valved (warmRecords g c) where
  valves i o hi := by
    have hone (j : Nat) : doorAt (Machine.warmRecords g c) j = doorAt c j := by
      simp only [doorAt, Machine.warmRecords, List.getElem?_map, Option.map_map]
      congr 1
      funext r
      simp only [Function.comp_apply, Door.capChecks]
      split <;> rfl
    rw [anyRemoved_of_doorAt hone]
    exact h.valves i o hi
  config := h.config

theorem loadInForce {g : Config} (n : Nat) (hg : ValveLimits g) (h : Valved c) : Valved (loadInForce g n c) := by
  have hbegun := h.loadBegun n hg
  refine loadInForce_keeps n (hbegun.coldRecords hg) (fun h => h.formDoors rfl) (fun _ => ?_) fun _ h => ?_
  · rw [warmStart_eq]
    exact hbegun.settleJob.warmRecords g
  · exact h.congr (by simp [enterListen]) (by simp [enterListen]) (by simp [enterListen, modifyStart])

theorem atReset (r : Bool) : Valved (Controller.atReset r) where
  valves i o hi := by
    have hi : ([] : List Oven)[i]? = some o := hi
    simp at hi
  config _ h := nomatch h

theorem restartAsserts (h : Valved c) : Valved (restartAsserts c) := by
  simp only [Machine.restartAsserts]
  split <;> exact h.congr rfl rfl rfl

/-- The valves are kept by every step. -/
theorem keptByStep : KeptByStep Valved Valved :=
  .of_startOnly move
    (fun ⟨hconfig, hd⟩ h => by
      rw [hd]
      exact h.congr rfl rfl hconfig)
    (fun c n h => h.loadInForce n (loadedConfig_valveLimits _)) atReset restartAsserts

end Valved

/-- Settles O57: the valves are kept by every move, by a load and by the reset inputs. -/
theorem valvesKept : Obligations.ValvesKept := by
  intro s t hs ht
  obtain ⟨hvalves, hconfig⟩ := Valved.keptByStep.step ⟨hs.1, hs.2⟩ ht
  exact ⟨hvalves, hconfig⟩

end Sys2Proof.Machine
end

section
/-! SUPPORT. The queue of commands, the reset inputs, and the load that is read and fails. -/

-- The lemmas are checked one after another, as the tests are.
set_option Elab.async false

namespace Sys2Proof.Machine

open Sys2Proof

/-- Settles O1: the step is defined so. -/
theorem stepTakesFront : Obligations.StepTakesFront := fun _ _ _ => rfl

/-- Settles O60: each invariant is known at the reset from the proof that every step keeps it. -/
theorem resetMeetsInvariants : Obligations.ResetMeetsInvariants :=
  ⟨OutputsWork.keptByStep.atReset false, CallInv.keptByStep.atReset false,
    ⟨(Valved.atReset false).valves, (Valved.atReset false).config⟩, QueuesWork.keptByStep.atReset false,
    RoundInv.keptByStep.atReset false, (counted_iff _).mp (Counted.atReset false)⟩

/-! ## The reset -/

/-- Noting or clearing the RESTART input is all that a command but POWER-ON's release does at the reset. -/
theorem exec_atReset (i : Instr) (q : List Instr) (r : Bool) (hi : ∀ x, i ≠ .powerOnRelease x) :
    ∃ r', exec i ⟨q, Controller.atReset r⟩ = .next ⟨q, Controller.atReset r'⟩ := by
  cases i with
  | powerOnAssert => exact ⟨r, rfl⟩
  | powerOnRelease x => exact absurd rfl (hi x)
  | restartAssert => exact ⟨true, rfl⟩
  | restartRelease x => cases r <;> exact ⟨false, rfl⟩
  | configByteTimeout | loadComplete | listenTimerExpiry | secondTick | minuteTick | doorInputAccepted | doorWarn | doorOverdue
  | jobLimitReached | holdTimerExpiry | neighbourLost | machineStale | mainStale | claimExpired | bidWindowExpiry
  | edgePhaseRefresh | mainSendExpiry | travelTimerExpiry | controlPeriodExpiry | answerLimitExpiry | converterCycleComplete
  | leakGateStart | leakGateExpiry =>
    exact ⟨r, event_of_powerOn rfl⟩
  | configByteArrival | tick10ms | sampleWord | positionerFrameEnd | telegramReceived | telegramStart | arbitrationLost | lineError
  | telegramSent | halt | pusher | guide | qcar | chargeStart | chargeEnd | claim | bid | release | permit | call | phase | main
  | plan | seed | clearSticker | clearHardcount | inhibitSet | inhibitClear | mask | framingFault | lineIdle | leakSensorPulse =>
    exact ⟨r, act_of_powerOn rfl⟩

/-- Settles O2: what the reset holds is read off its record, and there every command from outside and every event is without
effect. -/
theorem powerOnHoldsReset : Obligations.PowerOnHoldsReset :=
  ⟨fun _ _ => rfl, fun _ => ⟨rfl, rfl, rfl, rfl, rfl, rfl, rfl, rfl, rfl, rfl, rfl, rfl, rfl, rfl, rfl, rfl⟩,
    fun i q r hi => exec_atReset i q r hi⟩

/-- Settles O3: with nothing due, each release clears its input and begins the read. -/
theorem releaseBeginsRead : Obligations.ReleaseBeginsRead := by
  intro q c x
  refine ⟨fun hp hr => ?_, fun hready hr => ?_⟩
  · change execPowerOnRelease x ⟨q, c⟩ = _
    simp [execPowerOnRelease, releasePowerOn, hp, hr, beginRead, modifyStart, byteTicks]
  · obtain ⟨hp, hdue⟩ := hready
    change execRestartRelease x ⟨q, c⟩ = _
    simp [execRestartRelease, releaseRestart, hp, hr, settle_of_due_nothing hdue, beginRead, modifyStart, byteTicks]

/-- Settles O4: with nothing due, RESTART takes effect at once, block by block. -/
theorem restartActs : Obligations.RestartActs := by
  intro q c ⟨hp, hdue⟩ hr
  refine ⟨restartAsserts c, ?_, ?_⟩
  · change execRestartAssert ⟨q, c⟩ = _
    simp [execRestartAssert, hp, hr, settle_of_due_nothing hdue]
  · have hjob : c.job.atRestart = if c.job.state = .bidding ∨ c.job.state = .claiming then { Job.idleRecord with owed := c.job.owed }
        else { c.job with permitOut := false, holdOut := false } := by
      unfold Job.atRestart
      split
      · next hs => exact (if_pos (.inl hs)).symm
      · next hs => exact (if_pos (.inr hs)).symm
      · next hb hc => exact (if_neg fun h => h.elim hb hc).symm
    simp only [restartAsserts]
    cases hd : c.doors.doors with
    | nil => exact ⟨rfl, rfl, rfl, rfl, rfl, rfl, hjob, rfl, rfl, rfl, rfl, rfl, rfl, rfl, rfl⟩
    | cons x l => exact ⟨rfl, rfl, rfl, rfl, rfl, rfl, hjob, rfl, rfl, rfl, rfl, rfl, rfl, rfl, rfl⟩

/-! ## The image read -/

/-- A command that takes an event which is due, while POWER-ON is released. -/
theorem event_takeDue {due : Controller → Bool} {clear : Due → Due} {f : Controller → Controller} {q : List Instr} {c : Controller}
    (hp : c.start.powerOn = false) (hd : due c = true) :
    event (fun c => takeDue (due c) clear f c) ⟨q, c⟩ = .next ⟨q, freePlace (f (modifyDue clear c))⟩ := by
  rw [event_of_running hp, hd, takeDue_true]

/-- Settles O5: the byte joins the image, which decides whether the read is over. -/
theorem imageByteTaken : Obligations.ImageByteTaken := by
  intro q c b hready hwaits hreading
  have hstep : exec (.configByteArrival b) ⟨q, c⟩ = .next ⟨q, freePlace (byteArrives b c)⟩ := act_of_ready hready
  have hkept : nothingWaits (byteArrives b c) = true := by
    unfold byteArrives
    split <;> exact hwaits
  have harrives : byteArrives b c = { c with
      start := { c.start with
        image := c.start.image ++ [b]
        reading := !imageComplete (c.start.image ++ [b])
        byteLeft := if imageComplete (c.start.image ++ [b]) then none else some 10 }
      due := { Due.nothing with loadComplete := imageComplete (c.start.image ++ [b]) } } := by
    rw [byteArrives, if_pos hreading, hready.2]
    rfl
  rw [hstep, freePlace_of_nothingWaits hkept, harrives]
  have hfull : imageComplete (c.start.image ++ [b]) = decide (imageByte (c.start.image ++ [b]) 0 + 3 ≤ (c.start.image ++ [b]).length) := by
    simp [imageComplete, imageN]
  rw [hfull]
  refine ⟨fun hshort => ?_, fun hlong => ?_⟩
  · rw [decide_eq_false (Nat.not_le.mpr hshort), show c = { c with due := Due.nothing } by rw [← hready.2]]
    simp [hreading, Due.nothing]
  · rw [decide_eq_true hlong]
    rfl

/-- The conditions on the image and the straps, as the model tests them. -/
theorem loadSucceeds_iff {u : StartUp} (h : imageByte u.image 0 + 3 ≤ u.image.length) :
    loadSucceeds u = true ↔ soundLoad u.straps u.image := by
  have hne : u.image.isEmpty = false := by
    cases hu : u.image with
    | nil => simp [hu] at h
    | cons _ _ => rfl
  have hcomplete : imageComplete u.image = true := by simp [imageComplete, imageN, hne, h]
  have hstraps : strapsValid u.straps = true ↔ 1 ≤ u.straps.toNat ∧ u.straps.toNat ≤ 24 := by simp [strapsValid, isSection]
  have hcrc : imageCrcAgrees u.image = true ↔ crc16 (u.image.take (imageByte u.image 0 + 1))
      = imageByte u.image (imageByte u.image 0 + 1) * 256 + imageByte u.image (imageByte u.image 0 + 2) := by
    simp [imageCrcAgrees, imageN, imageWord]
  have hstructure : structureSound u.image = true ↔ (124 ≤ imageByte u.image 0 ∧ imageByte u.image 0 ≤ 253)
      ∧ (1 ≤ imageByte u.image 2 ∧ imageByte u.image 2 ≤ 8) ∧ (1 ≤ imageByte u.image 1 ∧ imageByte u.image 1 ≤ 192)
      ∧ (imageByte u.image 1 + imageByte u.image 2 - 1 ≤ imageByte u.image 3 ∧ imageByte u.image 3 ≤ 192)
      ∧ (imageByte u.image 4 = 0 → 1 ≤ imageByte u.image 5 ∧ imageByte u.image 5 ≤ 24) := by
    obtain ⟨hfirst, hcount, hlast, htap, hsrc⟩ : (rawConfig u.image).first = imageByte u.image 1
        ∧ (rawConfig u.image).count = imageByte u.image 2 ∧ (rawConfig u.image).last = imageByte u.image 3
        ∧ (rawConfig u.image).tap = (imageByte u.image 4 != 0) ∧ (rawConfig u.image).source = imageByte u.image 5 :=
      ⟨rfl, rfl, rfl, rfl, rfl⟩
    have hsource : ((imageByte u.image 4 != 0) = true ∨ isSection (imageByte u.image 5) = true)
        ↔ (imageByte u.image 4 = 0 → 1 ≤ imageByte u.image 5 ∧ imageByte u.image 5 ≤ 24) := by
      by_cases h4 : imageByte u.image 4 = 0 <;> simp [h4, isSection]
    simp only [structureSound, imageN, Bool.and_eq_true, Bool.or_eq_true, decide_eq_true_eq, hfirst, hcount, hlast, htap, hsrc,
      hsource, and_assoc]
    exact and_congr decide_eq_true_iff (and_congr decide_eq_true_iff Iff.rfl)
  simp only [loadSucceeds, Bool.and_eq_true, hcomplete, hstraps, hcrc, hstructure, soundLoad, and_assoc, true_and]

/-- In CONFIG FAULT nothing is offered to a free place. -/
theorem freePlace_enterConfigFault (c : Controller) : freePlace (enterConfigFault c) = enterConfigFault c :=
  freePlace_of_not_active rfl

/-- Settles O6: an answer that fails to come and a load that does not succeed both enter CONFIG FAULT, and nothing more. -/
theorem failedLoadFaults : Obligations.FailedLoadFaults := by
  refine ⟨fun q c hp hdue hreading => ?_, fun q c hp hdue hlength hsound => ?_⟩
  · refine (event_takeDue (due := fun c => c.due.byteTimeout) hp hdue).trans ?_
    have htimes : byteTimesOut (modifyDue (fun d => { d with byteTimeout := false }) c)
        = enterConfigFault (modifyDue (fun d => { d with byteTimeout := false }) c) := if_pos hreading
    rw [htimes, freePlace_enterConfigFault]
    rfl
  · refine (event_takeDue (due := fun c => c.due.loadComplete) hp hdue).trans ?_
    have hfails : loadCompletes (modifyDue (fun d => { d with loadComplete := false }) c)
        = enterConfigFault (modifyDue (fun d => { d with loadComplete := false }) c) :=
      if_neg fun h => hsound ((loadSucceeds_iff hlength).mp h)
    rw [hfails, freePlace_enterConfigFault]
    rfl

end Sys2Proof.Machine
end

section
/-! SUPPORT. What the 10 ms tick, the second tick and the minute tick count (R1). -/

-- The lemmas are checked one after another, as the tests are.
set_option Elab.async false

namespace Sys2Proof.Machine

open Sys2Proof

/-! ## The 10 ms tick -/

/-- The tick at the blocks that keep a timer on it, before the door records may be formed. -/
def ticked (p l : BitVec 16) (c : Controller) : Controller :=
  c |> windowTick |> gateTick |> converterTick |> byteTick |> doorTick p l

theorem tickBase_eq (p l : BitVec 16) (c : Controller) : tickBase p l c = timeTick (lateForming (ticked p l c)) := rfl

/-- What the tick makes of each part of a controller at which nothing was due. -/
theorem ticked_eq (p l : BitVec 16) {c : Controller} (h : c.due = Due.nothing) :
    ticked p l c = { c with
      start := { c.start with byteLeft := (countdown none c.start.byteLeft).1 }
      round := if c.round.opened then { c.round with window := c.round.window - 10 } else c.round
      scan := if c.scan.running then { c.scan with ticksLeft := c.scan.ticksLeft - 1 } else c.scan
      reg := { c.reg with
        period := (countdown (some (cfg c).periodTicks) c.reg.period).1
        answer := (countdown none c.reg.answer).1 }
      doors := { c.doors with
        presentIn := sampleInputs p c.doors.presentIn
        latchedIn := sampleInputs l c.doors.latchedIn }
      due := { Due.nothing with
        bidWindow := c.round.opened && decide (c.round.window ≤ 10)
        gateExpiry := c.scan.running && decide (c.scan.ticksLeft ≤ 1)
        gateStart := !c.scan.running && c.scan.startNext
        controlPeriod := (countdown (some (cfg c).periodTicks) c.reg.period).2
        answerLimit := (countdown none c.reg.answer).2
        byteTimeout := (countdown none c.start.byteLeft).2
        doorInput := (List.range c.doors.doors.length).filter fun ch =>
          acceptedChanged c.doors.presentIn (sampleInputs p c.doors.presentIn) ch
            || acceptedChanged c.doors.latchedIn (sampleInputs l c.doors.latchedIn) ch } } := by
  obtain ⟨start, time, line, table, round, held, job, track, doors, scan, reg, events, due⟩ := c
  obtain rfl : due = Due.nothing := h
  cases ho : round.opened <;> cases hr : scan.running <;>
    simp [ticked, windowTick, gateTick, converterTick, byteTick, doorTick, cfg, ho, hr, Due.nothing]

theorem timeTick_eq (c : Controller) : timeTick c = { c with
    time := if 100 ≤ c.time.ticks + 1 then ⟨0, c.time.seconds⟩ else ⟨c.time.ticks + 1, c.time.seconds⟩
    due := { c.due with second := decide (100 ≤ c.time.ticks + 1) || c.due.second } } := by
  unfold timeTick
  split
  · next h => simp [h]
  · next h => simp [h]

/-- A countdown that runs, at a tick. -/
theorem countdown_some (reload : Option Nat) (n : Nat) :
    countdown reload (some n) = (if n ≤ 1 then reload else some (n - 1), decide (n ≤ 1)) := by
  by_cases hn : n ≤ 1 <;> simp [countdown, hn]

@[simp] theorem countdown_none (reload : Option Nat) : countdown reload none = (none, false) := rfl

/-- Whether a sample changes the accepted value, an input without one keeping none. -/
theorem acceptedChanged_sampleInputs (x : BitVec 16) (l : List DoorInput) (ch : Nat) :
    acceptedChanged l (sampleInputs x l) ch = decide (((sampleInputs x l)[ch]?).map (·.accepted) ≠ (l[ch]?).map (·.accepted)) := by
  unfold acceptedChanged
  rw [getElem?_sampleInputs]
  cases l[ch]? with
  | none => rfl
  | some i =>
    simp only [Option.map_some, Option.bind_some, ne_eq, Option.some.injEq, bne, eq_comm (a := (DoorInput.sample _ i).accepted)]
    rw [Bool.eq_iff_iff]
    simp

theorem length_sampleInputs (x : BitVec 16) (l : List DoorInput) : (sampleInputs x l).length = l.length := by
  simp [sampleInputs]

/-- Where no door records are formed at the tick, it forms none. -/
theorem lateForming_of_formed {c : Controller} (h : c.start.config = none ∨ c.doors.doors ≠ []) : lateForming c = c := by
  unfold lateForming
  rw [if_neg]
  obtain h | h := h
  · simp [h]
  · simp [h]

/-- Settles O12: the tick counts at each block, then the door records may be formed, then what waits is offered. -/
theorem tickCounts : Obligations.TickCounts := by
  intro q c p l hready hwaits
  obtain ⟨m, hm⟩ : ∃ m, m = tickBase p l c := ⟨_, rfl⟩
  have hoffers : OnlyOffers m (freePlace m) := .freePlace m
  have hdue : (freePlace m).due = m.due := hoffers.due
  have hround : (freePlace m).round = m.round := hoffers.round
  have hstart : (freePlace m).start = m.start := hoffers.start
  have hreg : (freePlace m).reg.period = m.reg.period ∧ (freePlace m).reg.answer = m.reg.answer := by
    rw [hoffers.reg]
    exact ⟨rfl, rfl⟩
  have hticked := ticked_eq p l hready.2
  have hm' : m = timeTick (lateForming (ticked p l c)) := hm.trans (tickBase_eq p l c)
  rw [timeTick_eq] at hm'
  have hmdue : m.due = { (ticked p l c).due with second := decide (100 ≤ c.time.ticks + 1) } := by
    rw [hm']
    simp [hticked, Due.nothing]
  refine ⟨freePlace m, by rw [hm]; exact exec_tick10ms_of_ready p l hready, fun hformed => ?_, ?_⟩
  · have hlate : lateForming (ticked p l c) = ticked p l c := lateForming_of_formed (by simpa [hticked] using hformed)
    rw [hlate] at hm'
    have hkept : nothingWaits m = true := by
      rw [hm', hticked]
      exact hwaits
    rw [freePlace_of_nothingWaits hkept, hm', hticked]
    exact ⟨rfl, rfl, rfl, rfl⟩
  · have htime : (freePlace m).time = if 100 ≤ c.time.ticks + 1 then ⟨0, c.time.seconds⟩ else ⟨c.time.ticks + 1, c.time.seconds⟩ := by
      rw [hoffers.time, hm']
      simp [hticked]
    have hmstart : m.start = (ticked p l c).start := by simp [hm']
    have hmround : m.round = (ticked p l c).round := by simp [hm']
    have hmreg : m.reg.period = (ticked p l c).reg.period ∧ m.reg.answer = (ticked p l c).reg.answer := by simp [hm']
    have hmdoors : m.doors.presentIn = sampleInputs p c.doors.presentIn ∧ m.doors.latchedIn = sampleInputs l c.doors.latchedIn := by
      simp [hm', hticked]
    rw [htime, hdue, hround, hstart, hreg.1, hreg.2, hoffers.doors, hmdue, hmstart, hmround, hmreg.1, hmreg.2, hmdoors.1, hmdoors.2,
      hticked]
    refine ⟨rfl, rfl, rfl, rfl, rfl, rfl, rfl, fun n hn => ?_, fun n hn => ?_, fun hn => ?_, fun hn => ?_, rfl, fun n hn => ?_,
      fun hn => ?_, length_sampleInputs _ _, length_sampleInputs _ _, ?_⟩
    · simp only [hn, countdown_some, Config.periodTicks, and_true]
      split <;> rfl
    · simp only [hn, countdown_some, and_true]
    · simp [hn]
    · simp [hn]
    · simp only [hn, countdown_some, and_true]
    · simp [hn]
    · refine List.filter_congr fun ch _ => ?_
      rw [acceptedChanged_sampleInputs, acceptedChanged_sampleInputs]
      simp

end Sys2Proof.Machine
end

section
/-! SUPPORT. What the second tick counts (R1). -/

-- The lemmas are checked one after another, as the tests are.
set_option Elab.async false

namespace Sys2Proof.Machine

open Sys2Proof

theorem mem_channelsWhere {p : Door → Bool} {l : List Door} {ch : Nat} :
    ch ∈ channelsWhere p l ↔ ∃ r, l[ch]? = some r ∧ p r = true := by
  simp only [channelsWhere, List.mem_filter, List.mem_range, Option.any_eq_true]
  refine ⟨fun ⟨_, h⟩ => h, fun ⟨r, hr, hp⟩ => ⟨?_, r, hr, hp⟩⟩
  exact (List.getElem?_eq_some_iff.mp hr).1

/-- What the second tick makes of each part of the controller. -/
theorem secondBase_eq (c : Controller) : secondBase c = { c with
    start := { c.start with listen := (countdown none c.start.listen).1 }
    time := if 60 ≤ c.time.seconds + 1 then { c.time with seconds := 0 } else { c.time with seconds := c.time.seconds + 1 }
    table := { c.table with
      below := c.table.below.map Neighbour.second
      above := c.table.above.map Neighbour.second
      edge := (countdown (some edgeTicks) c.table.edge).1 }
    job := if receiving c && c.job.state == .held then { c.job with holdSecs := min 300 (c.job.holdSecs + 1) } else c.job
    track := if receiving c then { c.track.aged with call := c.track.aged.call.secondTick } else c.track
    doors := { c.doors with doors := c.doors.doors.map Door.second }
    reg := { c.reg with
      mainSend := (countdown (some 1) c.reg.mainSend).1
      main := if c.start.config.isSome then c.reg.main.second else c.reg.main }
    due := { c.due with
      doorWarn := channelsWhere (warnsAt (cfg c)) (c.doors.doors.map Door.second)
      doorOverdue := channelsWhere (overdueAt (cfg c)) (c.doors.doors.map Door.second)
      lostBelow := (c.table.below.map Neighbour.second).any (Neighbour.lostAt (cfg c))
      lostAbove := (c.table.above.map Neighbour.second).any (Neighbour.lostAt (cfg c))
      stalePusher := if receiving c then staleDue (cfg c) c.track.aged.pusher.age c.track.pusher.stale else c.due.stalePusher
      staleGuide := if receiving c then staleDue (cfg c) c.track.aged.guide.age c.track.guide.stale else c.due.staleGuide
      staleCar := if receiving c then staleDue (cfg c) c.track.aged.car.age c.track.car.stale else c.due.staleCar
      travelTimer := if receiving c then c.track.call.secondTick.expired else c.due.travelTimer
      mainStale := if c.start.config.isSome then c.reg.main.second.staleDue (cfg c) else c.due.mainStale
      holdTimer := if receiving c && c.job.state == .held
        then decide ((cfg c).holdLimit ≤ min 300 (c.job.holdSecs + 1)) else c.due.holdTimer
      listenTimer := (countdown none c.start.listen).2
      edgeRefresh := (countdown (some edgeTicks) c.table.edge).2
      mainSend := (countdown (some 1) c.reg.mainSend).2
      minute := decide (60 ≤ c.time.seconds + 1) || c.due.minute } } := by
  have htrack (c : Controller) : trackerSecond c = { c with
      track := if receiving c then { c.track.aged with call := c.track.aged.call.secondTick } else c.track
      due := { c.due with
        stalePusher := if receiving c then staleDue (cfg c) c.track.aged.pusher.age c.track.pusher.stale else c.due.stalePusher
        staleGuide := if receiving c then staleDue (cfg c) c.track.aged.guide.age c.track.guide.stale else c.due.staleGuide
        staleCar := if receiving c then staleDue (cfg c) c.track.aged.car.age c.track.car.stale else c.due.staleCar
        travelTimer := if receiving c then c.track.call.secondTick.expired else c.due.travelTimer } } := by
    unfold trackerSecond
    cases hr : receiving c <;> rfl
  have hmain (c : Controller) : mainSecond c = { c with
      reg := { c.reg with main := if c.start.config.isSome then c.reg.main.second else c.reg.main }
      due := { c.due with
        mainStale := if c.start.config.isSome then c.reg.main.second.staleDue (cfg c) else c.due.mainStale } } := by
    unfold mainSecond
    cases hg : c.start.config.isSome <;> rfl
  have hhold (c : Controller) : holdSecond c = { c with
      job := if receiving c && c.job.state == .held then { c.job with holdSecs := min 300 (c.job.holdSecs + 1) } else c.job
      due := { c.due with
        holdTimer := if receiving c && c.job.state == .held
          then decide ((cfg c).holdLimit ≤ min 300 (c.job.holdSecs + 1)) else c.due.holdTimer } } := by
    unfold holdSecond
    cases hh : (receiving c && c.job.state == .held) <;> rfl
  have htime (c : Controller) : timeSecond c = { c with
      time := if 60 ≤ c.time.seconds + 1 then { c.time with seconds := 0 } else { c.time with seconds := c.time.seconds + 1 }
      due := { c.due with minute := decide (60 ≤ c.time.seconds + 1) || c.due.minute } } := by
    unfold timeSecond
    split
    · next h => simp [h]
    · next h => simp [h]
  rw [secondBase, htime, lineSecond, hhold, hmain, htrack]
  rfl

/-- Whether something waits for a free place is read from the station line state, the queue, the events and the release owed. -/
theorem nothingWaits_congr {c d : Controller} (hs : d.start.line = c.start.line) (ht : d.line.tx = c.line.tx)
    (he : d.events = c.events) (ho : d.job.owed = c.job.owed) : nothingWaits d = nothingWaits c := by
  simp [nothingWaits, isActive, txRoom, hs, ht, he, ho]

theorem Door.second_eq (r : Door) :
    r.second = if r.state = .unlatched ∨ r.state = .removed then { r with openSecs := min 3600 (r.openSecs + 1) } else r := by
  simp [Door.second, Door.opened]

/-- The travel timer expires at the second tick that finds it at its last second. -/
theorem Call.expired_secondTick (k : Call) : k.secondTick.expired = (k.step == .sent && decide (k.remaining ≤ 1)) := by
  have hlast : (k.remaining - 1 == 0) = decide (k.remaining ≤ 1) := by
    rw [Bool.eq_iff_iff]
    simp
    omega
  unfold Call.secondTick
  split
  · next hs => simp [Call.expired, hs, hlast]
  · next hs => simp [Call.expired, beq_eq_false_iff_ne.mpr hs]

/-- A neighbour record is due to be lost where it is known and its age has reached the limit. -/
theorem lostDue_iff {g : Config} {n : Option Neighbour} :
    n.any (Neighbour.lostAt g) = true ↔ ∃ x, n = some x ∧ x.known = true ∧ g.tnb ≤ x.age := by
  simp [Option.any_eq_true, Neighbour.lostAt]

theorem MainRecord.second_if (p : Bool) (m : MainRecord) :
    (if p then m.second else m) = { m with age := if p = true ∧ m.tap = false then min 60 (m.age + 1) else m.age } := by
  obtain ⟨tap, value, invalid, age, stale, queued⟩ := m
  cases p <;> cases tap <;> rfl

theorem MainRecord.staleDue_second_if (g : Config) (p b : Bool) (m : MainRecord) :
    (if p then m.second.staleDue g else b)
      = if p then !m.tap && !m.stale && decide (g.tstale ≤ (if p then m.second else m).age) else b := by
  obtain ⟨tap, value, invalid, age, stale, queued⟩ := m
  cases p <;> cases tap <;> rfl

/-- Settles O14: the second tick at each block; nothing is then offered. -/
theorem secondTickCounts : Obligations.SecondTickCounts := by
  intro q c hp hdue hwaits
  obtain ⟨m, hm⟩ : ∃ m, m = secondBase (modifyDue (fun d => { d with second := false }) c) := ⟨_, rfl⟩
  have hstep : exec .secondTick ⟨q, c⟩ = .next ⟨q, freePlace m⟩ := by
    rw [hm]
    exact event_takeDue (due := fun c => c.due.second) hp hdue
  rw [secondBase_eq] at hm
  have hkept : nothingWaits m = true := by
    rw [← hwaits]
    refine nothingWaits_congr ?_ ?_ ?_ ?_
    · rw [hm]; rfl
    · rw [hm]; rfl
    · rw [hm]; rfl
    · rw [hm]
      dsimp only
      split <;> rfl
  rw [freePlace_of_nothingWaits hkept] at hstep
  have hreceiving : receiving (modifyDue (fun d => { d with second := false }) c) = receiving c := rfl
  have hcfg : cfg (modifyDue (fun d => { d with second := false }) c) = cfg c := rfl
  rw [hreceiving, hcfg] at hm
  dsimp only [modifyDue] at hm
  refine ⟨m, hstep, ?_⟩
  rw [hm]
  refine ⟨rfl, rfl, rfl, ?minute, ?doors, fun ch => ?warn, fun ch => ?overdue, rfl, ?below, ?above, fun n hn => ?edge, fun hn => ?noEdge,
    rfl, fun n hn => ?listen, fun hn => ?noListen, fun hr => ?tracker, fun hr => ?noTracker, ?job, ?hold, ?reg, ?mainSend, ?mainStale⟩
  case minute => exact Bool.or_comm _ _
  case doors => simp only [funext Door.second_eq]
  case warn => simp [mem_channelsWhere, warnsAt, Door.opened, and_assoc]
  case overdue => simp [mem_channelsWhere, overdueAt, Door.opened, and_assoc]
  case below => exact lostDue_iff
  case above => exact lostDue_iff
  case edge =>
    simp only [hn, countdown_some, edgeTicks, and_true]
    split <;> rfl
  case noEdge => simp [hn]
  case listen => simp only [hn, countdown_some, and_true]
  case noListen => simp [hn]
  case tracker =>
    simp only [hr, if_true]
    exact ⟨rfl, rfl, rfl, rfl, rfl, rfl, rfl, Call.expired_secondTick c.track.call⟩
  case noTracker => simp [hr]
  case job => simp
  case hold => exact ite_congr (propext (by rw [Bool.and_eq_true, beq_iff_eq])) (fun _ => rfl) fun _ => rfl
  case reg =>
    have hsend : (countdown (some 1) c.reg.mainSend).1
        = match c.reg.mainSend with | none => none | some n => some (if n ≤ 1 then 1 else n - 1) := by
      cases c.reg.mainSend with
      | none => rfl
      | some n =>
        simp only [countdown_some]
        split <;> rfl
    exact congr (congrArg (fun s m => { c.reg with mainSend := s, main := m }) hsend) (MainRecord.second_if _ _)
  case mainSend =>
    cases hn : c.reg.mainSend with
    | none => simp
    | some n => simp [countdown_some]
  case mainStale => exact MainRecord.staleDue_second_if _ _ _ _

end Sys2Proof.Machine
end

section
/-! SUPPORT. What the minute tick counts (R1, R55). -/

-- The lemmas are checked one after another, as the tests are.
set_option Elab.async false

namespace Sys2Proof.Machine

open Sys2Proof

/-- The minute tick leaves the round alone where R55 calls for no BID. -/
theorem minuteBid_eq_self {c : Controller}
    (h : c.round.opened = false ∨ isActive c = false ∨ c.job.state ≠ .idle ∨ c.round.ownBid ≠ none
      ∨ ∀ i o, chooseOven c = some (i, o) → ∃ h l, c.round.bids = h :: l ∧ h.ident ≤ (bidFor c o).ident) : minuteBid c = c := by
  unfold minuteBid
  split
  · next hopen =>
    simp only [Bool.and_eq_true, beq_iff_eq, Option.isNone_iff_eq_none] at hopen
    obtain ⟨⟨⟨hopened, hactive⟩, hidle⟩, hown⟩ := hopen
    obtain h | h | h | h | h := h
    · simp [h] at hopened
    · simp [h] at hactive
    · exact absurd hidle h
    · exact absurd hown h
    · split
      · rfl
      · next i o ho =>
        obtain ⟨x, l, hbids, hle⟩ := h i o ho
        simp [hbids, Nat.not_lt.mpr hle]
  · rfl

/-- What the minute tick makes of the records that age. -/
theorem heldMinute_jobMinute_eq (c : Controller) : jobMinute (heldMinute c) = { c with
    held := c.held.minute
    job := if receiving c && c.job.state.claimedToHeld then { c.job with minutes := min 255 (c.job.minutes + 1) } else c.job
    due := { c.due with
      claimExpired := c.held.minute.overLimit
      jobLimit := if receiving c && c.job.state.claimedToHeld
        then beforePermit c.job.state && decide ((cfg c).jobLimit ≤ min 255 (c.job.minutes + 1)) else c.due.jobLimit } } := by
  have hjob (c : Controller) : jobMinute c = { c with
      job := if receiving c && c.job.state.claimedToHeld then { c.job with minutes := min 255 (c.job.minutes + 1) } else c.job
      due := { c.due with
        jobLimit := if receiving c && c.job.state.claimedToHeld
          then beforePermit c.job.state && decide ((cfg c).jobLimit ≤ min 255 (c.job.minutes + 1)) else c.due.jobLimit } } := by
    unfold jobMinute
    cases hj : (receiving c && c.job.state.claimedToHeld) <;> rfl
  rw [hjob, heldMinute]
  rfl

theorem tableMinute_eq (c : Controller) : tableMinute c = { c with table := minutesRisen c } := rfl

/-- Settles O15: no BID is queued on either side of the rise, so that only the minutes and the ages change. -/
theorem minuteTickCounts : Obligations.MinuteTickCounts := by
  intro q c b hp hdue hwaits hbid
  obtain ⟨m, hm⟩ : ∃ m, m = minuteBase b (modifyDue (fun d => { d with minute := false }) c) := ⟨_, rfl⟩
  have hstep : exec (.minuteTick b) ⟨q, c⟩ = .next ⟨q, freePlace m⟩ := by
    rw [hm]
    exact event_takeDue (due := fun c => c.due.minute) hp hdue
  have hbase : minuteBase b (modifyDue (fun d => { d with minute := false }) c)
      = jobMinute (heldMinute (tableMinute (modifyDue (fun d => { d with minute := false }) c))) := by
    unfold minuteBase
    cases b with
    | true => rw [if_pos rfl, minuteBid_eq_self (c := modifyDue (fun d => { d with minute := false }) c) hbid]
    | false =>
      rw [if_neg (by decide), minuteBid_eq_self (c := tableMinute (modifyDue (fun d => { d with minute := false }) c)) hbid]
  rw [hbase, heldMinute_jobMinute_eq, tableMinute_eq] at hm
  dsimp only [modifyDue] at hm
  have hkept : nothingWaits m = true := by
    rw [← hwaits]
    refine nothingWaits_congr ?_ ?_ ?_ ?_
    · rw [hm]
    · rw [hm]
    · rw [hm]
    · rw [hm]
      exact (apply_ite Job.owed _ _ _).trans (ite_self _)
  rw [freePlace_of_nothingWaits hkept] at hstep
  refine ⟨m, hstep, ?_⟩
  rw [hm]
  refine ⟨rfl, rfl, by simp [minutesRisen], fun i o ho => ?ovens, rfl, rfl, rfl, ?job, rfl, ?claim, ?limit⟩
  case ovens =>
    refine ⟨o.minute (cfg c), ?_, fun hp => if_neg hp, fun hp => ?_⟩
    · have hi : c.table.ovens[i]? = some o := ho
      simp [ovenAt, minutesRisen, hi]
      rfl
    · rw [Oven.minute, if_pos hp, Oven.withStage, derivedStage, if_pos hp]
  case job => exact ite_congr (propext Bool.and_eq_true_iff) (fun _ => rfl) fun _ => rfl
  case claim =>
    unfold HeldRecord.minute HeldRecord.overLimit
    cases hclaim : c.held.claim with
    | none => simp [hclaim]
    | some x => simp
  case limit =>
    have hbefore (s : JobState) : beforePermit s = decide (s = .claimed ∨ s = .doors ∨ s = .staged) := by cases s <;> rfl
    rw [← hbefore]
    exact ite_congr (propext Bool.and_eq_true_iff) (fun _ => rfl) fun _ => rfl

end Sys2Proof.Machine
end

section
/-! SUPPORT. What is counted: an event raises its own entry, and what is offered raises no entry but that of TX DROPPED
(R41, R187). -/

-- The lemmas are checked one after another, as the tests are.
set_option Elab.async false

namespace Sys2Proof.Machine

open Sys2Proof

/-- From c to d no entry has changed but that of TX DROPPED. -/
structure EventsStay (c d : Controller) : Prop where
  length : d.events.entries.length = c.events.entries.length
  entry : ∀ j, 1 ≤ j → j ≠ 6 → d.events.entry j = c.events.entry j

/-- The entry of a kind after an event has been counted. -/
theorem entry_count {k : EventKind} {first : Option Nat} {c : Controller} (h : thirtyEntries c) :
    (count k first c).events.entry k.number = EventEntry.raised first (c.events.entry k.number) := by
  have hk : k.number - 1 < c.events.entries.length := by
    rw [show c.events.entries.length = 30 from h]
    cases k <;> decide
  have he : (count k first c).events.entries = c.events.entries.modify (k.number - 1) (EventEntry.raised first) := by
    simp only [count, offerEvent]
    split <;> rfl
  simp [EventTable.entry, he, List.getElem?_eq_getElem hk]

/-- The entry of another kind after an event has been counted. -/
theorem entry_count_ne {k : EventKind} {first : Option Nat} {c : Controller} {j : Nat} (hj : 1 ≤ j) (hne : j ≠ k.number) :
    (count k first c).events.entry j = c.events.entry j := by
  have hk : 1 ≤ k.number := by cases k <;> decide
  have he : (count k first c).events.entries = c.events.entries.modify (k.number - 1) (EventEntry.raised first) := by
    simp only [count, offerEvent]
    split <;> rfl
  have hidx : k.number - 1 ≠ j - 1 := by omega
  simp [EventTable.entry, he, hidx]

theorem length_entries_count (k : EventKind) (first : Option Nat) (c : Controller) :
    (count k first c).events.entries.length = c.events.entries.length := by
  simp only [count, offerEvent]
  split <;> simp [setTx, EventTable.raise]

namespace EventsStay

variable {b c d : Controller}

theorem of_eq (h : d.events.entries = c.events.entries) : EventsStay c d :=
  ⟨by rw [h], fun j _ _ => by simp [EventTable.entry, h]⟩

theorem refl (c : Controller) : EventsStay c c := of_eq rfl

theorem trans (h : EventsStay b c) (k : EventsStay c d) : EventsStay b d :=
  ⟨k.length.trans h.length, fun j hj h6 => (k.entry j hj h6).trans (h.entry j hj h6)⟩

theorem thirty (h : EventsStay c d) (ht : thirtyEntries c) : thirtyEntries d := h.length.trans ht

theorem dropped (first : Option Nat) (c : Controller) : EventsStay c (count .txDropped first c) :=
  ⟨length_entries_count _ _ c, fun _ hj h6 => entry_count_ne hj h6⟩

theorem offerEvent (c : Controller) : EventsStay c (offerEvent c) := by
  refine of_eq ?_
  unfold Machine.offerEvent
  split <;> rfl

theorem notTaken (t : Telegram) (c : Controller) : EventsStay c (notTaken t c) := by
  refine of_eq ?_
  unfold Machine.notTaken
  (repeat' split) <;> rfl

theorem setFate (f : Fate) (c : Controller) : EventsStay c (setFate f c) := of_eq (by simp)

theorem setTx (q : List TxEntry) (c : Controller) : EventsStay c (setTx q c) := of_eq rfl

theorem withdraw (p : Telegram → Bool) (c : Controller) : EventsStay c (withdraw p c) := by
  simp only [Machine.withdraw]
  split
  · exact (setTx _ c).trans (setFate _ _)
  · exact setTx _ c

theorem offer (t : Telegram) (c : Controller) : EventsStay c (offer t c) := by
  have hreplace : EventsStay c (replaceEntry t c) := by
    simp only [replaceEntry]
    split
    · exact (setTx _ c).trans (setFate _ _)
    · exact setTx _ c
  have hdisplace : EventsStay c (displaceLast t c) := by
    simp only [displaceLast]
    split
    · exact refl c
    · split
      · exact ((setTx _ c).trans (setFate _ _)).trans (dropped _ _)
      · exact ((setTx _ c).trans (notTaken _ _)).trans (dropped _ _)
  unfold Machine.offer
  split
  · exact notTaken t c
  · split
    · exact hreplace
    · split
      · exact setTx _ c
      · split
        · exact (notTaken t c).trans (dropped _ _)
        · exact hdisplace

theorem withdrawKind (k : Kind) (c : Controller) : EventsStay c (withdrawKind k c) := withdraw _ c

theorem queuePhase (i : Nat) (c : Controller) : EventsStay c (queuePhase i c) := by
  unfold Machine.queuePhase
  split
  · exact offer _ c
  · exact refl c

theorem offerPermit (n code : Nat) (c : Controller) : EventsStay c (offerPermit n code c) :=
  (withdrawKind _ c).trans (offer _ _)

theorem offerHalt (n : Nat) (c : Controller) : EventsStay c (offerHalt n c) := (withdrawKind _ c).trans (offer _ _)

theorem offerRelease (n : Nat) (o : PushOutcome) (c : Controller) : EventsStay c (offerRelease n o c) :=
  (withdrawKind _ c).trans (offer _ _)

theorem offerOwed (c : Controller) : EventsStay c (offerOwed c) := by
  unfold Machine.offerOwed
  split
  · split
    · next w _ _ =>
      have h : EventsStay c { c with job := { c.job with owed := none } } := of_eq rfl
      exact h.trans (offerRelease _ _ _)
    · exact refl c
  · exact refl c

theorem freePlace (c : Controller) : EventsStay c (freePlace c) := (offerOwed c).trans (offerEvent _)

theorem setPhase (i : Nat) (p : Phase) (c : Controller) : EventsStay c (setPhase i p c) := by
  simp only [Machine.setPhase]
  refine trans (c := Machine.queuePhase i (modifyOven i (fun o => ({ o with phase := p }).withStage (cfg c)) c)) ?_ (of_eq (by simp))
  exact trans (c := modifyOven i (fun o => ({ o with phase := p }).withStage (cfg c)) c) (of_eq rfl) (queuePhase i _)

theorem settlePhase (i : Nat) (c : Controller) : EventsStay c (settlePhase i c) := by
  unfold Machine.settlePhase
  split
  · split
    · exact refl c
    · exact setPhase i _ c
  · exact refl c

theorem forceClose (i : Nat) (c : Controller) : EventsStay c (forceClose i c) := of_eq (by simp)

theorem followPhase (i : Nat) (c : Controller) : EventsStay c (followPhase i c) := of_eq (by simp)

theorem ite {p : Prop} [Decidable p] {x y : Controller} (hx : p → EventsStay c x) (hy : ¬p → EventsStay c y) :
    EventsStay c (if p then x else y) := by
  split
  · exact hx ‹_›
  · exact hy ‹_›

end EventsStay

/-- An event counted between two stretches in which nothing else is. -/
theorem countedOnce_of_stays {b c e : Controller} {k : EventKind} {first : Option Nat}
    (hk : EventsStay (count k first c) e) (h : EventsStay b c) (hne : k.number ≠ 6) (ht : thirtyEntries b) : countedOnce k.number b e := by
  have hn : 1 ≤ k.number := by cases k <;> decide
  rw [countedOnce, hk.entry _ hn hne, entry_count (h.thirty ht), ← h.entry _ hn hne]
  rfl

/-- The first oven of an entry that had none takes the event's. -/
theorem first_of_stays {b c e : Controller} {k : EventKind} {first : Option Nat}
    (hk : EventsStay (count k first c) e) (h : EventsStay b c) (hne : k.number ≠ 6) (ht : thirtyEntries b)
    (hfirst : (b.events.entry k.number).first = none) : (e.events.entry k.number).first = first := by
  have hn : 1 ≤ k.number := by cases k <;> decide
  rw [hk.entry _ hn hne, entry_count (h.thirty ht)]
  simp [EventEntry.raised, h.entry _ hn hne, hfirst]

end Sys2Proof.Machine
end

section
/-! SUPPORT. The converter's cycle and the positioner frame (R151 to R153, R169). -/

-- The lemmas are checked one after another, as the tests are.
set_option Elab.async false

namespace Sys2Proof.Machine

open Sys2Proof

/-- What is offered to a free place is nothing where the work has left the queue, the events and the release owed alone. -/
theorem next_of_nothingWaits {x : Host.Outcome State Fault Refusal} {q : List Instr} {c d e : Controller}
    (hx : x = .next ⟨q, freePlace e⟩) (hd : e = d) (h : nothingWaits c = true) (hs : d.start.line = c.start.line)
    (ht : d.line.tx = c.line.tx) (he : d.events = c.events) (ho : d.job.owed = c.job.owed) : x = .next ⟨q, d⟩ := by
  rw [hx, hd, freePlace_of_nothingWaits ((nothingWaits_congr hs ht he ho).trans h)]

/-- Settles O24: the expiry starts a cycle where none is in flight, and is counted where one is. -/
theorem periodStartsCycle : Obligations.PeriodStartsCycle := by
  intro q c hp hdue
  have hstep : exec .controlPeriodExpiry ⟨q, c⟩
      = .next ⟨q, freePlace (periodExpires (modifyDue (fun d => { d with controlPeriod := false }) c))⟩ :=
    event_takeDue (due := fun c => c.due.controlPeriod) hp hdue
  refine ⟨fun hnone hwaits => ?_, fun hsome hthirty => ?_⟩
  · have hstart : periodExpires (modifyDue (fun d => { d with controlPeriod := false }) c) = { c with
        reg := { c.reg with cycle := some ⟨if c.reg.main.tap then 17 else 16, []⟩, answer := some (((cfg c).tc + 19) / 20) }
        due := { c.due with controlPeriod := false } } := by
      simp only [periodExpires, modifyDue, hnone]
      rfl
    exact next_of_nothingWaits hstep hstart hwaits rfl rfl rfl rfl
  · have hskip : periodExpires (modifyDue (fun d => { d with controlPeriod := false }) c)
        = count .sampleOverrun none (modifyDue (fun d => { d with controlPeriod := false }) c) := by
      obtain ⟨k, hk⟩ := Option.ne_none_iff_exists'.mp hsome
      simp only [periodExpires, modifyDue, hk]
    rw [hskip] at hstep
    refine ⟨_, hstep, countedOnce_of_stays (k := .sampleOverrun) (.freePlace _) (.of_eq rfl) (by decide) hthirty, ?_⟩
    exact (OnlyOffers.count _ _ _).trans (.freePlace _)

/-- Settles O25: by the number of words that a cycle in flight still asks for. -/
theorem samplesTakenInOrder : Obligations.SamplesTakenInOrder := by
  intro q c x hwaits
  have hstep (hready : Ready c) : exec (.sampleWord x) ⟨q, c⟩ = .next ⟨q, freePlace (sampleArrives x c)⟩ := act_of_ready hready
  refine ⟨fun hready hnone => ?_, fun k hready hk hmore => ?_, fun k hready hk hlast => ?_, fun hp hdue hsome => ?_⟩
  · have harrives : sampleArrives x c = c := by simp only [sampleArrives, hnone]
    rw [hstep hready, harrives, freePlace_of_nothingWaits hwaits]
  · have hfull : k.full = false ∧ (⟨k.wanted, k.got ++ [x]⟩ : Cycle).full = false := by
      simp only [Cycle.full, List.length_append, List.length_singleton, decide_eq_false_iff_not]
      omega
    have harrives : sampleArrives x c = { c with reg :=
        { c.reg with cycle := some ⟨k.wanted, k.got ++ [x]⟩, answer := some (((cfg c).tc + 19) / 20) } } := by
      simp only [sampleArrives, hk, hfull.1, hfull.2, Bool.false_eq_true, if_false]
      rw [show c = { c with due := Due.nothing } by rw [← hready.2]]
      rfl
    exact next_of_nothingWaits (hstep hready) harrives hwaits rfl rfl rfl rfl
  · have hfull : k.full = false ∧ (⟨k.wanted, k.got ++ [x]⟩ : Cycle).full = true := by
      simp only [Cycle.full, List.length_append, List.length_singleton, decide_eq_false_iff_not, decide_eq_true_eq]
      omega
    have harrives : sampleArrives x c = { c with
        reg := { c.reg with cycle := some ⟨k.wanted, k.got ++ [x]⟩, answer := none }
        due := { Due.nothing with cycleComplete := true } } := by
      simp only [sampleArrives, hk, hfull.1, hfull.2, Bool.false_eq_true, if_false, if_true]
      rw [show c = { c with due := Due.nothing } by rw [← hready.2]]
      rfl
    exact next_of_nothingWaits (hstep hready) harrives hwaits rfl rfl rfl rfl
  · have hstep : exec .answerLimitExpiry ⟨q, c⟩
        = .next ⟨q, freePlace (answerExpires (modifyDue (fun d => { d with answerLimit := false }) c))⟩ :=
      event_takeDue (due := fun c => c.due.answerLimit) hp hdue
    obtain ⟨k, hk⟩ := Option.ne_none_iff_exists'.mp hsome
    have hk' : (modifyDue (fun d => { d with answerLimit := false }) c).reg.cycle = some k := hk
    have hexpires : answerExpires (modifyDue (fun d => { d with answerLimit := false }) c) = { c with
        reg := { c.reg with answer := none }
        due := { c.due with answerLimit := false, cycleComplete := true } } := by
      simp only [answerExpires, hk']
      rfl
    exact next_of_nothingWaits hstep hexpires hwaits rfl rfl rfl rfl

/-- Settles O28: by whether a request is held and frames are sent. -/
theorem frameEndServesHeld : Obligations.FrameEndServesHeld := by
  intro q c hready hwaits hframe
  have hstep : exec .positionerFrameEnd ⟨q, c⟩ = .next ⟨q, freePlace (frameEnds c)⟩ := act_of_ready hready
  obtain ⟨f, hf⟩ := Option.ne_none_iff_exists'.mp hframe
  refine ⟨fun hheld hon => ?_, fun hnot => ?_⟩
  · have hends : frameEnds c = { c with reg := { c.reg with
        frame := some ((List.range 8).map fun j => ((ovenAt c j).map (·.command)).getD 0), frameHeld := false } } := by
      simp only [frameEnds, hf, modifyReg, hheld, hon, Bool.and_self, if_true, requestFrame, Option.isNone_none]
      rfl
    exact next_of_nothingWaits hstep hends hwaits rfl rfl rfl rfl
  · have hends : frameEnds c = { c with reg := { c.reg with frame := none } } := by
      have hno : (c.reg.frameHeld && c.reg.framesOn) = false := by
        obtain h | h := hnot <;> simp [h]
      simp only [frameEnds, hf, modifyReg, hno, Bool.false_eq_true, if_false]
    exact next_of_nothingWaits hstep hends hwaits rfl rfl rfl rfl

end Sys2Proof.Machine
end

section
/-! SUPPORT. The rotation of the leak gate (R136 to R139). -/

-- The lemmas are checked one after another, as the tests are.
set_option Elab.async false

namespace Sys2Proof.Machine

open Sys2Proof

/-- The lowest channel of the ring. -/
theorem head?_scanRing {c : Controller} {ch : Nat} (hlt : ch < c.doors.doors.length) (hin : inRing c ch = true)
    (hbelow : ∀ j, j < ch → inRing c j = false) : (scanRing c).head? = some ch := by
  rw [scanRing, List.head?_filter, List.find?_range_eq_some]
  exact ⟨hin, List.mem_range.mpr hlt, fun j hj => by simp [hbelow j hj]⟩

theorem scanRing_eq_nil {c : Controller} (h : ∀ j, inRing c j = false) : scanRing c = [] := by
  simp [scanRing, h]

/-- The next channel of the ring above one. -/
theorem nextChannel_above {c : Controller} {x ch : Nat} (hlt : ch < c.doors.doors.length) (hin : inRing c ch = true)
    (hx : x < ch) (hbetween : ∀ j, x < j → j < ch → inRing c j = false) : nextChannel c x = some ch := by
  have hfind : (scanRing c).find? (fun y => decide (x < y)) = some ch := by
    rw [scanRing, List.find?_filter, List.find?_range_eq_some]
    refine ⟨by simp [hin, hx], List.mem_range.mpr hlt, fun j hj => ?_⟩
    by_cases hxj : x < j
    · simp [hbetween j hxj hj]
    · simp [hxj]
  simp [nextChannel, hfind]

/-- Above the last channel of the ring the rotation goes on at the lowest. -/
theorem nextChannel_around {c : Controller} {x ch : Nat} (hlt : ch < c.doors.doors.length) (hin : inRing c ch = true)
    (habove : ∀ j, x < j → inRing c j = false) (hbelow : ∀ j, j < ch → inRing c j = false) : nextChannel c x = some ch := by
  have hfind : (scanRing c).find? (fun y => decide (x < y)) = none := by
    rw [List.find?_eq_none]
    intro j hj
    have hr : inRing c j = true := (List.mem_filter.mp hj).2
    have hle : ¬x < j := fun hxj => by simp [habove j hxj] at hr
    simp [hle]
  simp [nextChannel, hfind, head?_scanRing hlt hin hbelow]

theorem nextChannel_none {c : Controller} (h : ∀ j, inRing c j = false) (x : Nat) : nextChannel c x = none := by
  simp [nextChannel, scanRing_eq_nil h]

/-- Settles O29: the channel found decides where the gate starts. -/
theorem gatesGoRound : Obligations.GatesGoRound := by
  refine ⟨fun q c hwaits => ?_, fun q c hp hdue hwaits hdiscard => ?_⟩
  · refine ⟨fun ch hp hdue hlt hin hbelow => ?_, fun hp hdue hnone => ?_, fun hready hrun => ?_, fun hready hidle => ?_⟩
    · have hstep : exec .leakGateStart ⟨q, c⟩
          = .next ⟨q, freePlace (gateStarts (modifyDue (fun d => { d with gateStart := false }) c))⟩ :=
        event_takeDue (due := fun c => c.due.gateStart) hp hdue
      have hhead : (scanRing (modifyDue (fun d => { d with gateStart := false }) c)).head? = some ch := head?_scanRing hlt hin hbelow
      refine next_of_nothingWaits hstep ?_ hwaits rfl rfl rfl rfl
      rw [gateStarts, hhead]
      rfl
    · have hstep : exec .leakGateStart ⟨q, c⟩
          = .next ⟨q, freePlace (gateStarts (modifyDue (fun d => { d with gateStart := false }) c))⟩ :=
        event_takeDue (due := fun c => c.due.gateStart) hp hdue
      have hring : scanRing (modifyDue (fun d => { d with gateStart := false }) c) = [] := scanRing_eq_nil hnone
      refine next_of_nothingWaits hstep ?_ hwaits rfl rfl rfl rfl
      rw [gateStarts, hring]
      rfl
    · have hstep : exec .leakSensorPulse ⟨q, c⟩ = .next ⟨q, freePlace (leakPulse c)⟩ := act_of_ready hready
      exact next_of_nothingWaits hstep (if_pos hrun) hwaits rfl rfl rfl rfl
    · have hstep : exec .leakSensorPulse ⟨q, c⟩ = .next ⟨q, freePlace (leakPulse c)⟩ := act_of_ready hready
      exact next_of_nothingWaits hstep (if_neg (by simp [hidle])) hwaits rfl rfl rfl rfl
  · obtain ⟨c', hc'⟩ : ∃ c', c' = modifyDue (fun d => { d with gateExpiry := false }) c := ⟨_, rfl⟩
    have hstep : exec .leakGateExpiry ⟨q, c⟩ = .next ⟨q, freePlace (gateExpires c')⟩ := by
      rw [hc']
      exact event_takeDue (due := fun c => c.due.gateExpiry) hp hdue
    have hexpires : gateExpires c' = match nextChannel c' c.scan.channel with
        | some x => startGate x c'
        | none => idleScanner c' := by
      have hno : (c'.scan.spoiled || !inRing c' c'.scan.channel) = true := by
        rw [hc']
        obtain h | h := hdiscard
        · exact Bool.or_eq_true_iff.mpr (.inl h)
        · exact Bool.or_eq_true_iff.mpr (.inr ((Bool.not_eq_true' _).mpr h))
      simp only [gateExpires, hno, if_true]
      rw [hc']
      rfl
    have hnext {x : Option Nat} (h : nextChannel c c.scan.channel = x) : nextChannel c' c.scan.channel = x := by
      rw [hc']
      exact h
    refine ⟨fun ch hin hlt habove hbetween => ?_, fun ch hin hlt hle habove hbelow => ?_, fun hnone => ?_⟩
    · refine next_of_nothingWaits hstep ?_ hwaits rfl rfl rfl rfl
      rw [hexpires, hnext (nextChannel_above hlt hin habove hbetween), hc']
      rfl
    · refine next_of_nothingWaits hstep ?_ hwaits rfl rfl rfl rfl
      rw [hexpires, hnext (nextChannel_around hlt hin habove hbelow), hc']
      rfl
    · refine next_of_nothingWaits hstep ?_ hwaits rfl rfl rfl rfl
      rw [hexpires, hnext (nextChannel_none hnone _), hc']
      rfl

end Sys2Proof.Machine
end

section
/-! SUPPORT. Counting and reporting (chapter 10), the acceptance filter (section 2.4), and the oven chosen (section 3.2). -/

-- The lemmas are checked one after another, as the tests are.
set_option Elab.async false

namespace Sys2Proof.Machine

open Sys2Proof

/-! ## The EVENT -/

/-- Some kind is reportable where one of the thirty is. -/
theorem anyReportable_iff {t : EventTable} : t.anyReportable = true ↔ ∃ j, 1 ≤ j ∧ j ≤ 30 ∧ t.reportable j = true := by
  rw [EventTable.anyReportable, EventTable.lowest, List.find?_isSome]
  refine ⟨fun ⟨j, hj, hr⟩ => ?_, fun ⟨j, h1, h30, hr⟩ => ⟨j, ?_, hr⟩⟩
  · obtain ⟨i, hi, rfl⟩ := List.mem_map.mp hj
    have := List.mem_range.mp hi
    exact ⟨i + 1, by omega, by omega, hr⟩
  · exact List.mem_map.mpr ⟨j - 1, List.mem_range.mpr (by omega), by omega⟩

/-- An EVENT is queued where one is called for and the queue has room (R189). -/
theorem offerEvent_queues {c : Controller} {j : Nat} (ha : isActive c = true) (hq : c.events.queued = false)
    (hroom : c.line.tx.length < 8) (h1 : 1 ≤ j) (h30 : j ≤ 30) (hr : c.events.reportable j = true) :
    (offerEvent c).events.queued = true ∧ waitsInTx (eventTelegram (ownNumber c)) (offerEvent c) := by
  have hany : c.events.anyReportable = true := anyReportable_iff.mpr ⟨j, h1, h30, hr⟩
  have hall : (isActive c && !c.events.queued && c.events.anyReportable && txRoom c) = true := by
    simp [ha, hq, hany, txRoom, hroom]
  rw [offerEvent, if_pos hall]
  exact ⟨rfl, by simp [waitsInTx]⟩

/-- Settles O32: the entry raised, and the EVENT that is then offered. -/
theorem eventCounted : Obligations.EventCounted := by
  intro k first c hthirty
  have hentry := entry_count (k := k) (first := first) hthirty
  refine ⟨by rw [countedOnce, hentry]; rfl, by rw [hentry]; rfl, fun j h1 _ hne => entry_count_ne h1 hne, .count k first c,
    fun ha hq hen hroom => ?_⟩
  have hnumber : 1 ≤ k.number ∧ k.number ≤ 30 := by cases k <;> decide
  have hraised : ((c.events.raise k first).entry k.number).count = min 255 ((c.events.entry k.number).count + 1) := by
    have hk : k.number - 1 < c.events.entries.length := by
      rw [show c.events.entries.length = 30 from hthirty]
      omega
    simp [EventTable.entry, EventTable.raise, List.getElem?_eq_getElem hk, EventEntry.raised]
  have hreport : (c.events.raise k first).reportable k.number = true := by
    have hpos : 0 < min 255 ((c.events.entry k.number).count + 1) := by omega
    simp only [EventTable.reportable, hraised, Bool.and_eq_true, decide_eq_true_eq]
    exact ⟨hpos, hen⟩
  exact offerEvent_queues (c := { c with events := c.events.raise k first }) ha hq hroom hnumber.1 hnumber.2 hreport

/-! ## The acceptance filter -/

/-- The class rule by the class and sub of a telegram that names a kind. -/
theorem classAccepts_iff {c : Controller} {t : Telegram} {k : Kind} (hk : t.kind = some k) :
    (t.cls ≤ 4 → classAccepts c k t = true) ∧ (t.cls = 5 → t.sub = 1 → classAccepts c k t = namesNeighbour c t.oven)
      ∧ (t.cls = 5 → t.sub = 2 → classAccepts c k t = (!(cfg c).tap && t.src == (cfg c).source))
      ∧ (t.cls = 6 → classAccepts c k t = (t.dest == 0 || t.dest == ownNumber c))
      ∧ (t.cls = 7 → classAccepts c k t = false) := by
  obtain ⟨cls, sub, src, dest, payload⟩ := t
  simp only [Telegram.kind] at hk
  unfold kindOf at hk
  split at hk <;> cases hk <;> simp [classAccepts]

/-- A PHASE is accepted where a neighbour record bears its oven. -/
theorem namesNeighbour_iff {c : Controller} {oven : Nat} : namesNeighbour c oven = true
    ↔ (∃ n, c.table.below = some n ∧ n.oven = oven) ∨ ∃ n, c.table.above = some n ∧ n.oven = oven := by
  simp [namesNeighbour, Option.any_eq_true]

/-- Settles O33: the filter's tests in their order, then the class rule. -/
theorem acceptanceByClass : Obligations.AcceptanceByClass := by
  intro c t k hk hown h0 h29 h31
  have hfilter : acceptance c t = if !sourceAllowed k t.src then .discard
      else if t.payload.length ≠ kindLength k then .badLength else if classAccepts c k t then .accept else .discard := by
    unfold acceptance
    rw [if_neg (by simp [h0, h29, h31]), if_neg hown, hk]
  refine ⟨fun hs => by simp [hfilter, hs], fun hs hl => by simp [hfilter, hs, hl], fun hs hl => ?_⟩
  have hclass : acceptance c t = if classAccepts c k t then .accept else .discard := by simp [hfilter, hs, hl]
  have haccept : acceptance c t = .accept ↔ classAccepts c k t = true := by
    rw [hclass]
    cases classAccepts c k t <;> simp
  obtain ⟨hlow, hphase, hmain, hsix, hseven⟩ := classAccepts_iff (c := c) hk
  refine ⟨fun h => haccept.mpr (hlow h), fun h1 h2 => ?_, fun h1 h2 => ?_, fun h => ?_, fun h => ?_⟩
  · rw [haccept, hphase h1 h2, namesNeighbour_iff]
  · rw [haccept, hmain h1 h2]
    simp
  · rw [haccept, hsix h]
    simp
  · rw [hclass, hseven h]
    rfl

/-! ## The oven chosen -/

/-- What the choice among the ovens below n has found. -/
structure BestBelow (c : Controller) (n : Nat) (best : Option (Nat × Oven)) : Prop where
  found : ∀ i o, best = some (i, o) → i < n ∧ ovenAt c i = some o ∧ eligible c i = true
    ∧ ∀ j p, j < n → ovenAt c j = some p → eligible c j = true → urgency p < urgency o ∨ (urgency p = urgency o ∧ i ≤ j)
  none : best = none → ∀ j, j < n → eligible c j = false

/-- An oven that is not eligible leaves the choice. -/
theorem BestBelow.skip {c : Controller} {n : Nat} {best : Option (Nat × Oven)} (h : BestBelow c n best)
    (hn : eligible c n = false) : BestBelow c (n + 1) best where
  found i o hb := by
    obtain ⟨hi, ho, he, hall⟩ := h.found i o hb
    refine ⟨by omega, ho, he, fun j p hj hp hej => ?_⟩
    have hne : j ≠ n := fun hjn => by simp [hjn, hn] at hej
    exact hall j p (by omega) hp hej
  none hb j hj := by
    by_cases hjn : j = n
    · rw [hjn]
      exact hn
    · exact h.none hb j (by omega)

/-- An eligible oven takes the place of one of lower urgency alone. -/
theorem BestBelow.next {c : Controller} {n : Nat} {best : Option (Nat × Oven)} (h : BestBelow c n best) :
    BestBelow c (n + 1) (betterOven c best n) := by
  unfold betterOven
  split
  · next hn => exact h.skip (by simp [eligible, hn])
  · next o ho =>
    split
    · next hn => exact h.skip (by simpa using hn)
    · next hn =>
      have hn : eligible c n = true := by simpa using hn
      have hself (j : Nat) (p : Oven) (hj : ¬j < n) (hj' : j < n + 1) (hp : ovenAt c j = some p) :
          urgency p = urgency o ∧ n ≤ j := by
        obtain rfl : j = n := by omega
        rw [ho] at hp
        cases hp
        exact ⟨rfl, Nat.le_refl _⟩
      split
      · refine ⟨fun i o' hb => ?_, nofun⟩
        cases hb
        refine ⟨by omega, ho, hn, fun j p hj hp hej => ?_⟩
        by_cases hjn : j < n
        · simp [h.none rfl j hjn] at hej
        · exact .inr (hself j p hjn hj hp)
      · next i b =>
        obtain ⟨hi, hb, he, hall⟩ := h.found i b rfl
        split
        · next hlt =>
          refine ⟨fun i' o' hb' => ?_, nofun⟩
          cases hb'
          refine ⟨by omega, ho, hn, fun j p hj hp hej => ?_⟩
          by_cases hjn : j < n
          · have := hall j p hjn hp hej
            omega
          · exact .inr (hself j p hjn hj hp)
        · next hge =>
          refine ⟨fun i' o' hb' => ?_, nofun⟩
          cases hb'
          refine ⟨by omega, hb, he, fun j p hj hp hej => ?_⟩
          by_cases hjn : j < n
          · exact hall j p hjn hp hej
          · have := hself j p hjn hj hp
            omega

theorem chooseOven_best (c : Controller) : BestBelow c c.table.ovens.length (chooseOven c) := by
  have hall (n : Nat) : BestBelow c n ((List.range n).foldl (betterOven c) none) := by
    induction n with
    | zero =>
      rw [List.range_zero, List.foldl_nil]
      exact ⟨fun _ _ hb => by simp at hb, fun _ _ hj => absurd hj (Nat.not_lt_zero _)⟩
    | succ n ih =>
      rw [List.range_succ, List.foldl_append, List.foldl_cons, List.foldl_nil]
      exact ih.next
  exact hall _

/-- An oven record stands below the number of the section's ovens. -/
theorem lt_length_of_ovenAt {c : Controller} {j : Nat} {o : Oven} (h : ovenAt c j = some o) : j < c.table.ovens.length :=
  (List.getElem?_eq_some_iff.mp h).1

/-- Settles O46: the choice goes through the ovens in their order. -/
theorem chosenOven : Obligations.ChosenOven := by
  intro c
  have hbest := chooseOven_best c
  refine ⟨fun i o hc => ?_, fun hc j => ?_, fun o => ?_⟩
  · obtain ⟨_, ho, he, hall⟩ := hbest.found i o hc
    exact ⟨ho, he, fun j p hp => hall j p (lt_length_of_ovenAt hp) hp⟩
  · cases hj : ovenAt c j with
    | none => simp [eligible, hj]
    | some p => exact hbest.none hc j (lt_length_of_ovenAt hj)
  · unfold urgency clampInt
    split
    · omega
    · split <;> omega

end Sys2Proof.Machine
end

section
/-! SUPPORT. What stands in the transmit queue after an offer (R36, R40, R41, R92, R189). -/

-- The lemmas are checked one after another, as the tests are.
set_option Elab.async false

namespace Sys2Proof.Machine

open Sys2Proof

theorem mem_of_mem_offerEvent {e : TxEntry} {c : Controller} (h : e ∈ (offerEvent c).line.tx) :
    e = ⟨eventTelegram (ownNumber c), false⟩ ∨ e ∈ c.line.tx := by
  unfold offerEvent at h
  split at h
  · exact mem_insertEntry.mp h
  · exact .inr h

theorem mem_of_mem_count {e : TxEntry} {c : Controller} {k : EventKind} {first : Option Nat}
    (h : e ∈ (count k first c).line.tx) : e = ⟨eventTelegram (ownNumber c), false⟩ ∨ e ∈ c.line.tx :=
  mem_of_mem_offerEvent (c := { c with events := c.events.raise k first }) h

theorem mem_of_mem_withdraw {e : TxEntry} {c : Controller} {p : Telegram → Bool} (h : e ∈ (withdraw p c).line.tx) :
    e ∈ c.line.tx ∧ p e.tel = false := by
  simp only [withdraw] at h
  have hq : e ∈ c.line.tx.filter fun e => !p e.tel := by
    split at h
    · simpa using h
    · exact h
  simpa using List.mem_filter.mp hq

/-- After an offer the queue holds the telegram offered, an EVENT, and what it held. -/
theorem mem_of_mem_offer {e : TxEntry} {t : Telegram} {c : Controller} (h : e ∈ (offer t c).line.tx) :
    e = ⟨t, false⟩ ∨ e = ⟨eventTelegram (ownNumber c), false⟩ ∨ e ∈ c.line.tx := by
  have hreplace (h : e ∈ (replaceEntry t c).line.tx) : e = ⟨t, false⟩ ∨ e ∈ c.line.tx := by
    have hq : (replaceEntry t c).line.tx = if t.kind = some .bid ∨ t.kind = some .claim then
        insertEntry ⟨t, false⟩ (c.line.tx.filter fun e => !samePlace t e.tel) else replaceInPlace t c.line.tx := by
      simp only [replaceEntry]
      split <;> simp
    rw [hq] at h
    split at h
    · obtain h | h := mem_insertEntry.mp h
      · exact .inl h
      · exact .inr (List.mem_filter.mp h).1
    · obtain ⟨x, hx, rfl⟩ := List.mem_map.mp h
      split
      · exact .inl rfl
      · exact .inr hx
  have hdisplace (h : e ∈ (displaceLast t c).line.tx) : e = ⟨t, false⟩ ∨ e = ⟨eventTelegram (ownNumber c), false⟩ ∨ e ∈ c.line.tx := by
    simp only [displaceLast] at h
    split at h
    · exact .inr (.inr h)
    · obtain h | h := mem_of_mem_count h
      · refine .inr (.inl ?_)
        rw [h]
        congr 2
        split <;> simp [ownNumber, setTx]
      · have hq : e ∈ (insertEntry ⟨t, false⟩ c.line.tx).dropLast := by
          split at h <;> simpa using h
        obtain h | h := mem_insertEntry.mp ((List.dropLast_sublist _).subset hq)
        · exact .inl h
        · exact .inr (.inr h)
  unfold offer at h
  split at h
  · exact .inr (.inr (by simpa using h))
  · split at h
    · obtain h | h := hreplace h
      · exact .inl h
      · exact .inr (.inr h)
    · split at h
      · obtain h | h := mem_insertEntry.mp h
        · exact .inl h
        · exact .inr (.inr h)
      · split at h
        · obtain h | h := mem_of_mem_count h
          · exact .inr (.inl (by rw [h]; congr 2; simp [ownNumber]))
          · exact .inr (.inr (by simpa using h))
        · exact hdisplace h

theorem offerEvent_entries (c : Controller) : (offerEvent c).events.entries = c.events.entries := by
  unfold offerEvent
  split <;> rfl

/-- A telegram offered where there is room leaves the event table. -/
theorem offer_events_of_room {t : Telegram} {c : Controller} (ha : isActive c = true) (hr : txRoom c = true) :
    (offer t c).events = c.events := by
  simp only [offer, ha, hr]
  split
  · simp at *
  · split
    · simp only [replaceEntry]
      split <;> simp [setTx]
    · rfl

/-- A release owed is offered to a free place alone, which leaves the event table. -/
theorem offerOwed_events (c : Controller) : (offerOwed c).events = c.events := by
  unfold offerOwed
  split
  · next w _ =>
    split
    · next hroom =>
      simp only [Bool.and_eq_true, txRoom, decide_eq_true_eq] at hroom
      have hlen := length_withdraw (fun t => t.kind == some Kind.permit) { c with job := { c.job with owed := none } }
      have hoffer := offer_events_of_room (t := releaseTelegram (ownNumber c) w.oven w.outcome)
        (c := withdrawKind .permit { c with job := { c.job with owed := none } })
        (by simpa [isActive] using hroom.1) (by simp only [txRoom, decide_eq_true_eq]; exact Nat.lt_of_le_of_lt hlen hroom.2)
      exact hoffer.trans (by simp)
    · rfl
  · rfl

theorem freePlace_entries (c : Controller) : (freePlace c).events.entries = c.events.entries := by
  rw [freePlace, offerEvent_entries, offerOwed_events]

/-- An EVENT that waits goes on waiting. -/
theorem freePlace_queued {c : Controller} (h : c.events.queued = true) : (freePlace c).events.queued = true := by
  have ho : (offerOwed c).events.queued = true := by rw [offerOwed_events, h]
  rw [freePlace, offerEvent, if_neg (by simp [ho])]
  exact ho

/-- A station number is left by every offer. -/
theorem OnlyOffers.ownNumber {c d : Controller} (h : OnlyOffers c d) : ownNumber d = ownNumber c := by
  rw [Machine.ownNumber, Machine.ownNumber, h.line]

/-- After what waited for a free place was offered, the queue holds an EVENT, the RELEASE owed, and what it held. -/
theorem mem_of_mem_freePlace {e : TxEntry} {c : Controller} (h : e ∈ (freePlace c).line.tx) :
    e = ⟨eventTelegram (ownNumber c), false⟩
      ∨ (∃ w, c.job.owed = some w ∧ e = ⟨releaseTelegram (ownNumber c) w.oven w.outcome, false⟩) ∨ e ∈ c.line.tx := by
  have howed (h : e ∈ (offerOwed c).line.tx) : e = ⟨eventTelegram (ownNumber c), false⟩
      ∨ (∃ w, c.job.owed = some w ∧ e = ⟨releaseTelegram (ownNumber c) w.oven w.outcome, false⟩) ∨ e ∈ c.line.tx := by
    unfold offerOwed at h
    split at h
    · next w hw =>
      split at h
      · have hn : ownNumber (withdrawKind .permit { c with job := { c.job with owed := none } }) = ownNumber c :=
          (OnlyOffers.withdrawKind _ _).ownNumber
        obtain h | h | h := mem_of_mem_offer h
        · exact .inr (.inl ⟨w, hw, h⟩)
        · exact .inl (by rw [h, hn])
        · exact .inr (.inr (mem_of_mem_withdraw h).1)
      · exact .inr (.inr h)
    · exact .inr (.inr h)
  obtain h | h := mem_of_mem_offerEvent h
  · exact .inl (by rw [h, (OnlyOffers.offerOwed c).ownNumber])
  · exact howed h

/-- No entry of the transmit queue is of the kind. -/
def NoneOf (k : Kind) (c : Controller) : Prop := ∀ e ∈ c.line.tx, e.tel.kind ≠ some k

namespace NoneOf

variable {k : Kind} {c d : Controller}

theorem withdrawKind (k : Kind) (c : Controller) : NoneOf k (withdrawKind k c) := fun e he => by
  have := (mem_of_mem_withdraw he).2
  simpa using this

theorem congr (h : NoneOf k c) (hd : d.line.tx = c.line.tx) : NoneOf k d := by
  unfold NoneOf
  rw [hd]
  exact h

theorem withdraw (h : NoneOf k c) (p : Telegram → Bool) : NoneOf k (withdraw p c) := fun e he => h e (mem_of_mem_withdraw he).1

theorem offer (h : NoneOf k c) {t : Telegram} (ht : t.kind ≠ some k) (hk : k ≠ .event) : NoneOf k (offer t c) := fun e he => by
  obtain rfl | rfl | he := mem_of_mem_offer he
  · exact ht
  · exact fun hx => hk (by cases hx; rfl)
  · exact h e he

theorem count (h : NoneOf k c) (e : EventKind) (first : Option Nat) (hk : k ≠ .event) : NoneOf k (count e first c) := fun x hx => by
  obtain rfl | hx := mem_of_mem_count hx
  · exact fun hx => hk (by cases hx; rfl)
  · exact h x hx

theorem freePlace (h : NoneOf k c) (hk : k ≠ .event) (hr : k ≠ .release) : NoneOf k (freePlace c) := fun e he => by
  obtain rfl | ⟨w, _, rfl⟩ | he := mem_of_mem_freePlace he
  · exact fun hx => hk (by cases hx; rfl)
  · exact fun hx => hr (by cases hx; rfl)
  · exact h e he

end NoneOf

end Sys2Proof.Machine
end

section
/-! SUPPORT. Telegrams of the other stations and of the supervisory station that change one record each. -/

-- The lemmas are checked one after another, as the tests are.
set_option Elab.async false

namespace Sys2Proof.Machine

open Sys2Proof

/-- A telegram of the kind is handed to its block, and what waits for a free place is offered. -/
theorem act_handOn {c : Controller} {k : Kind} {t : Telegram} {rest : List Telegram} {q : List Instr} {p : Telegram → Bool}
    {f : Telegram → Controller → Controller} (h : Hands c k t rest) (hp : p t = true) :
    act (handOn k p f) ⟨q, c⟩ = .next ⟨q, freePlace (f t (withRx rest c))⟩ := by
  rw [act_of_ready h.1, handOn_of_hands h hp]

/-! ## PHASE and MAIN -/

theorem phaseOf_eq_none {n : Nat} (h : 7 < n) : phaseOf n = none := by
  unfold phaseOf
  split <;> first | omega | rfl

/-- What a neighbour record hears (R15). -/
theorem Neighbour.hear_eq (oven : Nat) (p : Phase) (m : Nat) (n : Neighbour) :
    n.hear oven p m = if n.oven = oven then ⟨n.oven, p, min 4095 m, 0, true⟩ else n := by
  have hclamp : clampNat m 0 4095 = min 4095 m := by
    unfold clampNat
    split
    · omega
    · split <;> omega
  rw [Neighbour.hear, hclamp]

/-- Settles O52: one record each. -/
theorem phaseAndMainHeard : Obligations.PhaseAndMainHeard := by
  refine ⟨fun q c t rest hands hwaits => ?_, fun q c t rest hands hwaits => ?_⟩
  · have hstep : exec .phase ⟨q, c⟩ = .next ⟨q, freePlace (takePhase t (withRx rest c))⟩ := act_handOn hands rfl
    refine ⟨fun p hp => next_of_nothingWaits hstep ?_ hwaits rfl rfl rfl rfl,
      fun hlarge => next_of_nothingWaits hstep ?_ hwaits rfl rfl rfl rfl⟩
    · simp only [takePhase, hp, funext (Neighbour.hear_eq t.oven p (t.at2 2))]
      rfl
    · simp only [takePhase, phaseOf_eq_none hlarge]
  · have hstep : exec .main ⟨q, c⟩ = .next ⟨q, freePlace (takeMain t (withRx rest c))⟩ := act_handOn hands rfl
    exact next_of_nothingWaits hstep rfl hwaits rfl rfl rfl rfl

/-! ## BID -/

/-- A BIDDING job whose BID is not yet sent yields to a more urgent one (R54). -/
def yieldsTo (t : Telegram) (c : Controller) : Bool :=
  c.job.state == .bidding && !c.round.ownSent && c.round.ownBid.any (fun own => decide (t.ident < own))

theorem takeBid_of_opened {t : Telegram} {c : Controller} (h : c.round.opened = true) :
    takeBid t c = modifyRound (fun r => { r with bids := enterBid ⟨t.src, t.oven, t.ident⟩ r.bids })
      (if yieldsTo t c then idleJob (withdrawKind .bid c) else c) := by
  rw [takeBid, if_pos h]
  rfl

/-- Settles O53: the list takes the bid, and the job may yield to it. -/
theorem bidTaken : Obligations.BidTaken := by
  refine ⟨fun q c t rest hands => ?_, fun b l hlen hident hsrc => ?_⟩
  · have hstep : exec .bid ⟨q, c⟩ = .next ⟨q, freePlace (takeBid t (withRx rest c))⟩ := act_handOn hands rfl
    refine ⟨fun hclosed hwaits => ?_, fun hopen hwaits hstays => ?_, fun own hopen hb hsent hown hlt => ?_⟩
    · refine next_of_nothingWaits hstep (if_neg ?_) hwaits rfl rfl rfl rfl
      simp [withRx, hclosed]
    · refine next_of_nothingWaits hstep ?_ hwaits rfl rfl rfl rfl
      have hno : yieldsTo t (withRx rest c) = false := by
        obtain h | h | ⟨own, hown, hle⟩ := hstays
        · simp [yieldsTo, withRx, h]
        · simp [yieldsTo, withRx, h]
        · simp [yieldsTo, withRx, hown, Nat.not_lt.mpr hle]
      rw [takeBid_of_opened (c := withRx rest c) hopen, hno]
      rfl
    · have hyes : yieldsTo t (withRx rest c) = true := by simp [yieldsTo, withRx, hb, hsent, hown, hlt]
      obtain ⟨m, hm⟩ : ∃ m, m = idleJob (withdrawKind .bid (withRx rest c)) := ⟨_, rfl⟩
      have htake : takeBid t (withRx rest c) = modifyRound (fun r => { r with bids := enterBid ⟨t.src, t.oven, t.ident⟩ r.bids }) m := by
        rw [takeBid_of_opened (c := withRx rest c) hopen, hyes, hm]
        rfl
      have hwith := OnlyOffers.withdrawKind .bid (withRx rest c)
      have hoffers := OnlyOffers.freePlace (takeBid t (withRx rest c))
      rw [htake] at hstep hoffers
      refine ⟨_, hstep, ?_, ?_, ?_, ?_, ?_⟩
      · obtain hj | ⟨hj, _⟩ := hoffers.job
        · rw [hj, hm]
          rfl
        · rw [hm] at hj
          cases hj
      · refine NoneOf.freePlace ?_ (by decide) (by decide)
        rw [hm]
        exact (NoneOf.withdrawKind .bid (withRx rest c)).congr rfl
      · rw [hoffers.round, hm]
        exact congrArg (fun r : Round => { r with bids := enterBid ⟨t.src, t.oven, t.ident⟩ r.bids }) hwith.round
      · rw [hoffers.table, hm]
        exact hwith.table
      · rw [hoffers.held, hm]
        exact hwith.held
  · have hright := BidsRight.enterBid ⟨hlen, hident, hsrc⟩ b
    refine ⟨hright.size, hright.ascending, hright.apart, fun hroom x => ?_⟩
    simp only [enterBid, if_pos hroom, mem_insertBid, List.mem_filter, bne_iff_ne]

/-! ## The held claim -/

/-- Settles O55: by whether the source holds a claim, and whether the expired pair is named. -/
theorem heldClaimEnds : Obligations.HeldClaimEnds := by
  refine ⟨fun q c t rest k hands hwaits => ?_, fun q c t rest k hwaits hk => ?_, fun q c k hp hdue hthirty hk => ?_⟩
  · have hstep : exec .release ⟨q, c⟩ = .next ⟨q, freePlace (takeRelease t (withRx rest c))⟩ := act_handOn hands rfl
    refine ⟨fun hk hholder hoven => ?_, fun hk hholder hoven => ?_, fun hother => ?_⟩
    · refine next_of_nothingWaits hstep ?_ hwaits rfl rfl rfl rfl
      simp [takeRelease, withRx, hk, hholder, hoven, modifyHeld]
    · refine next_of_nothingWaits hstep ?_ hwaits rfl rfl rfl rfl
      simp [takeRelease, holderSpeaks, withRx, hk, hholder, hoven, modifyHeld]
    · have hno : (withRx rest c).held.claim.any (fun k => k.holder == t.src) = false := by
        obtain h | ⟨h, hne⟩ := hother
        · simp [withRx, h]
        · simp [withRx, h, hne]
      refine ⟨fun hholder hoven hthirty => ?_, fun hpair => ?_⟩
      · have htake : takeRelease t (withRx rest c) = count .lateRelease (some t.oven)
            { withRx rest c with held := { c.held with expHolder := none, expOven := none } } := by
          rw [takeRelease, hno, if_neg (by decide), if_pos ⟨hholder, hoven⟩]
          rfl
        rw [htake] at hstep
        refine ⟨_, hstep, countedOnce_of_stays (k := .lateRelease) (.freePlace _) (.of_eq rfl) (by decide) hthirty,
          first_of_stays (k := .lateRelease) (.freePlace _) (.of_eq rfl) (by decide) hthirty, ?_⟩
        exact (OnlyOffers.count _ _ _).trans (.freePlace _)
      · refine next_of_nothingWaits hstep ?_ hwaits rfl rfl rfl rfl
        rw [takeRelease, hno, if_neg (by decide), if_neg]
        exact fun ⟨h1, h2⟩ => hpair.elim (fun h => h h1) fun h => h h2
  · have hspeaks : holderSpeaks t.src (withRx rest c)
        = { withRx rest c with held := { c.held with age := if k.holder = t.src then 0 else c.held.age } } := by
      by_cases hs : k.holder = t.src
      · simp [holderSpeaks, withRx, hk, hs, modifyHeld]
      · rw [holderSpeaks, if_neg (by simp [withRx, hk, hs]), if_neg hs]
        rfl
    refine ⟨fun hands => ?_, fun hands => ?_⟩
    · have hstep : exec .permit ⟨q, c⟩ = .next ⟨q, freePlace (holderSpeaks t.src (withRx rest c))⟩ :=
        act_handOn (f := fun t c => holderSpeaks t.src c) hands rfl
      exact next_of_nothingWaits hstep hspeaks hwaits rfl rfl rfl rfl
    · have hstep : exec .call ⟨q, c⟩ = .next ⟨q, freePlace (holderSpeaks t.src (withRx rest c))⟩ :=
        act_handOn (f := fun t c => holderSpeaks t.src c) hands rfl
      exact next_of_nothingWaits hstep hspeaks hwaits rfl rfl rfl rfl
  · have hstep : exec .claimExpired ⟨q, c⟩
        = .next ⟨q, freePlace (claimExpires (modifyDue (fun d => { d with claimExpired := false }) c))⟩ :=
      event_takeDue (due := fun c => c.due.claimExpired) hp hdue
    have hexpires : claimExpires (modifyDue (fun d => { d with claimExpired := false }) c) = count .claimExpired (some k.oven)
        { c with held := ⟨none, 0, c.held.limit, some k.holder, some k.oven⟩, due := { c.due with claimExpired := false } } := by
      have hk' : (modifyDue (fun d => { d with claimExpired := false }) c).held.claim = some k := hk
      simp only [claimExpires, hk']
      rfl
    rw [hexpires] at hstep
    refine ⟨_, hstep, countedOnce_of_stays (k := .claimExpired) (.freePlace _) (.of_eq rfl) (by decide) hthirty,
      first_of_stays (k := .claimExpired) (.freePlace _) (.of_eq rfl) (by decide) hthirty, ?_⟩
    exact (OnlyOffers.count _ _ _).trans (.freePlace _)

/-! ## PLAN and MASK -/

/-- A field that had to be clamped is counted (R13). -/
theorem countPlanClamp_entry {x y : Nat} {c : Controller} (h : thirtyEntries c) :
    (countPlanClamp x y c).events.entry 8 = if x = y then c.events.entry 8 else EventEntry.raised none (c.events.entry 8) := by
  unfold countPlanClamp
  split
  · rfl
  · exact entry_count (k := .seedRefused) h

theorem OnlyOffers.countPlanClamp (x y : Nat) (c : Controller) : OnlyOffers c (countPlanClamp x y c) := by
  unfold Machine.countPlanClamp
  split
  · exact .refl c
  · exact .count _ _ c

theorem thirtyEntries_countPlanClamp {x y : Nat} {c : Controller} (h : thirtyEntries c) : thirtyEntries (countPlanClamp x y c) := by
  unfold countPlanClamp
  split
  · exact h
  · exact (length_entries_count _ _ c).trans h

/-- A number is its own clamp where it lies within the limits. -/
theorem eq_clampNat_iff {x lo hi : Nat} (h : lo ≤ hi) : x = clampNat x lo hi ↔ lo ≤ x ∧ x ≤ hi := by
  unfold clampNat
  split
  · omega
  · split <;> omega

/-- What a clamped field does to the count of its entry, which holds at 255. -/
theorem count_countPlanClamp {x lo hi : Nat} {c : Controller} (hl : lo ≤ hi) (h : thirtyEntries c)
    (hc : (c.events.entry 8).count ≤ 255) :
    ((countPlanClamp x (clampNat x lo hi) c).events.entry 8).count
      = min 255 ((c.events.entry 8).count + if lo ≤ x ∧ x ≤ hi then 0 else 1) := by
  rw [countPlanClamp_entry h]
  split
  · next hx =>
    rw [if_pos ((eq_clampNat_iff hl).mp hx)]
    omega
  · next hx =>
    rw [if_neg fun hr => hx ((eq_clampNat_iff hl).mpr hr)]
    rfl

/-- The count of an entry of a right event table. -/
theorem entry_count_le {c : Controller} (h : CountersInv c) (j : Nat) : (c.events.entry j).count ≤ 255 := by
  unfold EventTable.entry
  cases hj : c.events.entries[j - 1]? with
  | none => exact Nat.zero_le _
  | some e => exact h.2.1 e (List.mem_of_getElem? hj)

/-- Settles O51. -/
theorem planAndMaskTaken : Obligations.PlanAndMaskTaken := by
  refine ⟨fun q c t rest hands => ?_, fun q c t rest m hands hm => ?_⟩
  · have hstep : exec .plan ⟨q, c⟩ = .next ⟨q, freePlace (takePlan t (withRx rest c))⟩ := act_handOn hands rfl
    refine ⟨_, hstep, ?_, fun hc => ?_⟩
    · exact (((OnlyOffers.countPlanClamp _ _ _).trans (.countPlanClamp _ _ _)).trans (.countPlanClamp _ _ _)).trans (.freePlace _)
    · rw [(EventsStay.freePlace _).entry 8 (by decide) (by decide)]
      have hthirty : thirtyEntries (withRx rest c) := hc.1
      have hzero := entry_count_le hc 8
      have h1 := count_countPlanClamp (x := t.at2 0) (c := { withRx rest c with table := { c.table with
        pendT := clampNat (t.at2 0) 600 2400, pendE := clampNat (t.at 2) 0 64, nmin := clampNat (t.at2 3) 0 600 } })
        (lo := 600) (hi := 2400) (by decide) hthirty hzero
      have ht1 := thirtyEntries_countPlanClamp (x := t.at2 0) (y := clampNat (t.at2 0) 600 2400) (c := { withRx rest c with
        table := { c.table with
          pendT := clampNat (t.at2 0) 600 2400, pendE := clampNat (t.at 2) 0 64, nmin := clampNat (t.at2 3) 0 600 } }) hthirty
      have h2 := count_countPlanClamp (x := t.at 2) (lo := 0) (hi := 64) (by decide) ht1 (by rw [h1]; omega)
      have ht2 := thirtyEntries_countPlanClamp (x := t.at 2) (y := clampNat (t.at 2) 0 64) ht1
      have h3 := count_countPlanClamp (x := t.at2 3) (lo := 0) (hi := 600) (by decide) ht2 (by rw [h2]; omega)
      refine h3.trans ?_
      rw [h2, h1]
      simp only [Nat.zero_le, true_and]
      change min 255 (min 255 (min 255 ((c.events.entry 8).count + _) + _) + _) = _
      omega
  · have hstep : exec .mask ⟨q, c⟩ = .next ⟨q, freePlace (takeMask t (withRx rest c))⟩ := act_handOn hands rfl
    have hword : maskWord t = m := by
      rw [hm, maskWord]
      refine congrArg (BitVec.ofNat 32) ?_
      change (t.at 0 * 256 + t.at 1) * 65536 + (t.at 2 * 256 + t.at 3) = _
      omega
    obtain ⟨b, hb⟩ : ∃ b, b = { withRx rest c with events := { c.events with enable := m } } := ⟨_, rfl⟩
    have htake : takeMask t (withRx rest c) = if b.events.queued && !b.events.anyReportable then
        withdrawKind .event { b with events := { b.events with queued := false } } else offerEvent b := by
      rw [takeMask, hword, hb]
      rfl
    have henable : (takeMask t (withRx rest c)).events.enable = m ∧ (takeMask t (withRx rest c)).events.entries = c.events.entries
        ∧ OnlyOffers b (takeMask t (withRx rest c)) := by
      rw [htake]
      split
      · have hemptied : OnlyOffers b { b with events := { b.events with queued := false } } :=
          ⟨rfl, rfl, rfl, rfl, rfl, rfl, rfl, rfl, rfl, .inl rfl, rfl, rfl, rfl, .inl rfl⟩
        refine ⟨?_, ?_, hemptied.trans (.withdrawKind _ _)⟩
        · simp [hb]
        · simp [hb, withRx]
      · refine ⟨?_, ?_, .offerEvent b⟩
        · rw [(OnlyOffers.offerEvent b).events, hb]
        · rw [offerEvent_entries, hb]
    obtain ⟨hen, hentries, hoffers⟩ := henable
    refine ⟨_, hstep, ?_, ?_, hb ▸ hoffers.trans (.freePlace _), fun hq ho hnone => ?_, fun j hq ha hroom h1 h30 hpos hj => ?_⟩
    · rw [(OnlyOffers.freePlace _).events]
      exact hen
    · rw [freePlace_entries]
      exact hentries
    · have hnothing : b.events.anyReportable = false := by
        rw [Bool.eq_false_iff, Ne, anyReportable_iff, hb]
        rintro ⟨j, h1, h30, hr⟩
        simp only [EventTable.reportable, Bool.and_eq_true, decide_eq_true_eq] at hr
        have hno := hnone j h1 h30 hr.1
        rw [hno] at hr
        exact absurd hr.2 (by decide)
      have hqueued : b.events.queued = true := by rw [hb]; exact hq
      have hwithdrawn : takeMask t (withRx rest c) = withdrawKind .event { b with events := { b.events with queued := false } } := by
        rw [htake, if_pos (by simp [hqueued, hnothing])]
      obtain ⟨w, hw⟩ : ∃ w, w = withdrawKind .event { b with events := { b.events with queued := false } } := ⟨_, rfl⟩
      have hevents : w.events = { b.events with queued := false } ∧ w.job.owed = c.job.owed := by simp [hw, hb, withRx]
      have hany : w.events.anyReportable = false := by
        rw [hevents.1]
        exact hnothing
      have hself : freePlace (takeMask t (withRx rest c)) = takeMask t (withRx rest c) := by
        rw [hwithdrawn, ← hw, freePlace_of_none_owed (hevents.2.trans ho), offerEvent, if_neg (by simp [hany])]
      rw [hself, hwithdrawn]
      exact ⟨by simp, NoneOf.withdrawKind .event _⟩
    · have hreport : b.events.reportable j = true := by
        rw [hb]
        simp only [EventTable.reportable, Bool.and_eq_true, decide_eq_true_eq]
        exact ⟨hpos, hj⟩
      have hoffered : takeMask t (withRx rest c) = offerEvent b := by
        rw [htake, if_neg]
        have hqueued : b.events.queued = false := by rw [hb]; exact hq
        simp [hqueued]
      have hroom' : c.line.tx.length < 8 := by
        have : c.line.tx.length + 2 ≤ 8 := hroom
        omega
      have hev := offerEvent_queues (c := b) (j := j) (by rw [hb]; exact ha) (by rw [hb]; exact hq) (by rw [hb]; exact hroom') h1 h30
        hreport
      rw [hoffered]
      refine ⟨freePlace_queued hev.1, mem_freePlace ?_ (fun hx => by cases hx)⟩
      have hnumber : ownNumber b = ownNumber c := by rw [hb]; rfl
      rw [← hnumber]
      exact hev.2

end Sys2Proof.Machine
end

section
/-! SUPPORT. The bid window, the timers that queue telegrams, and the offers to the transmit queue. -/

-- The lemmas are checked one after another, as the tests are.
set_option Elab.async false

namespace Sys2Proof.Machine

open Sys2Proof

/-! ## The window's expiry (R58) -/

/-- A telegram that waits goes on waiting when what waits for a free place is offered, unless it is a PERMIT. -/
theorem waitsInTx_freePlace {t : Telegram} {c : Controller} (h : waitsInTx t c) (hk : t.kind ≠ some .permit) :
    waitsInTx t (freePlace c) := mem_freePlace h hk

/-- A job that is neither BIDDING nor told of a loss keeps all but the release owed when telegrams are offered. -/
theorem OnlyOffers.job_of_ne {c d : Controller} (h : OnlyOffers c d) (hs : c.job.state ≠ .bidding) :
    d.job = { c.job with owed := d.job.owed } := h.job.resolve_right fun k => hs k.1

/-- Settles O21: by whether the round yields a claim. -/
theorem windowDecides : Obligations.WindowDecides := by
  refine ⟨fun q c h rest i o hp hdue ha hroom hb hsent hbids hsrc hidx ho he => ?_, fun q c hp hdue hno hwaits => ?_⟩
  · obtain ⟨b, hbdef⟩ : ∃ b, b = modifyDue (fun d => { d with bidWindow := false }) c := ⟨_, rfl⟩
    have hstep : exec .bidWindowExpiry ⟨q, c⟩ = .next ⟨q, freePlace (windowExpires b)⟩ := by
      rw [hbdef]
      exact event_takeDue (due := fun c => c.due.bidWindow) hp hdue
    have hwins : winningBid b = some (h, o) := by
      have hwin : winningBid c = some (h, o) := by
        simp only [winningBid, hb, hsent, hbids, List.head?_cons, hsrc, hidx, ho, he, and_self, if_true]
      rw [hbdef]
      exact hwin
    obtain ⟨t, ht⟩ : ∃ t, t = claimTelegram (ownNumber c) (h.ident / 32 % 256) h.oven o.minutes := ⟨_, rfl⟩
    obtain ⟨m, hm⟩ : ∃ m, m = modifyJob (fun j => { j.enter .claiming with oven := some h.oven, ownClaim := some t.ident }) b :=
      ⟨_, rfl⟩
    have hexpires : windowExpires b = closeRound (offer t m) := by
      simp only [windowExpires, hwins, queueClaim]
      rw [hm, ht, hbdef]
      rfl
    have hmline : m.line = c.line ∧ m.table = c.table ∧ m.held = c.held ∧ m.doors = c.doors ∧ m.start = c.start := by
      rw [hm, hbdef]
      exact ⟨rfl, rfl, rfl, rfl, rfl⟩
    have hmroom : txRoom m = true := by
      have : c.line.tx.length + 1 ≤ 8 := hroom
      simp only [txRoom, hmline.1, decide_eq_true_eq]
      omega
    have hoffer := OnlyOffers.offer t m
    have hfree := OnlyOffers.freePlace (closeRound (offer t m))
    rw [hexpires] at hstep
    refine ⟨_, t, hstep, ht, ?_, ?_, ?_, ?_, ?_, ?_⟩
    · refine waitsInTx_freePlace ?_ (by rw [ht]; exact fun hx => by cases hx)
      have hactive : isActive m = true := by simpa [isActive, hmline.2.2.2.2] using ha
      exact waitsInTx_offer hactive hmroom
    · have hj : (closeRound (offer t m)).job = { m.job with owed := (offer t m).job.owed } :=
        hoffer.job_of_ne (by rw [hm]; exact fun hx => by cases hx)
      rw [hfree.job_of_ne (by rw [hj, hm]; exact fun hx => by cases hx), hj, hm, hbdef]
      rfl
    · rw [hfree.round]
      rfl
    · rw [hfree.table]
      exact hoffer.table.trans hmline.2.1
    · rw [hfree.held]
      exact hoffer.held.trans hmline.2.2.1
    · rw [hfree.doors]
      exact hoffer.doors.trans hmline.2.2.2.1
  · obtain ⟨b, hbdef⟩ : ∃ b, b = modifyDue (fun d => { d with bidWindow := false }) c := ⟨_, rfl⟩
    have hstep : exec .bidWindowExpiry ⟨q, c⟩ = .next ⟨q, freePlace (windowExpires b)⟩ := by
      rw [hbdef]
      exact event_takeDue (due := fun c => c.due.bidWindow) hp hdue
    have hnone : winningBid b = none := by
      rw [hbdef]
      exact hno
    have hexpires : windowExpires b = closeRound (if b.job.state = .bidding then idleJob (withdrawKind .bid b) else b) := by
      simp only [windowExpires, hnone]
    rw [hexpires] at hstep
    by_cases hs : c.job.state = .bidding
    · have hb : b.job.state = .bidding := by rw [hbdef]; exact hs
      rw [if_pos hb] at hstep
      have hwith := OnlyOffers.withdrawKind .bid b
      have hfree := OnlyOffers.freePlace (closeRound (idleJob (withdrawKind .bid b)))
      refine ⟨_, hstep, ?_, ?_, ?_, ?_, fun e he hk => ?_, fun _ => ⟨?_, ?_⟩, fun hne => absurd hs hne⟩
      · rw [hfree.round]
        rfl
      · rw [hfree.table]
        exact hwith.table.trans (by rw [hbdef]; rfl)
      · rw [hfree.held]
        exact hwith.held.trans (by rw [hbdef]; rfl)
      · rw [hfree.doors]
        exact hwith.doors.trans (by rw [hbdef]; rfl)
      · obtain rfl | ⟨w, _, rfl⟩ | he := mem_of_mem_freePlace he
        · cases hk
        · cases hk
        · have := (mem_of_mem_withdraw he).1
          rwa [hbdef] at this
      · rw [hfree.job_of_ne (fun hx => by cases hx)]
        rfl
      · exact NoneOf.freePlace ((NoneOf.withdrawKind .bid b).congr rfl) (by decide) (by decide)
    · have hb : ¬b.job.state = .bidding := by rw [hbdef]; exact hs
      rw [if_neg hb] at hstep
      have hself := next_of_nothingWaits (d := closeRound b) hstep rfl hwaits (by rw [hbdef]; rfl) (by rw [hbdef]; rfl)
        (by rw [hbdef]; rfl) (by rw [hbdef]; rfl)
      refine ⟨_, hself, rfl, by rw [hbdef]; rfl, by rw [hbdef]; rfl, by rw [hbdef]; rfl, fun e he _ => ?_, fun h => absurd h hs,
        fun _ => ⟨by rw [hbdef]; rfl, by rw [hbdef]; rfl⟩⟩
      rw [hbdef] at he
      exact he

/-! ## The edge-PHASE refresh and the MAIN send timer (R18, R162) -/

/-- PHASEs of two ovens of the section contend for no place. -/
theorem samePlace_phase_ne {n : Nat} {a z : Oven} (hne : a.number ≠ z.number) (ha : a.number ≤ 192) (hz : z.number ≤ 192) :
    samePlace (phaseTelegram n z) (phaseTelegram n a) = false := by
  have hoven (o : Oven) (ho : o.number ≤ 192) : (phaseTelegram n o).oven = o.number := by
    simp only [Telegram.oven, Telegram.at, phaseTelegram, List.cons_append, List.getD_cons_zero, BitVec.toNat_ofNat]
    omega
  have hkind (o : Oven) : (phaseTelegram n o).kind = some .phase := rfl
  simp only [samePlace, hkind, hoven a ha, hoven z hz, beq_self_eq_true, Bool.true_and, beq_eq_false_iff_ne]
  exact hne.symm

/-- A PHASE of the oven at an index is queued where there is room. -/
theorem queuePhase_eq {i : Nat} {o : Oven} {c : Controller} (h : ovenAt c i = some o) :
    queuePhase i c = offer (phaseTelegram (ownNumber c) o) c := by
  unfold queuePhase
  rw [h]

/-- The PHASEs of the first and of the last oven wait after both have been queued. -/
theorem queueEdgePhases_waits {c : Controller} {a z : Oven} (hact : isActive c = true) (hroom : roomFor 2 c)
    (ha : ovenAt c 0 = some a) (hz : c.table.ovens.getLast? = some z)
    (haz : a = z ∨ a.number ≠ z.number ∧ a.number ≤ 192 ∧ z.number ≤ 192) :
    waitsInTx (phaseTelegram (ownNumber c) a) (queueEdgePhases c) ∧ waitsInTx (phaseTelegram (ownNumber c) z) (queueEdgePhases c)
      ∧ (queueEdgePhases c).line.tx.length ≤ c.line.tx.length + 2 := by
  have hlen : c.line.tx.length + 2 ≤ 8 := hroom
  have hroom0 : txRoom c = true := by simp [txRoom]; omega
  have hfirst : waitsInTx (phaseTelegram (ownNumber c) a) (queuePhase 0 c) := by
    rw [queuePhase_eq ha]
    exact waitsInTx_offer hact hroom0
  have hlen0 : (queuePhase 0 c).line.tx.length ≤ c.line.tx.length + 1 := by
    rw [queuePhase_eq ha]
    exact length_offer hact hroom0
  have hlast : ovenAt c (c.table.ovens.length - 1) = some z := by rw [ovenAt, ← List.getLast?_eq_getElem?, hz]
  simp only [queueEdgePhases]
  split
  · next hone =>
    have hz0 : c.table.ovens.length - 1 = 0 := by omega
    rw [hz0, ha] at hlast
    cases hlast
    exact ⟨hfirst, hfirst, by omega⟩
  · have hoff := OnlyOffers.queuePhase 0 c
    obtain ⟨m, hm⟩ : ∃ m, m = queuePhase 0 c := ⟨_, rfl⟩
    rw [← hm] at hfirst hlen0 hoff ⊢
    have hactive : isActive m = true := by simpa [isActive, hoff.start] using hact
    have hroom1 : txRoom m = true := by simp [txRoom]; omega
    have hzm : ovenAt m (c.table.ovens.length - 1) = some z :=
      (ovenAt_congr (c := c) (d := m) (by rw [hoff.table]) _).trans hlast
    rw [queuePhase_eq hzm, hoff.ownNumber]
    have hwaits := waitsInTx_offer (t := phaseTelegram (ownNumber c) z) hactive hroom1
    have hlen1 := length_offer (t := phaseTelegram (ownNumber c) z) hactive hroom1
    refine ⟨?_, hwaits, by omega⟩
    obtain rfl | ⟨hne, h1, h2⟩ := haz
    · exact hwaits
    · exact mem_offer hactive hroom1 hfirst (samePlace_phase_ne hne h1 h2)

theorem OnlyOffers.queueEdgePhases (c : Controller) : OnlyOffers c (queueEdgePhases c) := by
  simp only [Machine.queueEdgePhases]
  split
  · exact .queuePhase 0 c
  · exact (OnlyOffers.queuePhase 0 c).trans (.queuePhase _ _)

/-- A MAIN takes no other entry's place, so that MAIN queued stays where there is room. -/
theorem offer_reg_of_room {t : Telegram} {c : Controller} (ha : isActive c = true) (hr : txRoom c = true) :
    (offer t c).reg = c.reg := by
  simp only [offer, ha, hr]
  split
  · simp at *
  · split
    · simp only [replaceEntry]
      split <;> simp [setTx]
    · rfl

/-- What is offered to a free place finds room, so that no MAIN is told of a loss. -/
theorem freePlace_reg (c : Controller) : (freePlace c).reg = c.reg := by
  have howed : (offerOwed c).reg = c.reg := by
    unfold offerOwed
    split
    · next w _ =>
      split
      · next hroom =>
        simp only [Bool.and_eq_true, txRoom, decide_eq_true_eq] at hroom
        have hlen := length_withdraw (fun t => t.kind == some Kind.permit) { c with job := { c.job with owed := none } }
        have hoffer := offer_reg_of_room (t := releaseTelegram (ownNumber c) w.oven w.outcome)
          (c := withdrawKind .permit { c with job := { c.job with owed := none } })
          (by simpa [isActive] using hroom.1) (by simp only [txRoom, decide_eq_true_eq]; exact Nat.lt_of_le_of_lt hlen hroom.2)
        exact hoffer.trans (by simp)
      · rfl
    · rfl
  rw [← howed, freePlace, offerEvent]
  split <;> rfl

/-- Settles O22. -/
theorem timersQueueTelegrams : Obligations.TimersQueueTelegrams := by
  refine ⟨fun q c a z hp hdue hact hroom ha hz haz => ?_, fun q c hp hdue => ?_⟩
  · obtain ⟨b, hb⟩ : ∃ b, b = modifyDue (fun d => { d with edgeRefresh := false }) c := ⟨_, rfl⟩
    have hstep : exec .edgePhaseRefresh ⟨q, c⟩ = .next ⟨q, freePlace (queueEdgePhases b)⟩ := by
      have hactive : isActive b = true := by rw [hb]; exact hact
      have hrefresh : edgeRefreshes b = queueEdgePhases b := if_pos hactive
      rw [← hrefresh, hb]
      exact event_takeDue (due := fun c => c.due.edgeRefresh) hp hdue
    obtain ⟨hwa, hwz, _⟩ := queueEdgePhases_waits (c := b) (a := a) (z := z) (by rw [hb]; exact hact) (by rw [hb]; exact hroom)
      (by rw [hb]; exact ha) (by rw [hb]; exact hz) haz
    have hnumber : ownNumber b = ownNumber c := by rw [hb]; rfl
    rw [hnumber] at hwa hwz
    refine ⟨_, hstep, waitsInTx_freePlace hwa (fun hx => by cases hx), waitsInTx_freePlace hwz (fun hx => by cases hx), ?_⟩
    rw [hb]
    exact (OnlyOffers.queueEdgePhases _).trans (.freePlace _)
  · have hstep : exec .mainSendExpiry ⟨q, c⟩
        = .next ⟨q, freePlace (mainSendExpires (modifyDue (fun d => { d with mainSend := false }) c))⟩ :=
      event_takeDue (due := fun c => c.due.mainSend) hp hdue
    refine ⟨fun v hact hroom htap hstale hqueued hv => ?_, fun hwaits hno => ?_⟩
    · obtain ⟨b, hb⟩ : ∃ b, b = modifyMain (fun m => { m with queued := true }) (modifyDue (fun d => { d with mainSend := false }) c) :=
        ⟨_, rfl⟩
      have hsends : mainSendExpires (modifyDue (fun d => { d with mainSend := false }) c) = offer (mainTelegram (ownNumber c) v) b := by
        have hv' : (modifyDue (fun d => { d with mainSend := false }) c).reg.main.value = some v := hv
        have hall : (isActive (modifyDue (fun d => { d with mainSend := false }) c) && c.reg.main.tap && !c.reg.main.stale
            && !c.reg.main.queued) = true := by
          rw [htap, hstale, hqueued, show isActive (modifyDue _ c) = true from hact]
          rfl
        simp only [mainSendExpires, hv']
        refine (if_pos hall).trans ?_
        rw [hb]
        rfl
      rw [hsends] at hstep
      have hactive : isActive b = true := by rw [hb]; exact hact
      have hroomb : txRoom b = true := by
        have : c.line.tx.length + 1 ≤ 8 := hroom
        have hline : b.line = c.line := by rw [hb]; rfl
        simp only [txRoom, hline, decide_eq_true_eq]
        omega
      refine ⟨_, hstep, waitsInTx_freePlace (waitsInTx_offer hactive hroomb) (fun hx => by cases hx), ?_, ?_⟩
      · rw [freePlace_reg, offer_reg_of_room hactive hroomb, hb]
        rfl
      · have hmark : OnlyOffers { c with due := { c.due with mainSend := false } } b := by
          rw [hb]
          exact ⟨rfl, rfl, rfl, rfl, rfl, rfl, rfl, rfl, rfl, .inl rfl, rfl, rfl, rfl, .inl rfl⟩
        exact (hmark.trans (.offer _ _)).trans (.freePlace _)
    · refine next_of_nothingWaits hstep ?_ hwaits rfl rfl rfl rfl
      unfold mainSendExpires
      split
      · next v hv =>
        refine if_neg fun hall => ?_
        simp only [Bool.and_eq_true, Bool.not_eq_true'] at hall
        obtain ⟨⟨⟨_, htap⟩, hstale⟩, hqueued⟩ := hall
        obtain h | h | h | h := hno
        · exact absurd (htap.symm.trans h) (by decide)
        · exact absurd (hstale.symm.trans h) (by decide)
        · exact absurd (hqueued.symm.trans h) (by decide)
        · exact absurd (hv.symm.trans h) (by simp)
      · rfl

end Sys2Proof.Machine
end

section
/-! SUPPORT. A telegram offered to the transmit queue, case by case (R35, R36, R39 to R41), and what waits for a free place
(R92, R189). -/

-- The lemmas are checked one after another, as the tests are.
set_option Elab.async false

namespace Sys2Proof.Machine

open Sys2Proof

/-! ## An offer, case by case -/

theorem offer_of_not_active {t : Telegram} {c : Controller} (ha : isActive c = false) : offer t c = notTaken t c := by
  rw [offer, ha]
  rfl

theorem offer_of_samePlace {t : Telegram} {c : Controller} (ha : isActive c = true)
    (hs : ∃ e ∈ c.line.tx, samePlace t e.tel = true) : offer t c = replaceEntry t c := by
  rw [offer, if_neg (by simp [ha]), if_pos (List.any_eq_true.mpr hs)]

theorem offer_of_room {t : Telegram} {c : Controller} (ha : isActive c = true)
    (hs : ∀ e ∈ c.line.tx, samePlace t e.tel = false) (hr : c.line.tx.length < 8) :
    offer t c = setTx (insertEntry ⟨t, false⟩ c.line.tx) c := by
  have hany : ¬ (c.line.tx.any fun e => samePlace t e.tel) = true := by simpa using hs
  rw [offer, if_neg (by simp [ha]), if_neg hany, if_pos (by simpa [txRoom] using hr)]

theorem offer_of_full {t : Telegram} {c : Controller} (ha : isActive c = true)
    (hs : ∀ e ∈ c.line.tx, samePlace t e.tel = false) (hfull : c.line.tx.length = 8) :
    offer t c = if c.line.tx.all (fun e => decide (e.tel.ident ≤ t.ident)) then count .txDropped none (notTaken t c)
      else displaceLast t c := by
  have hany : ¬ (c.line.tx.any fun e => samePlace t e.tel) = true := by simpa using hs
  rw [offer, if_neg (by simp [ha]), if_neg hany, if_neg (by simp [txRoom, hfull])]

/-- A replacement puts the telegram in its place. -/
theorem replaceEntry_tx (t : Telegram) (c : Controller) :
    (replaceEntry t c).line.tx = if t.kind = some .bid ∨ t.kind = some .claim then
      insertEntry ⟨t, false⟩ (c.line.tx.filter fun e => !samePlace t e.tel) else replaceInPlace t c.line.tx := by
  simp only [replaceEntry]
  split <;> simp

/-! ## A full queue -/

/-- In a full queue an event counted leaves the line unit as it is. -/
theorem count_line_of_full {k : EventKind} {first : Option Nat} {c : Controller} (hfull : c.line.tx.length = 8) :
    (count k first c).line = c.line := by
  rw [count, offerEvent, if_neg (by simp [txRoom, hfull])]

theorem notTaken_entries (t : Telegram) (c : Controller) : (notTaken t c).events.entries = c.events.entries := by
  unfold notTaken
  split
  case h_1 => split <;> rfl
  case h_3 => split <;> rfl
  all_goals rfl

/-- The counting of TX DROPPED after the entries were left raises the entry of kind 6 once. -/
theorem countedOnce_txDropped {b c : Controller} (ht : thirtyEntries c) (h : b.events.entries = c.events.entries) :
    countedOnce 6 c (count .txDropped none b) := by
  have hb : thirtyEntries b := by rw [thirtyEntries, h]; exact ht
  have hentry := entry_count (k := .txDropped) (first := none) hb
  have hsame : b.events.entry 6 = c.events.entry 6 := by rw [EventTable.entry, EventTable.entry, h]
  have hcount : ((count .txDropped none b).events.entry 6).count = min 255 ((b.events.entry 6).count + 1) :=
    congrArg EventEntry.count hentry
  rw [countedOnce, hcount, hsame]

/-- An entry of a lower identifier takes its place before the last one. -/
theorem insertEntry_concat {e last : TxEntry} {q : List TxEntry} (h : e.tel.ident < last.tel.ident) :
    insertEntry e (q ++ [last]) = insertEntry e q ++ [last] := by
  induction q with
  | nil => simp only [List.nil_append, insertEntry, if_neg (Nat.not_le.mpr h), List.cons_append]
  | cons x xs ih =>
    simp only [List.cons_append, insertEntry]
    split
    · rw [ih, List.cons_append]
    · rfl

/-- The last entry of a queue in ascending order has the highest identifier. -/
theorem ident_le_last {q : List TxEntry} {last e : TxEntry} (hq : txAscending q) (hl : q.getLast? = some last) (he : e ∈ q) :
    e.tel.ident ≤ last.tel.ident := by
  obtain ⟨init, rfl⟩ := List.getLast?_eq_some_iff.mp hl
  have hpair := List.pairwise_append.mp hq
  obtain he | he := List.mem_append.mp he
  · exact hpair.2.2 e he last (by simp)
  · exact Nat.le_of_eq (by rw [List.mem_singleton.mp he])

/-- R41: what displacing the last entry leaves in the queue and counts. -/
theorem displaceLast_tx {t : Telegram} {c : Controller} {last : TxEntry} (hl : c.line.tx.getLast? = some last)
    (hlt : t.ident < last.tel.ident) (hfull : c.line.tx.length = 8) (ht : thirtyEntries c) :
    (displaceLast t c).line.tx = insertEntry ⟨t, false⟩ c.line.tx.dropLast ∧ countedOnce 6 c (displaceLast t c) := by
  obtain ⟨init, hinit⟩ := List.getLast?_eq_some_iff.mp hl
  have hinsert : insertEntry ⟨t, false⟩ c.line.tx = insertEntry ⟨t, false⟩ init ++ [last] := by
    rw [hinit]
    exact insertEntry_concat hlt
  have hdrop : c.line.tx.dropLast = init := by rw [hinit, List.dropLast_concat]
  have hlen : init.length + 1 = 8 := by rw [← hfull, hinit, List.length_append]; rfl
  obtain ⟨b, hb⟩ : ∃ b, b = if last.onLine then setFate .dropped (setTx (insertEntry ⟨t, false⟩ init) c)
      else notTaken last.tel (setTx (insertEntry ⟨t, false⟩ init) c) := ⟨_, rfl⟩
  have hbtx : b.line.tx = insertEntry ⟨t, false⟩ init := by
    rw [hb]
    split <;> simp
  have hbevents : b.events.entries = c.events.entries := by
    rw [hb]
    split
    · simp [setTx]
    · exact notTaken_entries _ _
  have hdisplace : displaceLast t c = count .txDropped none b := by
    simp only [displaceLast, hinsert, List.getLast?_concat, List.dropLast_concat]
    rw [hb]
  rw [hdisplace, hdrop]
  refine ⟨?_, countedOnce_txDropped ht hbevents⟩
  rw [count_line_of_full (by rw [hbtx, length_insertEntry, hlen]), hbtx]

/-! ## A free place -/

/-- A telegram offered where there is room leaves the push job. -/
theorem offer_job_of_room {t : Telegram} {c : Controller} (ha : isActive c = true) (hr : txRoom c = true) :
    (offer t c).job = c.job := by
  by_cases hs : ∃ e ∈ c.line.tx, samePlace t e.tel = true
  · rw [offer_of_samePlace ha hs]
    simp only [replaceEntry]
    split <;> simp [setTx]
  · rw [offer_of_room ha (by simpa using hs) (by simpa [txRoom] using hr)]
    rfl

/-- A release owed takes a free place (R92). -/
theorem offerOwed_of_room {w : OwedRelease} {c : Controller} (ha : isActive c = true) (hr : c.line.tx.length < 8)
    (ho : c.job.owed = some w) :
    (offerOwed c).job = { c.job with owed := none }
      ∧ waitsInTx (releaseTelegram (ownNumber c) w.oven w.outcome) (offerOwed c) := by
  have hroom : txRoom c = true := by simpa [txRoom] using hr
  obtain ⟨b, hb⟩ : ∃ b, b = withdrawKind .permit { c with job := { c.job with owed := none } } := ⟨_, rfl⟩
  have howed : offerOwed c = offer (releaseTelegram (ownNumber b) w.oven w.outcome) b := by
    simp only [offerOwed, ho, ha, hroom, Bool.and_self, if_true, offerRelease]
    have hn : ownNumber b = ownNumber c := by rw [hb]; exact (OnlyOffers.withdrawKind _ _).ownNumber
    rw [hn, hb]
    rfl
  have hbactive : isActive b = true := by rw [hb]; simpa [isActive] using ha
  have hbroom : txRoom b = true := by
    have := length_withdraw (fun t => t.kind == some Kind.permit) { c with job := { c.job with owed := none } }
    rw [hb, txRoom, decide_eq_true_eq]
    exact Nat.lt_of_le_of_lt this hr
  have hn : ownNumber b = ownNumber c := by rw [hb]; exact (OnlyOffers.withdrawKind _ _).ownNumber
  rw [howed, offer_job_of_room hbactive hbroom, ← hn]
  exact ⟨by rw [hb]; simp, waitsInTx_offer hbactive hbroom⟩

/-- The release owed takes one place at most. -/
theorem length_offerOwed_of_room {c : Controller} (hr : c.line.tx.length < 8) :
    (offerOwed c).line.tx.length ≤ c.line.tx.length + 1 := by
  unfold offerOwed
  split
  · next w _ =>
    split
    · next hall =>
      have hact : isActive c = true := (Bool.and_eq_true _ _ ▸ hall).1
      have hlen := length_withdraw (fun t => t.kind == some Kind.permit) { c with job := { c.job with owed := none } }
      have hle : (withdrawKind .permit { c with job := { c.job with owed := none } }).line.tx.length ≤ c.line.tx.length := hlen
      refine Nat.le_trans (length_offer (c := withdrawKind .permit { c with job := { c.job with owed := none } }) ?_ ?_) (by omega)
      · simpa [isActive] using hact
      · rw [txRoom, decide_eq_true_eq]
        omega
    · omega
  · omega

/-- Settles O31: by the cases of an offer, then the withdrawal and the free place. -/
theorem queueTakesOffer : Obligations.QueueTakesOffer := by
  intro c t hasc
  refine ⟨fun ha => ?_, fun ha hk hs => ?_, fun ha hk hs => ?_, fun ha hs hr => ?_, fun ha hs hfull hle hthirty => ?_,
    fun last e ha hs hfull hl he hlt hthirty => ?_, fun k => ?_, .freePlace c, fun hno => ?_, fun w ha hr ho => ?_,
    fun j ha hr hq h1 h30 hrep => ?_⟩
  · rw [offer_of_not_active ha]
    simp
  · have hno : ¬ (t.kind = some .bid ∨ t.kind = some .claim) := by
      obtain h | h := hk <;> rw [h] <;> exact fun hx => hx.elim (fun hx => by cases hx) (fun hx => by cases hx)
    rw [offer_of_samePlace ha hs, replaceEntry_tx, if_neg hno]
    rfl
  · rw [offer_of_samePlace ha hs, replaceEntry_tx, if_pos hk]
    refine ⟨txAscending_insertEntry (List.Pairwise.filter _ hasc), fun e => ?_⟩
    simp
  · rw [offer_of_room ha hs hr]
    exact ⟨txAscending_insertEntry hasc, length_insertEntry _ _, fun e => mem_insertEntry⟩
  · rw [offer_of_full ha hs hfull, if_pos (by simpa using hle)]
    have hline : (notTaken t c).line = c.line := by simp
    exact ⟨(count_line_of_full (by rw [hline, hfull])).trans hline, countedOnce_txDropped hthirty (notTaken_entries t c)⟩
  · have hlast : t.ident < last.tel.ident := Nat.lt_of_lt_of_le hlt (ident_le_last hasc hl he)
    have hall : ¬ c.line.tx.all (fun e => decide (e.tel.ident ≤ t.ident)) = true := fun hall =>
      absurd (of_decide_eq_true (List.all_eq_true.mp hall e he)) (Nat.not_le.mpr hlt)
    rw [offer_of_full ha hs hfull, if_neg hall]
    obtain ⟨htx, hcount⟩ := displaceLast_tx hl hlast hfull hthirty
    refine ⟨fun x hx => ?_, ?_, ?_, hcount⟩
    · rw [htx]
      exact mem_insertEntry.mpr (.inr hx)
    · rw [waitsInTx, htx]
      exact mem_insertEntry.mpr (.inl rfl)
    · rw [htx, length_insertEntry, List.length_dropLast, hfull]
  · simp only [withdrawKind, withdraw]
    split <;> simp [bne]
  · refine freePlace_of_nothingWaits ?_
    obtain h | h := hno
    · simp [nothingWaits, h]
    · simp [nothingWaits, txRoom, Nat.not_lt.mpr h]
  · obtain ⟨hjob, hwaits⟩ := offerOwed_of_room ha hr ho
    exact ⟨(show (freePlace c).job = (offerOwed c).job from by simp [freePlace]).trans hjob, mem_offerEvent hwaits⟩
  · have hoff := OnlyOffers.offerOwed c
    have hlen : (offerOwed c).line.tx.length < 8 := by
      obtain h | ⟨h, hnone⟩ := hr
      · exact Nat.lt_of_le_of_lt (length_offerOwed_of_room (by omega)) (by omega)
      · simp [offerOwed, hnone, h]
    have hsame := offerOwed_events c
    have hact : isActive (offerOwed c) = true := by simpa [isActive, hoff.start] using ha
    have hqueues := offerEvent_queues (c := offerOwed c) hact (by rw [hsame]; exact hq) hlen h1 h30 (by rw [hsame]; exact hrep)
    rw [hoff.ownNumber] at hqueues
    exact hqueues

end Sys2Proof.Machine
end

section
/-! SUPPORT. The round opens, and the station bids in it (R48, R50, R55). -/

-- The lemmas are checked one after another, as the tests are.
set_option Elab.async false

namespace Sys2Proof.Machine

open Sys2Proof

/-- What waits for a free place is offered to one, so that of the push job only the release owed can change. -/
theorem freePlace_job (c : Controller) : (freePlace c).job = { c.job with owed := (freePlace c).job.owed } := by
  have hjob : (freePlace c).job = (offerOwed c).job := by simp [freePlace]
  have hself (h : offerOwed c = c) : (offerOwed c).job = { c.job with owed := (offerOwed c).job.owed } := by rw [h]
  rw [hjob]
  cases ho : c.job.owed with
  | none => exact hself (by simp [offerOwed, ho])
  | some w =>
    by_cases hroom : (isActive c && txRoom c) = true
    · simp only [Bool.and_eq_true, txRoom, decide_eq_true_eq] at hroom
      rw [(offerOwed_of_room hroom.1 hroom.2 ho).1]
    · exact hself (by simp [offerOwed, ho, hroom])

/-- A BID queued where there is room waits there, and the job is BIDDING (R50, R55). -/
theorem queueBid_of_room {o : Oven} {c : Controller} (ha : isActive c = true) (hr : roomFor 1 c) :
    waitsInTx (bidFor c o) (queueBid o c)
      ∧ OnlyOffers (enterJob .bidding (modifyRound (fun r => { r with ownBid := some (bidFor c o).ident }) c)) (queueBid o c)
      ∧ (queueBid o c).job = Job.enter .bidding c.job := by
  obtain ⟨m, hm⟩ : ∃ m, m = enterJob .bidding (modifyRound (fun r => { r with ownBid := some (bidFor c o).ident }) c) := ⟨_, rfl⟩
  have hqueue : queueBid o c = offer (bidFor c o) m := by
    rw [hm]
    rfl
  have hactive : isActive m = true := by rw [hm]; exact ha
  have hroom : txRoom m = true := by
    have hlen : c.line.tx.length + 1 ≤ 8 := hr
    have hline : m.line = c.line := by rw [hm]; rfl
    simp only [txRoom, hline, decide_eq_true_eq]
    omega
  rw [← hm, hqueue]
  refine ⟨waitsInTx_offer hactive hroom, .offer _ _, ?_⟩
  rw [offer_job_of_room hactive hroom, hm]
  rfl

/-! ## A PUSHER READY (R50) -/

/-- A PUSHER of a payload in range is reported to the push job, and a READY to the pushing order unit (R102). -/
theorem takePusher_of_state {t : Telegram} {c : Controller} {st : PusherState} (hst : pusherStateOf (t.at 1) = some st)
    (hspot : t.at 0 ≤ 192) (hcompleted : t.at 4 ≤ 1) :
    takePusher t c =
      if st = .ready then openRound (jobOnPusher (ovenField (t.at 0)) st (t.at2 2) (t.at 4 == 1)
          { c with track := { c.track with pusher := ⟨ovenField (t.at 0), some st, 0, false⟩ } })
      else jobOnPusher (ovenField (t.at 0)) st (t.at2 2) (t.at 4 == 1)
          { c with track := { c.track with pusher := ⟨ovenField (t.at 0), some st, 0, false⟩ } } := by
  simp only [takePusher, pusherPayload, hst, if_pos (And.intro hspot hcompleted)]

/-- Without an oven of its own the push job takes no PUSHER. -/
theorem jobOnPusher_of_no_oven {spot : Option Nat} {st : PusherState} {force : Nat} {completed : Bool} {c : Controller}
    (h : c.job.oven = none) : jobOnPusher spot st force completed c = c := by
  simp [jobOnPusher, h]

/-- The oven chosen is bid, if one is (R50). -/
def bidChosen (c : Controller) : Controller :=
  match chooseOven c with
  | some (_, o) => queueBid o c
  | none => c

theorem bidChosen_none {c : Controller} (h : chooseOven c = none) : bidChosen c = c := by simp only [bidChosen, h]

theorem bidChosen_some {c : Controller} {i : Nat} {o : Oven} (h : chooseOven c = some (i, o)) : bidChosen c = queueBid o c := by
  simp only [bidChosen, h]

/-- The round opens, and the oven chosen is bid (R50). -/
theorem openRound_of_idle {c : Controller} (ha : isActive c = true) (hj : c.job.state = .idle) (hh : c.held.claim = none)
    (ho : c.round.opened = false) :
    openRound c = bidChosen { c with round := ⟨true, (cfg c).tw, none, false, []⟩ } := by
  rw [openRound, if_pos (by simp [ha, hj, hh, ho])]
  rfl

/-! ## The minute tick that bids (R55) -/

theorem minutesRisen_congr {c d : Controller} (ht : d.table = c.table) (hs : d.start.config = c.start.config) :
    minutesRisen d = minutesRisen c := by
  rw [minutesRisen, minutesRisen, ht, show cfg d = cfg c by rw [cfg, cfg, hs]]

/-- R55: a minute tick bids the oven chosen where its BID beats the head of the list. -/
theorem minuteBid_queues {c : Controller} {i : Nat} {o : Oven} (ha : isActive c = true) (hj : c.job.state = .idle)
    (ho : c.round.opened = true) (hown : c.round.ownBid = none) (hc : chooseOven c = some (i, o))
    (hbeats : c.round.bids = [] ∨ ∃ h l, c.round.bids = h :: l ∧ (bidFor c o).ident < h.ident) : minuteBid c = queueBid o c := by
  have hall : (c.round.opened && isActive c && c.job.state == .idle && c.round.ownBid.isNone) = true := by simp [ho, ha, hj, hown]
  rw [minuteBid, if_pos hall]
  simp only [hc]
  obtain h | ⟨x, l, h, hlt⟩ := hbeats
  · simp [h]
  · simp [h, hlt]

theorem HeldRecord.minute_eq (h : HeldRecord) :
    h.minute = if h.claim.isSome then { h with age := min 90 (h.age + 1) } else h := rfl

/-- The ageing at the minute tick leaves a BIDDING job, the round and the queue. -/
theorem heldMinute_jobMinute_bidding {c : Controller} (hj : c.job.state = .bidding) :
    jobMinute (heldMinute c) = { c with
      held := c.held.minute
      due := (jobMinute (heldMinute c)).due } := by
  conv => lhs; rw [heldMinute_jobMinute_eq]
  have hno : (receiving c && c.job.state.claimedToHeld) = false := by simp [hj, JobState.claimedToHeld]
  rw [heldMinute_jobMinute_eq, hno]
  rfl

/-- Settles O47: the READY that opens a round, and the two orders of the minute tick. -/
theorem roundOpensAndBids : Obligations.RoundOpensAndBids := by
  refine ⟨fun q c t rest hands hact hroom hidle hheld hclosed hspot hstate hcompleted => ?_,
    fun q c i o b hp hdue hact hroom hidle hopen hown hb hbeats => ⟨fun hc => ?_, fun hc => ?_⟩⟩
  · have hstep : exec .pusher ⟨q, c⟩ = .next ⟨q, freePlace (takePusher t (withRx rest c))⟩ := act_handOn hands rfl
    obtain ⟨m, hm⟩ : ∃ m, m = { withRx rest c with
        round := ⟨true, (cfg c).tw, none, false, []⟩
        track := { c.track with pusher := ⟨if t.at 0 = 0 then none else some (t.at 0), some .ready, 0, false⟩ } } := ⟨_, rfl⟩
    have hreport (b : Controller) (hb : b.job = c.job) : jobOnPusher (ovenField (t.at 0)) .ready (t.at2 2) (t.at 4 == 1) b = b :=
      jobOnPusher_of_no_oven (by rw [hb, hidle]; rfl)
    have htake : takePusher t (withRx rest c) = bidChosen m := by
      rw [takePusher_of_state (by rw [hstate]; rfl) hspot hcompleted, if_pos rfl,
        hreport, hm]
      · exact openRound_of_idle (c := { withRx rest c with
          track := { c.track with pusher := ⟨ovenField (t.at 0), some .ready, 0, false⟩ } })
          hact (show c.job.state = .idle by rw [hidle]; rfl) hheld hclosed
      · rfl
    have hchoose : chooseOven m = chooseOven c := by rw [hm]; rfl
    rw [htake] at hstep
    refine ⟨fun hnone hwaits => ?_, fun i o b hsome hb => ?_⟩
    · rw [bidChosen_none (hchoose.trans hnone)] at hstep
      rw [← hm]
      refine next_of_nothingWaits (d := m) hstep rfl hwaits ?_ ?_ ?_ ?_ <;> rw [hm] <;> rfl
    · rw [bidChosen_some (hchoose.trans hsome)] at hstep
      obtain ⟨hwait, hoff, hjob⟩ := queueBid_of_room (o := o) (c := m) (by rw [hm]; exact hact) (by rw [hm]; exact hroom)
      have hbm : bidFor m o = b := by rw [hb, hm]; rfl
      rw [hbm] at hwait hoff
      have hfree := OnlyOffers.freePlace (queueBid o m)
      refine ⟨_, hstep, waitsInTx_freePlace hwait (by rw [hb]; exact fun hx => by cases hx), ?_, ?_, ?_, ?_⟩
      · rw [hfree.round, hoff.round, hm]
        rfl
      · rw [freePlace_job, hjob, hm]
        simp only [Job.enter, withRx]
        rw [hidle]
        rfl
      · rw [hfree.table, hoff.table, hm]
        rfl
      · rw [hfree.held, hoff.held, hm]
        rfl
  · obtain ⟨m, hm⟩ : ∃ m, m = modifyDue (fun d => { d with minute := false }) c := ⟨_, rfl⟩
    have hbm : bidFor m o = b := by rw [hb, hm]; rfl
    have hbase : minuteBase true m = jobMinute (heldMinute (tableMinute (queueBid o m))) := by
      rw [← minuteBid_queues (c := m) (i := i) (o := o) (by rw [hm]; exact hact) (by rw [hm]; simp [modifyDue]; rw [hidle]; rfl)
        (by rw [hm]; exact hopen) (by rw [hm]; exact hown) (by rw [hm]; exact hc) (by rw [hbm, hm]; exact hbeats)]
      rfl
    have hstep : exec (.minuteTick true) ⟨q, c⟩ = .next ⟨q, freePlace (jobMinute (heldMinute (tableMinute (queueBid o m))))⟩ := by
      rw [← hbase, hm]
      exact event_takeDue (due := fun c => c.due.minute) hp hdue
    obtain ⟨hwait, hoff, hjob⟩ := queueBid_of_room (o := o) (c := m) (by rw [hm]; exact hact) (by rw [hm]; exact hroom)
    rw [hbm] at hwait hoff
    have hrisen : minutesRisen (queueBid o m) = minutesRisen c := by
      refine minutesRisen_congr (hoff.table.trans (by rw [hm]; rfl)) ?_
      rw [hoff.start, hm]
      rfl
    rw [heldMinute_jobMinute_bidding (c := tableMinute (queueBid o m)) (by rw [tableMinute_eq]; simp [hjob, Job.enter]), tableMinute_eq, hrisen]
      at hstep
    refine ⟨_, hstep, waitsInTx_freePlace ?_ (by rw [hb]; exact fun hx => by cases hx), ?_, ?_, ?_, ?_, ?_⟩
    · exact hwait
    · rw [freePlace_job]
      simp [hjob, Job.enter]
    · rw [(OnlyOffers.freePlace _).round]
      dsimp only
      rw [hoff.round, hm]
      rfl
    · have ho : ovenAt c i = some o := ((chooseOven_best c).found i o hc).2.1
      rw [ovenAt, (OnlyOffers.freePlace _).table]
      have hi : c.table.ovens[i]? = some o := ho
      simp [minutesRisen, hi]
    · rw [(OnlyOffers.freePlace _).table]
    · rw [(OnlyOffers.freePlace _).held]
      dsimp only
      rw [hoff.held, hm]
      rfl
  · obtain ⟨m, hm⟩ : ∃ m, m = tableMinute (modifyDue (fun d => { d with minute := false }) c) := ⟨_, rfl⟩
    have hbm : bidFor m o = b := by rw [hb, hm]; rfl
    have hbase : minuteBase false (modifyDue (fun d => { d with minute := false }) c) = jobMinute (heldMinute (queueBid o m)) := by
      rw [← minuteBid_queues (c := m) (i := i) (o := o) (by rw [hm]; exact hact) (by rw [hm, tableMinute_eq]; simp [modifyDue]; rw [hidle]; rfl)
        (by rw [hm]; exact hopen) (by rw [hm]; exact hown) (by rw [hm]; exact hc) (by rw [hbm, hm]; exact hbeats), hm]
      rfl
    have hstep : exec (.minuteTick false) ⟨q, c⟩ = .next ⟨q, freePlace (jobMinute (heldMinute (queueBid o m)))⟩ := by
      rw [← hbase]
      exact event_takeDue (due := fun c => c.due.minute) hp hdue
    obtain ⟨hwait, hoff, hjob⟩ := queueBid_of_room (o := o) (c := m) (by rw [hm]; exact hact) (by rw [hm]; exact hroom)
    rw [hbm] at hwait hoff
    have htable : (queueBid o m).table = minutesRisen c := hoff.table.trans (by rw [hm]; rfl)
    rw [heldMinute_jobMinute_bidding (c := queueBid o m) (by simp [hjob, Job.enter])] at hstep
    refine ⟨_, hstep, waitsInTx_freePlace ?_ (by rw [hb]; exact fun hx => by cases hx), ?_, ?_, ?_, ?_, ?_⟩
    · exact hwait
    · rw [freePlace_job]
      simp [hjob, Job.enter]
    · rw [(OnlyOffers.freePlace _).round]
      dsimp only
      rw [hoff.round, hm]
      rfl
    · have ho : ovenAt { c with table := minutesRisen c } i = some o := ((chooseOven_best _).found i o hc).2.1
      rw [ovenAt, (OnlyOffers.freePlace _).table]
      dsimp only
      rw [htable]
      exact ho
    · rw [(OnlyOffers.freePlace _).table]
      exact htable
    · rw [(OnlyOffers.freePlace _).held]
      dsimp only
      rw [hoff.held, hm]
      rfl

end Sys2Proof.Machine
end

section
/-! SUPPORT. The judging of a leak sample (R140 to R146). -/

-- The lemmas are checked one after another, as the tests are.
set_option Elab.async false

namespace Sys2Proof.Machine

open Sys2Proof

/-! ## An event counted where it is due -/

/-- The event is counted where p says so. -/
def countWhere (p : Bool) (k : EventKind) (first : Option Nat) (c : Controller) : Controller := if p then count k first c else c

theorem OnlyOffers.countWhere (p : Bool) (k : EventKind) (first : Option Nat) (c : Controller) :
    OnlyOffers c (countWhere p k first c) := by
  cases p
  · exact .refl c
  · exact .count k first c

theorem thirtyEntries_countWhere {p : Bool} {k : EventKind} {first : Option Nat} {c : Controller} (h : thirtyEntries c) :
    thirtyEntries (countWhere p k first c) := by
  cases p
  · exact h
  · exact (length_entries_count k first c).trans h

theorem countWhere_entry_ne {p : Bool} {k : EventKind} {first : Option Nat} {c : Controller} {j : Nat} (hj : 1 ≤ j)
    (hne : j ≠ k.number) : (countWhere p k first c).events.entry j = c.events.entry j := by
  cases p
  · rfl
  · exact entry_count_ne hj hne

/-- An event that is due is counted once. -/
theorem countedOnce_countWhere {p : Bool} {k : EventKind} {first : Option Nat} {c : Controller} (h : thirtyEntries c) (hp : p = true) :
    countedOnce k.number c (countWhere p k first c) := by
  subst hp
  rw [countedOnce, show countWhere true k first c = count k first c from rfl, entry_count h]
  rfl

/-! ## The class of a sample -/

theorem classify_exceeding {margin ref n : Nat} (h : leakThreshold margin ref < n ∨ n = 65535) :
    classify margin ref n = .exceeding := if_pos h.symm

theorem classify_dead {margin ref n : Nat} (hthr : n ≤ leakThreshold margin ref) (hsat : n ≠ 65535) (h : n < ref / 4) :
    classify margin ref n = .dead := by
  rw [classify, if_neg (not_or.mpr ⟨hsat, Nat.not_lt.mpr hthr⟩), if_pos h]

theorem classify_ordinary {margin ref n : Nat} (hthr : n ≤ leakThreshold margin ref) (hsat : n ≠ 65535) (h : ref / 4 ≤ n) :
    classify margin ref n = .ordinary := by
  rw [classify, if_neg (not_or.mpr ⟨hsat, Nat.not_lt.mpr hthr⟩), if_neg (Nat.not_lt.mpr h)]

theorem classify_scored {margin ref n : Nat} (h : ref / 4 ≤ n ∨ leakThreshold margin ref < n ∨ n = 65535) :
    classify margin ref n ≠ .dead := by
  unfold classify
  split
  · exact fun hx => by cases hx
  · next hno =>
    have hlow : ¬ n < ref / 4 := by omega
    rw [if_neg hlow]
    exact fun hx => by cases hx

/-- What a sample that is not dead makes of a door record (R142, R143, R145, R146). -/
theorem judgeDoor_scored {margin n : Nat} {r : Door} (h : classify margin r.ref n ≠ .dead) :
    judgeDoor margin n r = { r with
      last := some n
      dead := 0
      score := scoreAfter (classify margin r.ref n) r.score
      checks := if r.state = .checking then r.checks - 1 else r.checks
      state := stateAfter r.state (scoreAfter (classify margin r.ref n) r.score) (if r.state = .checking then r.checks - 1 else r.checks)
      ref := if classify margin r.ref n = .ordinary ∧ r.state = .tight then driftRef r.ref n else r.ref } := by
  cases hk : classify margin r.ref n with
  | dead => exact absurd hk h
  | ordinary => simp only [judgeDoor, hk]
  | exceeding => simp only [judgeDoor, hk]

theorem judgeDoor_dead {margin n : Nat} {r : Door} (h : classify margin r.ref n = .dead) :
    judgeDoor margin n r = { r with last := some n, dead := min 4 (r.dead + 1) } := by
  simp only [judgeDoor, h]

theorem latchedState_iff {s : DoorState} : s.latchedState = true ↔ s = .tight ∨ s = .leaking ∨ s = .checking := by
  cases s <;> decide

theorem stateAfter_latched {s : DoorState} {score checks : Nat} (h : s.latchedState = true) :
    (stateAfter s score checks).latchedState = true := by
  cases s <;> simp only [stateAfter] <;> (repeat' split) <;> first | rfl | exact absurd h (by decide)

/-- A door that is judged stays scannable. -/
theorem judgeDoor_latched {margin n : Nat} {r : Door} (h : r.state.latchedState = true) :
    (judgeDoor margin n r).state.latchedState = true := by
  obtain hj | ⟨_, _, _, hj, _⟩ := judgeDoor_cases margin n r <;> rw [hj]
  · exact h
  · exact stateAfter_latched h

/-! ## The sample judged -/

/-- The record is changed, then LEAK OVERRANGE, LEAK SENSOR DEAD and DOOR LEAK are counted where they are due. -/
theorem judgeSample_eq {c : Controller} {ch : Nat} {r r' : Door} (h : c.doors.doors[ch]? = some r)
    (hr : r' = judgeDoor (cfg c).margin c.scan.count r) :
    judgeSample ch c = countWhere (turnsLeaking r r') .doorLeak (some (ovenNumber c (ch / 2)))
      (countWhere (reachesDead r r') .leakSensorDead (some (ovenNumber c (ch / 2)))
        (countWhere (decide (c.scan.count = 65535)) .leakOverrange (some (ovenNumber c (ch / 2)))
          (modifyDoor ch (fun _ => r') c))) := by
  subst hr
  simp only [judgeSample, h, countWhere, decide_eq_true_eq]

/-- Of the three events of a judged sample each is counted where it is due, whatever the others. -/
theorem judgeSample_counts {c : Controller} {ch : Nat} {r r' : Door} (h : c.doors.doors[ch]? = some r)
    (hr : r' = judgeDoor (cfg c).margin c.scan.count r) (ht : thirtyEntries c) :
    (c.scan.count = 65535 → countedOnce 22 c (judgeSample ch c)) ∧ (reachesDead r r' = true → countedOnce 21 c (judgeSample ch c))
      ∧ (turnsLeaking r r' = true → countedOnce 20 c (judgeSample ch c)) := by
  rw [judgeSample_eq h hr]
  generalize some (ovenNumber c (ch / 2)) = n
  have h1 : thirtyEntries (modifyDoor ch (fun _ => r') c) := ht
  have h2 := thirtyEntries_countWhere (p := decide (c.scan.count = 65535)) (k := .leakOverrange) (first := n) h1
  have h3 := thirtyEntries_countWhere (p := reachesDead r r') (k := .leakSensorDead) (first := n) h2
  refine ⟨fun hp => ?_, fun hp => ?_, fun hp => ?_⟩
  · have hcount := countedOnce_countWhere (k := .leakOverrange) (first := n) h1 (decide_eq_true hp)
    rw [countedOnce, countWhere_entry_ne (by decide) (by decide), countWhere_entry_ne (by decide) (by decide)]
    exact hcount
  · have hcount := countedOnce_countWhere (k := .leakSensorDead) (first := n) h2 hp
    rw [countedOnce, countWhere_entry_ne (p := decide (c.scan.count = 65535)) (k := .leakOverrange) (by decide) (by decide)] at hcount
    rw [countedOnce, countWhere_entry_ne (by decide) (by decide)]
    exact hcount
  · have hcount := countedOnce_countWhere (k := .doorLeak) (first := n) h3 hp
    rw [countedOnce, countWhere_entry_ne (p := reachesDead r r') (k := .leakSensorDead) (by decide) (by decide),
      countWhere_entry_ne (p := decide (c.scan.count = 65535)) (k := .leakOverrange) (by decide) (by decide)] at hcount
    exact hcount

/-- A judged sample changes the door of its channel and offers. -/
theorem judgeSample_offers {c : Controller} {ch : Nat} {r r' : Door} (h : c.doors.doors[ch]? = some r)
    (hr : r' = judgeDoor (cfg c).margin c.scan.count r) : OnlyOffers (modifyDoor ch (fun _ => r') c) (judgeSample ch c) := by
  rw [judgeSample_eq h hr]
  exact ((OnlyOffers.countWhere _ _ _ _).trans (.countWhere _ _ _ _)).trans (.countWhere _ _ _ _)

/-- A scannable door that is judged leaves the ring as it was. -/
theorem inRing_modifyDoor {c : Controller} {ch : Nat} {r r' : Door} (h : c.doors.doors[ch]? = some r)
    (hs : r'.state.latchedState = r.state.latchedState) (x : Nat) : inRing (modifyDoor ch (fun _ => r') c) x = inRing c x := by
  simp only [inRing, doorAt, modifyDoor, List.getElem?_modify]
  by_cases hx : ch = x
  · subst hx
    simp [h, hs]
  · simp [hx]

/-- The channel measured is in the ring, so that there is a next one. -/
theorem nextChannel_isSome {c : Controller} {ch x : Nat} (hlt : ch < c.doors.doors.length) (hin : inRing c ch = true) :
    ∃ y, nextChannel c x = some y := by
  unfold nextChannel
  split
  · exact ⟨_, rfl⟩
  · have hmem : ch ∈ scanRing c := List.mem_filter.mpr ⟨List.mem_range.mpr hlt, hin⟩
    cases hring : scanRing c with
    | nil => rw [hring] at hmem; cases hmem
    | cons y ys => exact ⟨y, rfl⟩

theorem lt_length_of_inRing {c : Controller} {ch : Nat} (h : inRing c ch = true) : ch < c.doors.doors.length := by
  refine Classical.byContradiction fun hge => ?_
  simp [inRing, doorAt, List.getElem?_eq_none (Nat.not_lt.mp hge)] at h

/-- Settles O30: the sample is judged, and the gate goes on. -/
theorem gateResultJudged : Obligations.GateResultJudged := by
  intro q c ch n thr r hp hdue hthirty hch hn hspoiled hr hstate hthr
  obtain ⟨b, hb⟩ : ∃ b, b = modifyDue (fun d => { d with gateExpiry := false }) c := ⟨_, rfl⟩
  obtain ⟨r', hr'⟩ : ∃ r', r' = judgeDoor (cfg c).margin n r := ⟨_, rfl⟩
  have hlatched : r.state.latchedState = true := latchedState_iff.mpr hstate
  have hlatched' : r'.state.latchedState = r.state.latchedState := by rw [hr', judgeDoor_latched hlatched, hlatched]
  have hrb : b.doors.doors[ch]? = some r := by rw [hb]; exact hr
  have hr'b : r' = judgeDoor (cfg b).margin b.scan.count r := by rw [hr', hn, hb]; rfl
  obtain ⟨m, hm⟩ : ∃ m, m = judgeSample ch b := ⟨_, rfl⟩
  have hoff : OnlyOffers (modifyDoor ch (fun _ => r') b) m := hm ▸ judgeSample_offers hrb hr'b
  have hcounts := judgeSample_counts hrb hr'b (by rw [hb]; exact hthirty)
  rw [← hm] at hcounts
  have hring (x : Nat) : inRing m x = inRing c x := by
    have hmx : inRing m x = inRing (modifyDoor ch (fun _ => r') b) x := by simp only [inRing, doorAt, hoff.doors]
    rw [hmx, inRing_modifyDoor hrb hlatched', hb]
    rfl
  have hmdoors : m.doors = { c.doors with doors := c.doors.doors.modify ch fun _ => r' } := by
    rw [hoff.doors, hb]
    rfl
  have hlen : m.doors.doors.length = c.doors.doors.length := by rw [hmdoors, List.length_modify]
  have hin : inRing c ch = true := by simp [inRing, doorAt, hr, hlatched]
  have hcfg : cfg m = cfg c := by rw [cfg, hoff.start, hb]; rfl
  have hexpires : gateExpires b = match nextChannel m ch with
      | some x => startGate x m
      | none => idleScanner m := by
    have hbch : b.scan.channel = ch := by rw [hb, hch]; rfl
    have hgo : (b.scan.spoiled || !inRing b ch) = false := by
      have h1 : b.scan.spoiled = false := by rw [hb]; exact hspoiled
      have h2 : inRing b ch = true := by rw [hb]; exact hin
      rw [h1, h2]
      rfl
    simp only [gateExpires, hbch, hgo]
    rw [hm]
    rfl
  obtain ⟨y, hy⟩ := nextChannel_isSome (c := m) (x := ch) (hlen.symm ▸ lt_length_of_inRing hin) ((hring ch).trans hin)
  have hgate : gateExpires b = { m with scan := ⟨true, y, 0, false, (cfg c).gateTicks, false⟩ } := by
    rw [hexpires, hy, ← hcfg]
    rfl
  have hstep : exec .leakGateExpiry ⟨q, c⟩ = .next ⟨q, freePlace (gateExpires b)⟩ := by
    rw [hb]
    exact event_takeDue (due := fun c => c.due.gateExpiry) hp hdue
  rw [hgate] at hstep
  obtain ⟨d, hd⟩ : ∃ d, d = freePlace { m with scan := ⟨true, y, 0, false, (cfg c).gateTicks, false⟩ } := ⟨_, rfl⟩
  have hfree : OnlyOffers { m with scan := ⟨true, y, 0, false, (cfg c).gateTicks, false⟩ } d := hd ▸ .freePlace _
  have hddoors : d.doors = { c.doors with doors := c.doors.doors.modify ch fun _ => r' } := by rw [hfree.doors]; exact hmdoors
  have hentries (k : Nat) (h : countedOnce k b m) : countedOnce k c d := by
    rw [countedOnce, hd, EventTable.entry, freePlace_entries]
    rw [hb] at h
    exact h
  have hnext (x : Nat) (h : nextChannel m ch = some x) : d.scan = ⟨true, x, 0, false, (cfg c).gateTicks, false⟩ := by
    rw [hy] at h
    cases h
    rw [hfree.scan]
  have hringlt (x : Nat) (h : inRing c x = true) : x < m.doors.doors.length := hlen.symm ▸ lt_length_of_inRing h
  have hthr' : thr = leakThreshold (cfg c).margin r.ref := hthr
  rw [← hd] at hstep
  refine ⟨d, r', hstep, ?_, ?_, fun j hj => ?_, ?_, by rw [hfree.scan], fun x hx hlt hbetween => hnext x ?_,
    fun x hx hle habove hbelow => hnext x ?_, fun h1 h2 h3 => ?_, fun h => ?_, fun h => ?_, fun h1 h2 h3 => ?_, fun h => ?_,
    fun h => hentries 22 (hcounts.1 (by rw [hb]; exact hn ▸ h)), fun h1 h2 => hentries 20 (hcounts.2.2 (by simp [turnsLeaking, h1, h2]))⟩
  · rw [hddoors]
    simp [hr]
  · obtain h | ⟨_, _, _, h, _⟩ := judgeDoor_cases (cfg c).margin n r <;> rw [hr', h]
  · rw [hddoors]
    simp [hj.symm]
  · have hbase : OnlyOffers { c with doors := { c.doors with doors := d.doors.doors }, scan := d.scan
                                     due := { c.due with gateExpiry := false } }
        { m with scan := ⟨true, y, 0, false, (cfg c).gateTicks, false⟩ } := by
      rw [hfree.scan, hddoors]
      have := hoff
      rw [hb] at this
      exact { this with scan := rfl }
    exact hbase.trans hfree
  · exact nextChannel_above (hringlt x hx) ((hring x).trans hx) hlt fun j h1 h2 => (hring j).trans (hbetween j h1 h2)
  · exact nextChannel_around (hringlt x hx) ((hring x).trans hx) (fun j h => (hring j).trans (habove j h))
      fun j h => (hring j).trans (hbelow j h)
  · have hj := judgeDoor_dead (classify_dead (hthr' ▸ h2) h3 h1)
    refine ⟨hr'.trans hj, fun h => hentries 21 (hcounts.2.1 ?_)⟩
    rw [hr', hj, reachesDead, h]
    rfl
  · rw [hr', judgeDoor_scored (classify_scored (hthr' ▸ h))]
  · rw [hr', judgeDoor_scored (classify_scored (.inr (hthr' ▸ h))), classify_exceeding (hthr' ▸ h)]
    exact ⟨rfl, rfl⟩
  · rw [hr', judgeDoor_scored (classify_scored (.inl h1)), classify_ordinary (hthr' ▸ h2) h3 h1]
    exact ⟨rfl, ite_congr (propext (by simp)) (fun _ => rfl) fun _ => rfl⟩
  · have hj := judgeDoor_scored (classify_scored (margin := (cfg c).margin) (hthr' ▸ h))
    refine ⟨fun hs => ?_, fun hs => ?_, fun hs => ?_⟩
    · rw [hr', hj, hs]
      exact ⟨rfl, rfl⟩
    · rw [hr', hj, hs]
      exact ⟨rfl, rfl⟩
    · rw [hr', hj, hs]
      exact ⟨rfl, rfl⟩

end Sys2Proof.Machine
end

section
/-! SUPPORT. The ranges of the regulation stages (chapter 9). -/

-- The lemmas are checked one after another, as the tests are.
set_option Elab.async false

namespace Sys2Proof.Machine

open Sys2Proof

/-! ## The rounding -/

theorem roundDiv_of_nonneg {a : Int} (h : 0 ≤ a) (b : Nat) : roundDiv a b = ((2 * a.natAbs + b) / (2 * b) : Nat) := if_neg (by omega)

/-- The rounding is symmetric about 0. -/
theorem roundDiv_neg {a : Int} {b : Nat} (hb : 0 < b) (h : 0 ≤ a) : roundDiv (-a) b = -roundDiv a b := by
  obtain rfl | hpos : 0 = a ∨ 0 < a := by omega
  · have hzero : (2 * (0 : Int).natAbs + b) / (2 * b) = 0 := Nat.div_eq_of_lt (by simp; omega)
    rw [Int.neg_zero, roundDiv_of_nonneg (Int.le_refl 0), hzero]
    rfl
  · rw [roundDiv_of_nonneg h, roundDiv, if_pos (by omega), Int.natAbs_neg]

/-- The rounded quotient lies at most half a divisor away. -/
theorem roundDiv_near {a : Int} {b : Nat} (hb : 0 < b) : 2 * (roundDiv a b * b - a).natAbs ≤ b := by
  have hnonneg (n : Nat) : 2 * (roundDiv n b * b - (n : Int)).natAbs ≤ b := by
    rw [roundDiv_of_nonneg (Int.natCast_nonneg n), Int.natAbs_natCast]
    obtain ⟨x, hx⟩ : ∃ x, x = (2 * n + b) / (2 * b) := ⟨_, rfl⟩
    have hmod := Nat.div_add_mod (2 * n + b) (2 * b)
    have hlt := Nat.mod_lt (2 * n + b) (show 0 < 2 * b by omega)
    rw [← hx] at hmod ⊢
    have hmul : ((x : Int) * (b : Int)) = ((b * x : Nat) : Int) := by rw [Nat.mul_comm, Int.natCast_mul]
    rw [Nat.mul_assoc] at hmod
    rw [hmul]
    omega
  obtain ⟨n, rfl | rfl⟩ := Int.eq_nat_or_neg a
  · exact hnonneg n
  · have := hnonneg n
    rw [roundDiv_neg hb (Int.natCast_nonneg n), Int.neg_mul]
    omega

/-- The rounded quotient of a number within 0 and m times the divisor lies within 0 and m. -/
theorem roundDiv_within {a m : Int} {b : Nat} (hb : 0 < b) (h0 : 0 ≤ a) (hm : a ≤ m * b) : 0 ≤ roundDiv a b ∧ roundDiv a b ≤ m := by
  rw [roundDiv_of_nonneg h0]
  refine ⟨Int.natCast_nonneg _, ?_⟩
  have hm0 : 0 ≤ m := by
    refine Classical.byContradiction fun hneg => ?_
    have : m * b < 0 := Int.mul_neg_of_neg_of_pos (by omega) (by omega)
    omega
  obtain ⟨k, rfl⟩ := Int.eq_ofNat_of_zero_le hm0
  obtain ⟨n, rfl⟩ := Int.eq_ofNat_of_zero_le h0
  have hle : n ≤ k * b := by exact_mod_cast hm
  have hlt : (2 * n + b) / (2 * b) < k + 1 := by
    rw [Nat.div_lt_iff_lt_mul (by omega)]
    have : (k + 1) * (2 * b) = 2 * (k * b) + 2 * b := by rw [Nat.add_mul, Nat.one_mul, Nat.mul_left_comm]
    omega
  exact_mod_cast Nat.lt_succ_iff.mp hlt

/-- A step of the rounded part of the way from x to y stays between the two. -/
theorem roundDiv_between {x y a : Int} {b : Nat} (hb : 0 < b) :
    (x ≤ y → 0 ≤ a → a ≤ (y - x) * b → x ≤ x + roundDiv a b ∧ x + roundDiv a b ≤ y)
      ∧ (y ≤ x → a ≤ 0 → (y - x) * b ≤ a → y ≤ x + roundDiv a b ∧ x + roundDiv a b ≤ x) := by
  refine ⟨fun _ h0 hm => ?_, fun _ h0 hm => ?_⟩
  · have := roundDiv_within hb h0 hm
    omega
  · have hneg : -a ≤ (x - y) * b := by
      have : (x - y) * (b : Int) = -((y - x) * b) := by rw [← Int.neg_mul, Int.neg_sub]
      omega
    have hw := roundDiv_within hb (show 0 ≤ -a by omega) hneg
    have hsym := roundDiv_neg hb (show 0 ≤ -a by omega)
    rw [Int.neg_neg] at hsym
    omega

/-! ## The stages -/

theorem le_mul_of_one_le {x n : Int} (hx : 0 ≤ x) (hn : 1 ≤ n) : x ≤ x * n := by
  have := Int.mul_le_mul_of_nonneg_left hn hx
  rwa [Int.mul_one] at this

/-- The filtered pressure moves towards the scaled one and not past it (R175). -/
theorem filterPressure_between (k : Nat) (f p : Int) :
    (f ≤ p → f ≤ filterPressure k (some f) p ∧ filterPressure k (some f) p ≤ p)
      ∧ (p ≤ f → p ≤ filterPressure k (some f) p ∧ filterPressure k (some f) p ≤ f) := by
  have hpos : 0 < 2 ^ k := Nat.two_pow_pos k
  have hone : (1 : Int) ≤ ((2 ^ k : Nat) : Int) := by exact_mod_cast hpos
  obtain ⟨hup, hdown⟩ := roundDiv_between (x := f) (y := p) (a := p - f) hpos
  refine ⟨fun h => hup h (by omega) ?_, fun h => hdown h (by omega) ?_⟩
  · exact le_mul_of_one_le (by omega) hone
  · have := le_mul_of_one_le (show 0 ≤ f - p by omega) hone
    have hring : (p - f) * ((2 ^ k : Nat) : Int) = -((f - p) * ((2 ^ k : Nat) : Int)) := by rw [← Int.neg_mul, Int.neg_sub]
    omega

/-- The feedback of a valid code (R183). -/
theorem scaleFeedback_within {n : Nat} (hlo : 9 ≤ n) (hhi : n ≤ 4086) :
    2 ≤ scaleFeedback n ∧ scaleFeedback n ≤ 998 ∧ (scaleFeedback n ≤ 10 ↔ n ≤ 42) := by
  rw [scaleFeedback, roundDiv_of_nonneg (Int.natCast_nonneg _), Int.natAbs_natCast]
  omega

theorem rowInForce_coking {g : Config} {o : Oven} (h : o.phase = .coking) : derivedStage g o = some (stageFor g o.target o.minutes) :=
  if_pos h

/-- The setpoint of a COKING oven stands between the two ends of the row of its stage (R177). -/
theorem setpoint_between {g : Config} {o : Oven} {r : Row} (hp : o.phase = .coking) (hr : r = stageRow g (stageFor g o.target o.minutes)) :
    (r.a ≤ r.b → r.a ≤ setpoint g o ∧ setpoint g o ≤ r.b) ∧ (r.b ≤ r.a → r.b ≤ setpoint g o ∧ setpoint g o ≤ r.a) := by
  simp only [setpoint, rowInForce_coking hp]
  rw [← hr]
  generalize stageStart g o.target (stageFor g o.target o.minutes) = start
  generalize stageEnd g o.target (stageFor g o.target o.minutes) - start = len
  split
  · exact ⟨fun h => ⟨h, Int.le_refl _⟩, fun h => ⟨Int.le_refl _, h⟩⟩
  · next hlen =>
    have hd : min (o.minutes - start) len ≤ len := Nat.min_le_right _ _
    generalize min (o.minutes - start) len = d at hd
    have hd' : (d : Int) ≤ len := by exact_mod_cast hd
    have hd0 : (0 : Int) ≤ d := Int.natCast_nonneg d
    obtain ⟨hup, hdown⟩ := roundDiv_between (x := r.a) (y := r.b) (a := (r.b - r.a) * (d : Int)) (Nat.pos_of_ne_zero hlen)
    refine ⟨fun h => hup h (Int.mul_nonneg (by omega) hd0) (Int.mul_le_mul_of_nonneg_left hd' (by omega)),
      fun h => hdown h (Int.mul_nonpos_of_nonpos_of_nonneg (by omega) hd0) (Int.mul_le_mul_of_nonpos_left (by omega) hd')⟩

/-- The slew stage moves the command by at most R (R182). -/
theorem slewStage_natAbs {g : Config} (hr : 0 ≤ g.r) (p u : Int) : (slewStage g p u - p).natAbs ≤ g.r.toNat := by
  have := clampInt_cases (x := u - p) (show -g.r ≤ g.r by omega)
  rw [slewStage]
  omega

/-- The control computation for an oven whose pressure and main value are present (R173). -/
theorem compute_eq {g : Config} {leaking : Bool} {o : Oven} {pf mv : Int} (h : o.filtered = some pf) :
    o.compute g leaking (some mv) = { o with
      integrator := integralStage g (rowInForce g o) (drawSufficient g pf mv) (controlError pf (setpointWithLeak g leaking o)) o.integrator
      command := slewStage g o.command (outputStage g (rowInForce g o) (controlError pf (setpointWithLeak g leaking o))
        (integralStage g (rowInForce g o) (drawSufficient g pf mv) (controlError pf (setpointWithLeak g leaking o)) o.integrator))
      noDraw := if drawSufficient g pf mv then 0 else min 255 (o.noDraw + 1) } := by
  unfold Oven.compute
  split
  · next hpf hmv =>
    cases hmv
    cases h.symm.trans hpf
    rfl
  · next hno => exact absurd rfl (hno pf mv h)

/-- Settles O27: stage by stage. -/
theorem stagesStayWithin : Obligations.StagesStayWithin := by
  refine ⟨fun g leaking o pf mv hpf hr hrow => ?_, ⟨fun a b hb => roundDiv_near hb, fun z n => ?_, filterPressure_between,
    fun n hlo hhi => scaleFeedback_within hlo hhi⟩, fun g o s hp hs => setpoint_between hp (by rw [hs])⟩
  · obtain ⟨u, i, w, hcompute, hu, hi⟩ : ∃ u i w, o.compute g leaking (some mv) = { o with
          integrator := i, command := slewStage g o.command u, noDraw := w }
        ∧ ((rowInForce g o).umin ≤ u ∧ u ≤ (rowInForce g o).umax)
        ∧ ((rowInForce g o).umin * 1024 ≤ i ∧ i ≤ (rowInForce g o).umax * 1024) := by
      refine ⟨_, _, _, compute_eq hpf, ?_, ?_⟩
      · exact clampInt_cases hrow
      · exact clampInt_cases (by omega)
    rw [hcompute]
    have hslew := slewStage_between hr o.command u
    exact ⟨hi.1, hi.2, slewStage_natAbs hr _ _, fun h1 h2 => by dsimp only; omega,
      fun hlim hc => PerMille.slewStage hr hc ⟨by have := hlim.1.1; omega, by have := hlim.2.2; omega⟩⟩
  · exact clampInt_cases (by decide)

end Sys2Proof.Machine
end

section
/-! SUPPORT. What the line unit hears (sections 2.1 to 2.6), and the head entry that goes out (section 2.7). -/

-- The lemmas are checked one after another, as the tests are.
set_option Elab.async false

namespace Sys2Proof.Machine

open Sys2Proof

/-! ## A telegram heard -/

/-- A command whose last work is to count an event counts it once, and offers nothing else but what waits. -/
theorem counted_of_step {x : Host.Outcome State Fault Refusal} {q : List Instr} {b c : Controller} {k : EventKind} {first : Option Nat}
    (hx : x = .next ⟨q, freePlace (count k first b)⟩) (he : b.events.entries = c.events.entries) (hne : k.number ≠ 6)
    (ht : thirtyEntries c) : ∃ d, x = .next ⟨q, d⟩ ∧ countedOnce k.number c d ∧ OnlyOffers b d :=
  ⟨_, hx, countedOnce_of_stays (.freePlace _) (.of_eq he) hne ht, (OnlyOffers.count _ _ _).trans (.freePlace _)⟩

theorem hasFooting_iff {c : Controller} : hasFooting c = true ↔
    receiving c = true ∧ (c.line.phase = .idle ∨ c.line.phase = .ended ∨ c.line.phase = .receiving) := by
  simp [hasFooting, LinePhase.footing, or_assoc]

/-- A telegram heard whole, by its check and the verdict of the acceptance filter. -/
theorem receiveFrame_of_footing {f : Frame} {c : Controller} (hf : hasFooting c = true) (hlen : f.payload.length ≤ 8) :
    receiveFrame f c = if frameCheckAgrees f then judgeTelegram (telegramOf f) (endReception .ended c)
      else count .crcError none (endReception .ended c) := by
  rw [receiveFrame, if_pos hf, if_neg (Nat.not_lt.mpr hlen)]

/-- Settles O34: by length, check and verdict, then the faults without footing. -/
theorem telegramHeard : Obligations.TelegramHeard := by
  refine ⟨fun c => hasFooting_iff, fun q c f hready hwaits hthirty hfoot => ?_, fun q c hready => ?_⟩
  · have hstep : exec (.telegramReceived f) ⟨q, c⟩ = .next ⟨q, freePlace (receiveFrame f c)⟩ := act_of_ready hready
    refine ⟨fun hlong => ?_, fun hlen hbad => ?_, fun hlen hgood => ⟨fun hv => ?_, fun hv => ?_, fun hv hroom => ?_, fun hv hfull => ?_⟩⟩
    · rw [receiveFrame, if_pos hfoot, if_pos hlong] at hstep
      exact counted_of_step (b := endReception .counting c) hstep rfl (by decide) hthirty
    · rw [receiveFrame_of_footing hfoot hlen, hbad, if_neg (by decide)] at hstep
      exact counted_of_step (b := endReception .ended c) hstep rfl (by decide) hthirty
    all_goals
      have hv' : acceptance (endReception .ended c) (telegramOf f) = acceptance c (telegramOf f) := rfl
      rw [receiveFrame_of_footing hfoot hlen, hgood, if_pos rfl, judgeTelegram, hv', hv] at hstep
      dsimp only at hstep
    · exact counted_of_step (b := endReception .ended c) hstep rfl (by decide) hthirty
    · exact next_of_nothingWaits hstep rfl hwaits rfl rfl rfl rfl
    · refine next_of_nothingWaits hstep ?_ hwaits rfl rfl rfl rfl
      rw [storeTelegram, if_pos (by exact hroom)]
      rfl
    · have hstore : storeTelegram (telegramOf f) (endReception .ended c) = count .rxOverrun none (endReception .ended c) :=
        if_neg (Nat.not_lt.mpr hfull)
      rw [hstore] at hstep
      exact counted_of_step (b := endReception .ended c) hstep rfl (by decide) hthirty
  · have hfault : exec .framingFault ⟨q, c⟩ = .next ⟨q, freePlace (framingFaults c)⟩ := act_of_ready hready
    refine ⟨fun hfoot hthirty => ?_, fun hno hwaits => ⟨?_, fun f => ?_⟩, fun hr hphase hwaits => ?_⟩
    · rw [framingFaults, if_pos hfoot] at hfault
      exact counted_of_step (b := endReception .counting c) hfault rfl (by decide) hthirty
    · exact next_of_nothingWaits hfault (if_neg (by simp [hno])) hwaits rfl rfl rfl rfl
    · have hstep : exec (.telegramReceived f) ⟨q, c⟩ = .next ⟨q, freePlace (receiveFrame f c)⟩ := act_of_ready hready
      exact next_of_nothingWaits hstep (if_neg (by simp [hno])) hwaits rfl rfl rfl rfl
    · have hstep : exec .lineIdle ⟨q, c⟩ = .next ⟨q, freePlace (lineIdles c)⟩ := act_of_ready hready
      have hcounts : (receiving c && c.line.phase.counts) = true := by
        obtain h | h := hphase <;> simp [hr, h, LinePhase.counts]
      exact next_of_nothingWaits hstep (if_pos hcounts) hwaits rfl rfl rfl rfl

/-! ## The own number heard -/

/-- The position of the line unit after the queue has been emptied: a telegram of the station is broken off (R36). -/
def LinePhase.brokenOff (p : LinePhase) : LinePhase :=
  match p with
  | .sending _ _ => .counting
  | p => p

/-- What the entry to SILENT makes of the controller (R36, R64, R107, R162, R190, R197). -/
theorem enterSilent_eq (c : Controller) : enterSilent c = { c with
    start := { c.start with line := .silent, listen := none }
    line := { c.line with tx := [], phase := c.line.phase.brokenOff }
    table := { c.table with edge := none }
    round := Round.closedRecord
    job := if c.job.state = .bidding ∨ c.job.state = .claiming then c.job.toIdle else c.job
    track := { c.track with call := { c.track.call with queued := false } }
    reg := { c.reg with mainSend := none, main := { c.reg.main with queued := false } }
    events := { c.events with queued := false }
    due := (enterSilent c).due } := by
  by_cases h : c.job.state = .bidding ∨ c.job.state = .claiming
  · have h' : (closeRound (emptyTx (stopLineTimers (modifyStart (fun u => { u with line := .silent }) c)))).job.state = .bidding
        ∨ (closeRound (emptyTx (stopLineTimers (modifyStart (fun u => { u with line := .silent }) c)))).job.state = .claiming := h
    simp only [enterSilent, if_pos h, if_pos h']
    rfl
  · have h' : ¬ ((closeRound (emptyTx (stopLineTimers (modifyStart (fun u => { u with line := .silent }) c)))).job.state = .bidding
        ∨ (closeRound (emptyTx (stopLineTimers (modifyStart (fun u => { u with line := .silent }) c)))).job.state = .claiming) := h
    simp only [enterSilent, if_neg h, if_neg h']
    rfl

/-- Settles O35: the count of DUPLICATE ID, then the entry to SILENT. -/
theorem duplicateSilences : Obligations.DuplicateSilences := by
  intro q c f hready hthirty hfoot hlen hgood hsrc hzero hlarge
  obtain ⟨b, hb⟩ : ∃ b, b = endReception .ended c := ⟨_, rfl⟩
  have hverdict : acceptance b (telegramOf f) = .duplicate := by
    have hno : ¬ ((telegramOf f).src = 0 ∨ (telegramOf f).src = 29 ∨ (telegramOf f).src = 31) := by omega
    have hown : (telegramOf f).src = ownNumber b := by rw [hsrc, hb]; rfl
    rw [acceptance, if_neg hno, if_pos hown]
  have hstep : exec (.telegramReceived f) ⟨q, c⟩ = .next ⟨q, freePlace (duplicateHeard b)⟩ := by
    have hframe : receiveFrame f c = duplicateHeard b := by
      rw [receiveFrame_of_footing hfoot hlen, hgood, if_pos rfl, ← hb]
      simp only [judgeTelegram, hverdict]
    rw [← hframe]
    exact act_of_ready hready
  refine ⟨fun hne => ?_, fun hsilent => ?_⟩
  · have hbline : ¬ b.start.line = .silent := by rw [hb]; exact hne
    obtain ⟨m, hm⟩ : ∃ m, m = count .duplicateId none b := ⟨_, rfl⟩
    have hmframe := count_frame .duplicateId none b
    rw [← hm] at hmframe
    obtain ⟨hstart, htime, htable, hround, hheld, hdoors, hscan, hdue, htrack, hjob, hreg, hnumber, hrx, hack, hphase, _, _⟩ := hmframe
    have hinactive : isActive (enterSilent m) = false := by simp [isActive, enterSilent_start]
    rw [duplicateHeard, if_neg hbline, ← hm, freePlace_of_not_active hinactive] at hstep
    refine ⟨_, hstep, ?_, ?_, ?_, ?_, ?_, ?_, fun h1 h2 => ?_, ?_, ?_, ?_, ?_, ?_, ?_⟩
    · have hcount : countedOnce 5 c m := by
        rw [hm]
        exact countedOnce_of_stays (k := .duplicateId) (.refl _) (.of_eq (by rw [hb]; rfl)) (by decide) hthirty
      rw [enterSilent_eq]
      exact hcount
    · rw [enterSilent_start, hstart, hb]
      rfl
    · have hline : m.line = { b.line with tx := m.line.tx } := by
        have hoff : OnlyOffers b m := hm ▸ .count _ _ _
        exact hoff.line.trans (by rw [hphase])
      rw [enterSilent_eq, hline, hb]
      rfl
    · rw [enterSilent_eq]
      rfl
    · rw [enterSilent_eq, hheld, hb]
      rfl
    · rw [enterSilent_eq, hjob, hb]
      exact apply_ite Job.state _ _ _
    · rw [enterSilent_eq, hjob, hb]
      exact if_neg (not_or.mpr ⟨h1, h2⟩)
    · rw [enterSilent_eq, htrack, hb]
      rfl
    · rw [enterSilent_eq, hreg, hb]
      rfl
    · rw [enterSilent_eq, htable, hb]
      rfl
    · rw [enterSilent_eq, hdoors, hb]
      rfl
    · rw [enterSilent_eq, hscan, hb]
      rfl
    · rw [enterSilent_eq]
  · have hbline : b.start.line = .silent := by rw [hb]; exact hsilent
    rw [duplicateHeard, if_pos hbline, freePlace_of_not_active (by simp [isActive, hbline]), hb] at hstep
    exact hstep

/-! ## The head entry goes out -/

/-- The lowest reportable kind. -/
theorem lowest_eq {t : EventTable} {j : Nat} (h1 : 1 ≤ j) (h30 : j ≤ 30) (hr : t.reportable j = true)
    (hlow : ∀ m, 1 ≤ m → m < j → t.reportable m = false) : t.lowest = some j := by
  have hfind : (List.range 30).find? (t.reportable ∘ (· + 1)) = some (j - 1) := by
    rw [List.find?_range_eq_some]
    refine ⟨?_, List.mem_range.mpr (by omega), fun i hi => ?_⟩
    · simpa [Nat.sub_add_cancel h1] using hr
    · simp [hlow (i + 1) (by omega) (by omega)]
  rw [EventTable.lowest, List.find?_map, hfind, Option.map_some, Nat.sub_add_cancel h1]

/-- Settles O36: by whether the line is idle and the head is an EVENT. -/
theorem headGoesOut : Obligations.HeadGoesOut := by
  refine ⟨fun q c hready hwaits hphase => ?_, fun q c e rest hready hwaits hact hphase htx => ?_⟩
  · have hstep : exec .telegramStart ⟨q, c⟩ = .next ⟨q, freePlace (telegramStarts c)⟩ := act_of_ready hready
    refine next_of_nothingWaits hstep (if_neg ?_) hwaits rfl rfl rfl rfl
    simp [hphase]
  · have hstep : exec .telegramStart ⟨q, c⟩ = .next ⟨q, freePlace (telegramStarts c)⟩ := act_of_ready hready
    have hgo : (isActive c && c.line.phase == .idle) = true := by simp [hact, hphase]
    rw [telegramStarts, if_pos hgo, htx] at hstep
    have hlen : (⟨e.tel, true⟩ :: rest).length = c.line.tx.length := by rw [htx]; rfl
    refine ⟨fun hk => ?_, fun j hk hr h1 h30 hlow => ?_⟩
    · simp only [buildHead, if_neg hk] at hstep
      rw [freePlace_of_nothingWaits] at hstep
      · exact hstep
      · rw [← hwaits]
        simp [nothingWaits, isActive, txRoom, modifyLine, htx]
    · simp only [buildHead, if_pos hk, lowest_eq h1 h30 hr hlow] at hstep
      rw [freePlace_of_nothingWaits] at hstep
      · exact hstep
      · rw [← hwaits]
        simp only [nothingWaits, isActive, txRoom, modifyLine, htx, List.length_cons]
        rfl

end Sys2Proof.Machine
end

section
/-! SUPPORT. What stays in the transmit queue while a block's work offers and withdraws telegrams, and what a change of phase
queues (R17). -/

-- The lemmas are checked one after another, as the tests are.
set_option Elab.async false

namespace Sys2Proof.Machine

open Sys2Proof

/-- From c to d the queue has grown by at most n entries, and has kept those whose telegram P holds of, where it had room for n
more. -/
structure QueueKeeps (P : Telegram → Prop) (n : Nat) (c d : Controller) : Prop where
  state : d.start.line = c.start.line
  number : d.line.number = c.line.number
  length : isActive c = true → roomFor n c → d.line.tx.length ≤ c.line.tx.length + n
  kept : isActive c = true → roomFor n c → ∀ e ∈ c.line.tx, P e.tel → e ∈ d.line.tx

namespace QueueKeeps

variable {P : Telegram → Prop} {n m : Nat} {b c d : Controller}

theorem active (h : QueueKeeps P n c d) : isActive d = isActive c := by simp [isActive, h.state]

theorem ownNumber (h : QueueKeeps P n c d) : ownNumber d = ownNumber c := by simp [Machine.ownNumber, h.number]

theorem room (h : QueueKeeps P n c d) (ha : isActive c = true) (hr : roomFor (n + m) c) : roomFor m d := by
  have hlen : c.line.tx.length + (n + m) ≤ 8 := hr
  have := h.length ha (by rw [roomFor]; omega)
  rw [roomFor]
  omega

/-- A telegram that P holds of goes on waiting. -/
theorem waits (h : QueueKeeps P n c d) (ha : isActive c = true) (hr : roomFor n c) {t : Telegram} (ht : P t) (hw : waitsInTx t c) :
    waitsInTx t d := h.kept ha hr _ hw ht

theorem of_eq (hl : d.start.line = c.start.line) (hline : d.line = c.line) : QueueKeeps P 0 c d :=
  ⟨hl, by rw [hline], fun _ _ => by rw [hline]; omega, fun _ _ e he _ => by rw [hline]; exact he⟩

theorem refl (c : Controller) : QueueKeeps P 0 c c := of_eq rfl rfl

theorem trans (h : QueueKeeps P n b c) (k : QueueKeeps P m c d) : QueueKeeps P (n + m) b d where
  state := k.state.trans h.state
  number := k.number.trans h.number
  length ha hr := by
    have h1 := h.length ha (by rw [roomFor] at hr ⊢; omega)
    have h2 := k.length (h.active.trans ha) (h.room ha hr)
    omega
  kept ha hr e he hp :=
    k.kept (h.active.trans ha) (h.room ha hr) e (h.kept ha (by rw [roomFor] at hr ⊢; omega) e he hp) hp

theorem mono (h : QueueKeeps P n c d) (hle : n ≤ m) : QueueKeeps P m c d where
  state := h.state
  number := h.number
  length ha hr := by
    have := h.length ha (by rw [roomFor] at hr ⊢; omega)
    omega
  kept ha hr := h.kept ha (by rw [roomFor] at hr ⊢; omega)

theorem weaken {Q : Telegram → Prop} (h : QueueKeeps P n c d) (hq : ∀ t, Q t → P t) : QueueKeeps Q n c d :=
  ⟨h.state, h.number, h.length, fun ha hr e he hp => h.kept ha hr e he (hq _ hp)⟩

theorem ite {p : Prop} [Decidable p] {x y : Controller} (hx : p → QueueKeeps P n c x) (hy : ¬p → QueueKeeps P n c y) :
    QueueKeeps P n c (if p then x else y) := by
  split
  · exact hx ‹_›
  · exact hy ‹_›

/-! ## The operations -/

theorem count (k : EventKind) (first : Option Nat) (c : Controller) : QueueKeeps P 1 c (count k first c) where
  state := by simp
  number := by simp
  length _ _ := length_count k first c
  kept _ _ _ he _ := mem_count k first he

theorem withdrawKind {k : Kind} (hp : ∀ t, P t → t.kind ≠ some k) (c : Controller) : QueueKeeps P 0 c (withdrawKind k c) where
  state := by simp
  number := by simp
  length _ _ := length_withdraw _ c
  kept _ _ e he h := mem_withdraw.mpr ⟨he, by simpa using hp _ h⟩

theorem withdrawHalt {n : Nat} (hp : ∀ t, P t → t.kind ≠ some .halt) (c : Controller) : QueueKeeps P 0 c (withdrawHalt n c) where
  state := by simp
  number := by simp
  length _ _ := length_withdraw _ c
  kept _ _ e he h := mem_withdraw.mpr ⟨he, by simp [hp _ h]⟩

theorem offer {t : Telegram} (hp : ∀ u, P u → samePlace t u = false) (c : Controller) : QueueKeeps P 1 c (offer t c) where
  state := by simp
  number := by simp
  length ha hr := length_offer ha (by rw [roomFor] at hr; simp [txRoom]; omega)
  kept ha hr e he h := mem_offer ha (by rw [roomFor] at hr; simp [txRoom]; omega) he (hp _ h)

theorem queuePhase (hp : ∀ u, P u → u.kind ≠ some .phase) (i : Nat) (c : Controller) : QueueKeeps P 1 c (queuePhase i c) := by
  unfold Machine.queuePhase
  split
  · next o _ =>
    refine offer (fun u hu => ?_) c
    have hk : ((phaseTelegram (Machine.ownNumber c) o).kind == u.kind) = false := beq_eq_false_iff_ne.mpr (hp u hu).symm
    simp [samePlace, hk]
  · exact (refl c).mono (Nat.zero_le _)

theorem setPhase (hp : ∀ u, P u → u.kind ≠ some .phase) (i : Nat) (p : Phase) (c : Controller) : QueueKeeps P 1 c (setPhase i p c) := by
  have hmod : QueueKeeps P 0 c (modifyOven i (fun o => ({ o with phase := p }).withStage (cfg c)) c) := of_eq (by simp) (by simp)
  have hup (x : Controller) : QueueKeeps P 0 x (takeUpPhase i x) := of_eq (by simp) (by simp)
  exact (hmod.trans (queuePhase hp i _)).trans (hup _)

theorem settlePhase (hp : ∀ u, P u → u.kind ≠ some .phase) (i : Nat) (c : Controller) : QueueKeeps P 1 c (settlePhase i c) := by
  unfold Machine.settlePhase
  split
  · exact ite (fun _ => (refl c).mono (Nat.zero_le _)) fun _ => setPhase hp i _ c
  · exact (refl c).mono (Nat.zero_le _)

theorem offerPermit (hp : ∀ u, P u → u.kind ≠ some .permit) (n code : Nat) (c : Controller) :
    QueueKeeps P 1 c (offerPermit n code c) :=
  ((withdrawKind hp c).trans (offer (fun _ _ => by simp [samePlace, permitTelegram, Telegram.kind, kindOf]) _)).mono (Nat.le_refl _)

theorem offerRelease (hp : ∀ u, P u → u.kind ≠ some .permit) (n : Nat) (o : PushOutcome) (c : Controller) :
    QueueKeeps P 1 c (offerRelease n o c) :=
  ((withdrawKind hp c).trans (offer (fun u _ => samePlace_release _ _ _ u) _)).mono (Nat.le_refl _)

theorem offerHalt (hp : ∀ u, P u → u.kind ≠ some .permit ∧ u.kind ≠ some .halt) (n : Nat) (c : Controller) :
    QueueKeeps P 1 c (offerHalt n c) := by
  refine ((withdrawKind (fun u hu => (hp u hu).1) c).trans (offer (fun u hu => ?_) _)).mono (Nat.le_refl _)
  have hk : ((haltTelegram (Machine.ownNumber c) n).kind == u.kind) = false := beq_eq_false_iff_ne.mpr (hp u hu).2.symm
  simp [samePlace, hk]

end QueueKeeps

/-- A telegram just offered where there is room waits. -/
theorem waitsInTx_offer_of_room {t : Telegram} {c : Controller} (ha : isActive c = true) (hr : roomFor 1 c) : waitsInTx t (offer t c) := by
  refine waitsInTx_offer ha ?_
  rw [roomFor] at hr
  rw [txRoom, decide_eq_true_eq]
  omega

theorem roomFor_withdraw {n : Nat} {k : Kind} {c : Controller} (h : roomFor n c) : roomFor n (withdrawKind k c) := by
  have := length_withdraw (fun t => t.kind == some k) c
  have hle : (withdrawKind k c).line.tx.length ≤ c.line.tx.length := this
  rw [roomFor] at h ⊢
  omega

theorem offerRelease_waits {n : Nat} {o : PushOutcome} {c : Controller} (ha : isActive c = true) (hr : roomFor 1 c) :
    waitsInTx (releaseTelegram (ownNumber c) n o) (offerRelease n o c) :=
  waitsInTx_offer_of_room (c := withdrawKind .permit c) (by simpa [isActive] using ha) (roomFor_withdraw hr)

theorem offerPermit_waits {n code : Nat} {c : Controller} (ha : isActive c = true) (hr : roomFor 1 c) :
    waitsInTx (permitTelegram (ownNumber c) n code) (offerPermit n code c) :=
  waitsInTx_offer_of_room (c := withdrawKind .permit c) (by simpa [isActive] using ha) (roomFor_withdraw hr)

theorem offerHalt_waits {n : Nat} {c : Controller} (ha : isActive c = true) (hr : roomFor 1 c) :
    waitsInTx (haltTelegram (ownNumber c) n) (offerHalt n c) :=
  waitsInTx_offer_of_room (c := withdrawKind .permit c) (by simpa [isActive] using ha) (roomFor_withdraw hr)

/-! ## The PHASE of a change -/

/-- A PHASE tells the number, phase, minutes and inhibited flag of an oven. -/
theorem phaseTelegram_congr {n : Nat} {a b : Oven} (hn : a.number = b.number) (hp : a.phase = b.phase) (hm : a.minutes = b.minutes)
    (hi : a.inhibited = b.inhibited) : phaseTelegram n a = phaseTelegram n b := by
  rw [phaseTelegram, phaseTelegram, hn, hp, hm, hi]

/-- The PHASE of a change of phase waits where there was room (R17). -/
theorem setPhase_waits {i : Nat} {p : Phase} {o : Oven} {c : Controller} (ha : isActive c = true) (hr : roomFor 1 c)
    (ho : ovenAt c i = some o) : waitsInTx (phaseTelegram (ownNumber c) { o with phase := p }) (setPhase i p c) := by
  obtain ⟨m, hm⟩ : ∃ m, m = modifyOven i (fun o => ({ o with phase := p }).withStage (cfg c)) c := ⟨_, rfl⟩
  have hom : ovenAt m i = some (({ o with phase := p }).withStage (cfg c)) := by rw [hm, ovenAt_modifyOven_self, ho]; rfl
  have hset : (setPhase i p c).line = (queuePhase i m).line := by
    rw [setPhase, ← hm]
    simp
  have htel : phaseTelegram (ownNumber m) (({ o with phase := p }).withStage (cfg c)) = phaseTelegram (ownNumber c) { o with phase := p } := by
    rw [hm]
    exact phaseTelegram_congr rfl rfl rfl rfl
  rw [waitsInTx, hset, queuePhase_eq hom, htel]
  exact waitsInTx_offer_of_room (by rw [hm]; exact ha) (by rw [hm]; exact hr)

/-- A PHASE that finds no place is lost, and nothing is told (R17). -/
theorem notTaken_phase (n : Nat) (o : Oven) (c : Controller) : notTaken (phaseTelegram n o) c = c := rfl

/-- Outside ACTIVE a change of phase leaves the push job. -/
theorem setPhase_job_of_not_active {i : Nat} {p : Phase} {c : Controller} (ha : isActive c = false) : (setPhase i p c).job = c.job := by
  obtain ⟨m, hm⟩ : ∃ m, m = modifyOven i (fun o => ({ o with phase := p }).withStage (cfg c)) c := ⟨_, rfl⟩
  have hset : (setPhase i p c).job = (queuePhase i m).job := by
    rw [setPhase, ← hm]
    simp
  have hmactive : isActive m = false := by rw [hm]; exact ha
  rw [hset, queuePhase]
  split
  · rw [offer_of_not_active hmactive, notTaken_phase, hm]
    rfl
  · rw [hm]
    rfl

/-- A change of phase changes the oven records alone in the table. -/
theorem setPhase_table (i : Nat) (p : Phase) (c : Controller) :
    (setPhase i p c).table = { c.table with ovens := c.table.ovens.modify i (movedOven (cfg c) p (anyRemoved c i)) } :=
  (OnlyOffers.setPhase i p c).table

/-- The job in a state other than BIDDING keeps all but the release owed at a change of phase. -/
theorem setPhase_job {i : Nat} {p : Phase} {c : Controller} (h : c.job.state ≠ .bidding) :
    (setPhase i p c).job = { c.job with owed := (setPhase i p c).job.owed } :=
  (OnlyOffers.setPhase i p c).job_of_ne h

end Sys2Proof.Machine
end

section
/-! SUPPORT. The ends of a push job: the oven that leaves the job phases (R9), the RELEASE (R89, R92), and the abort (R93). -/

-- The lemmas are checked one after another, as the tests are.
set_option Elab.async false

namespace Sys2Proof.Machine

open Sys2Proof

/-! ## The oven leaves the job phases (R9) -/

theorem bothLatched_anyRemoved {c : Controller} {i : Nat} (h : bothLatched c i = true) : anyRemoved c i = false := by
  obtain ⟨h1, h2⟩ := Bool.and_eq_true_iff.mp h
  obtain ⟨s1, hs1, hl1⟩ := Option.any_eq_true _ _ |>.mp h1
  obtain ⟨s2, hs2, hl2⟩ := Option.any_eq_true _ _ |>.mp h2
  have hne {s : DoorState} (hl : s.latchedState = true) : s ≠ .removed := fun hs => by rw [hs] at hl; cases hl
  simp only [anyRemoved, hs1, hs2, Bool.or_eq_false_iff, beq_eq_false_iff_ne]
  exact ⟨fun hx => hne hl1 (Option.some.inj hx), fun hx => hne hl2 (Option.some.inj hx)⟩

theorem afterJob_of_kept {g : Config} {o : Oven} (h : phaseAfterJob o.phase = o.phase) : o.afterJob g = o := by
  cases hp : o.phase <;> simp_all [Oven.afterJob, phaseAfterJob]

theorem afterJob_of_moved {g : Config} {o : Oven} (h : phaseAfterJob o.phase ≠ o.phase) :
    movedOven g (phaseAfterJob o.phase) false o = o.afterJob g := by
  have hset : movedOven g (phaseAfterJob o.phase) false o = (({ o with phase := phaseAfterJob o.phase }).withStage g).enterMode g := rfl
  rw [hset]
  cases hp : o.phase
  case isolating => simp only [Oven.afterJob, hp]; rfl
  case isolated => simp only [Oven.afterJob, hp]; rfl
  case pushing => simp only [Oven.afterJob, hp]; rfl
  all_goals exact absurd (by rw [hp]; rfl) h

theorem settlePhase_eq {i : Nat} {o : Oven} {c : Controller} (ho : ovenAt c i = some o) :
    settlePhase i c = if phaseAfterJob o.phase = o.phase then c else setPhase i (phaseAfterJob o.phase) c := by
  have hp : phaseAt c i = some o.phase := by rw [phaseAt, ho]; rfl
  rw [settlePhase, hp]

/-- The oven records after the oven has left the job phases, no door of it REMOVED. -/
theorem settlePhase_ovenAt {i : Nat} {o : Oven} {c : Controller} (ho : ovenAt c i = some o) (hr : anyRemoved c i = false) :
    ovenAt (settlePhase i c) i = some (o.afterJob (cfg c)) ∧ ∀ j, j ≠ i → ovenAt (settlePhase i c) j = ovenAt c j := by
  rw [settlePhase_eq ho]
  split
  · next h => exact ⟨ho.trans (by rw [afterJob_of_kept h]), fun _ _ => rfl⟩
  · next h =>
    have hi : c.table.ovens[i]? = some o := ho
    simp only [ovenAt, setPhase_ovens, hr]
    refine ⟨?_, fun j hj => ?_⟩
    · rw [← afterJob_of_moved h]
      simp [hi]
    · simp [hj.symm]

theorem settlePhase_table (i : Nat) (c : Controller) :
    (settlePhase i c).table = { c.table with ovens := (settlePhase i c).table.ovens } := by
  unfold settlePhase
  split
  · split
    · rfl
    · rw [setPhase_table]
  · rfl

theorem settlePhase_job {i : Nat} {c : Controller} (h : c.job.state ≠ .bidding) :
    (settlePhase i c).job = { c.job with owed := (settlePhase i c).job.owed } := by
  unfold settlePhase
  split
  · split
    · rfl
    · exact setPhase_job h
  · rfl

theorem settlePhase_job_of_not_active {i : Nat} {c : Controller} (ha : isActive c = false) : (settlePhase i c).job = c.job := by
  unfold settlePhase
  split
  · split
    · rfl
    · exact setPhase_job_of_not_active ha
  · rfl

/-- The PHASE of an oven that leaves the job phases waits where there was room (R17). -/
theorem settlePhase_waits {i : Nat} {o : Oven} {c : Controller} (ha : isActive c = true) (hr : roomFor 1 c) (ho : ovenAt c i = some o)
    (hrem : anyRemoved c i = false) (hne : (o.afterJob (cfg c)).phase ≠ o.phase) :
    waitsInTx (phaseTelegram (ownNumber c) (o.afterJob (cfg c))) (settlePhase i c) := by
  rw [settlePhase_eq ho]
  split
  · next h => exact absurd (by rw [afterJob_of_kept h]) hne
  · next h =>
    have htel : phaseTelegram (ownNumber c) (o.afterJob (cfg c)) = phaseTelegram (ownNumber c) { o with phase := phaseAfterJob o.phase } := by
      obtain ⟨hnumber, hphase, hminutes, _, _, hinh, _⟩ := movedOven_keeps (cfg c) (phaseAfterJob o.phase) false o
      rw [← afterJob_of_moved h]
      exact phaseTelegram_congr hnumber hphase hminutes hinh
    rw [htel]
    exact setPhase_waits ha hr ho

/-! ## The RELEASE -/

theorem releaseTelegram_oven {src n : Nat} {out : PushOutcome} (h : n < 256) : (releaseTelegram src n out).oven = n := by
  simp only [Telegram.oven, Telegram.at, releaseTelegram, List.getD_cons_zero, BitVec.toNat_ofNat]
  omega

theorem releaseTelegram_outcome (src n : Nat) (out : PushOutcome) : outcomeOf ((releaseTelegram src n out).at 1) = out := by
  cases out <;> rfl

/-- Outside ACTIVE a RELEASE offered is owed (R92). -/
theorem offerRelease_owed {n : Nat} {out : PushOutcome} {c : Controller} (ha : isActive c = false) (hn : n < 256) :
    (offerRelease n out c).job.owed = some ⟨n, out⟩ := by
  have hactive : isActive (withdrawKind .permit c) = false := by simpa [isActive] using ha
  rw [offerRelease, offer_of_not_active hactive, ← releaseTelegram_oven (src := ownNumber c) (out := out) hn,
    ← releaseTelegram_outcome (ownNumber c) n out]
  simp only [releaseTelegram_oven hn, releaseTelegram_outcome]
  have hkind : (releaseTelegram (ownNumber c) n out).kind = some .release := rfl
  simp only [notTaken, hkind, releaseTelegram_oven hn, releaseTelegram_outcome]

theorem offerRelease_job {n : Nat} {out : PushOutcome} {c : Controller} (h : c.job.state ≠ .bidding) :
    (offerRelease n out c).job = { c.job with owed := (offerRelease n out c).job.owed } :=
  (OnlyOffers.offerRelease n out c).job_of_ne h

namespace NoneOf

variable {k : Kind} {c : Controller}

theorem setPhase (h : NoneOf k c) (i : Nat) (p : Phase) (hk : k ≠ .event) (hp : k ≠ .phase) : NoneOf k (setPhase i p c) := by
  refine NoneOf.congr (c := queuePhase i (modifyOven i (fun o => ({ o with phase := p }).withStage (cfg c)) c)) ?_ (by simp [Machine.setPhase])
  unfold queuePhase
  split
  · next o _ =>
    exact (h.congr (by simp)).offer (fun hx => hp (Option.some.inj hx).symm) hk
  · exact h.congr (by simp)

theorem settlePhase (h : NoneOf k c) (i : Nat) (hk : k ≠ .event) (hp : k ≠ .phase) : NoneOf k (settlePhase i c) := by
  unfold Machine.settlePhase
  split
  · split
    · exact h
    · exact h.setPhase _ _ hk hp
  · exact h

theorem offerRelease (n : Nat) (out : PushOutcome) (c : Controller) : NoneOf .permit (offerRelease n out c) :=
  (NoneOf.withdrawKind .permit c).offer (fun hx => by cases hx) (fun hx => by cases hx)

end NoneOf

/-! ## The end of the job -/

/-- b is c after some of a command's work, with at most m telegrams offered and nothing of the push job's end done: the station
and the door states are the same, and of the table only the record of the oven at index i, now o, may have changed. -/
structure JobBase (m i : Nat) (o : Oven) (c b : Controller) : Prop where
  keeps : QueueKeeps (fun _ => False) m c b
  start : b.start = c.start
  states : ∀ ch, doorAt b ch = doorAt c ch
  oven : ovenAt b i = some o
  others : ∀ j, j ≠ i → ovenAt b j = ovenAt c j
  table : b.table = { c.table with ovens := b.table.ovens }
  round : b.round = c.round
  held : b.held = c.held

namespace JobBase

variable {m i n : Nat} {o : Oven} {c b d : Controller}

theorem refl (ho : ovenAt c i = some o) : JobBase 0 i o c c :=
  ⟨.refl c, rfl, fun _ => rfl, ho, fun _ _ => rfl, rfl, rfl, rfl⟩

theorem anyRemoved (h : JobBase m i o c b) (j : Nat) : anyRemoved b j = Machine.anyRemoved c j := anyRemoved_of_doorAt h.states j

theorem bothLatched (h : JobBase m i o c b) (j : Nat) : bothLatched b j = Machine.bothLatched c j := by
  simp [Machine.bothLatched, h.states]

theorem cfg (h : JobBase m i o c b) : cfg b = Machine.cfg c := cfg_congr h.start

/-- Work that offers at most k telegrams more and touches neither the start-up record, nor the doors, the table, the round and the
held claim. -/
theorem next {k : Nat} (h : JobBase m i o c b) (hk : QueueKeeps (fun _ => False) k b d) (hs : d.start = b.start) (hd : d.doors = b.doors)
    (ht : d.table = b.table) (hr : d.round = b.round) (hh : d.held = b.held) : JobBase (m + k) i o c d where
  keeps := h.keeps.trans hk
  start := hs.trans h.start
  states ch := (doorAt_congr (by rw [hd]) ch).trans (h.states ch)
  oven := (ovenAt_congr (by rw [ht]) i).trans h.oven
  others j hj := (ovenAt_congr (by rw [ht]) j).trans (h.others j hj)
  table := by rw [ht]; exact h.table
  round := hr.trans h.round
  held := hh.trans h.held

theorem count (h : JobBase m i o c b) (k : EventKind) (first : Option Nat) : JobBase (m + 1) i o c (count k first b) :=
  h.next (.count k first b) (by simp) (by simp) (by simp) (by simp) (by simp)

theorem room {k : Nat} (h : JobBase m i o c b) (ha : isActive c = true) (hr : roomFor (m + k) c) : roomFor k b := h.keeps.room ha hr

end JobBase

/-- The job has ended once the oven has left the job phases, its telegrams wait, and the record is IDLE. -/
theorem JobEnds.of_settled {n i : Nat} {o : Oven} {out : PushOutcome} {c x : Controller}
    (hoven : ovenAt x i = some (o.afterJob (cfg c)))
    (hrelease : isActive c = true → roomFor 4 c → waitsInTx (releaseTelegram (ownNumber c) n out) x)
    (hphase : isActive c = true → roomFor 4 c → (o.afterJob (cfg c)).phase ≠ o.phase →
      waitsInTx (phaseTelegram (ownNumber c) (o.afterJob (cfg c))) x)
    (hactive : isActive x = isActive c) (howed : isActive c = false → n < 256 → x.job.owed = some ⟨n, out⟩) :
    JobEnds n i o out c (freePlace (idleJob x)) where
  job := by
    rw [freePlace_job]
    rfl
  oven := (ovenAt_congr (by rw [(OnlyOffers.freePlace _).table]; rfl) i).trans hoven
  release ha hr := waitsInTx_freePlace (c := idleJob x) (hrelease ha hr) (fun hx => by cases hx)
  phase ha hr hne := waitsInTx_freePlace (c := idleJob x) (hphase ha hr hne) (fun hx => by cases hx)
  owed ha hn := by
    rw [freePlace_of_not_active (c := idleJob x) (hactive.trans ha)]
    exact howed ha hn

/-- The end of an aborted job with no door off: the oven leaves the job phases, and then the RELEASE is offered (R93). -/
theorem JobEnds.of_abort {n i m : Nat} {o : Oven} {out : PushOutcome} {c b : Controller} (h : JobBase m i o c b) (hm : m ≤ 2)
    (hrem : anyRemoved c i = false) :
    JobEnds n i o out c (freePlace (idleJob (offerRelease n out (dropCall (settlePhase i b))))) := by
  have hbrem : anyRemoved b i = false := (h.anyRemoved i).trans hrem
  have hsettle : QueueKeeps (fun u => u.kind ≠ some .phase) 1 b (settlePhase i b) := .settlePhase (fun _ hu => hu) i b
  have hdrop : QueueKeeps (fun u => u.kind ≠ some .phase) 0 (settlePhase i b) (dropCall (settlePhase i b)) := .of_eq (by simp) (by simp)
  have hstart : (dropCall (settlePhase i b)).start = c.start := by simp [h.start]
  have hnumber : ownNumber (dropCall (settlePhase i b)) = ownNumber c := by
    rw [hdrop.ownNumber, hsettle.ownNumber, h.keeps.ownNumber]
  have hactive : isActive (dropCall (settlePhase i b)) = isActive c := by simp only [isActive, hstart]
  have hoven := (settlePhase_ovenAt h.oven hbrem).1
  rw [h.cfg] at hoven
  have hroom (ha : isActive c = true) (hr : roomFor 4 c) : roomFor 2 b := h.room ha (by rw [roomFor] at hr ⊢; omega)
  refine .of_settled ?_ (fun ha hr => ?_) (fun ha hr hne => ?_) ?_ (fun ha hn => ?_)
  · exact (ovenAt_congr (by simp) i).trans hoven
  · rw [← hnumber]
    exact offerRelease_waits (hactive.trans ha) ((hsettle.trans hdrop).room (h.keeps.active.trans ha) (m := 1) (hroom ha hr))
  · have hwait := settlePhase_waits (h.keeps.active.trans ha) (by have := hroom ha hr; rw [roomFor] at this ⊢; omega) h.oven hbrem
      (by rw [h.cfg]; exact hne)
    rw [h.cfg, h.keeps.ownNumber] at hwait
    have hkeep : QueueKeeps (fun u => u.kind ≠ some .permit) 1 (dropCall (settlePhase i b)) (offerRelease n out (dropCall (settlePhase i b))) :=
      .offerRelease (fun _ hu => hu) _ _ _
    refine hkeep.waits (hactive.trans ha) ((hsettle.trans hdrop).room (h.keeps.active.trans ha) (m := 1) (hroom ha hr))
      (fun hx => by cases hx) ?_
    rw [waitsInTx, show (dropCall (settlePhase i b)).line = (settlePhase i b).line by simp]
    exact hwait
  · simp [isActive, h.start]
  · exact offerRelease_owed (hactive.trans ha) hn

/-- Reclosing complete: the RELEASE is offered, and then the oven leaves the job phases (R89). -/
theorem JobEnds.of_reclosed {n i m : Nat} {o : Oven} {out : PushOutcome} {c b : Controller} (h : JobBase m i o c b) (hm : m ≤ 2)
    (hrem : anyRemoved c i = false) : JobEnds n i o out c (freePlace (idleJob (settlePhase i (offerRelease n out b)))) := by
  obtain ⟨x, hx⟩ : ∃ x, x = offerRelease n out b := ⟨_, rfl⟩
  have hbase : JobBase (m + 1) i o c x := by
    rw [hx]
    exact h.next (.offerRelease (fun _ hu => hu.elim) _ _ _) (by simp) (by simp) (by simp) (by simp) (by simp)
  have hsettle : QueueKeeps (fun u => u.kind ≠ some .phase) 1 x (settlePhase i x) := .settlePhase (fun _ hu => hu) i x
  have hxrem : anyRemoved x i = false := (hbase.anyRemoved i).trans hrem
  have hoven := (settlePhase_ovenAt hbase.oven hxrem).1
  rw [hbase.cfg] at hoven
  have hroom (ha : isActive c = true) (hr : roomFor 4 c) : roomFor 1 x := hbase.room ha (by rw [roomFor] at hr ⊢; omega)
  rw [← hx]
  refine .of_settled hoven (fun ha hr => ?_) (fun ha hr hne => ?_) ?_ (fun ha hn => ?_)
  · refine hsettle.waits (hbase.keeps.active.trans ha) (hroom ha hr) (fun hx => by cases hx) ?_
    rw [hx, ← h.keeps.ownNumber]
    exact offerRelease_waits (h.keeps.active.trans ha) (h.room ha (by rw [roomFor] at hr ⊢; omega))
  · have hwait := settlePhase_waits (hbase.keeps.active.trans ha) (hroom ha hr) hbase.oven hxrem (by rw [hbase.cfg]; exact hne)
    rwa [hbase.cfg, hbase.keeps.ownNumber] at hwait
  · rw [hsettle.active, hbase.keeps.active]
  · rw [settlePhase_job_of_not_active (hbase.keeps.active.trans ha), hx]
    exact offerRelease_owed (h.keeps.active.trans ha) hn

end Sys2Proof.Machine
end

section
/-! SUPPORT. The abort of a push job (R93), and what aborts it: the job limit, the hold timer and the late quench car. -/

-- The lemmas are checked one after another, as the tests are.
set_option Elab.async false

namespace Sys2Proof.Machine

open Sys2Proof

/-! ## Entry to RECLOSING (R89) -/

theorem reclosingEntered_job (c : Controller) :
    (reclosingEntered c).job = { c.job with
      state := .reclosing, holdSecs := 0, cause := none, permitOut := false, holdOut := false } := by
  simp [reclosingEntered, stopHold, enterJob, modifyJob, Job.enter]

/-- What the entry to RECLOSING leaves. -/
theorem reclosingEntered_frame (c : Controller) :
    (reclosingEntered c).doors = c.doors ∧ (reclosingEntered c).table = c.table ∧ (reclosingEntered c).round = c.round
      ∧ (reclosingEntered c).held = c.held ∧ (reclosingEntered c).reg = c.reg ∧ (reclosingEntered c).events = c.events
      ∧ (reclosingEntered c).line.rx = c.line.rx := by
  simp [reclosingEntered, stopHold, enterJob, modifyJob]

theorem QueueKeeps.reclosingEntered {P : Telegram → Prop} (hp : ∀ u, P u → u.kind ≠ some .permit) (c : Controller) :
    QueueKeeps P 0 c (reclosingEntered c) := by
  have hwith : QueueKeeps P 0 (stopHold (enterJob .reclosing c)) (Machine.withdrawKind .permit (stopHold (enterJob .reclosing c))) :=
    .withdrawKind hp _
  have henter : QueueKeeps P 0 c (stopHold (enterJob .reclosing c)) := .of_eq rfl rfl
  have hdrop (x : Controller) : QueueKeeps P 0 x (dropCall x) := .of_eq (by simp) (by simp)
  exact (henter.trans hwith).trans (hdrop _)

theorem NoneOf.reclosingEntered (c : Controller) : NoneOf .permit (reclosingEntered c) :=
  (NoneOf.withdrawKind .permit (stopHold (enterJob .reclosing c))).congr (by simp [Machine.reclosingEntered])

theorem jobIndex_congr {c d : Controller} (hs : d.start = c.start) (ho : d.job.oven = c.job.oven) : jobIndex d = jobIndex c := by
  have hindex : ovenIndex d = ovenIndex c := by
    funext n
    simp [ovenIndex, cfg_congr hs]
  rw [jobIndex, jobIndex, ho, hindex]

theorem jobIndex_eq {c : Controller} {n i : Nat} (hn : c.job.oven = some n) (hi : ovenIndex c n = some i) : jobIndex c = some i := by
  rw [jobIndex, hn]
  exact hi

theorem checkReclosing_reclosingEntered {c : Controller} {n i : Nat} (hn : c.job.oven = some n) (hi : jobIndex c = some i) :
    checkReclosing (reclosingEntered c) = if bothLatched c i then
      idleJob (settlePhase i (offerRelease n (if c.job.ended then .pushed else .aborted) (reclosingEntered c))) else reclosingEntered c := by
  have hjob := reclosingEntered_job c
  have hn' : (reclosingEntered c).job.oven = some n := by rw [hjob]; exact hn
  have hi' : jobIndex (reclosingEntered c) = some i := by
    rw [jobIndex_congr (reclosingEntered_start c).1 (by rw [hjob])]
    exact hi
  have hs : (reclosingEntered c).job.state = .reclosing := by rw [hjob]
  have hend : (reclosingEntered c).job.ended = c.job.ended := by rw [hjob]
  have hl : bothLatched (reclosingEntered c) i = bothLatched c i := by
    simp [bothLatched, doorAt_congr (congrArg DoorUnit.doors (reclosingEntered_frame c).1)]
  simp only [checkReclosing, hn', hi', hs, hl, true_and, completeReclosing, hend]

theorem NoneOf.idleJob {k : Kind} {c : Controller} (h : NoneOf k c) : NoneOf k (idleJob c) := h.congr rfl

theorem EventsStay.idleJob (c : Controller) : EventsStay c (idleJob c) := .of_eq rfl

theorem EventsStay.dropCall (c : Controller) : EventsStay c (dropCall c) := .of_eq (by simp)

theorem EventsStay.reclosingEntered (c : Controller) : EventsStay c (reclosingEntered c) := by
  obtain ⟨_, _, _, _, _, hevents, _⟩ := reclosingEntered_frame c
  exact .of_eq (by rw [hevents])

theorem idleJob_records (c : Controller) :
    (idleJob c).table = c.table ∧ (idleJob c).round = c.round ∧ (idleJob c).held = c.held ∧ (idleJob c).track = c.track :=
  ⟨rfl, rfl, rfl, rfl⟩

/-- The quench car's record and call stay when an oven leaves the job phases, but for CALL queued. -/
theorem settlePhase_step (i : Nat) (c : Controller) : (settlePhase i c).track.call.step = c.track.call.step := by
  unfold settlePhase
  split
  · split
    · rfl
    · rw [(OnlyOffers.setPhase i _ c).track]
      rfl
  · rfl

theorem offerRelease_step (n : Nat) (out : PushOutcome) (c : Controller) :
    (offerRelease n out c).track.call.step = c.track.call.step := by
  rw [(OnlyOffers.offerRelease n out c).track]

theorem reclosingEntered_step (c : Controller) : (reclosingEntered c).track.call.step = .none := dropCall_step _

/-! ## The abort (R93) -/

theorem abortJob_back {r : AbortReason} {n i : Nat} {b : Controller} (hn : b.job.oven = some n) (hi : jobIndex b = some i)
    (hs : b.job.state = .claimed ∨ b.job.state = .doors) (hr : anyRemoved b i = false) :
    abortJob r b = idleJob (offerRelease n .aborted (dropCall (settlePhase i (count .jobAborted (some r.code) b)))) := by
  obtain ⟨m, hm⟩ : ∃ m, m = count .jobAborted (some r.code) b := ⟨_, rfl⟩
  have hjob : m.job = b.job := by rw [hm]; simp
  have hi' : jobIndex m = some i := (jobIndex_congr (by rw [hm]; simp) (by rw [hjob])).trans hi
  have hr' : anyRemoved m i = false := by rw [anyRemoved_congr (c := b) (by rw [hm]; simp)]; exact hr
  have hcase : (m.job.state = .claimed ∨ m.job.state = .doors) ∧ anyRemoved m i = false := ⟨by rw [hjob]; exact hs, hr'⟩
  have hn' : m.job.oven = some n := by rw [hjob]; exact hn
  simp only [abortJob, ← hm, hn', hi']
  exact if_pos hcase

/-- The controller at which an aborted job enters RECLOSING: JOB ABORTED is counted, and from PERMITTED a HALT offered. -/
def abortCounted (r : AbortReason) (n : Nat) (b : Controller) : Controller :=
  if b.job.state = .permitted then offerHalt n (count .jobAborted (some r.code) b) else count .jobAborted (some r.code) b

theorem abortJob_recloses {r : AbortReason} {n i : Nat} {b : Controller} (hn : b.job.oven = some n) (hi : jobIndex b = some i)
    (hs : ¬ ((b.job.state = .claimed ∨ b.job.state = .doors) ∧ anyRemoved b i = false)) :
    abortJob r b = enterReclosing (abortCounted r n b) := by
  obtain ⟨m, hm⟩ : ∃ m, m = count .jobAborted (some r.code) b := ⟨_, rfl⟩
  have hjob : m.job = b.job := by rw [hm]; simp
  have hi' : jobIndex m = some i := (jobIndex_congr (by rw [hm]; simp) (by rw [hjob])).trans hi
  have hcase : ¬ ((m.job.state = .claimed ∨ m.job.state = .doors) ∧ anyRemoved m i = false) := by
    rw [hjob, anyRemoved_congr (c := b) (by rw [hm]; simp)]
    exact hs
  have hn' : m.job.oven = some n := by rw [hjob]; exact hn
  simp only [abortJob, abortCounted, ← hm, hn', hi']
  refine (if_neg hcase).trans ?_
  rw [hjob]
  exact (apply_ite enterReclosing _ _ _).symm

theorem abortCounted_job {r : AbortReason} {n : Nat} {b : Controller} (hs : b.job.state ≠ .bidding) :
    (abortCounted r n b).job = { b.job with owed := (abortCounted r n b).job.owed } := by
  have hcount : (count .jobAborted (some r.code) b).job = b.job := by simp
  unfold abortCounted
  split
  · have := (OnlyOffers.offerHalt n (count .jobAborted (some r.code) b)).job_of_ne (by rw [hcount]; exact hs)
    rwa [hcount] at this
  · rw [hcount]

theorem JobBase.abortCounted {m i : Nat} {o : Oven} {c b : Controller} (h : JobBase m i o c b) (r : AbortReason) (n : Nat) :
    JobBase (m + if b.job.state = .permitted then 2 else 1) i o c (abortCounted r n b) := by
  have hcount := h.count .jobAborted (some r.code)
  unfold Machine.abortCounted
  split
  · exact hcount.next (k := 1) (.offerHalt (fun _ hu => hu.elim) _ _) (by simp) (by simp) (by simp) (by simp) (by simp)
  · exact hcount

theorem abortCounted_stays (r : AbortReason) (n : Nat) (b : Controller) :
    EventsStay (count .jobAborted (some r.code) b) (abortCounted r n b) := by
  unfold abortCounted
  exact .ite (fun _ => .offerHalt _ _) fun _ => .refl _

/-- What an abort does, by whether the job ends at once, waits in RECLOSING, or is reclosed at once. -/
inductive AbortCase (r : AbortReason) (n i : Nat) (b : Controller) : Controller → Prop where
  | back (hs : b.job.state = .claimed ∨ b.job.state = .doors) (hr : anyRemoved b i = false) :
    AbortCase r n i b (idleJob (offerRelease n .aborted (dropCall (settlePhase i (count .jobAborted (some r.code) b)))))
  | waits (hs : ¬ ((b.job.state = .claimed ∨ b.job.state = .doors) ∧ anyRemoved b i = false)) (hl : bothLatched b i = false) :
    AbortCase r n i b (reclosingEntered (abortCounted r n b))
  | atOnce (hs : ¬ ((b.job.state = .claimed ∨ b.job.state = .doors) ∧ anyRemoved b i = false)) (hl : bothLatched b i = true) :
    AbortCase r n i b (idleJob (settlePhase i (offerRelease n (if b.job.ended then .pushed else .aborted)
      (reclosingEntered (abortCounted r n b)))))

theorem abortJob_case {r : AbortReason} {n i : Nat} {b : Controller} (hn : b.job.oven = some n) (hi : jobIndex b = some i)
    (hs : b.job.state ≠ .bidding) : AbortCase r n i b (abortJob r b) := by
  by_cases hcase : (b.job.state = .claimed ∨ b.job.state = .doors) ∧ anyRemoved b i = false
  · rw [abortJob_back hn hi hcase.1 hcase.2]
    exact .back hcase.1 hcase.2
  · have hjob := abortCounted_job (r := r) (n := n) hs
    have hstart : (abortCounted r n b).start = b.start := by
      unfold abortCounted
      split <;> simp
    have hdoors : (abortCounted r n b).doors = b.doors := by
      unfold abortCounted
      split <;> simp
    have hl : bothLatched (abortCounted r n b) i = bothLatched b i := by
      simp [bothLatched, doorAt_congr (congrArg DoorUnit.doors hdoors)]
    rw [abortJob_recloses hn hi hcase, enterReclosing_eq,
      checkReclosing_reclosingEntered (n := n) (i := i) (by rw [hjob]; exact hn)
        ((jobIndex_congr hstart (by rw [hjob])).trans hi), hl, show (abortCounted r n b).job.ended = b.job.ended by rw [hjob]]
    split
    · next hlatched => exact .atOnce hcase hlatched
    · next hopen => exact .waits hcase (by simpa using hopen)

/-- After an abort no event but JOB ABORTED and TX DROPPED has been counted, the call is dropped, and no PERMIT stands in the queue. -/
theorem AbortCase.effects {r : AbortReason} {n i : Nat} {b d : Controller} (h : AbortCase r n i b d) :
    EventsStay (count .jobAborted (some r.code) b) d ∧ d.track.call.step = .none ∧ NoneOf .permit d := by
  cases h with
  | back hs hr =>
    refine ⟨?_, ?_, (NoneOf.offerRelease n .aborted _).idleJob⟩
    · exact (EventsStay.settlePhase i _).trans ((EventsStay.dropCall _).trans ((EventsStay.offerRelease n .aborted _).trans (.idleJob _)))
    · rw [(idleJob_records _).2.2.2, offerRelease_step, dropCall_step]
  | waits hs hl =>
    exact ⟨(abortCounted_stays r n b).trans (.reclosingEntered _), reclosingEntered_step _, .reclosingEntered _⟩
  | atOnce hs hl =>
    generalize (if b.job.ended then PushOutcome.pushed else .aborted) = out
    refine ⟨?_, ?_, ((NoneOf.offerRelease n out _).settlePhase i (fun hx => by cases hx) (fun hx => by cases hx)).idleJob⟩
    · exact (abortCounted_stays r n b).trans ((EventsStay.reclosingEntered _).trans
        ((EventsStay.offerRelease n out _).trans ((EventsStay.settlePhase i _).trans (.idleJob _))))
    · rw [(idleJob_records _).2.2.2, settlePhase_step, offerRelease_step, reclosingEntered_step]

/-- The oven that leaves the job phases is the only one to change. -/
theorem JobBase.settled {m i : Nat} {o : Oven} {c b : Controller} (h : JobBase m i o c b) (hr : Machine.anyRemoved b i = false) :
    (∀ j, j ≠ i → ovenAt (settlePhase i b) j = ovenAt c j)
      ∧ (settlePhase i b).table = { c.table with ovens := (settlePhase i b).table.ovens } := by
  obtain ⟨_, hothers⟩ := settlePhase_ovenAt h.oven hr
  refine ⟨fun j hj => (hothers j hj).trans (h.others j hj), ?_⟩
  rw [settlePhase_table, h.table]

theorem JobBase.reclosingEntered {m i : Nat} {o : Oven} {c b : Controller} (h : JobBase m i o c b) :
    JobBase m i o c (reclosingEntered b) := by
  obtain ⟨hdoors, htable, hround, hheld, _⟩ := reclosingEntered_frame b
  exact h.next (k := 0) (.reclosingEntered (fun _ hu => hu.elim) _) (reclosingEntered_start _).1 hdoors htable hround hheld

theorem JobBase.offerRelease {m i : Nat} {o : Oven} {c b : Controller} (h : JobBase m i o c b) (n : Nat) (out : PushOutcome) :
    JobBase (m + 1) i o c (offerRelease n out b) :=
  h.next (.offerRelease (fun _ hu => hu.elim) _ _ _) (by simp) (by simp) (by simp) (by simp) (by simp)

/-- After an abort the other ovens, the round and the held claim stand as they stood. -/
theorem AbortCase.leaves {r : AbortReason} {n i m : Nat} {o : Oven} {c b d : Controller} (h : AbortCase r n i b d) (hb : JobBase m i o c b) :
    (∀ j, j ≠ i → ovenAt d j = ovenAt c j) ∧ d.table = { c.table with ovens := d.table.ovens } ∧ d.round = c.round ∧ d.held = c.held := by
  cases h with
  | back hs hr =>
    obtain ⟨x, hx⟩ : ∃ x, x = count .jobAborted (some r.code) b := ⟨_, rfl⟩
    have hcount : JobBase (m + 1) i o c x := hx ▸ hb.count .jobAborted (some r.code)
    have hrem : anyRemoved x i = false := by
      rw [hcount.anyRemoved, ← hb.anyRemoved]
      exact hr
    obtain ⟨hothers, htable⟩ := hcount.settled hrem
    rw [← hx]
    obtain ⟨hsame, hround, hheld, _⟩ := idleJob_records (offerRelease n .aborted (dropCall (settlePhase i x)))
    have hsame : (idleJob (offerRelease n .aborted (dropCall (settlePhase i x)))).table = (settlePhase i x).table := by
      rw [hsame]
      simp
    refine ⟨fun j hj => (ovenAt_congr (by rw [hsame]) j).trans (hothers j hj), by rw [hsame]; exact htable, ?_, ?_⟩
    · rw [hround, ← hcount.round]
      simp
    · rw [hheld, ← hcount.held]
      simp
  | waits hs hl =>
    have hbase := (hb.abortCounted r n).reclosingEntered
    exact ⟨hbase.others, hbase.table, hbase.round, hbase.held⟩
  | atOnce hs hl =>
    generalize (if b.job.ended then PushOutcome.pushed else .aborted) = out
    have hbase := (hb.abortCounted r n).reclosingEntered.offerRelease n out
    generalize Machine.offerRelease n out (Machine.reclosingEntered (Machine.abortCounted r n b)) = x at hbase
    have hrem : anyRemoved x i = false := by
      rw [hbase.anyRemoved, ← hb.anyRemoved]
      exact bothLatched_anyRemoved hl
    obtain ⟨hothers, htable⟩ := hbase.settled hrem
    refine ⟨hothers, htable, ?_, ?_⟩
    · rw [(idleJob_records _).2.1, ← hbase.round]
      simp
    · rw [(idleJob_records _).2.2.1, ← hbase.held]
      simp

/-- An abort that the work before it has left the queue room for. -/
theorem AbortsJob.of_base {r : AbortReason} {n i m : Nat} {o : Oven} {c b : Controller} (hb : JobBase m i o c b) (hm : m ≤ 1)
    (hjob : b.job = { c.job with owed := b.job.owed }) (hn : c.job.oven = some n) (hi : ovenIndex c n = some i)
    (hs : c.job.state ≠ .bidding) (hroom : c.job.state = .permitted → bothLatched c i = true → m = 0)
    (h24 : b.events.entry 24 = c.events.entry 24) (ht : thirtyEntries b) :
    AbortsJob r.code n i o c (freePlace (abortJob r b)) := by
  have hstate : b.job.state = c.job.state := by rw [hjob]
  have hended : b.job.ended = c.job.ended := by rw [hjob]
  have hbi : jobIndex b = some i := (jobIndex_congr hb.start (by rw [hjob])).trans (jobIndex_eq hn hi)
  have hcase : AbortCase r n i b (abortJob r b) := abortJob_case (by rw [hjob]; exact hn) hbi (by rw [hstate]; exact hs)
  generalize abortJob r b = x at hcase ⊢
  obtain ⟨hstays, hcall, hpermit⟩ := hcase.effects
  obtain ⟨hothers, htable, hround, hheld⟩ := hcase.leaves hb
  have hfree := OnlyOffers.freePlace x
  have hentry : (freePlace x).events.entry 24 = EventEntry.raised (some r.code) (c.events.entry 24) := by
    have hcount := entry_count (k := .jobAborted) (first := some r.code) ht
    rw [EventTable.entry, freePlace_entries, ← EventTable.entry, hstays.entry 24 (by decide) (by decide)]
    exact hcount.trans (by rw [← h24]; rfl)
  have hrem := hb.anyRemoved i
  have hlatched := hb.bothLatched i
  refine ⟨?_, fun hfirst => ?_, ?_, hpermit.freePlace (fun hx => by cases hx) (fun hx => by cases hx), fun j hj => ?_, ?_, ?_, ?_,
    fun hstate' hr => ?_, fun hnot hl => ?_, fun h1 h2 hl => ?_⟩
  · rw [countedOnce, hentry]
    rfl
  · rw [hentry]
    simp [EventEntry.raised, hfirst]
  · rw [hfree.track]
    exact hcall
  · exact (ovenAt_congr (by rw [hfree.table]) j).trans (hothers j hj)
  · rw [hfree.table]
    exact htable
  · rw [hfree.round, hround]
  · rw [hfree.held, hheld]
  · have hback : (b.job.state = .claimed ∨ b.job.state = .doors) ∧ anyRemoved b i = false := ⟨by rw [hstate]; exact hstate', hrem.trans hr⟩
    cases hcase with
    | back => exact .of_abort (hb.count .jobAborted (some r.code)) (by omega) hr
    | waits hs' => exact absurd hback hs'
    | atOnce hs' => exact absurd hback hs'
  · cases hcase with
    | back hs' hr => exact absurd ⟨by rw [← hstate]; exact hs', hrem.symm.trans hr⟩ hnot
    | atOnce hs' hl' => exact absurd (hl'.symm.trans (hlatched.trans hl)) (by decide)
    | waits hs' hl' =>
      have hcounted := abortCounted_job (r := r) (n := n) (b := b) (by rw [hstate]; exact hs)
      refine ⟨?_, ?_⟩
      · rw [freePlace_job, reclosingEntered_job, hcounted, hjob]
      · exact (ovenAt_congr (by rw [hfree.table]) i).trans (hb.abortCounted r n).reclosingEntered.oven
  · cases hcase with
    | back hs' hr => exact (hs'.elim (fun hx => h1 (hstate ▸ hx)) fun hx => h2 (hstate ▸ hx)).elim
    | waits hs' hl' => exact absurd (hl'.symm.trans (hlatched.trans hl)) (by decide)
    | atOnce hs' hl' =>
      rw [hended]
      refine .of_reclosed (hb.abortCounted r n).reclosingEntered ?_ (bothLatched_anyRemoved hl)
      split
      · next hp => have := hroom (hstate ▸ hp) hl; omega
      · omega

end Sys2Proof.Machine
end

section
/-! SUPPORT. What aborts a push job: the job limit, the hold timer, the late quench car and the supervisory HALT. -/

-- The lemmas are checked one after another, as the tests are.
set_option Elab.async false

namespace Sys2Proof.Machine

open Sys2Proof

/-! ## The oven of an aborted job -/

theorem afterJob_minutes (g : Config) (o : Oven) : (o.afterJob g).minutes = o.minutes := by
  unfold Oven.afterJob
  dsimp only
  split <;> rfl

theorem afterJob_phase (g : Config) (o : Oven) : (o.afterJob g).phase = phaseAfterJob o.phase := by
  cases hp : o.phase <;> simp only [Oven.afterJob, phaseAfterJob, hp]

theorem JobBase.of_due {i : Nat} {o : Oven} {c b : Controller} (ho : ovenAt c i = some o) (hs : b.start = c.start) (hl : b.line = c.line)
    (hd : b.doors = c.doors) (ht : b.table = c.table) (hr : b.round = c.round) (hh : b.held = c.held) : JobBase 0 i o c b :=
  (JobBase.refl ho).next (k := 0) (.of_eq (by rw [hs]) hl) hs hd ht hr hh

/-- The oven of an aborted job is as it was, or has left the job phases. -/
theorem AbortsJob.ovenCase {code n i : Nat} {o : Oven} {c d : Controller} (h : AbortsJob code n i o c d) :
    ovenAt d i = some o ∨ ovenAt d i = some (o.afterJob (cfg c)) := by
  by_cases hback : (c.job.state = .claimed ∨ c.job.state = .doors) ∧ anyRemoved c i = false
  · exact .inr (h.back hback.1 hback.2).oven
  · cases hl : bothLatched c i with
    | false => exact .inl (h.waits hback hl).2
    | true =>
      have hrem := bothLatched_anyRemoved hl
      refine .inr (h.atOnce (fun hs => hback ⟨.inl hs, hrem⟩) (fun hs => hback ⟨.inr hs, hrem⟩) hl).oven

/-! ## The hold timer -/

/-- An abort that waits in RECLOSING, from a state other than PERMITTED. -/
theorem abortJob_waits {r : AbortReason} {n i : Nat} {b : Controller} (hn : b.job.oven = some n) (hi : jobIndex b = some i)
    (hs : b.job.state = .held) (hl : bothLatched b i = false) :
    abortJob r b = reclosingEntered (count .jobAborted (some r.code) b) := by
  have hno : ¬ ((b.job.state = .claimed ∨ b.job.state = .doors) ∧ anyRemoved b i = false) := by
    rw [hs]
    exact fun h => h.1.elim (fun hx => by cases hx) fun hx => by cases hx
  have hcounted : abortCounted r n b = count .jobAborted (some r.code) b := if_neg (by rw [hs]; exact fun hx => by cases hx)
  have hl' : bothLatched (count .jobAborted (some r.code) b) i = false := by
    rw [← hl]
    simp [bothLatched, doorAt]
  rw [abortJob_recloses hn hi hno, enterReclosing_eq, hcounted,
    checkReclosing_reclosingEntered (n := n) (i := i) (by simpa using hn) ((jobIndex_congr (by simp) (by simp)).trans hi), hl']
  rfl

theorem reclosingEntered_holdTimer (c : Controller) : (reclosingEntered c).due.holdTimer = false := by
  have hdrop (x : Controller) (h : x.due.holdTimer = false) : (dropCall x).due.holdTimer = false := by
    unfold dropCall
    split <;> exact h
  exact hdrop _ (by simp [stopHold])

/-- Settles O19: the two timers find their job in a state they abort. -/
theorem timersAbortJob : Obligations.TimersAbortJob := by
  refine ⟨fun q c n i o hp hdue hact hstate hlimit hn hi ho hthirty hroom => ?_,
    fun q c n i hp hdue hreceiving hheld hn hi hl hthirty => ?_⟩
  · obtain ⟨b, hb⟩ : ∃ b, b = modifyDue (fun d => { d with jobLimit := false }) c := ⟨_, rfl⟩
    have hstep : exec .jobLimitReached ⟨q, c⟩ = .next ⟨q, freePlace (abortJob .jobLimit b)⟩ := by
      have hgo : (receiving b && beforePermit b.job.state && decide ((cfg b).jobLimit ≤ b.job.minutes)) = true := by
        have hr : receiving b = true := by
          rw [hb]
          simp only [isActive, beq_iff_eq] at hact
          simp [receiving, hact]
        have hs : beforePermit b.job.state = true := by
          rw [hb]
          have : c.job.state = .claimed ∨ c.job.state = .doors ∨ c.job.state = .staged := hstate
          simp only [modifyDue]
          obtain h | h | h := this <;> rw [h] <;> rfl
        rw [hr, hs, decide_eq_true (by rw [hb]; exact hlimit)]
        rfl
      have hreached : jobLimitReached b = abortJob .jobLimit b := if_pos hgo
      rw [← hreached, hb]
      exact event_takeDue (due := fun c => c.due.jobLimit) hp hdue
    have hbase : JobBase 0 i o c b := by
      rw [hb]
      exact .of_due ho rfl rfl rfl rfl rfl rfl
    have haborts : AbortsJob 2 n i o c (freePlace (abortJob .jobLimit b)) := by
      refine .of_base (r := .jobLimit) hbase (by omega) (by rw [hb]; rfl) hn hi ?_ (fun _ _ => rfl) (by rw [hb]; rfl)
        (by rw [hb]; exact hthirty)
      obtain h | h | h := hstate <;> rw [h] <;> exact fun hx => by cases hx
    have hdoors : (freePlace (abortJob .jobLimit b)).doors = c.doors := by
      have : (freePlace (abortJob .jobLimit b)).doors = b.doors := by simp
      rw [this, hb]
      rfl
    have hminutes : ∃ o', ovenAt (freePlace (abortJob .jobLimit b)) i = some o' ∧ o'.minutes = o.minutes := by
      obtain h | h := haborts.ovenCase
      · exact ⟨_, h, rfl⟩
      · exact ⟨_, h, afterJob_minutes _ _⟩
    obtain ⟨o', ho', hm⟩ := hminutes
    refine ⟨_, o', hstep, ho', haborts.counted, haborts.reason, haborts.others, hm, haborts.call, hdoors, haborts.held, haborts.round,
      fun hns hrem => ?_, fun hcase hl => ?_⟩
    · have hends := haborts.back (by
        obtain h | h | h := hstate
        · exact .inl h
        · exact .inr h
        · exact absurd h hns) hrem
      have hafter : o' = o.afterJob (cfg c) := Option.some.inj (ho'.symm.trans hends.oven)
      refine ⟨by rw [hends.job]; rfl, by rw [hends.job]; rfl, hends.release hact hroom, fun hph => ?_, fun hph => ?_⟩
      · rw [hafter, afterJob_phase]
        obtain h | h := hph <;> rw [h] <;> rfl
      · rw [hafter, afterJob_phase]
        obtain h | h := hph <;> rw [h] <;> rfl
    · have hnot : ¬ ((c.job.state = .claimed ∨ c.job.state = .doors) ∧ anyRemoved c i = false) := fun ⟨hs, hr⟩ => by
        obtain h | h := hcase
        · rw [h] at hs
          exact hs.elim (fun hx => by cases hx) fun hx => by cases hx
        · rw [hr] at h
          cases h
      obtain ⟨hjob, hoven⟩ := haborts.waits hnot hl
      have hsame : o' = o := Option.some.inj (ho'.symm.trans hoven)
      rw [hjob]
      exact ⟨rfl, hn, rfl, rfl, rfl, rfl, hsame⟩
  · obtain ⟨b, hb⟩ : ∃ b, b = modifyDue (fun d => { d with holdTimer := false }) c := ⟨_, rfl⟩
    obtain ⟨r, hr⟩ : ∃ r : AbortReason, r = if c.job.cause = some .supervisory then .supervisoryHalt else .holdLimit := ⟨_, rfl⟩
    have hbi : jobIndex b = some i := by
      rw [hb]
      exact jobIndex_eq hn hi
    have hbl : bothLatched b i = false := by rw [hb]; exact hl
    have hwaits : abortJob r b = reclosingEntered (count .jobAborted (some r.code) b) :=
      abortJob_waits (by rw [hb]; exact hn) hbi (by rw [hb]; exact hheld) hbl
    have hstep : exec .holdTimerExpiry ⟨q, c⟩ = .next ⟨q, freePlace (reclosingEntered (count .jobAborted (some r.code) b))⟩ := by
      have hgo : (receiving b && b.job.state == .held) = true := by
        have h1 : receiving b = true := by rw [hb]; exact hreceiving
        have h2 : b.job.state = .held := by rw [hb]; exact hheld
        rw [h1, h2]
        rfl
      have hexpires : holdExpires b = abortJob r b := by
        rw [hr, hb]
        exact if_pos (hb ▸ hgo)
      rw [← hwaits, ← hexpires, hb]
      exact event_takeDue (due := fun c => c.due.holdTimer) hp hdue
    obtain ⟨hdoors, htable, hround, hheld', hreg, hevents, _⟩ := reclosingEntered_frame (count .jobAborted (some r.code) b)
    have hstays : EventsStay (count .jobAborted (some r.code) b) (freePlace (reclosingEntered (count .jobAborted (some r.code) b))) :=
      (EventsStay.reclosingEntered _).trans (.freePlace _)
    have hfree := OnlyOffers.freePlace (reclosingEntered (count .jobAborted (some r.code) b))
    have hbevents : b.events.entries = c.events.entries := by rw [hb]; rfl
    refine ⟨_, hstep, countedOnce_of_stays (k := .jobAborted) hstays (.of_eq hbevents) (by decide) hthirty, fun hfirst => ?_, ?_, ?_, ?_, ?_,
      ?_, ?_, ?_, ?_⟩
    · refine (first_of_stays (k := .jobAborted) hstays (.of_eq hbevents) (by decide) hthirty hfirst).trans ?_
      rw [hr]
      split <;> rfl
    · rw [freePlace_job, reclosingEntered_job, show (count .jobAborted (some r.code) b).job = b.job by simp, hb]
      rfl
    · rw [hfree.track]
      exact reclosingEntered_step _
    · rw [hfree.table, htable, show (count .jobAborted (some r.code) b).table = b.table by simp, hb]
      rfl
    · rw [hfree.doors, hdoors, show (count .jobAborted (some r.code) b).doors = b.doors by simp, hb]
      rfl
    · rw [hfree.held, hheld', show (count .jobAborted (some r.code) b).held = b.held by simp, hb]
      rfl
    · rw [hfree.round, hround, show (count .jobAborted (some r.code) b).round = b.round by simp, hb]
      rfl
    · rw [freePlace_reg, hreg, show (count .jobAborted (some r.code) b).reg = b.reg by simp, hb]
      rfl
    · rw [hfree.due]
      exact reclosingEntered_holdTimer _

/-! ## The late quench car (R97, R111) -/

/-- In the other states an evaluation changes nothing (R81). -/
theorem evaluate_eq_self {c : Controller} (h1 : c.job.state ≠ .staged) (h2 : c.job.state ≠ .permitted) (h3 : c.job.state ≠ .pushing)
    (h4 : c.job.state ≠ .held) : evaluate c = c := by
  unfold evaluate
  split
  · split
    · unfold evaluateFor
      split <;> first | rfl | contradiction
    · rfl
  · rfl

/-- Settles O23: the first expiry counts, the second ends the call and may abort. -/
theorem travelTimerExpires : Obligations.TravelTimerExpires := by
  intro q c hp hdue hsent hthirty
  obtain ⟨b, hb⟩ : ∃ b, b = modifyDue (fun d => { d with travelTimer := false }) c := ⟨_, rfl⟩
  have hstep : exec .travelTimerExpiry ⟨q, c⟩ = .next ⟨q, freePlace (travelExpires b)⟩ := by
    rw [hb]
    exact event_takeDue (due := fun c => c.due.travelTimer) hp hdue
  have hbsent : b.track.call.step = .sent := by rw [hb]; exact hsent
  refine ⟨fun hfirst => ?_, fun hsecond hbefore => ?_, fun n i o hsecond hr hn hi ho hstate => ?_⟩
  · have hbfirst : b.track.call.expiries = 0 := by rw [hb]; exact hfirst
    rw [travelExpires, if_pos hbsent, if_pos hbfirst] at hstep
    obtain ⟨d, hd, hcount, hoff⟩ := counted_of_step (c := c) hstep (by rw [hb]; rfl) (by decide) hthirty
    refine ⟨d, hd, hcount, ?_⟩
    rw [hb] at hoff
    exact hoff
  · have hbsecond : ¬ b.track.call.expiries = 0 := by rw [hb]; exact hsecond
    have hlate : jobOnLateCar (modifyCall Call.ended b) = modifyCall Call.ended b := by
      have hno : (jobRuns (modifyCall Call.ended b) && beforePermit (modifyCall Call.ended b).job.state) = false := by
        rw [show beforePermit (modifyCall Call.ended b).job.state = false by rw [hb]; exact hbefore, Bool.and_false]
      rw [jobOnLateCar, hno, if_neg (by decide)]
    rw [travelExpires, if_pos hbsent, if_neg hbsecond, hlate] at hstep
    refine ⟨_, hstep, ?_⟩
    have hfree := OnlyOffers.freePlace (modifyCall Call.ended b)
    rw [hb] at hfree ⊢
    exact hfree
  · have hbsecond : ¬ b.track.call.expiries = 0 := by rw [hb]; exact hsecond
    obtain ⟨m, hm⟩ : ∃ m, m = modifyCall Call.ended b := ⟨_, rfl⟩
    have hlate : jobOnLateCar m = abortJob .qcarLate m := by
      have hgo : (jobRuns m && beforePermit m.job.state) = true := by
        have h1 : jobRuns m = true := by rw [hm, hb]; exact hr
        have h2 : m.job.state = c.job.state := by rw [hm, hb]; rfl
        rw [h1, h2]
        obtain h | h | h := hstate <;> rw [h] <;> rfl
      rw [jobOnLateCar, if_pos hgo]
    rw [travelExpires, if_pos hbsent, if_neg hbsecond, ← hm, hlate] at hstep
    have hbase : JobBase 0 i o c m := by
      rw [hm, hb]
      exact .of_due ho rfl rfl rfl rfl rfl rfl
    have hs : c.job.state ≠ .bidding := by obtain h | h | h := hstate <;> rw [h] <;> exact fun hx => by cases hx
    have hmi : jobIndex m = some i := by
      rw [hm, hb]
      exact jobIndex_eq hn hi
    have hcase : AbortCase .qcarLate n i m (abortJob .qcarLate m) :=
      abortJob_case (by rw [hm, hb]; exact hn) hmi (by rw [hm, hb]; exact hs)
    refine ⟨_, hstep, .of_base (r := .qcarLate) hbase (by omega) (by rw [hm, hb]; rfl) hn hi hs (fun _ _ => rfl) (by rw [hm, hb]; rfl)
      (by rw [hm, hb]; exact hthirty), ?_, ?_⟩
    · have hdoors : (freePlace (abortJob .qcarLate m)).doors = m.doors := by simp
      rw [hdoors, hm, hb]
      rfl
    · have hstays := hcase.effects.1.entry 23 (by decide) (by decide)
      rw [EventTable.entry, freePlace_entries, ← EventTable.entry, hstays, entry_count_ne (by decide) (by decide), hm, hb]
      rfl

end Sys2Proof.Machine
end

section
/-! SUPPORT. The evaluation of the permit conditions: permit, hold and resume (R81, R84, R85, R87). -/

-- The lemmas are checked one after another, as the tests are.
set_option Elab.async false

namespace Sys2Proof.Machine

open Sys2Proof

/-- Where telegrams were at most offered, a change of the job record that passes by the release owed keeps it so. -/
theorem OnlyOffers.modifyJob {c d : Controller} {f : Job → Job} (h : OnlyOffers c d) (hs : c.job.state ≠ .bidding)
    (hf : ∀ j w, f { j with owed := w } = { f j with owed := w }) : OnlyOffers (modifyJob f c) (modifyJob f d) :=
  { h with
    job := .inl (by
      have hj := h.job_of_ne hs
      show f d.job = { f c.job with owed := (f d.job).owed }
      rw [hj, hf]) }

/-! ## Hold (R84, R87) -/

/-- The job record of a push that is held. -/
def heldJob (cause : HoldCause) (j : Job) : Job :=
  { j with state := .held, holdSecs := 0, cause := some cause, permitOut := false, holdOut := true }

/-- The controller at which PUSH HELD is counted: a hold for a condition has offered its HALT. -/
def holdOffered (cause : HoldCause) (n : Nat) (c : Controller) : Controller :=
  if cause = .condition then offerHalt n (stopHold c) else stopHold c

theorem holdPush_eq (cause : HoldCause) (n : Nat) (c : Controller) :
    holdPush cause n c = count .pushHeld (some n) (modifyJob (heldJob cause) (holdOffered cause n c)) := rfl

theorem holdOffered_offers (cause : HoldCause) (n : Nat) (c : Controller) : OnlyOffers (stopHold c) (holdOffered cause n c) := by
  unfold holdOffered
  split
  · exact .offerHalt n _
  · exact .refl _

theorem holdOffered_stays (cause : HoldCause) (n : Nat) (c : Controller) : EventsStay c (holdOffered cause n c) := by
  unfold holdOffered
  exact .ite (fun _ => EventsStay.trans (c := stopHold c) (.of_eq rfl) (.offerHalt n (stopHold c))) fun _ => .of_eq rfl

/-- What a hold does: the record is HELD with its outputs, telegrams are offered, and PUSH HELD is counted. -/
theorem holdPush_offers {c : Controller} (cause : HoldCause) (n : Nat) (hs : c.job.state ≠ .bidding) :
    OnlyOffers { c with job := heldJob cause c.job, due := { c.due with holdTimer := false } } (holdPush cause n c) := by
  rw [holdPush_eq]
  exact ((holdOffered_offers cause n c).modifyJob (f := heldJob cause) hs fun _ _ => rfl).trans (.count _ _ _)

theorem holdPush_counted {c e : Controller} (cause : HoldCause) (n : Nat) (ht : thirtyEntries c)
    (he : EventsStay (holdPush cause n c) e) : countedOnce 25 c e := by
  rw [holdPush_eq] at he
  exact countedOnce_of_stays (k := .pushHeld) he ((holdOffered_stays cause n c).trans (.of_eq rfl)) (by decide) ht

/-- A hold for a condition puts its HALT in the queue (R84). -/
theorem holdPush_waits {c : Controller} (n : Nat) (ha : isActive c = true) (hr : roomFor 2 c) :
    waitsInTx (haltTelegram (ownNumber c) n) (holdPush .condition n c) := by
  rw [holdPush_eq]
  have hwait : waitsInTx (haltTelegram (ownNumber c) n) (holdOffered .condition n c) :=
    offerHalt_waits (c := stopHold c) ha (by rw [roomFor] at hr ⊢; exact Nat.le_of_succ_le hr)
  exact mem_count _ _ hwait

theorem NoneOf.holdPush (n : Nat) (c : Controller) : NoneOf .permit (holdPush .condition n c) := by
  rw [holdPush_eq]
  have hoffered : NoneOf .permit (holdOffered .condition n c) :=
    (NoneOf.withdrawKind .permit (stopHold c)).offer (t := haltTelegram (ownNumber c) n) (fun hx => by cases hx) (fun hx => by cases hx)
  have hjob : NoneOf .permit (modifyJob (heldJob .condition) (holdOffered .condition n c)) := hoffered.congr rfl
  exact hjob.count _ _ (fun hx => by cases hx)

/-! ## Resume (R85) -/

theorem mem_of_mem_offerPermit {e : TxEntry} {n code : Nat} {c : Controller} (h : e ∈ (offerPermit n code c).line.tx) :
    e.tel.kind = some .permit ∨ e.tel.kind = some .event ∨ e ∈ c.line.tx := by
  have h' : e ∈ (offer (permitTelegram (ownNumber c) n code) (withdrawKind .permit c)).line.tx := h
  obtain h | h | h := mem_of_mem_offer h'
  · exact .inl (congrArg (fun e : TxEntry => e.tel.kind) h)
  · exact .inr (.inl (congrArg (fun e : TxEntry => e.tel.kind) h))
  · exact .inr (.inr (mem_of_mem_withdraw h).1)

/-- After a resume no HALT for the oven waits (R85). -/
theorem resumePush_no_halt {n : Nat} {c : Controller} : ∀ e ∈ (resumePush n c).line.tx, e.tel.kind = some .halt → e.tel.oven ≠ n := by
  intro e he hk
  have hline : (resumePush n c).line = (offerPermit n permitPushCode (withdrawHalt n (stopHold c))).line := by
    simp only [resumePush]
    split <;> rfl
  rw [hline] at he
  obtain h | h | h := mem_of_mem_offerPermit he
  · rw [h] at hk; cases hk
  · rw [h] at hk; cases hk
  · have := (mem_of_mem_withdraw h).2
    simp only [hk, beq_self_eq_true, Bool.true_and, beq_eq_false_iff_ne] at this
    exact this

/-- The job record of a push that resumes. -/
def resumedJob (j : Job) : Job :=
  { j with state := if j.started then .pushing else .permitted, holdSecs := 0, cause := none, permitOut := true, holdOut := false }

/-- What a resume does: the record goes back to the state before the hold, and the PERMIT is offered. -/
theorem resumePush_offers {c : Controller} (n : Nat) (hs : c.job.state ≠ .bidding) :
    OnlyOffers { c with job := resumedJob c.job, due := { c.due with holdTimer := false } } (resumePush n c) := by
  have hoff : OnlyOffers (stopHold c) (offerPermit n permitPushCode (withdrawHalt n (stopHold c))) :=
    (OnlyOffers.withdraw _ _).trans (.offerPermit n permitPushCode _)
  have hstarted : (offerPermit n permitPushCode (withdrawHalt n (stopHold c))).job.started = c.job.started := by
    rw [hoff.job_of_ne hs]
    rfl
  simp only [resumePush, hstarted]
  have hbase (s : JobState) (hcase : (if c.job.started then JobState.pushing else .permitted) = s) (hout : s = .pushing ∨ s = .permitted) :
      modifyJob (Job.enter s) (stopHold c) = { c with job := resumedJob c.job, due := { c.due with holdTimer := false } } := by
    simp only [resumedJob, hcase]
    obtain rfl | rfl := hout <;> rfl
  split
  · next h => exact hbase .pushing (if_pos h) (.inl rfl) ▸ hoff.modifyJob hs fun _ _ => rfl
  · next h => exact hbase .permitted (if_neg h) (.inr rfl) ▸ hoff.modifyJob hs fun _ _ => rfl

theorem resumePush_waits {n : Nat} {c : Controller} (ha : isActive c = true) (hr : roomFor 1 c) :
    waitsInTx (permitTelegram (ownNumber c) n permitPushCode) (resumePush n c) := by
  obtain ⟨b, hb⟩ : ∃ b, b = withdrawHalt n (stopHold c) := ⟨_, rfl⟩
  have hkeep : QueueKeeps (fun _ => False) 0 (stopHold c) b := hb ▸ .withdrawHalt (fun _ hu => hu.elim) _
  have hline : (resumePush n c).line = (offerPermit n permitPushCode b).line := by
    simp only [resumePush, ← hb]
    split <;> rfl
  have hwait : waitsInTx (permitTelegram (ownNumber b) n permitPushCode) (offerPermit n permitPushCode b) :=
    offerPermit_waits (hkeep.active.trans ha) (hkeep.room (c := stopHold c) (m := 1) ha (by rw [roomFor] at hr ⊢; simpa using hr))
  rw [waitsInTx, hline, show ownNumber c = ownNumber b from hkeep.ownNumber.symm]
  exact hwait

/-! ## The evaluation (R81) -/

theorem evaluate_eq {c : Controller} {n i : Nat} (hr : receiving c = true) (hn : c.job.oven = some n) (hi : jobIndex c = some i) :
    evaluate c = evaluateFor i n c := by
  simp only [evaluate, hn, hi, jobRuns, hr, if_true]

/-- Where the conditions fail, an evaluation moves only a push that is permitted or under way. -/
theorem evaluate_of_failing {c : Controller} (h : ∀ n i, c.job.oven = some n → jobIndex c = some i → permitConditions c i n = false)
    (h1 : c.job.state ≠ .permitted) (h2 : c.job.state ≠ .pushing) : evaluate c = c := by
  unfold evaluate
  split
  · next n i hn hi =>
    have hno := h n i hn hi
    split
    · unfold evaluateFor
      split
      · exact if_neg (by simp [hno])
      · contradiction
      · contradiction
      · exact if_neg (by simp [hno])
      · rfl
    · rfl
  · rfl

theorem evaluate_staged {c : Controller} {n i : Nat} (hr : receiving c = true) (hn : c.job.oven = some n) (hi : jobIndex c = some i)
    (hs : c.job.state = .staged) :
    evaluate c = if permitConditions c i n then enterJob .permitted (offerPermit n permitPushCode c) else c := by
  rw [evaluate_eq hr hn hi]
  simp only [evaluateFor, hs]

theorem evaluate_under_way {c : Controller} {n i : Nat} (hr : receiving c = true) (hn : c.job.oven = some n) (hi : jobIndex c = some i)
    (hs : c.job.state = .permitted ∨ c.job.state = .pushing) :
    evaluate c = if permitConditions c i n then c else holdPush .condition n c := by
  rw [evaluate_eq hr hn hi]
  obtain h | h := hs <;> simp only [evaluateFor, h]

theorem evaluate_held {c : Controller} {n i : Nat} (hr : receiving c = true) (hn : c.job.oven = some n) (hi : jobIndex c = some i)
    (hs : c.job.state = .held) :
    evaluate c = if c.job.cause = some .condition ∧ permitConditions c i n = true then resumePush n c else c := by
  rw [evaluate_eq hr hn hi]
  simp only [evaluateFor, hs]

theorem permitConditions_iff {c : Controller} {n i : Nat} {o : Oven} (ho : ovenAt c i = some o) : permitConditions c i n = true ↔
    doorAt c (2 * i) = some .removed ∧ doorAt c (2 * i + 1) = some .removed ∧ o.command = 0
      ∧ (c.track.pusher.stale = false ∧ c.track.pusher.spot = some n ∧ (c.track.pusher.state = some .atSpot
          ∨ (c.job.state = .pushing ∨ (c.job.state = .held ∧ c.job.started = true)) ∧ c.track.pusher.state = some .pushing))
      ∧ (c.track.guide.stale = false ∧ c.track.guide.spot = some n ∧ c.track.guide.state = some .guideSet)
      ∧ (c.track.car.stale = false ∧ c.track.car.place = some .oven ∧ c.track.car.spot = some n
          ∧ (c.track.car.state = some .empty ∨ (c.job.state = .pushing ∨ (c.job.state = .held ∧ c.job.started = true))
            ∧ c.track.car.state = some .loading)) := by
  simp only [permitConditions, bothRemoved, commandAt, ho, pusherCondition, guideCondition, carCondition, afterStart, Bool.and_eq_true,
    Bool.or_eq_true, beq_iff_eq, Bool.not_eq_true', Option.map_some, Option.some.injEq, and_assoc]

/-- Settles O42: the conditions, and the evaluation state by state. -/
theorem evaluationActs : Obligations.EvaluationActs := by
  intro c n i o hr hn hi ho
  have hji : jobIndex c = some i := jobIndex_eq hn hi
  have hne {s : JobState} (hs : c.job.state = s) (h : s ≠ .bidding) : c.job.state ≠ .bidding := hs ▸ h
  refine ⟨permitConditions_iff ho, fun hs hc => ⟨?_, fun ha hroom => ?_⟩, fun hs hc ht => ?_, fun hs hcause hc => ?_, fun hs hc => ?_,
    fun hs hc => ?_, fun hs hc => ?_, evaluate_eq_self⟩
  · rw [evaluate_staged hr hn hji hs, if_pos hc]
    have henter := (OnlyOffers.offerPermit n permitPushCode c).modifyJob (f := Job.enter .permitted)
      (hne hs fun hx => by cases hx) fun _ _ => rfl
    exact henter
  · rw [evaluate_staged hr hn hji hs, if_pos hc]
    exact offerPermit_waits ha hroom
  · have hhold : evaluate c = holdPush .condition n c := by rw [evaluate_under_way hr hn hji hs, if_neg (by simp [hc])]
    have hs' : c.job.state ≠ .bidding := hs.elim (fun h => hne h fun hx => by cases hx) fun h => hne h fun hx => by cases hx
    rw [hhold]
    exact ⟨holdPush_offers .condition n hs', NoneOf.holdPush n c, fun ha hroom => ⟨holdPush_waits n ha hroom, holdPush_counted .condition n ht (.refl _)⟩⟩
  · have hresume : evaluate c = resumePush n c := by rw [evaluate_held hr hn hji hs, if_pos ⟨hcause, hc⟩]
    rw [hresume]
    exact ⟨resumePush_offers n (hne hs fun hx => by cases hx), resumePush_no_halt, resumePush_waits⟩
  · rw [evaluate_staged hr hn hji hs, if_neg (by simp [hc])]
  · rw [evaluate_under_way hr hn hji hs, if_pos hc]
  · rw [evaluate_held hr hn hji hs, if_neg]
    rintro ⟨hcause, hcond⟩
    obtain h | h := hc
    · rw [h] at hcause
      cases hcause
    · rw [h] at hcond
      cases hcond

/-! ## A record that goes stale (R104, R105) -/

/-- Used where a record goes stale and for the reports of the machines: the conditions fail while a machine's record is stale. -/
theorem permitConditions_of_stale {c : Controller} (h : c.track.pusher.stale = true ∨ c.track.guide.stale = true ∨ c.track.car.stale = true)
    (i n : Nat) : permitConditions c i n = false := by
  obtain h | h | h := h <;> simp [permitConditions, pusherCondition, guideCondition, carCondition, h]

/-- A push that is held because its conditions fail, with what waits for a free place. -/
theorem held_of_failing {x : Host.Outcome State Fault Refusal} {q : List Instr} {c k : Controller} {n i : Nat}
    (hx : x = .next ⟨q, freePlace (evaluate k)⟩) (hr : receiving k = true) (hn : k.job.oven = some n) (hi : jobIndex k = some i)
    (hs : k.job.state = .permitted ∨ k.job.state = .pushing) (hc : permitConditions k i n = false)
    (he : k.events.entries = c.events.entries) (ht : thirtyEntries c) (hstart : k.start = c.start) (hline : k.line.tx = c.line.tx)
    (hnumber : k.line.number = c.line.number) :
    ∃ d, x = .next ⟨q, d⟩
      ∧ OnlyOffers { k with job := heldJob .condition k.job, due := { k.due with holdTimer := false } } d
      ∧ countedOnce 25 c d ∧ (isActive c = true → roomFor 3 c → waitsInTx (haltTelegram (ownNumber c) n) d) := by
  have hhold : evaluate k = holdPush .condition n k := by rw [evaluate_under_way hr hn hi hs, if_neg (by simp [hc])]
  have hs' : k.job.state ≠ .bidding := by obtain h | h := hs <;> rw [h] <;> exact fun hx => by cases hx
  have htk : thirtyEntries k := by rw [thirtyEntries, he]; exact ht
  rw [hhold] at hx
  refine ⟨_, hx, (holdPush_offers .condition n hs').trans (.freePlace _), ?_, fun ha hroom => ?_⟩
  · have hcount := holdPush_counted .condition n htk (.freePlace (holdPush .condition n k))
    rwa [countedOnce, EventTable.entry, EventTable.entry, he] at hcount
  · have hka : isActive k = true := by rw [isActive, hstart]; exact ha
    have hkroom : roomFor 2 k := by rw [roomFor, hline]; exact Nat.le_of_succ_le hroom
    have hwait := holdPush_waits n hka hkroom
    rw [show ownNumber k = ownNumber c by rw [ownNumber, ownNumber, hnumber]] at hwait
    exact waitsInTx_freePlace hwait (fun hx => by cases hx)

/-- Settles O20: the neighbours, the machines and the main. -/
theorem recordsGoStale : Obligations.RecordsGoStale := by
  refine ⟨fun q c n hp hthirty hknown hage => ⟨fun hdue hn => ?_, fun hdue hn => ?_⟩, fun q c k m hp hm => ?_,
    fun q c hp hdue hthirty htap hstale hage => ?_⟩
  · obtain ⟨b, hb⟩ : ∃ b, b = modifyDue (fun d => { d with lostBelow := false }) c := ⟨_, rfl⟩
    have hstep : exec (.neighbourLost .below) ⟨q, c⟩ = .next ⟨q, freePlace (neighbourIsLost .below b)⟩ := by
      rw [hb]
      exact event_takeDue (due := fun c => c.due.lostBelow) hp hdue
    have hbn : neighbourAt b .below = some n := by rw [hb]; exact hn
    have hlost : n.lostAt (cfg b) = true := by
      have hcfg : cfg b = cfg c := by rw [hb]; rfl
      simpa [Neighbour.lostAt, hknown, hcfg] using hage
    have hcount : neighbourIsLost .below b = count .neighbourLost (some n.oven) { c with
        table := { c.table with below := some { n with known := false } }, due := { c.due with lostBelow := false } } := by
      simp only [neighbourIsLost, hbn, if_pos hlost]
      rw [hb]
      simp only [modifyNeighbour, modifyDue, hn]
      rfl
    rw [hcount] at hstep
    refine ⟨_, hstep, countedOnce_of_stays (k := .neighbourLost) (.freePlace _) (.of_eq rfl) (by decide) hthirty,
      first_of_stays (k := .neighbourLost) (.freePlace _) (.of_eq rfl) (by decide) hthirty, (OnlyOffers.count _ _ _).trans (.freePlace _)⟩
  · obtain ⟨b, hb⟩ : ∃ b, b = modifyDue (fun d => { d with lostAbove := false }) c := ⟨_, rfl⟩
    have hstep : exec (.neighbourLost .above) ⟨q, c⟩ = .next ⟨q, freePlace (neighbourIsLost .above b)⟩ := by
      rw [hb]
      exact event_takeDue (due := fun c => c.due.lostAbove) hp hdue
    have hbn : neighbourAt b .above = some n := by rw [hb]; exact hn
    have hlost : n.lostAt (cfg b) = true := by
      have hcfg : cfg b = cfg c := by rw [hb]; rfl
      simpa [Neighbour.lostAt, hknown, hcfg] using hage
    have hcount : neighbourIsLost .above b = count .neighbourLost (some n.oven) { c with
        table := { c.table with above := some { n with known := false } }, due := { c.due with lostAbove := false } } := by
      simp only [neighbourIsLost, hbn, if_pos hlost]
      rw [hb]
      simp only [modifyNeighbour, modifyDue, hn]
      rfl
    rw [hcount] at hstep
    refine ⟨_, hstep, countedOnce_of_stays (k := .neighbourLost) (.freePlace _) (.of_eq rfl) (by decide) hthirty,
      first_of_stays (k := .neighbourLost) (.freePlace _) (.of_eq rfl) (by decide) hthirty, (OnlyOffers.count _ _ _).trans (.freePlace _)⟩
  · have hstep : exec (.machineStale m) ⟨q, c⟩ = .next ⟨q, freePlace (evaluate k)⟩ := by
      obtain ⟨rfl, hdue, hstale, hage, rfl⟩ | ⟨rfl, hdue, hstale, hage, rfl⟩ | ⟨rfl, hdue, hstale, hage, rfl⟩ := hm
      · have hgo : machineStaleDue .pusher (modifyDue (fun d => { d with stalePusher := false }) c) = true := by
          show machineStaleDue .pusher c = true
          simpa [machineStaleDue, staleDue, hstale] using hage
        have hstep : exec (.machineStale .pusher) ⟨q, c⟩
            = .next ⟨q, freePlace (machineGoesStale .pusher (modifyDue (fun d => { d with stalePusher := false }) c))⟩ :=
          event_takeDue (due := fun c => c.due.stalePusher) hp hdue
        rw [hstep, machineGoesStale, if_pos hgo]
        rfl
      · have hgo : machineStaleDue .guide (modifyDue (fun d => { d with staleGuide := false }) c) = true := by
          show machineStaleDue .guide c = true
          simpa [machineStaleDue, staleDue, hstale] using hage
        have hstep : exec (.machineStale .guide) ⟨q, c⟩
            = .next ⟨q, freePlace (machineGoesStale .guide (modifyDue (fun d => { d with staleGuide := false }) c))⟩ :=
          event_takeDue (due := fun c => c.due.staleGuide) hp hdue
        rw [hstep, machineGoesStale, if_pos hgo]
        rfl
      · have hgo : machineStaleDue .qcar (modifyDue (fun d => { d with staleCar := false }) c) = true := by
          show machineStaleDue .qcar c = true
          simpa [machineStaleDue, staleDue, hstale] using hage
        have hstep : exec (.machineStale .qcar) ⟨q, c⟩
            = .next ⟨q, freePlace (machineGoesStale .qcar (modifyDue (fun d => { d with staleCar := false }) c))⟩ :=
          event_takeDue (due := fun c => c.due.staleCar) hp hdue
        rw [hstep, machineGoesStale, if_pos hgo]
        rfl
    have hk : k.start = c.start ∧ k.line = c.line ∧ k.events = c.events ∧ k.job = c.job
        ∧ (k.track.pusher.stale = true ∨ k.track.guide.stale = true ∨ k.track.car.stale = true) := by
      obtain ⟨_, _, _, _, rfl⟩ | ⟨_, _, _, _, rfl⟩ | ⟨_, _, _, _, rfl⟩ := hm
      · exact ⟨rfl, rfl, rfl, rfl, .inl rfl⟩
      · exact ⟨rfl, rfl, rfl, rfl, .inr (.inl rfl)⟩
      · exact ⟨rfl, rfl, rfl, rfl, .inr (.inr rfl)⟩
    obtain ⟨hstart, hline, hevents, hjob, hstale⟩ := hk
    refine ⟨hstep, fun hwaits h1 h2 => ?_, fun n i hr hn hi hthirty hs => ?_⟩
    · have hself : evaluate k = k :=
        evaluate_of_failing (fun n i _ _ => permitConditions_of_stale hstale i n) (by rw [hjob]; exact h1) (by rw [hjob]; exact h2)
      exact next_of_nothingWaits hstep hself hwaits (by rw [hstart]) (by rw [hline]) hevents (by rw [hjob])
    · have hheld := held_of_failing (c := c) hstep (by rw [receiving, hstart]; exact hr) (by rw [hjob]; exact hn)
        ((jobIndex_congr hstart (by rw [hjob])).trans (jobIndex_eq hn hi)) (by rw [hjob]; exact hs) (permitConditions_of_stale hstale i n)
        (by rw [hevents]) hthirty hstart (by rw [hline]) (by rw [hline])
      rw [hjob] at hheld
      exact hheld
  · obtain ⟨b, hb⟩ : ∃ b, b = modifyDue (fun d => { d with mainStale := false }) c := ⟨_, rfl⟩
    have hstep : exec .mainStale ⟨q, c⟩ = .next ⟨q, freePlace (mainGoesStale b)⟩ := by
      rw [hb]
      exact event_takeDue (due := fun c => c.due.mainStale) hp hdue
    have hgo : b.reg.main.staleDue (cfg b) = true := by
      rw [hb]
      show c.reg.main.staleDue (cfg c) = true
      simpa [MainRecord.staleDue, htap, hstale] using hage
    rw [mainGoesStale, if_pos hgo] at hstep
    obtain ⟨d, hd, hcount, hoff⟩ := counted_of_step (c := c) hstep (by rw [hb]; rfl) (by decide) hthirty
    refine ⟨d, hd, hcount, ?_⟩
    rw [hb] at hoff
    exact hoff

end Sys2Proof.Machine
end

section
/-! SUPPORT. The reports of the machines (R102, R103, R105, R107, R110, R113). -/

-- The lemmas are checked one after another, as the tests are.
set_option Elab.async false

namespace Sys2Proof.Machine

open Sys2Proof

/-! ## Codes out of range -/

theorem pusherStateOf_eq_none {n : Nat} (h : n < 1 ∨ 6 < n) : pusherStateOf n = none := by
  unfold pusherStateOf
  split <;> first | omega | rfl

theorem guideStateOf_eq_none {n : Nat} (h : n < 1 ∨ 4 < n) : guideStateOf n = none := by
  unfold guideStateOf
  split <;> first | omega | rfl

theorem carPlaceOf_eq_none {n : Nat} (h : n < 1 ∨ 4 < n) : carPlaceOf n = none := by
  unfold carPlaceOf
  split <;> first | omega | rfl

theorem carStateOf_eq_none {n : Nat} (h : n < 1 ∨ 6 < n) : carStateOf n = none := by
  unfold carStateOf
  split <;> first | omega | rfl

/-! ## GUIDE -/

/-- Settles O40. -/
theorem guideTaken : Obligations.GuideTaken := by
  intro q c t rest hands
  have hstep : exec .guide ⟨q, c⟩ = .next ⟨q, freePlace (takeGuide t (withRx rest c))⟩ := act_handOn hands rfl
  refine ⟨fun hwaits hrange => next_of_nothingWaits hstep ?_ hwaits rfl rfl rfl rfl, fun st hspot hcode => ?_⟩
  · unfold takeGuide
    split
    · next st hst =>
      refine if_neg fun hspot => ?_
      have hcode : ¬ (t.at 1 < 1 ∨ 4 < t.at 1) := fun h => by
        rw [guideStateOf_eq_none h] at hst
        cases hst
      omega
    · rfl
  · have hst : guideStateOf (t.at 1) = some st := by
      obtain ⟨h, rfl⟩ | ⟨h, rfl⟩ | ⟨h, rfl⟩ | ⟨h, rfl⟩ := hcode <;> rw [h] <;> rfl
    rw [hstep]
    simp only [takeGuide, hst, if_pos hspot]
    rfl

/-! ## PUSHER -/

theorem evaluate_of_no_index {c : Controller} (h : c.job.oven = none ∨ jobIndex c = none) : evaluate c = c := by
  unfold evaluate
  split
  · next n i hn hi =>
    obtain h | h := h
    · rw [h] at hn
      cases hn
    · rw [h] at hi
      cases hi
  · rfl

/-- No evaluation makes the job IDLE. -/
theorem evaluate_state_ne_idle {c : Controller} (h : c.job.state ≠ .idle) : (evaluate c).job.state ≠ .idle := by
  have hheld (n : Nat) : (holdPush .condition n c).job.state = .held := by
    rw [holdPush_eq, show (count .pushHeld (some n) (modifyJob (heldJob .condition) (holdOffered .condition n c))).job
      = (modifyJob (heldJob .condition) (holdOffered .condition n c)).job by simp]
    rfl
  have hresumed (n : Nat) : (resumePush n c).job.state ≠ .idle := by
    simp only [resumePush]
    split <;> exact fun hx => by cases hx
  unfold evaluate
  split
  · split
    · unfold evaluateFor
      split
      · split
        · exact fun hx => by cases hx
        · exact h
      · split
        · exact h
        · rw [hheld]
          exact fun hx => by cases hx
      · split
        · exact h
        · rw [hheld]
          exact fun hx => by cases hx
      · split
        · exact hresumed _
        · exact h
      · exact h
    · exact h
  · exact h

/-- A PUSHER that is no push start and no push end is evaluated (R81, R102). -/
theorem jobOnPusher_evaluates {spot : Option Nat} {st : PusherState} {force : Nat} {completed : Bool} {c : Controller}
    (h : st ≠ .pushing ∧ st ≠ .returned ∨ c.job.oven ≠ spot) : jobOnPusher spot st force completed c = evaluate c := by
  unfold jobOnPusher
  split
  · next n i hn hi =>
    split
    · next hspot =>
      obtain ⟨h1, h2⟩ | h := h
      · split
        · exact absurd rfl h1
        · exact absurd rfl h2
        · rfl
      · exact absurd (hn.trans hspot.symm) h
    · rfl
  · next hno =>
    refine (evaluate_of_no_index ?_).symm
    cases hn : c.job.oven with
    | none => exact .inl rfl
    | some n =>
      cases hi : jobIndex c with
      | none => exact .inr rfl
      | some i => exact absurd hi (hno n i hn)

/-- Where R50 or R51 keeps the round closed, a READY opens none. -/
theorem openRound_eq_self {c : Controller} (h : isActive c = false ∨ c.job.state ≠ .idle ∨ c.held.claim ≠ none ∨ c.round.opened = true) :
    openRound c = c := by
  refine if_neg fun hall => ?_
  simp only [Bool.and_eq_true, beq_iff_eq, Option.isNone_iff_eq_none, Bool.not_eq_true'] at hall
  obtain ⟨⟨⟨ha, hj⟩, hh⟩, hr⟩ := hall
  obtain h | h | h | h := h
  · exact absurd (ha.symm.trans h) (by decide)
  · exact h hj
  · exact h hh
  · exact absurd (h.symm.trans hr) (by decide)

/-! ## QCAR -/

/-- A QCAR of a payload in range sets the record, then acts on the call, and is evaluated (R105). -/
theorem takeQcar_of_codes {t : Telegram} {c : Controller} {p : CarPlace} {st : CarState} (hp : carPlaceOf (t.at 0) = some p)
    (hst : carStateOf (t.at 2) = some st) (h1 : t.at 1 ≤ 192) (h3 : t.at 3 ≤ 192) :
    takeQcar t c = evaluate (callOnQcar { c with track := { c.track with
      car := ⟨some p, carSpotAfter p (t.at 1) c.track.car.spot, some st, ovenField (t.at 3), 0, false⟩ } }) := by
  simp only [takeQcar, hp, hst, if_pos (And.intro h1 h3)]

theorem callOnQcar_none {c : Controller} (h : c.track.call.step = .none) : callOnQcar c = c := by
  simp only [callOnQcar, h]

/-- The reports that leave the call as it is (R107, R110, R113). -/
theorem callOnQcar_eq_self {c : Controller}
    (h : c.track.call.step = .none ∨ (c.track.call.step = .pending ∧ (c.track.call.queued = true ∨ c.track.car.state ≠ some .empty))
      ∨ (c.track.call.step = .sent ∧ c.track.car.state ≠ some .empty)
      ∨ (c.track.call.step = .sent ∧ ¬ (c.track.car.place = some .oven ∧ c.track.car.spot = c.track.call.oven)
          ∧ (c.track.car.target ≠ none ∨ c.track.call.queued = true))) : callOnQcar c = c := by
  obtain h | ⟨h, hno⟩ | ⟨h, hno⟩ | ⟨h, haway, hno⟩ := h
  · exact callOnQcar_none h
  · simp only [callOnQcar, h]
    refine if_neg fun hall => ?_
    simp only [Bool.and_eq_true, Bool.not_eq_true', beq_iff_eq] at hall
    obtain hq | he := hno
    · exact absurd (hq.symm.trans hall.1) (by decide)
    · exact he hall.2
  · have hcall : ¬ carAtCall c = true := by simp [carAtCall, hno]
    have hempty : ¬ (c.track.car.state == some .empty && c.track.car.target.isNone && !c.track.call.queued) = true := by simp [hno]
    simp only [callOnQcar, h, if_neg hcall, if_neg hempty]
  · have hcall : ¬ carAtCall c = true := by
      simp only [carAtCall, Bool.and_eq_true, beq_iff_eq]
      exact fun hall => haway ⟨hall.1.1.1, hall.1.2⟩
    have hempty : ¬ (c.track.car.state == some .empty && c.track.car.target.isNone && !c.track.call.queued) = true := by
      obtain hno | hno := hno <;> simp [hno]
    simp only [callOnQcar, h, if_neg hcall, if_neg hempty]

/-- The quench car arrives (R110). -/
theorem callOnQcar_arrives {c : Controller} {n : Nat} (hs : c.track.call.step = .sent) (hp : c.track.car.place = some .oven)
    (hspot : c.track.car.spot = some n) (hst : c.track.car.state = some .empty) (hn : c.track.call.oven = some n) :
    callOnQcar c = arrive c := by
  have hcall : carAtCall c = true := by simp [carAtCall, hp, hspot, hst, hn]
  simp only [callOnQcar, hs, if_pos hcall]

/-- The call is offered to an EMPTY car (R107, R113). -/
theorem callOnQcar_offers {c : Controller} {n : Nat} (hn : c.track.call.oven = some n) (hst : c.track.car.state = some .empty)
    (hq : c.track.call.queued = false)
    (h : c.track.call.step = .pending ∨ (c.track.call.step = .sent ∧ ¬ (c.track.car.place = some .oven ∧ c.track.car.spot = some n)
      ∧ c.track.car.target = none)) :
    callOnQcar c = offer (callTelegram (ownNumber c) n) (modifyCall (fun k => { k with queued := true }) c) := by
  have hoffer : offerCall c = offer (callTelegram (ownNumber c) n) (modifyCall (fun k => { k with queued := true }) c) := by
    simp only [offerCall, hn]
  rw [← hoffer]
  obtain h | ⟨h, haway, htarget⟩ := h
  · have hgo : (!c.track.call.queued && c.track.car.state == some .empty) = true := by simp [hq, hst]
    simp only [callOnQcar, h, if_pos hgo]
  · have hcall : ¬ carAtCall c = true := by
      simp only [carAtCall, hn, Bool.and_eq_true, beq_iff_eq]
      exact fun hall => haway ⟨hall.1.1.1, hall.1.2⟩
    have hgo : (c.track.car.state == some .empty && c.track.car.target.isNone && !c.track.call.queued) = true := by simp [hq, hst, htarget]
    simp only [callOnQcar, h, if_neg hcall, if_pos hgo]

/-- A telegram offered where there is room changes the queue alone. -/
theorem offer_track_of_room {t : Telegram} {c : Controller} (ha : isActive c = true) (hr : txRoom c = true) :
    (offer t c).track = c.track := by
  by_cases hs : ∃ e ∈ c.line.tx, samePlace t e.tel = true
  · rw [offer_of_samePlace ha hs]
    simp only [replaceEntry]
    split <;> simp [setTx]
  · rw [offer_of_room ha (by simpa using hs) (by simpa [txRoom] using hr)]
    rfl

/-- What waits for a free place finds one, so that no CALL is told of a loss. -/
theorem freePlace_track (c : Controller) : (freePlace c).track = c.track := by
  have howed : (offerOwed c).track = c.track := by
    unfold offerOwed
    split
    · next w _ =>
      split
      · next hroom =>
        simp only [Bool.and_eq_true, txRoom, decide_eq_true_eq] at hroom
        have hlen := length_withdraw (fun t => t.kind == some Kind.permit) { c with job := { c.job with owed := none } }
        have hoffer := offer_track_of_room (t := releaseTelegram (ownNumber c) w.oven w.outcome)
          (c := withdrawKind .permit { c with job := { c.job with owed := none } })
          (by simpa [isActive] using hroom.1) (by simp only [txRoom, decide_eq_true_eq]; exact Nat.lt_of_le_of_lt hlen hroom.2)
        exact hoffer.trans (by simp)
      · rfl
    · rfl
  rw [← howed, freePlace, offerEvent]
  split <;> rfl

theorem ovenField_eq (n : Nat) : ovenField n = if n = 0 then none else some n := rfl

/-- The due events of a ready controller: none. -/
theorem holdTimer_of_ready {c : Controller} (h : Ready c) : { c.due with holdTimer := false } = c.due := by
  rw [h.2]
  rfl

/-- Settles O41: the PUSHER by its state and spot, and the QCAR by what it means to the call. -/
theorem pusherAndCarTaken : Obligations.PusherAndCarTaken := by
  refine ⟨fun q c t rest hands => ?_, fun q c t rest hands => ?_⟩
  · have hstep : exec .pusher ⟨q, c⟩ = .next ⟨q, freePlace (takePusher t (withRx rest c))⟩ := act_handOn hands rfl
    refine ⟨fun hwaits hrange => next_of_nothingWaits hstep ?_ hwaits rfl rfl rfl rfl, fun st r hst hspot hcompleted hr => ?_⟩
    · have hnone : pusherPayload t = none := by
        unfold pusherPayload
        split
        · next st hst =>
          refine if_neg fun hin => ?_
          have hcode : ¬ (t.at 1 < 1 ∨ 6 < t.at 1) := fun h => by
            rw [pusherStateOf_eq_none h] at hst
            cases hst
          omega
        · rfl
      simp only [takePusher, hnone]
    · obtain ⟨k, hk⟩ : ∃ k, k = { withRx rest c with track := { c.track with pusher := r } } := ⟨_, rfl⟩
      have htake : takePusher t (withRx rest c) = if st = .ready then openRound (jobOnPusher r.spot st (t.at2 2) (t.at 4 == 1) k)
          else jobOnPusher r.spot st (t.at2 2) (t.at 4 == 1) k := by
        rw [takePusher_of_state hst hspot hcompleted, hk, hr]
        rfl
      have hkjob : k.job = c.job := by rw [hk]; rfl
      have hplain (hwaits : nothingWaits c = true) (h : takePusher t (withRx rest c) = k) : exec .pusher ⟨q, c⟩ = .next ⟨q, k⟩ :=
        next_of_nothingWaits hstep h hwaits (by rw [hk]; rfl) (by rw [hk]; rfl) (by rw [hk]; rfl) (by rw [hk]; rfl)
      rw [← hk]
      refine ⟨fun hwaits hno hne => hplain hwaits ?_, fun hwaits hidle hready hkeeps => hplain hwaits ?_, fun hidle hcase => ?_⟩
      · rw [htake, if_neg hne, jobOnPusher_of_no_oven (by rw [hkjob]; exact hno)]
      · have hself : evaluate k = k := by
          refine evaluate_eq_self ?_ ?_ ?_ ?_ <;> rw [hkjob, hidle] <;> exact fun hx => by cases hx
        have hneither : st ≠ .pushing ∧ st ≠ .returned := by
          rw [hready]
          exact ⟨fun hx => (by cases hx), fun hx => (by cases hx)⟩
        have hreport : jobOnPusher r.spot st (t.at2 2) (t.at 4 == 1) k = k := by
          rw [jobOnPusher_evaluates (.inl hneither), hself]
        rw [htake, if_pos hready, hreport]
        refine openRound_eq_self ?_
        rw [hk]
        obtain h | h | h := hkeeps
        · exact .inl h
        · exact .inr (.inr (.inl h))
        · exact .inr (.inr (.inr h))
      · have hevaluates : takePusher t (withRx rest c) = evaluate k := by
          rw [htake, jobOnPusher_evaluates (by rw [hkjob]; exact hcase)]
          split
          · exact openRound_eq_self (.inr (.inl (evaluate_state_ne_idle (by rw [hkjob]; exact hidle))))
          · rfl
        have hstep' : exec .pusher ⟨q, c⟩ = .next ⟨q, freePlace (evaluate k)⟩ := by rw [hstep, hevaluates]
        refine ⟨hstep', fun hwaits hs => hplain hwaits ?_, fun n i hn hi hs hfails hthirty => ?_⟩
        · rw [hevaluates]
          refine evaluate_eq_self ?_ ?_ ?_ ?_ <;> rw [hkjob] <;>
            (obtain h | h | h | h | h := hs <;> rw [h] <;> exact fun hx => by cases hx)
        · have hpusher : pusherCondition k n = false := by
            have hkp : k.track.pusher = r := by rw [hk]
            have hrs : r.state = some st := by rw [hr]
            have haway : r.spot ≠ some n ∨ st ≠ .atSpot ∧ st ≠ .pushing := by
              by_cases hsp : r.spot = some n
              · refine .inr ⟨hfails.resolve_right fun h => h hsp, ?_⟩
                obtain ⟨h, _⟩ | h := hcase
                · exact h
                · exact absurd (hn.trans hsp.symm) h
              · exact .inl hsp
            obtain h | ⟨h1, h2⟩ := haway
            · simp [pusherCondition, hkp, h]
            · simp [pusherCondition, hkp, hrs, h1, h2]
          have hcond : permitConditions k i n = false := by simp [permitConditions, hpusher]
          have hheld := held_of_failing (c := c) (k := k) hstep' (by rw [hk]; exact hands.2.1) (by rw [hkjob]; exact hn)
            ((jobIndex_congr (c := c) (by rw [hk]; rfl) (by rw [hkjob])).trans (jobIndex_eq hn hi)) (by rw [hkjob]; exact hs) hcond
            (by rw [hk]; rfl) hthirty (by rw [hk]; rfl) (by rw [hk]; rfl) (by rw [hk]; rfl)
          have hdue : { k.due with holdTimer := false } = k.due := by rw [hk]; exact holdTimer_of_ready hands.1
          rw [hdue, hkjob, hk] at hheld
          exact hheld
  · have hstep : exec .qcar ⟨q, c⟩ = .next ⟨q, freePlace (takeQcar t (withRx rest c))⟩ := act_handOn hands rfl
    refine ⟨fun hwaits hrange => next_of_nothingWaits hstep ?_ hwaits rfl rfl rfl rfl, fun p st r hp hst h1 h3 hr => ?_⟩
    · unfold takeQcar
      split
      · next p st hp hst =>
        refine if_neg fun hin => ?_
        have hplace : ¬ (t.at 0 < 1 ∨ 4 < t.at 0) := fun h => by
          rw [carPlaceOf_eq_none h] at hp
          cases hp
        have hstate : ¬ (t.at 2 < 1 ∨ 6 < t.at 2) := fun h => by
          rw [carStateOf_eq_none h] at hst
          cases hst
        omega
      · rfl
    · obtain ⟨k, hk⟩ : ∃ k, k = { withRx rest c with track := { c.track with car := r } } := ⟨_, rfl⟩
      have htake : takeQcar t (withRx rest c) = evaluate (callOnQcar k) := by
        rw [takeQcar_of_codes hp hst h1 h3, hk, hr]
        rfl
      have hkcar : k.track.car = r := by rw [hk]
      have hkcall : k.track.call = c.track.call := by rw [hk]
      have hkjob : k.job = c.job := by rw [hk]; rfl
      have hrs : r.place = some p ∧ r.state = some st ∧ r.target = if t.at 3 = 0 then none else some (t.at 3) := by
        rw [hr]
        exact ⟨rfl, rfl, rfl⟩
      obtain ⟨hrp, hrst, hrt⟩ := hrs
      rw [← hk]
      refine ⟨fun hwaits hno hnone => ?_, fun hstates hcase => ?_, fun n hstates hn hcn => ⟨fun hsent hoven hspot hpos hempty => ?_,
        fun hempty hqueued hcase => ?_⟩⟩
      · have hself : evaluate k = k := by
          obtain h | h | h := hno
          · exact evaluate_of_no_index (.inl (by rw [hkjob]; exact h))
          all_goals refine evaluate_eq_self ?_ ?_ ?_ ?_ <;> rw [hkjob, h] <;> exact fun hx => by cases hx
        refine next_of_nothingWaits hstep ?_ hwaits (by rw [hk]; rfl) (by rw [hk]; rfl) (by rw [hk]; rfl) (by rw [hk]; rfl)
        rw [htake, callOnQcar_none (by rw [hkcall]; exact hnone), hself]
      · have hself : callOnQcar k = k := by
          refine callOnQcar_eq_self ?_
          rw [hkcall, hkcar, hrp, hrst, hrt]
          obtain h | ⟨h, h'⟩ | ⟨h, h'⟩ | ⟨h, h', h''⟩ := hcase
          · exact .inl h
          · exact .inr (.inl ⟨h, h'.imp_right fun hne hx => hne (Option.some.inj hx)⟩)
          · exact .inr (.inr (.inl ⟨h, fun hx => h' (Option.some.inj hx)⟩))
          · refine .inr (.inr (.inr ⟨h, fun hx => h' ⟨Option.some.inj hx.1, hx.2⟩, h''.imp_left fun hne => ?_⟩))
            rw [if_neg hne]
            exact Option.some_ne_none _
        rw [hstep, htake, hself]
      · have hrspot : r.spot = some n := by
          rw [hr]
          simp only [hspot]
          exact if_pos (by omega)
        have harrive : callOnQcar k = arrive k :=
          callOnQcar_arrives (by rw [hkcall]; exact hsent) (by rw [hkcar, hrp, hoven]) (by rw [hkcar]; exact hrspot)
            (by rw [hkcar, hrst, hempty]) (by rw [hkcall]; exact hcn)
        have hdue : { c.due with travelTimer := false } = c.due := by
          rw [hands.1.2]
          rfl
        have heq : arrive k = { withRx rest c with track := { c.track with
            car := r, call := ⟨.none, none, false, c.track.call.limit, 0, 0⟩ } } := by
          have hall : arrive k = { withRx rest c with
              track := { c.track with car := r, call := ⟨.none, none, false, c.track.call.limit, 0, 0⟩ }
              due := { c.due with travelTimer := false } } := by
            rw [hk]
            rfl
          rw [hall, hdue]
          rfl
        rw [hstep, htake, harrive, heq]
      · obtain ⟨m, hm⟩ : ∃ m, m = { withRx rest c with
            track := { c.track with car := r, call := { c.track.call with queued := true } } } := ⟨_, rfl⟩
        have hoffers : callOnQcar k = offer (callTelegram (ownNumber c) n) m := by
          rw [callOnQcar_offers (c := k) (n := n) (by rw [hkcall]; exact hcn) (by rw [hkcar, hrst, hempty]) (by rw [hkcall]; exact hqueued), hm,
            hk]
          · rfl
          · rw [hkcall, hkcar, hrp, hrt]
            refine hcase.imp_right fun ⟨h, h', h''⟩ => ⟨h, fun hx => h' ⟨Option.some.inj hx.1, hx.2⟩, ?_⟩
            rw [if_pos h'']
        have hstep' : exec .qcar ⟨q, c⟩ = .next ⟨q, freePlace (evaluate (offer (callTelegram (ownNumber c) n) m))⟩ := by
          rw [hstep, htake, hoffers]
        rw [← hm]
        refine ⟨hstep', fun ha hroom hs => ?_⟩
        have hmactive : isActive m = true := by rw [hm]; exact ha
        have hmroom : roomFor 1 m := by rw [hm]; exact hroom
        have hmtx : txRoom m = true := by
          rw [roomFor] at hmroom
          rw [txRoom, decide_eq_true_eq]
          omega
        have hmjob : (offer (callTelegram (ownNumber c) n) m).job = c.job := by
          rw [offer_job_of_room hmactive hmtx, hm]
          rfl
        have hself : evaluate (offer (callTelegram (ownNumber c) n) m) = offer (callTelegram (ownNumber c) n) m := by
          refine evaluate_eq_self ?_ ?_ ?_ ?_ <;> rw [hmjob] <;> (obtain h | h := hs <;> rw [h] <;> exact fun hx => by cases hx)
        rw [hself] at hstep'
        have htrack : (freePlace (offer (callTelegram (ownNumber c) n) m)).track = m.track := by
          rw [freePlace_track, offer_track_of_room hmactive hmtx]
        refine ⟨_, hstep', waitsInTx_freePlace (waitsInTx_offer_of_room hmactive hmroom) (fun hx => by cases hx), ?_, ?_, ?_⟩
        · rw [htrack, hm]
        · rw [htrack, hm]
        · have hmark : OnlyOffers k m := by
            rw [hk, hm]
            exact ⟨rfl, rfl, rfl, rfl, rfl, rfl, rfl, rfl, rfl, .inl rfl, rfl, rfl, rfl, .inl rfl⟩
          exact (hmark.trans (.offer _ _)).trans (.freePlace _)

end Sys2Proof.Machine
end

section
/-! SUPPORT. The supervisory HALT (R87) and the foreign CLAIM (R57, R61 to R65). -/

-- The lemmas are checked one after another, as the tests are.
set_option Elab.async false

namespace Sys2Proof.Machine

open Sys2Proof

/-- From c to d no telegram of the kind has been put into the queue. -/
def NoNew (k : Kind) (c d : Controller) : Prop := ∀ e ∈ d.line.tx, e.tel.kind = some k → e ∈ c.line.tx

namespace NoNew

variable {k : Kind} {b c d : Controller}

theorem of_eq (h : d.line.tx = c.line.tx) : NoNew k c d := fun _ he _ => h ▸ he

theorem trans (h : NoNew k b c) (h' : NoNew k c d) : NoNew k b d := fun e he hk => h e (h' e he hk) hk

theorem count (hk : k ≠ .event) (e : EventKind) (first : Option Nat) (c : Controller) : NoNew k c (count e first c) := fun x hx hxk => by
  obtain rfl | hx := mem_of_mem_count hx
  · exact absurd (Option.some.inj hxk).symm hk
  · exact hx

theorem offer {t : Telegram} (hk : k ≠ .event) (ht : t.kind ≠ some k) (c : Controller) : NoNew k c (offer t c) := fun x hx hxk => by
  obtain rfl | rfl | hx := mem_of_mem_offer hx
  · exact absurd hxk ht
  · exact absurd (Option.some.inj hxk).symm hk
  · exact hx

theorem withdraw (p : Telegram → Bool) (c : Controller) : NoNew k c (withdraw p c) := fun _ hx _ => (mem_of_mem_withdraw hx).1

theorem offerRelease (hk : k ≠ .event) (hr : k ≠ .release) (n : Nat) (out : PushOutcome) (c : Controller) :
    NoNew k c (offerRelease n out c) :=
  (withdraw _ c).trans (offer (t := releaseTelegram (ownNumber c) n out) hk (fun hx => hr (Option.some.inj hx).symm) _)

theorem setPhase (hk : k ≠ .event) (hp : k ≠ .phase) (i : Nat) (p : Phase) (c : Controller) : NoNew k c (setPhase i p c) := by
  have hqueue (x : Controller) : NoNew k x (queuePhase i x) := by
    unfold queuePhase
    split
    · next o _ => exact offer (t := phaseTelegram (ownNumber x) o) hk (fun hx => hp (Option.some.inj hx).symm) x
    · exact of_eq rfl
  have hmod : NoNew k c (modifyOven i (fun o => ({ o with phase := p }).withStage (cfg c)) c) := of_eq rfl
  have hup (x : Controller) : NoNew k x (takeUpPhase i x) := of_eq (by simp)
  exact (hmod.trans (hqueue _)).trans (hup _)

theorem settlePhase (hk : k ≠ .event) (hp : k ≠ .phase) (i : Nat) (c : Controller) : NoNew k c (settlePhase i c) := by
  unfold Machine.settlePhase
  split
  · split
    · exact of_eq rfl
    · exact setPhase hk hp _ _ c
  · exact of_eq rfl

theorem dropCall (c : Controller) : NoNew k c (dropCall c) := of_eq (by simp)

theorem idleJob (c : Controller) : NoNew k c (idleJob c) := of_eq rfl

theorem reclosingEntered (c : Controller) : NoNew k c (reclosingEntered c) := by
  have hwith : NoNew k (stopHold (enterJob .reclosing c)) (withdrawKind .permit (stopHold (enterJob .reclosing c))) := withdraw _ _
  have henter : NoNew k c (stopHold (enterJob .reclosing c)) := of_eq rfl
  exact (henter.trans hwith).trans (dropCall _)

theorem freePlace (hk : k ≠ .event) (hr : k ≠ .release) (c : Controller) : NoNew k c (freePlace c) := fun x hx hxk => by
  obtain rfl | ⟨w, _, rfl⟩ | hx := mem_of_mem_freePlace hx
  · exact absurd (Option.some.inj hxk).symm hk
  · exact absurd (Option.some.inj hxk).symm hr
  · exact hx

end NoNew

/-- An abort from a state other than PERMITTED puts no HALT into the queue. -/
theorem AbortCase.no_halt {r : AbortReason} {n i : Nat} {b d : Controller} (h : AbortCase r n i b d) (hs : b.job.state ≠ .permitted) :
    NoNew .halt b d := by
  have hcount : NoNew .halt b (count .jobAborted (some r.code) b) := .count (fun hx => by cases hx) _ _ b
  have hcounted : NoNew .halt b (abortCounted r n b) := by
    rw [abortCounted, if_neg hs]
    exact hcount
  cases h with
  | back =>
    exact (((hcount.trans (.settlePhase (fun hx => by cases hx) (fun hx => by cases hx) _ _)).trans (.dropCall _)).trans
      (.offerRelease (fun hx => by cases hx) (fun hx => by cases hx) _ _ _)).trans (.idleJob _)
  | waits => exact hcounted.trans (.reclosingEntered _)
  | atOnce =>
    exact (((hcounted.trans (.reclosingEntered _)).trans (.offerRelease (fun hx => by cases hx) (fun hx => by cases hx) _ _ _)).trans
      (.settlePhase (fun hx => by cases hx) (fun hx => by cases hx) _ _)).trans (.idleJob _)

/-- Settles O43: by the state of the job. -/
theorem haltTaken : Obligations.HaltTaken := by
  intro q c t rest hands
  have hstep : exec .halt ⟨q, c⟩ = .next ⟨q, freePlace (jobOnHalt t.src t.oven (withRx rest c))⟩ :=
    act_handOn (f := fun t c => jobOnHalt t.src t.oven c) hands rfl
  have hhalt (hsrc : t.src = 30) (hn : c.job.oven = some t.oven) : t.src = supervisor ∧ (withRx rest c).job.oven = some t.oven :=
    ⟨hsrc, hn⟩
  refine ⟨fun hsrc hn hs hthirty => ?_, fun hsrc hn hs hwaits => ?_, fun i o hsrc hn hi ho hthirty hs => ?_, fun hother hwaits => ?_⟩
  · have hhold : jobOnHalt t.src t.oven (withRx rest c) = holdPush .supervisory t.oven (withRx rest c) := by
      rw [jobOnHalt, if_pos (hhalt hsrc hn)]
      have hs' : (withRx rest c).job.state = .permitted ∨ (withRx rest c).job.state = .pushing := hs
      obtain h | h := hs' <;> rw [h]
    rw [hhold] at hstep
    refine ⟨_, hstep, holdPush_counted (c := withRx rest c) .supervisory t.oven hthirty (.freePlace _), fun e he hk => ?_, ?_⟩
    · have hoffered : holdOffered .supervisory t.oven (withRx rest c) = stopHold (withRx rest c) := if_neg (fun hx => by cases hx)
      have hnew : NoNew .halt (withRx rest c) (holdPush .supervisory t.oven (withRx rest c)) := by
        rw [holdPush_eq, hoffered]
        have hjob : NoNew .halt (withRx rest c) (modifyJob (heldJob .supervisory) (stopHold (withRx rest c))) := .of_eq rfl
        exact hjob.trans (.count (fun hx => by cases hx) _ _ _)
      exact hnew.trans (.freePlace (fun hx => by cases hx) (fun hx => by cases hx) _) e he hk
    · have hs' : (withRx rest c).job.state ≠ .bidding := by
        have : c.job.state ≠ .bidding := by obtain h | h := hs <;> rw [h] <;> exact fun hx => by cases hx
        exact this
      have hoff := (holdPush_offers (c := withRx rest c) .supervisory t.oven hs').trans (.freePlace _)
      have hdue : { (withRx rest c).due with holdTimer := false } = c.due := holdTimer_of_ready hands.1
      rw [hdue] at hoff
      exact hoff
  · refine next_of_nothingWaits hstep ?_ hwaits rfl rfl rfl rfl
    have hs' : (withRx rest c).job.state = .held := hs
    rw [jobOnHalt, if_pos (hhalt hsrc hn), hs']
    rfl
  · obtain ⟨b, hb⟩ : ∃ b, b = withRx rest c := ⟨_, rfl⟩
    have hs' : b.job.state = .claimed ∨ b.job.state = .doors ∨ b.job.state = .staged := by rw [hb]; exact hs
    have habort : jobOnHalt t.src t.oven b = abortJob .supervisoryHalt b := by
      rw [jobOnHalt, if_pos (by rw [hb]; exact hhalt hsrc hn)]
      obtain h | h | h := hs' <;> rw [h]
    rw [← hb, habort] at hstep
    have hbase : JobBase 0 i o c b := by
      rw [hb]
      refine ⟨⟨rfl, rfl, fun _ _ => Nat.le_refl _, fun _ _ _ _ hf => hf.elim⟩, rfl, fun _ => rfl, ho, fun _ _ => rfl, rfl, rfl, rfl⟩
    have hnotBidding : c.job.state ≠ .bidding := by obtain h | h | h := hs <;> rw [h] <;> exact fun hx => by cases hx
    have hcase : AbortCase .supervisoryHalt t.oven i b (abortJob .supervisoryHalt b) := by
      rw [hb]
      exact abortJob_case hn (jobIndex_eq (c := withRx rest c) hn hi) hnotBidding
    refine ⟨_, hstep, .of_base (r := .supervisoryHalt) hbase (by omega) (by rw [hb]; rfl) hn hi hnotBidding (fun _ _ => rfl)
      (by rw [hb]; rfl) (by rw [hb]; exact hthirty), ?_, ?_, fun e he hk => ?_⟩
    · have hdoors : (freePlace (abortJob .supervisoryHalt b)).doors = b.doors := by simp
      rw [hdoors, hb]
      rfl
    · have hrx : (freePlace (abortJob .supervisoryHalt b)).line.rx = b.line.rx := by simp
      rw [hrx, hb]
      rfl
    · have hnew := (hcase.no_halt (by obtain h | h | h := hs' <;> rw [h] <;> exact fun hx => by cases hx)).trans
        (.freePlace (fun hx => by cases hx) (fun hx => by cases hx) _)
      have hmem := hnew e he hk
      rw [hb] at hmem
      exact hmem
  · refine next_of_nothingWaits hstep ?_ hwaits rfl rfl rfl rfl
    unfold jobOnHalt
    split
    · next hall =>
      obtain ⟨hsrc, hn⟩ := hall
      have hs : (withRx rest c).job.state = .idle ∨ (withRx rest c).job.state = .bidding ∨ (withRx rest c).job.state = .claiming
          ∨ (withRx rest c).job.state = .reclosing := by
        obtain h | h | h := hother
        · exact absurd hsrc h
        · exact absurd hn h
        · exact h
      obtain h | h | h | h := hs <;> rw [h]
    · rfl

/-! ## A foreign CLAIM -/

/-- The three ways the held-claim record meets a CLAIM (R65). -/
theorem HeldRecord.take_eq {t : Telegram} {r h : HeldRecord}
    (hcases : (r.claim = none ∧ h = { r with claim := some ⟨t.src, t.oven, t.ident⟩, age := 0 })
      ∨ (∃ k, r.claim = some k ∧ (k.holder = t.src ∨ t.ident < k.ident)
          ∧ h = { r with claim := some ⟨t.src, t.oven, t.ident⟩, age := 0 })
      ∨ (∃ k, r.claim = some k ∧ k.holder ≠ t.src ∧ k.ident ≤ t.ident ∧ h = r)) : r.take t = h := by
  unfold HeldRecord.take
  obtain ⟨hn, rfl⟩ | ⟨k, hk, hmore, rfl⟩ | ⟨k, hk, hne, hle, rfl⟩ := hcases
  · split
    · rfl
    · next k hk => exact absurd (hn.symm.trans hk) (fun hx => by cases hx)
  · split
    · next hn => exact absurd (hn.symm.trans hk) (fun hx => by cases hx)
    · next k' hk' =>
      cases hk.symm.trans hk'
      exact if_pos hmore
  · split
    · next hn => exact absurd (hn.symm.trans hk) (fun hx => by cases hx)
    · next k' hk' =>
      cases hk.symm.trans hk'
      exact if_neg (not_or.mpr ⟨hne, Nat.not_lt.mpr hle⟩)

theorem beatsOwnClaim_iff {t : Telegram} {c : Controller} {own : Nat} (h : c.job.ownClaim = some own) :
    beatsOwnClaim t c = true ↔ t.ident < own := by simp [beatsOwnClaim, h]

/-- What giving the job up to a foreign CLAIM does: the oven leaves the job phases, the call is dropped, the job is IDLE, and CLAIM
CONFLICT LOST is counted (R62). -/
theorem abandonJob_eq (i n : Nat) (c : Controller) :
    abandonJob i n c = count .claimConflictLost (some n) (idleJob (withdrawKind .permit (dropCall (settlePhase i c)))) := rfl

theorem afterJob_back {g : Config} {o : Oven} (h : o.phase = .isolating ∨ o.phase = .isolated) :
    (o.afterJob g).phase = .coking ∧ (o.afterJob g).mode = .regulate ∧ (o.afterJob g).command = o.command := by
  obtain h | h := h <;> simp [Oven.afterJob, h]

/-- A CLAIM that is not more urgent than the own changes nothing. -/
theorem takeClaim_of_less {t : Telegram} {c : Controller} {own : Nat} (hr : c.round.opened = false) (hown : c.job.ownClaim = some own)
    (hle : own ≤ t.ident) (h1 : c.job.state ≠ .idle) (h2 : c.job.state ≠ .bidding) : takeClaim t c = c := by
  have hno : ¬ beatsOwnClaim t c = true := by rw [beatsOwnClaim_iff hown]; omega
  rw [takeClaim, if_neg (by simp [hr])]
  cases hs : c.job.state
  case idle => exact absurd hs h1
  case bidding => exact absurd hs h2
  all_goals exact if_neg hno

/-- Settles O54: by the round and the state of the job. -/
theorem claimTaken : Obligations.ClaimTaken := by
  intro q c t rest h hands hwaits hheld
  have hstep : exec .claim ⟨q, c⟩ = .next ⟨q, freePlace (takeClaim t (withRx rest c))⟩ := act_handOn hands rfl
  have htake : c.held.take t = h := HeldRecord.take_eq hheld
  have hrecord : recordClaim t (withRx rest c) = { withRx rest c with held := h } := by
    rw [← htake]
    rfl
  have hless {own : Nat} (hr : c.round.opened = false) (hown : c.job.ownClaim = some own) (hle : own ≤ t.ident) (h1 : c.job.state ≠ .idle)
      (h2 : c.job.state ≠ .bidding) : exec .claim ⟨q, c⟩ = .next ⟨q, withRx rest c⟩ :=
    next_of_nothingWaits hstep (takeClaim_of_less (c := withRx rest c) hr hown hle h1 h2) hwaits rfl rfl rfl rfl
  have hbeats {own : Nat} (hown : c.job.ownClaim = some own) (hlt : t.ident < own) : beatsOwnClaim t (withRx rest c) = true :=
    (beatsOwnClaim_iff (c := withRx rest c) hown).mpr hlt
  have hclosed (hr : c.round.opened = false) : ¬ (withRx rest c).round.opened = true := by
    simp [withRx, hr]
  refine ⟨fun hr hs => next_of_nothingWaits hstep ?_ hwaits rfl rfl rfl rfl, fun hr => ?_, fun own hr hs hown => ⟨fun hlt => ?_, fun hle => ?_⟩,
    fun own n i o hr hs hown hn hi ho hrem hthirty => ⟨fun hlt => ?_, fun hle => ?_⟩,
    fun own n i hr hown hn hi hs => ⟨fun hlt => next_of_nothingWaits hstep ?_ hwaits rfl rfl rfl rfl, fun hle => ?_⟩⟩
  · rw [takeClaim, if_neg (hclosed hr), ← hrecord]
    have hs' : (withRx rest c).job.state = .idle ∨ (withRx rest c).job.state = .bidding := hs
    obtain hs' | hs' := hs' <;> rw [hs']
  · have hopen : takeClaim t (withRx rest c) = recordClaim t (claimClosesRound (withRx rest c)) := if_pos hr
    rw [hopen] at hstep
    have hfree := OnlyOffers.freePlace (recordClaim t (claimClosesRound (withRx rest c)))
    by_cases hs : c.job.state = .bidding
    · obtain ⟨b, hb⟩ : ∃ b, b = withdrawKind .bid (withRx rest c) := ⟨_, rfl⟩
      have hcloses : claimClosesRound (withRx rest c) = closeRound (idleJob b) := by rw [hb]; exact congrArg closeRound (if_pos hs)
      have hwith : OnlyOffers (withRx rest c) b := hb ▸ .withdrawKind _ _
      rw [hcloses] at hstep hfree
      refine ⟨_, hstep, ?_, ?_, ?_, fun _ => ⟨?_, ?_⟩, fun hne => absurd hs hne⟩
      · rw [hfree.round]
        rfl
      · rw [hfree.held, ← htake]
        exact congrArg (HeldRecord.take t) hwith.held
      · rw [hfree.table]
        exact hwith.table
      · rw [freePlace_job]
        rfl
      · have hnone : NoneOf .bid (recordClaim t (closeRound (idleJob b))) :=
          (hb ▸ NoneOf.withdrawKind .bid (withRx rest c) : NoneOf .bid b).congr rfl
        exact hnone.freePlace (fun hx => by cases hx) (fun hx => by cases hx)
    · have hcloses : claimClosesRound (withRx rest c) = closeRound (withRx rest c) := congrArg closeRound (if_neg hs)
      rw [hcloses] at hstep hfree
      have hself := next_of_nothingWaits (d := recordClaim t (closeRound (withRx rest c))) hstep rfl hwaits rfl rfl rfl rfl
      exact ⟨_, hself, rfl, htake, rfl, fun hb => absurd hb hs, fun _ => ⟨rfl, rfl⟩⟩
  · obtain ⟨b, hb⟩ : ∃ b, b = withdrawKind .claim (withRx rest c) := ⟨_, rfl⟩
    have hwith : OnlyOffers (withRx rest c) b := hb ▸ .withdrawKind _ _
    have hlost : takeClaim t (withRx rest c) = recordClaim t (idleJob b) := by
      have hs' : (withRx rest c).job.state = .claiming := hs
      rw [takeClaim, if_neg (hclosed hr), hs', hb]
      exact if_pos (hbeats hown hlt)
    rw [hlost] at hstep
    have hfree := OnlyOffers.freePlace (recordClaim t (idleJob b))
    refine ⟨_, hstep, ?_, ?_, ?_, ?_, ?_⟩
    · rw [freePlace_job]
      rfl
    · rw [freePlace_job]
      rfl
    · have hnone : NoneOf .claim (recordClaim t (idleJob b)) :=
        (hb ▸ NoneOf.withdrawKind .claim (withRx rest c) : NoneOf .claim b).congr rfl
      exact hnone.freePlace (fun hx => by cases hx) (fun hx => by cases hx)
    · rw [hfree.held, ← htake]
      exact congrArg (HeldRecord.take t) hwith.held
    · rw [hfree.table]
      exact hwith.table
  · exact hless hr hown hle (by rw [hs]; exact fun hx => by cases hx) (by rw [hs]; exact fun hx => by cases hx)
  · obtain ⟨b, hb⟩ : ∃ b, b = withRx rest c := ⟨_, rfl⟩
    obtain ⟨e, he⟩ : ∃ e, e = settlePhase i b := ⟨_, rfl⟩
    have hbi : jobIndex b = some i := by
      rw [hb]
      exact jobIndex_eq (c := withRx rest c) hn hi
    have hgive : takeClaim t b = recordClaim t (abandonJob i n b) := by
      have hs' : b.job.state = .claimed ∨ b.job.state = .doors := by rw [hb]; exact hs
      have hbn : b.job.oven = some n := by rw [hb]; exact hn
      have hbr : ¬ anyRemoved b i = true := by rw [hb]; exact Bool.eq_false_iff.mp hrem
      have hbb : beatsOwnClaim t b = true := by rw [hb]; exact hbeats hown hlt
      rw [takeClaim, if_neg (by rw [hb]; exact hclosed hr)]
      obtain hs' | hs' := hs' <;> simp only [hs', if_pos hbb, hbn, hbi, if_neg hbr]
    rw [← hb, hgive, abandonJob_eq, ← he] at hstep
    obtain ⟨x, hx⟩ : ∃ x, x = idleJob (withdrawKind .permit (dropCall e)) := ⟨_, rfl⟩
    rw [← hx] at hstep
    have hxtable : x.table = e.table := by rw [hx]; simp [idleJob, modifyJob]
    have hstays : EventsStay c x := by
      rw [hx, he]
      have hsettle := (EventsStay.settlePhase i b).trans (.dropCall _)
      have hstart : EventsStay c b := .of_eq (by rw [hb]; rfl)
      exact (hstart.trans hsettle).trans ((EventsStay.withdrawKind _ _).trans (.idleJob _))
    have hoven := (settlePhase_ovenAt (c := b) (by rw [hb]; exact ho) (by rw [hb]; exact hrem)).1
    have hcfg : cfg b = cfg c := by rw [hb]; rfl
    rw [← he, hcfg] at hoven
    have hfree := OnlyOffers.freePlace (recordClaim t (count .claimConflictLost (some n) x))
    have hends : EventsStay (count .claimConflictLost (some n) x) (freePlace (recordClaim t (count .claimConflictLost (some n) x))) :=
      EventsStay.trans (c := recordClaim t (count .claimConflictLost (some n) x)) (.of_eq rfl) (.freePlace _)
    refine ⟨_, o.afterJob (cfg c), hstep, ?_, ?_, ?_, ?_, ?_, afterJob_minutes _ _, afterJob_back⟩
    · have htable : (freePlace (recordClaim t (count .claimConflictLost (some n) x))).table = e.table := by
        rw [hfree.table, ← hxtable]
        simp [recordClaim, modifyHeld]
      exact (ovenAt_congr (by rw [htable]) i).trans hoven
    · rw [freePlace_job]
      have hjob : (recordClaim t (count .claimConflictLost (some n) x)).job = x.job := by simp [recordClaim, modifyHeld]
      rw [hjob, hx]
      rfl
    · rw [freePlace_track]
      have htrack : (recordClaim t (count .claimConflictLost (some n) x)).track = x.track := by simp [recordClaim, modifyHeld]
      have hxtrack : x.track = (dropCall e).track := by rw [hx]; simp [idleJob, modifyJob]
      rw [htrack, hxtrack]
      exact dropCall_step e
    · rw [hfree.held]
      have hsame : (count .claimConflictLost (some n) x).held = c.held := by
        have hxheld : x.held = b.held := by rw [hx, he]; simp [idleJob, modifyJob]
        rw [show (count .claimConflictLost (some n) x).held = x.held by simp, hxheld, hb]
        rfl
      rw [← htake]
      exact congrArg (HeldRecord.take t) hsame
    · exact countedOnce_of_stays (k := .claimConflictLost) hends hstays (by decide) hthirty
  · refine hless hr hown hle ?_ ?_ <;> obtain hs | hs := hs <;> rw [hs] <;> exact fun hx => by cases hx
  · rw [← hrecord, takeClaim, if_neg (hclosed hr)]
    have hbb := hbeats hown hlt
    obtain hs | hs | hs | hs | hs | ⟨hs, hrem⟩ := hs
    case inr.inr.inr.inr.inr =>
      have hji : jobIndex (withRx rest c) = some i := jobIndex_eq (c := withRx rest c) hn hi
      have hn' : (withRx rest c).job.oven = some n := hn
      have hr' : anyRemoved (withRx rest c) i = true := hrem
      have hs' : (withRx rest c).job.state = .claimed ∨ (withRx rest c).job.state = .doors := hs
      obtain hs' | hs' := hs' <;> simp only [hs', if_pos hbb, hn', hji, if_pos hr']
    all_goals
      rw [show (withRx rest c).job.state = _ from hs]
      exact if_pos hbb
  · refine hless hr hown hle ?_ ?_ <;> obtain hs | hs | hs | hs | hs | ⟨hs | hs, _⟩ := hs <;> rw [hs] <;> exact fun hx => by cases hx

end Sys2Proof.Machine
end

section
/-! SUPPORT. The two points of an opening (R124 to R126). -/

-- The lemmas are checked one after another, as the tests are.
set_option Elab.async false

namespace Sys2Proof.Machine

open Sys2Proof

theorem modify_eq_set {α : Type} {l : List α} {i : Nat} {a : α} (f : α → α) (h : l[i]? = some a) : l.modify i f = l.set i (f a) := by
  refine List.ext_getElem? fun j => ?_
  rw [List.getElem?_modify, List.getElem?_set]
  by_cases hj : i = j
  · subst hj
    rw [h, if_pos rfl, if_pos (List.getElem?_eq_some_iff.mp h).1]
    simp
  · simp [hj]

theorem takeDoorWarn_of_not_due {ch : Nat} {c : Controller} (h : ch ∉ c.due.doorWarn) : takeDoorWarn ch c = c :=
  if_neg (by simpa using h)

theorem takeDoorOverdue_of_not_due {ch : Nat} {c : Controller} (h : ch ∉ c.due.doorOverdue) : takeDoorOverdue ch c = c :=
  if_neg (by simpa using h)

/-- The overdue point taken where no warning of the channel waits. -/
theorem exec_doorOverdue {q : List Instr} {c : Controller} {ch : Nat} (hp : c.start.powerOn = false) (hdue : ch ∈ c.due.doorOverdue)
    (hwarn : ch ∉ c.due.doorWarn) : exec (.doorOverdue ch) ⟨q, c⟩ = .next ⟨q, freePlace (doorOverdues ch
      (modifyDue (fun d => { d with doorOverdue := d.doorOverdue.filter (· != ch) }) c))⟩ := by
  have htake : takeDoorOverdue ch c = freePlace (doorOverdues ch
      (modifyDue (fun d => { d with doorOverdue := d.doorOverdue.filter (· != ch) }) c)) := by
    rw [takeDoorOverdue, if_pos (by simpa using hdue), takeDoorWarn_of_not_due hwarn]
    rfl
  rw [← htake]
  exact event_of_running (c := c) hp

theorem doorOverdues_of_due {c : Controller} {ch : Nat} {r : Door} (hr : c.doors.doors[ch]? = some r)
    (hs : r.state = .unlatched ∨ r.state = .removed) (hsecs : (cfg c).tdo ≤ r.openSecs) (ho : r.overdue = false) :
    doorOverdues ch c = jobOnOverdue (ch / 2) (count .doorOverdue (some (ovenNumber c (ch / 2)))
      { c with doors := { c.doors with doors := c.doors.doors.set ch { r with overdue := true } } }) := by
  have hdue : (c.doors.doors[ch]?).any (overdueAt (cfg c)) = true := by
    rw [hr]
    obtain hs | hs := hs <;> simp [overdueAt, Door.opened, hs, hsecs, ho]
  have hset : modifyDoor ch (fun d => { d with overdue := true }) c
      = { c with doors := { c.doors with doors := c.doors.doors.set ch { r with overdue := true } } } := by
    rw [modifyDoor, modify_eq_set _ hr]
  rw [doorOverdues, if_pos hdue, hset]
  rfl

/-- An opening's flags do not enter into the door states. -/
theorem doorAt_of_set {c d : Controller} {ch : Nat} {r r' : Door} (hr : c.doors.doors[ch]? = some r)
    (hd : d.doors.doors = c.doors.doors.set ch r') (hs : r'.state = r.state) (j : Nat) : doorAt d j = doorAt c j := by
  simp only [doorAt, hd, List.getElem?_set]
  split
  · next hj =>
    subst hj
    rw [hr, if_pos (List.getElem?_eq_some_iff.mp hr).1]
    exact congrArg some hs
  · rfl

/-- An open door keeps its oven from being latched. -/
theorem bothLatched_of_open {c : Controller} {ch : Nat} {r : Door} (hr : c.doors.doors[ch]? = some r)
    (hs : r.state = .unlatched ∨ r.state = .removed) : bothLatched c (ch / 2) = false := by
  have hat : doorAt c ch = some r.state := by simp [doorAt, hr]
  have hopen : r.state.latchedState = false := by obtain hs | hs := hs <;> rw [hs] <;> rfl
  have hside : ch = 2 * (ch / 2) ∨ ch = 2 * (ch / 2) + 1 := by omega
  obtain h | h := hside <;> (rw [h] at hat; simp [bothLatched, hat, hopen])

/-- The door records after a point of an opening has set its flag. -/
theorem JobBase.of_flag {i ch : Nat} {o : Oven} {c b : Controller} {r r' : Door} (ho : ovenAt c i = some o)
    (hr : c.doors.doors[ch]? = some r) (hd : b.doors.doors = c.doors.doors.set ch r') (hs : r'.state = r.state) (hstart : b.start = c.start)
    (hl : b.line = c.line) (ht : b.table = c.table) (hround : b.round = c.round) (hh : b.held = c.held) : JobBase 0 i o c b where
  keeps := .of_eq (by rw [hstart]) hl
  start := hstart
  states := doorAt_of_set hr hd hs
  oven := (ovenAt_congr (by rw [ht]) i).trans ho
  others j _ := ovenAt_congr (by rw [ht]) j
  table := by rw [ht]
  round := hround
  held := hh

/-- An abort from PERMITTED that waits in RECLOSING leaves a HALT in the queue (R93). -/
theorem AbortCase.halt_waits {r : AbortReason} {n i : Nat} {b d : Controller} (h : AbortCase r n i b d) (hs : b.job.state = .permitted)
    (hl : bothLatched b i = false) (ha : isActive b = true) (hr : roomFor 2 b) : waitsInTx (haltTelegram (ownNumber b) n) d := by
  cases h with
  | back hs' => exact absurd hs' (by rw [hs]; exact fun h => h.elim (fun hx => by cases hx) fun hx => by cases hx)
  | atOnce _ hl' => exact absurd (hl'.symm.trans hl) (by decide)
  | waits =>
    obtain ⟨x, hx⟩ : ∃ x, x = count .jobAborted (some r.code) b := ⟨_, rfl⟩
    have hkeeps : QueueKeeps (fun _ => False) 1 b x := hx ▸ .count _ _ _
    have hcounted : abortCounted r n b = offerHalt n x := by
      rw [hx]
      exact if_pos hs
    have hwaits : waitsInTx (haltTelegram (ownNumber x) n) (offerHalt n x) :=
      offerHalt_waits (hkeeps.active.trans ha) (hkeeps.room (m := 1) ha hr)
    have hroom : roomFor 0 (offerHalt n x) := by
      have hoffer : QueueKeeps (fun _ => False) 1 x (offerHalt n x) := .offerHalt (fun _ hu => hu.elim) _ _
      exact (hkeeps.trans hoffer).room (m := 0) ha hr
    have hactive : isActive (offerHalt n x) = true := by
      have hoffer : QueueKeeps (fun _ => False) 1 x (offerHalt n x) := .offerHalt (fun _ hu => hu.elim) _ _
      exact (hkeeps.trans hoffer).active.trans ha
    rw [hcounted, ← hkeeps.ownNumber]
    exact (QueueKeeps.reclosingEntered (P := fun u => u.kind ≠ some .permit) (fun _ hu => hu) (offerHalt n x)).waits hactive hroom
      (fun hx => by cases hx) hwaits

/-- Settles O18: the warning, the overdue point that aborts nothing, and the one that aborts. -/
theorem openingPoints : Obligations.OpeningPoints := by
  intro q c ch r hp hthirty hr hs
  refine ⟨fun hdue hsecs hw => ?_, fun hdue hwarn hsecs ho hother => ?_, fun n o hdue hwarn hsecs ho hrec hn hi hoven hstate => ?_⟩
  · obtain ⟨b, hb⟩ : ∃ b, b = modifyDue (fun d => { d with doorWarn := d.doorWarn.filter (· != ch) }) c := ⟨_, rfl⟩
    have hbr : b.doors.doors[ch]? = some r := by rw [hb]; exact hr
    have hstep : exec (.doorWarn ch) ⟨q, c⟩ = .next ⟨q, freePlace (doorWarns ch b)⟩ := by
      rw [hb]
      exact event_takeDue (due := fun c => c.due.doorWarn.contains ch) hp (by simpa using hdue)
    have hwarns : doorWarns ch b = count .doorWarn (some (ovenNumber b (ch / 2)))
        { b with doors := { b.doors with doors := b.doors.doors.set ch { r with warned := true } } } := by
      have hcfg : cfg b = cfg c := by rw [hb]; rfl
      have hgo : (b.doors.doors[ch]?).any (warnsAt (cfg b)) = true := by
        rw [hbr, hcfg]
        obtain hs | hs := hs <;> simp [warnsAt, Door.opened, hs, hsecs, hw]
      rw [doorWarns, if_pos hgo, modifyDoor, modify_eq_set _ hbr]
    rw [hwarns] at hstep
    obtain ⟨d, hd, hcount, hoff⟩ := counted_of_step (c := c) hstep (by rw [hb]; rfl) (by decide) hthirty
    refine ⟨d, hd, hcount, ?_⟩
    rw [hb] at hoff
    exact hoff
  all_goals
    have hstep := exec_doorOverdue (q := q) hp hdue hwarn
    obtain ⟨b, hb⟩ : ∃ b, b = modifyDue (fun d => { d with doorOverdue := d.doorOverdue.filter (· != ch) }) c := ⟨_, rfl⟩
    have hbr : b.doors.doors[ch]? = some r := by rw [hb]; exact hr
    obtain ⟨f, hf⟩ : ∃ f : Controller, f = { b with doors := { b.doors with doors := b.doors.doors.set ch { r with overdue := true } } } :=
      ⟨_, rfl⟩
    rw [← hb, doorOverdues_of_due hbr hs (by rw [hb]; exact hsecs) ho, ← hf] at hstep
    generalize some (ovenNumber b (ch / 2)) = first at hstep
    obtain ⟨x, hx⟩ : ∃ x, x = count .doorOverdue first f := ⟨_, rfl⟩
    have hxjob : x.job = c.job := by rw [hx, show (count .doorOverdue first f).job = f.job by simp, hf, hb]; rfl
    have hxstart : x.start = c.start := by rw [hx, show (count .doorOverdue first f).start = f.start by simp, hf, hb]; rfl
    have hxindex : jobIndex x = jobIndex c := jobIndex_congr hxstart (by rw [hxjob])
    have hfentries : f.events.entries = c.events.entries := by rw [hf, hb]; rfl
  · have hno : jobOnOverdue (ch / 2) x = x := by
      refine if_neg fun hgo => ?_
      simp only [Bool.and_eq_true, Bool.or_eq_true, isJobOven, hxindex, hxjob, beq_iff_eq, beforePermit, Bool.not_eq_true'] at hgo
      obtain ⟨⟨_, hindex⟩, hstate⟩ := hgo
      obtain h | h | h | h | h | ⟨h, h'⟩ | h := hother
      · exact h hindex
      all_goals simp_all
    rw [← hx, hno, hx] at hstep
    obtain ⟨d, hd, hcount, hoff⟩ := counted_of_step (c := c) hstep hfentries (by decide) hthirty
    refine ⟨d, hd, hcount, ?_⟩
    rw [hf, hb] at hoff
    exact hoff
  · have hindex : jobIndex x = some (ch / 2) := hxindex.trans (jobIndex_eq hn hi)
    have habort : jobOnOverdue (ch / 2) x = abortJob .doorOverdue x := by
      refine if_pos ?_
      have hruns : jobRuns x = true := by
        have : receiving x = receiving c := by simp only [receiving, hxstart]
        exact this.trans hrec
      rw [hruns, isJobOven, hindex, hxjob]
      obtain h | h | h | h | ⟨h, h'⟩ := hstate <;> simp [beforePermit, *]
    rw [← hx, habort] at hstep
    have hbase : JobBase 0 (ch / 2) o c f := by
      rw [hf, hb]
      exact .of_flag hoven hr rfl rfl rfl rfl rfl rfl rfl
    have hxbase : JobBase 1 (ch / 2) o c x := by
      rw [hx]
      exact hbase.count .doorOverdue first
    have hnotBidding : c.job.state ≠ .bidding := by obtain h | h | h | h | ⟨h, _⟩ := hstate <;> rw [h] <;> exact fun hx => by cases hx
    have hl : bothLatched c (ch / 2) = false := bothLatched_of_open hr hs
    have hcase : AbortCase .doorOverdue n (ch / 2) x (abortJob .doorOverdue x) :=
      abortJob_case (by rw [hxjob]; exact hn) hindex (by rw [hxjob]; exact hnotBidding)
    have hentry (j : Nat) (hj : 1 ≤ j) (hne : j ≠ 19) : x.events.entry j = c.events.entry j := by
      rw [hx, entry_count_ne (k := .doorOverdue) hj hne]
      simp only [EventTable.entry, hfentries]
    have hthirtyx : thirtyEntries x := by
      rw [thirtyEntries, hx, length_entries_count, hfentries]
      exact hthirty
    refine ⟨_, hstep, ?_, .of_base (r := .doorOverdue) hxbase (by omega) (by rw [hxjob]) hn hi hnotBidding
      (fun _ hlatched => absurd (hlatched.symm.trans hl) (by decide)) (hentry 24 (by decide) (by decide)) hthirtyx, ?_, ?_⟩
    · have hkept : EventsStay (count .jobAborted (some AbortReason.doorOverdue.code) x) (freePlace (abortJob .doorOverdue x)) :=
        hcase.effects.1.trans (.freePlace _)
      have hsame : (freePlace (abortJob .doorOverdue x)).events.entry 19 = x.events.entry 19 :=
        (hkept.entry 19 (by decide) (by decide)).trans (entry_count_ne (by decide) (by decide))
      have hft : thirtyEntries f := by rw [thirtyEntries, hfentries]; exact hthirty
      have hraised : x.events.entry 19 = EventEntry.raised first (f.events.entry 19) := by
        rw [hx]
        exact entry_count (k := .doorOverdue) hft
      rw [countedOnce, hsame, hraised]
      simp only [EventEntry.raised, EventTable.entry, hfentries]
    · have hdoors : (freePlace (abortJob .doorOverdue x)).doors = x.doors := by simp
      rw [hdoors, hx, show (count .doorOverdue first f).doors = f.doors by simp, hf, hb]
      rfl
    · intro hpermitted hact hroom
      have hhalt := hcase.halt_waits (by rw [hxjob]; exact hpermitted) ((hxbase.bothLatched _).trans hl) (hxbase.keeps.active.trans hact)
        (hxbase.room (k := 2) hact (by rw [roomFor] at hroom ⊢; omega))
      rw [hxbase.keeps.ownNumber] at hhalt
      exact waitsInTx_freePlace hhalt (fun hx => by cases hx)

end Sys2Proof.Machine
end

section
/-! SUPPORT. The telegrams that change an oven's record: CHARGE (R4, R5), SEED (R6, R184), CLEAR and INHIBIT (R185, R186). -/

-- The lemmas are checked one after another, as the tests are.
set_option Elab.async false

namespace Sys2Proof.Machine

open Sys2Proof

/-- c with the oven record at index i replaced. -/
def ovenSet (i : Nat) (o : Oven) (c : Controller) : Controller := { c with table := { c.table with ovens := c.table.ovens.set i o } }

theorem ovenSet_self {i : Nat} {o : Oven} {c : Controller} (h : ovenAt c i = some o) : ovenSet i o c = c := by
  have hset : c.table.ovens.set i o = c.table.ovens := by
    refine List.ext_getElem? fun j => ?_
    rw [List.getElem?_set]
    split
    · next hj =>
      subst hj
      have hlt : i < c.table.ovens.length := (List.getElem?_eq_some_iff.mp h).1
      rw [if_pos hlt]
      exact h.symm
    · rfl
  simp only [ovenSet, hset]

theorem modifyOven_eq_ovenSet {i : Nat} {o : Oven} {c : Controller} (f : Oven → Oven) (h : ovenAt c i = some o) :
    modifyOven i f c = ovenSet i (f o) c := by
  rw [modifyOven, ovenSet, modify_eq_set f h]

theorem ovenAt_ovenSet {i : Nat} {o o' : Oven} {c : Controller} (h : ovenAt c i = some o) : ovenAt (ovenSet i o' c) i = some o' := by
  have hlt : i < c.table.ovens.length := (List.getElem?_eq_some_iff.mp h).1
  simp [ovenAt, ovenSet, hlt]

theorem ovenAt_ovenSet_ne {i j : Nat} {o : Oven} {c : Controller} (h : j ≠ i) : ovenAt (ovenSet i o c) j = ovenAt c j := by
  simp [ovenAt, ovenSet, Ne.symm h]

/-- What is offered leaves the oven of the job, or has made a BIDDING record IDLE. -/
theorem OnlyOffers.jobIndex_cases {c d : Controller} (h : OnlyOffers c d) : jobIndex d = jobIndex c ∨ jobIndex d = none := by
  obtain hj | ⟨_, hj⟩ := h.job
  · exact .inl (jobIndex_congr h.start (by rw [hj]))
  · refine .inr ?_
    have hn : d.job.oven = none := by rw [hj]; rfl
    simp [jobIndex, hn]

/-- What is offered leaves the state of the job, or has made a BIDDING record IDLE. -/
theorem OnlyOffers.state_cases {c d : Controller} (h : OnlyOffers c d) : d.job.state = c.job.state ∨ d.job.state = .idle := by
  obtain hj | ⟨_, hj⟩ := h.job
  · exact .inl (by rw [hj])
  · exact .inr (by rw [hj]; rfl)

/-! ## A phase change by the oven table -/

/-- The states of the push job in which a changed command has the conditions evaluated. -/
def evaluates (s : JobState) : Bool := s == .staged || s == .permitted || s == .pushing || s == .held

theorem evaluate_of_state {c : Controller} (h : evaluates c.job.state = false) : evaluate c = c := by
  simp only [evaluates, Bool.or_eq_false_iff, beq_eq_false_iff_ne] at h
  obtain ⟨⟨⟨h1, h2⟩, h3⟩, h4⟩ := h
  exact evaluate_eq_self h1 h2 h3 h4

theorem enterMode_command {g : Config} {o : Oven} (h : o.phase.setsCommand = false) : (o.enterMode g).command = o.command := by
  unfold Oven.enterMode
  split <;> simp_all [Phase.setsCommand, Oven.enterIsolating, Oven.enterRegulate]

/-- A command that the phase change leaves as it was is not reported. -/
theorem commandAt_setPhase {i : Nat} {p : Phase} {c : Controller} (h : anyRemoved c i = true ∨ p.setsCommand = false) :
    commandAt (setPhase i p c) i = commandAt c i := by
  have hkeep (o : Oven) : (movedOven (cfg c) p (anyRemoved c i) o).command = o.command := by
    unfold movedOven
    obtain h | h := h
    · rw [if_pos h]
      rfl
    · split
      · rfl
      · exact enterMode_command h
  simp only [commandAt, ovenAt, setPhase_ovens, List.getElem?_modify]
  cases c.table.ovens[i]? with
  | none => rfl
  | some o => simp [hkeep]

/-- The oven table's phase change moves no other block where the oven is not the job's, the state evaluates no conditions, or the
command stays. -/
theorem tableSetPhase_eq {i : Nat} {p : Phase} {c : Controller}
    (h : jobIndex c ≠ some i ∨ evaluates c.job.state = false ∨ anyRemoved c i = true ∨ p.setsCommand = false) :
    tableSetPhase i p c = setPhase i p c := by
  have hoff := OnlyOffers.setPhase i p c
  unfold tableSetPhase jobOnCommand
  split
  · next hgo =>
    simp only [Bool.and_eq_true, isJobOven, beq_iff_eq, bne_iff_ne] at hgo
    obtain ⟨⟨_, hindex⟩, hne⟩ := hgo
    obtain h | h | h := h
    · obtain hsame | hnone := hoff.jobIndex_cases
      · exact absurd (hsame.symm.trans hindex) h
      · exact absurd (hnone.symm.trans hindex) (fun hx => by cases hx)
    · refine evaluate_of_state ?_
      obtain hsame | hidle := hoff.state_cases
      · rw [hsame]
        exact h
      · rw [hidle]
        rfl
    · exact absurd (commandAt_setPhase h) hne
  · rfl

theorem setPhase_frame_kept {i : Nat} {p : Phase} {c : Controller} (h : anyRemoved c i = true ∨ p.setsCommand = false) :
    (setPhase i p c).reg.frame = c.reg.frame ∧ (setPhase i p c).reg.frameHeld = c.reg.frameHeld := by
  obtain ⟨m, hm⟩ : ∃ m, m = queuePhase i (modifyOven i (fun o => ({ o with phase := p }).withStage (cfg c)) c) := ⟨_, rfl⟩
  have hoff : OnlyOffers (modifyOven i (fun o => ({ o with phase := p }).withStage (cfg c)) c) m := hm ▸ .queuePhase i _
  have hreg : m.reg.frame = c.reg.frame ∧ m.reg.frameHeld = c.reg.frameHeld := by
    rw [hoff.reg]
    exact ⟨rfl, rfl⟩
  have hset : setPhase i p c = takeUpPhase i m := by rw [hm]; rfl
  rw [hset, takeUpPhase]
  split
  · exact hreg
  · next hr =>
    have hrm : anyRemoved m i = anyRemoved c i := anyRemoved_congr hoff.doors i
    have hp : p.setsCommand = false := h.resolve_left (by rw [← hrm]; exact hr)
    have hphase : ∀ p', phaseAt m i = some p' → p' = p := fun p' hp' => by
      simp only [phaseAt, ovenAt, hoff.table, modifyOven, List.getElem?_modify] at hp'
      cases hx : c.table.ovens[i]? with
      | none => simp [hx] at hp'
      | some o =>
        simp [hx, Oven.withStage] at hp'
        exact hp'.symm
    unfold followPhase
    split
    · exact hreg
    · next p' hp' =>
      rw [hphase p' hp', hp]
      exact hreg

/-- The same where telegrams may have been offered before the change. -/
theorem tableSetPhase_eq_of_offers {i : Nat} {p : Phase} {b x : Controller} (hx : OnlyOffers b x)
    (h : jobIndex b ≠ some i ∨ evaluates b.job.state = false ∨ anyRemoved b i = true ∨ p.setsCommand = false) :
    tableSetPhase i p x = setPhase i p x := by
  refine tableSetPhase_eq ?_
  obtain h | h | h | h := h
  · refine .inl fun hindex => ?_
    obtain hsame | hnone := hx.jobIndex_cases
    · exact h (hsame.symm.trans hindex)
    · exact absurd (hnone.symm.trans hindex) (fun hx => by cases hx)
  · refine .inr (.inl ?_)
    obtain hsame | hidle := hx.state_cases
    · rw [hsame]
      exact h
    · rw [hidle]
      rfl
  · exact .inr (.inr (.inl ((anyRemoved_congr hx.doors i).trans h)))
  · exact .inr (.inr (.inr h))

/-- A phase change carried past what was offered before it. -/
theorem OnlyOffers.moved {b x y : Controller} (h : OnlyOffers b x) (i : Nat) (f : Oven → Oven) :
    OnlyOffers (withFrameOf y (withOven i f b)) (withFrameOf y (withOven i f x)) := by
  refine h.transport rfl rfl ?_ ?_
  · simp only [withFrameOf, withOven, h.table]
  · simp only [withFrameOf, withOven]
    rw [h.reg]

/-- What a phase change by the oven table does, after the record has become o and telegrams may have been offered. -/
theorem phaseTaken {i : Nat} {p : Phase} {o o₀ : Oven} {b x : Controller} (hx : OnlyOffers (ovenSet i o b) x) (ho : ovenAt b i = some o₀)
    (hstays : jobIndex b ≠ some i ∨ evaluates b.job.state = false ∨ anyRemoved b i = true ∨ p.setsCommand = false) :
    ovenAt (freePlace (tableSetPhase i p x)) i = some (movedOven (cfg b) p (anyRemoved b i) o)
      ∧ OnlyOffers { b with
          table := { b.table with ovens := b.table.ovens.set i (movedOven (cfg b) p (anyRemoved b i) o) }
          reg := { b.reg with frame := (freePlace (tableSetPhase i p x)).reg.frame, frameHeld := (freePlace (tableSetPhase i p x)).reg.frameHeld } }
          (freePlace (tableSetPhase i p x))
      ∧ (anyRemoved b i = true ∨ p.setsCommand = false → (freePlace (tableSetPhase i p x)).reg.frame = b.reg.frame
          ∧ (freePlace (tableSetPhase i p x)).reg.frameHeld = b.reg.frameHeld)
      ∧ (isActive b = true → roomFor 1 x →
          waitsInTx (phaseTelegram (ownNumber b) (movedOven (cfg b) p (anyRemoved b i) o)) (freePlace (tableSetPhase i p x))) := by
  have hquiet : tableSetPhase i p x = setPhase i p x := tableSetPhase_eq_of_offers hx hstays
  have hcfg : cfg x = cfg b := cfg_congr hx.start
  have hrem : anyRemoved x i = anyRemoved b i := anyRemoved_congr hx.doors i
  have hxo : ovenAt x i = some o := (ovenAt_congr (by rw [hx.table]) i).trans (ovenAt_ovenSet ho)
  obtain ⟨y, hy⟩ : ∃ y, y = setPhase i p x := ⟨_, rfl⟩
  have hmoved := OnlyOffers.setPhase i p x
  have hfree := OnlyOffers.freePlace y
  rw [hquiet, ← hy, freePlace_reg]
  rw [← hy, hcfg, hrem] at hmoved
  have htable : y.table.ovens = b.table.ovens.set i (movedOven (cfg b) p (anyRemoved b i) o) := by
    rw [hy, setPhase_ovens, hcfg, hrem, modify_eq_set _ hxo, hx.table]
    exact List.set_set _
  refine ⟨?_, ?_, fun h => ?_, fun ha hr => ?_⟩
  · rw [ovenAt, hfree.table, htable]
    exact ovenAt_ovenSet (c := b) ho
  · refine (OnlyOffers.trans ?_ hmoved).trans hfree
    have hpast := hx.moved (y := y) i (movedOven (cfg b) p (anyRemoved b i))
    have hset : withFrameOf y (withOven i (movedOven (cfg b) p (anyRemoved b i)) (ovenSet i o b)) = { b with
        table := { b.table with ovens := b.table.ovens.set i (movedOven (cfg b) p (anyRemoved b i) o) }
        reg := { b.reg with frame := y.reg.frame, frameHeld := y.reg.frameHeld } } := by
      have hlist : (ovenSet i o b).table.ovens.modify i (movedOven (cfg b) p (anyRemoved b i))
          = b.table.ovens.set i (movedOven (cfg b) p (anyRemoved b i) o) := by
        rw [modify_eq_set _ (ovenAt_ovenSet ho)]
        exact List.set_set _
      rw [withFrameOf, withOven, hlist]
      rfl
    rw [hset] at hpast
    exact hpast
  · have hkept := setPhase_frame_kept (i := i) (p := p) (c := x) (by rw [hrem]; exact h)
    rw [hy, hkept.1, hkept.2, hx.reg]
    exact ⟨rfl, rfl⟩
  · have hactive : isActive x = isActive b := by simp only [isActive, hx.start]; rfl
    have hwaits := setPhase_waits (p := p) (hactive.trans ha) hr hxo
    have htel : phaseTelegram (ownNumber x) { o with phase := p } = phaseTelegram (ownNumber b) (movedOven (cfg b) p (anyRemoved b i) o) := by
      obtain ⟨hnumber, hphase, hminutes, _, _, hinhibited, _⟩ := movedOven_keeps (cfg b) p (anyRemoved b i) o
      rw [hx.ownNumber]
      exact phaseTelegram_congr hnumber.symm hphase.symm hminutes.symm hinhibited.symm
    rw [htel, ← hy] at hwaits
    exact waitsInTx_freePlace hwaits (fun hx => by cases hx)

/-! ## The record after a change of phase -/

theorem movedOven_stage (g : Config) (p : Phase) (r : Bool) (o : Oven) :
    (movedOven g p r o).stage = if p = .coking then some (stageFor g o.target o.minutes) else none := by
  have hstage : (({ o with phase := p }).withStage g).stage = if p = .coking then some (stageFor g o.target o.minutes) else none := rfl
  unfold movedOven
  split
  · exact hstage
  · exact (enterMode_keeps g _).2.2.2.2.2.1.trans hstage

/-- While a door is off the valve stays as it stands (R156). -/
theorem movedOven_removed (g : Config) (p : Phase) (o : Oven) :
    (movedOven g p true o).mode = o.mode ∧ (movedOven g p true o).command = o.command ∧ (movedOven g p true o).integrator = o.integrator :=
  ⟨rfl, rfl, rfl⟩

/-- COKING regulates from the command kept (R156, R158). -/
theorem movedOven_coking (g : Config) (o : Oven) :
    (movedOven g .coking false o).mode = .regulate ∧ (movedOven g .coking false o).command = o.command
      ∧ (movedOven g .coking false o).integrator = clampInt (o.command * 1024) ((stageRow g (stageFor g o.target o.minutes)).umin * 1024)
          ((stageRow g (stageFor g o.target o.minutes)).umax * 1024) := ⟨rfl, rfl, rfl⟩

theorem movedOven_coking_command (g : Config) (r : Bool) (o : Oven) : (movedOven g .coking r o).command = o.command := by
  cases r <;> rfl

theorem movedOven_closes {p : Phase} (h : p.closes = true) (g : Config) (o : Oven) :
    (movedOven g p false o).mode = .closed ∧ (movedOven g p false o).command = 0 ∧ (movedOven g p false o).integrator = 0 := by
  have henter : (({ o with phase := p }).withStage g).enterMode g = (({ o with phase := p }).withStage g).enterClosed := by
    unfold Oven.enterMode
    split <;> simp_all [Oven.withStage, Phase.closes]
  have hmoved : movedOven g p false o = (({ o with phase := p }).withStage g).enterClosed := henter
  rw [hmoved]
  exact ⟨rfl, rfl, rfl⟩

/-! ## CHARGE -/

theorem chargeStart_step {q : List Instr} {c : Controller} {t : Telegram} {rest : List Telegram} (h : Hands c .charge t rest)
    (ht : t.at 1 ≠ 2) : exec .chargeStart ⟨q, c⟩ = .next ⟨q, freePlace (takeChargeStart t (withRx rest c))⟩ :=
  act_handOn h (by simp [codeIsNot, chargeEndCode, ht])

theorem chargeEnd_step {q : List Instr} {c : Controller} {t : Telegram} {rest : List Telegram} (h : Hands c .charge t rest)
    (ht : t.at 1 ≠ 1) : exec .chargeEnd ⟨q, c⟩ = .next ⟨q, freePlace (takeChargeEnd t (withRx rest c))⟩ :=
  act_handOn h (by simp [codeIsNot, chargeStartCode, ht])

theorem takeChargeStart_at {t : Telegram} {c : Controller} {i : Nat} (ht : t.at 1 = 1) (hi : ovenIndex c t.oven = some i) :
    takeChargeStart t c = chargeStartAt i c := by
  simp [takeChargeStart, chargeStartCode, ht, hi]

theorem takeChargeEnd_at {t : Telegram} {c : Controller} {i : Nat} (ht : t.at 1 = 2) (hi : ovenIndex c t.oven = some i) :
    takeChargeEnd t c = chargeEndAt i c := by
  simp [takeChargeEnd, chargeEndCode, ht, hi]

/-- Settles O48: by the code and the phase of the oven. -/
theorem chargeTaken : Obligations.ChargeTaken := by
  refine ⟨fun q c t rest i o hands hi ho hthirty hroom => ?_,
    fun q c t rest hands hwaits => ⟨fun hnone => ⟨fun ht => ?_, fun ht => ?_⟩, fun h1 h2 => ⟨?_, ?_⟩⟩⟩
  · obtain ⟨b, hb⟩ : ∃ b, b = withRx rest c := ⟨_, rfl⟩
    have hbi : ovenIndex b t.oven = some i := by rw [hb]; exact hi
    have hbo : ovenAt b i = some o := by rw [hb]; exact ho
    have hbphase : phaseAt b i = some o.phase := by simp [phaseAt, hbo]
    have hstart (ht : t.at 1 = 1) : exec .chargeStart ⟨q, c⟩ = .next ⟨q, freePlace (chargeStartAt i b)⟩ := by
      rw [chargeStart_step hands (by omega), ← hb, takeChargeStart_at ht hbi]
    have hend (ht : t.at 1 = 2) : exec .chargeEnd ⟨q, c⟩ = .next ⟨q, freePlace (chargeEndAt i b)⟩ := by
      rw [chargeEnd_step hands (by omega), ← hb, takeChargeEnd_at ht hbi]
    refine ⟨fun ht hphase hquiet => ?_, fun ht hphase => ?_, fun ht hphase => ?_, fun ht hphase => ?_⟩
    · obtain ⟨x, hx⟩ : ∃ x, x = if bothSettled b i then b else count .chargeDoors (some (ovenNumber b i)) b := ⟨_, rfl⟩
      have hat : chargeStartAt i b = tableSetPhase i .charging x := by
        rw [chargeStartAt, hbphase, hphase, hx]
      have hoff : OnlyOffers (ovenSet i o b) x := by
        rw [ovenSet_self hbo, hx]
        split
        · exact .refl _
        · exact .count _ _ _
      obtain ⟨hoven, hall, hframe, hwaits⟩ := phaseTaken hoff hbo (p := .charging) (by
        obtain h | h | h := hquiet
        · exact .inr (.inr (.inl (by rw [hb]; exact h)))
        · exact .inl (by rw [hb]; exact h)
        · exact .inr (.inl (by rw [hb, show (withRx rest c).job.state = _ from h]; rfl)))
      have hrem : anyRemoved b i = anyRemoved c i := by rw [hb]; rfl
      have hcfg : cfg b = cfg c := by rw [hb]; rfl
      have hmoved : movedOven (cfg b) .charging (anyRemoved b i) o = (if anyRemoved c i then { o with phase := .charging, stage := none }
          else { o with phase := .charging, stage := none, mode := .forced, command := (cfg c).uchg, isoCount := 0, noDraw := 0 }) := by
        rw [hrem, hcfg]
        rfl
      refine ⟨_, _, (hstart ht).trans (by rw [hat]), hoven, hmoved, fun hopen => ?_, ?_, fun hr => ?_, fun ha => ?_⟩
      · have hx' : x = count .chargeDoors (some (ovenNumber b i)) b := by
          rw [hx]
          refine if_neg (Bool.eq_false_iff.mp ?_)
          rw [hb]
          exact hopen
        have hset : tableSetPhase i .charging x = setPhase i .charging x := tableSetPhase_eq_of_offers hoff (by
          obtain h | h | h := hquiet
          · exact .inr (.inr (.inl (by rw [hb]; exact h)))
          · exact .inl (by rw [hb]; exact h)
          · exact .inr (.inl (by rw [hb]; exact congrArg evaluates h)))
        rw [hset, hx']
        exact countedOnce_of_stays (k := .chargeDoors) ((EventsStay.setPhase _ _ _).trans (.freePlace _)) (.of_eq (by rw [hb]; rfl)) (by decide) hthirty
      · rw [hb] at hall ⊢
        exact hall
      · have hkept := hframe (.inl (hrem.trans hr))
        rw [hb] at hkept
        exact hkept
      · have hroomx : roomFor 1 x := by
          have hkeep : QueueKeeps (fun _ => False) 1 b x := by
            rw [hx]
            exact .ite (fun _ => (QueueKeeps.refl b).mono (by omega)) fun _ => .count _ _ _
          have hab : isActive b = true := by rw [hb]; exact ha
          exact hkeep.room (m := 1) hab (by rw [roomFor] at hroom ⊢; rw [hb]; exact Nat.le_trans (by simp [withRx]) hroom)
        have hw := hwaits (by rw [hb]; exact ha) hroomx
        rw [hb] at hw ⊢
        exact hw
    · obtain ⟨x, hx⟩ : ∃ x, x = modifyOven i (fun o => { o with minutes := 0, target := b.table.pendT, allowance := b.table.pendE }) b := ⟨_, rfl⟩
      have hat : chargeEndAt i b = tableSetPhase i .coking x := by
        rw [chargeEndAt, hbphase, hphase, hx]
      have hoff : OnlyOffers (ovenSet i { o with minutes := 0, target := b.table.pendT, allowance := b.table.pendE } b) x := by
        rw [hx, modifyOven_eq_ovenSet _ hbo]
        exact .refl _
      obtain ⟨hoven, hall, hframe, hwaits⟩ := phaseTaken hoff hbo (p := .coking) (.inr (.inr (.inr rfl)))
      obtain ⟨hf, hh⟩ := hframe (.inr rfl)
      rw [hf, hh] at hall
      rw [← hat] at hoven hall hwaits
      obtain ⟨_, hp', hm', ht', ha', hi', hc'⟩ := movedOven_keeps (cfg b) .coking (anyRemoved b i)
        { o with minutes := 0, target := b.table.pendT, allowance := b.table.pendE }
      have hstage := movedOven_stage (cfg b) .coking (anyRemoved b i)
        { o with minutes := 0, target := b.table.pendT, allowance := b.table.pendE }
      have hcommand := movedOven_coking_command (cfg b) (anyRemoved b i)
        { o with minutes := 0, target := b.table.pendT, allowance := b.table.pendE }
      have hroomx (ha : isActive c = true) : roomFor 1 x := by
        rw [hx, hb]
        exact Nat.le_trans (by simp [withRx, modifyOven]) hroom
      subst hb
      refine ⟨_, _, hend ht, hoven, hp', hm', ht', ha', hstage, hcommand, hi', hc', fun hr => ?_, fun hr => ?_, hall,
        fun ha => hwaits ha (hroomx ha)⟩
      · rw [show anyRemoved (withRx rest c) i = false from hr]
        exact ⟨rfl, rfl⟩
      · rw [show anyRemoved (withRx rest c) i = true from hr]
        exact ⟨rfl, rfl⟩
    · have hat : chargeStartAt i b = count .doubleCharge (some (ovenNumber b i)) b := by
        rw [chargeStartAt, hbphase]
        cases hp : o.phase
        case empty => exact absurd hp hphase
        all_goals rfl
      have hstep := hstart ht
      rw [hat] at hstep
      obtain ⟨d, hd, hcount, hall⟩ := counted_of_step (c := c) hstep (by rw [hb]; rfl) (by decide) hthirty
      exact ⟨d, hd, hcount, hb ▸ hall⟩
    · have hat : chargeEndAt i b = count .doubleCharge (some (ovenNumber b i)) b := by
        rw [chargeEndAt, hbphase]
        cases hp : o.phase
        case charging => exact absurd hp hphase
        all_goals rfl
      have hstep := hend ht
      rw [hat] at hstep
      obtain ⟨d, hd, hcount, hall⟩ := counted_of_step (c := c) hstep (by rw [hb]; rfl) (by decide) hthirty
      exact ⟨d, hd, hcount, hb ▸ hall⟩
  · refine next_of_nothingWaits (chargeStart_step hands (by omega)) ?_ hwaits rfl rfl rfl rfl
    simp [takeChargeStart, show ovenIndex (withRx rest c) t.oven = none from hnone]
  · refine next_of_nothingWaits (chargeEnd_step hands (by omega)) ?_ hwaits rfl rfl rfl rfl
    simp [takeChargeEnd, show ovenIndex (withRx rest c) t.oven = none from hnone]
  · exact next_of_nothingWaits (chargeStart_step hands h2) (if_neg h1) hwaits rfl rfl rfl rfl
  · exact next_of_nothingWaits (chargeEnd_step hands h1) (if_neg h2) hwaits rfl rfl rfl rfl

end Sys2Proof.Machine
end

section
/-! SUPPORT. SEED (R6, R184), CLEAR (R185) and INHIBIT (R186, R96). -/

-- The lemmas are checked one after another, as the tests are.
set_option Elab.async false

namespace Sys2Proof.Machine

open Sys2Proof

/-! ## SEED -/

theorem seedPhaseOf_eq_some {n : Nat} {p : Phase} (h : (n = 1 ∧ p = .empty) ∨ (n = 3 ∧ p = .coking) ∨ (n = 7 ∧ p = .sticker)) :
    seedPhaseOf n = some p := by
  obtain ⟨rfl, rfl⟩ | ⟨rfl, rfl⟩ | ⟨rfl, rfl⟩ := h <;> rfl

theorem seedPhaseOf_eq_none {n : Nat} (h1 : n ≠ 1) (h3 : n ≠ 3) (h7 : n ≠ 7) : seedPhaseOf n = none := by
  unfold seedPhaseOf
  split <;> simp_all

theorem takeSeed_refused {t : Telegram} {c : Controller} {i : Nat} {p : Phase} (hi : ovenIndex c t.oven = some i)
    (hp : seedPhaseOf (t.at 1) = some p) (hr : seedRefused c t.oven = true) : takeSeed t c = count .seedRefused (some t.oven) c := by
  simp only [takeSeed, hi, hp, hr, if_pos]

theorem takeSeed_taken {t : Telegram} {c : Controller} {i : Nat} {p : Phase} {o : Oven} (hi : ovenIndex c t.oven = some i)
    (hp : seedPhaseOf (t.at 1) = some p) (hr : seedRefused c t.oven = false) (ho : ovenAt c i = some o) :
    takeSeed t c = tableSetPhase i p (ovenSet i (o.seeded p (t.at2 2) (t.at2 4) c.table.pendE) c) := by
  rw [← modifyOven_eq_ovenSet _ ho]
  simp only [takeSeed, hi, hp, hr, if_neg (Bool.false_ne_true)]

/-- Settles O49: by the oven, the phase named and the push job. -/
theorem seedTaken : Obligations.SeedTaken := by
  intro q c t rest hands
  have hstep : exec .seed ⟨q, c⟩ = .next ⟨q, freePlace (takeSeed t (withRx rest c))⟩ := act_handOn hands rfl
  obtain ⟨b, hb⟩ : ∃ b, b = withRx rest c := ⟨_, rfl⟩
  refine ⟨fun i o p hi ho hfree hp hroom => ?_, fun i hi hp hn h1 h2 hthirty => ?_, fun hwaits hother => ?_⟩
  · have hbo : ovenAt b i = some o := by rw [hb]; exact ho
    have hnot : seedRefused b t.oven = false := by
      have hjob : b.job = c.job := by rw [hb]; rfl
      rw [seedRefused, hjob]
      obtain h | h | h := hfree
      · have : c.job.oven ≠ some t.oven := fun hn => h (jobIndex_eq hn hi)
        simp [this]
      · rw [h]; rfl
      · rw [h]; rfl
    have htaken := takeSeed_taken (c := b) (by rw [hb]; exact hi) (seedPhaseOf_eq_some hp) hnot hbo
    obtain ⟨s, hs⟩ : ∃ s, s = o.seeded p (t.at2 2) (t.at2 4) b.table.pendE := ⟨_, rfl⟩
    obtain ⟨x, hx⟩ : ∃ x, x = ovenSet i s b := ⟨_, rfl⟩
    rw [← hs, ← hx] at htaken
    rw [← hb, htaken] at hstep
    have hoff : OnlyOffers (ovenSet i s b) x := hx ▸ .refl _
    obtain ⟨hoven, hall, hframe, hwaits⟩ := phaseTaken hoff hbo (p := p) (by
      obtain h | h | h := hfree
      · exact .inl (by rw [hb]; exact h)
      · exact .inr (.inl (by rw [hb]; exact congrArg evaluates h))
      · exact .inr (.inl (by rw [hb]; exact congrArg evaluates h)))
    obtain ⟨_, hp', hm', ht', ha', hi', hc'⟩ := movedOven_keeps (cfg b) p (anyRemoved b i) s
    have hstage := movedOven_stage (cfg b) p (anyRemoved b i) s
    have hroomx : roomFor 1 x := by
      rw [hx, hb]
      exact Nat.le_trans (by simp [withRx, ovenSet]) hroom
    have hcases : p = .coking ∨ p.closes = true := by
      obtain ⟨_, rfl⟩ | ⟨_, rfl⟩ | ⟨_, rfl⟩ := hp
      · exact .inr rfl
      · exact .inl rfl
      · exact .inr rfl
    have hsm : s.minutes = if p = .empty then 0 else clampNat (t.at2 2) 0 4095 := by rw [hs]; rfl
    have hst : s.target = clampNat (t.at2 4) 600 2400 := by rw [hs]; rfl
    have hsc : s.command = o.command := by rw [hs]; rfl
    refine ⟨_, _, hstep, hoven, hp', hm'.trans hsm, ht'.trans hst, ha'.trans ?_, hi'.trans ?_, hc'.trans ?_, fun hne => ?_, fun heq => ?_,
      fun hr => ⟨fun hne => ?_, fun heq => ?_⟩, fun hr => ?_, ?_, fun ha => ?_⟩
    · rw [hs, hb]; rfl
    · rw [hs]; rfl
    · rw [hs]; rfl
    · rw [hstage, if_neg hne]
    · rw [hstage, if_pos heq, ht', hm', hb]; rfl
    · have hbr : anyRemoved b i = false := by rw [hb]; exact hr
      rw [hbr]
      exact movedOven_closes (hcases.resolve_left hne) _ _
    · have hbr : anyRemoved b i = false := by rw [hb]; exact hr
      rw [hbr] at ht' hm' ⊢
      rw [ht', hm', heq, ← hsc, hb]
      exact ⟨rfl, rfl, rfl⟩
    · have hbr : anyRemoved b i = true := by rw [hb]; exact hr
      obtain ⟨hf, hh⟩ := hframe (.inl hbr)
      rw [hf, hh, hbr, hs, hb]
      exact ⟨rfl, rfl, rfl, rfl, rfl⟩
    · rw [hb] at hall ⊢
      exact hall
    · have hw := hwaits (by rw [hb]; exact ha) hroomx
      rw [hb] at hw ⊢
      exact hw
  · obtain ⟨p, hp'⟩ : ∃ p, seedPhaseOf (t.at 1) = some p := by
      obtain h | h | h := hp
      · exact ⟨_, seedPhaseOf_eq_some (.inl ⟨h, rfl⟩)⟩
      · exact ⟨_, seedPhaseOf_eq_some (.inr (.inl ⟨h, rfl⟩))⟩
      · exact ⟨_, seedPhaseOf_eq_some (.inr (.inr ⟨h, rfl⟩))⟩
    have hrefused : seedRefused b t.oven = true := by
      have hjob : b.job = c.job := by rw [hb]; rfl
      simp [seedRefused, hjob, h1, h2, hn]
    rw [← hb, takeSeed_refused (c := b) (by rw [hb]; exact hi) hp' hrefused] at hstep
    obtain ⟨d, hd, hcount, hall⟩ := counted_of_step (c := c) hstep (by rw [hb]; rfl) (by decide) hthirty
    exact ⟨d, hd, hcount, hb ▸ hall⟩
  · refine next_of_nothingWaits hstep ?_ hwaits rfl rfl rfl rfl
    obtain h | ⟨h1, h3, h7⟩ := hother
    · simp only [takeSeed, show ovenIndex (withRx rest c) t.oven = none from h]
    · unfold takeSeed
      rw [seedPhaseOf_eq_none h1 h3 h7]
      cases ovenIndex (withRx rest c) t.oven <;> rfl

/-! ## CLEAR and INHIBIT -/

theorem setInhibited_eq {i : Nat} {x : Bool} {o : Oven} {c : Controller} (ho : ovenAt c i = some o) (hx : o.inhibited ≠ x) :
    setInhibited i x c = offer (phaseTelegram (ownNumber c) { o with inhibited := x }) (ovenSet i { o with inhibited := x } c) := by
  have hgo : (ovenAt c i).any (fun o => o.inhibited != x) = true := by simp [ho, hx]
  rw [setInhibited, if_pos hgo, modifyOven_eq_ovenSet _ ho, queuePhase_eq (ovenAt_ovenSet ho)]
  rfl

theorem setInhibited_same {i : Nat} {x : Bool} {o : Oven} {c : Controller} (ho : ovenAt c i = some o) (hx : o.inhibited = x) :
    setInhibited i x c = c :=
  if_neg (by simp [ho, hx])

/-- The change of the flag: the record alone, and the PHASE (R186). -/
theorem flagTaken {i : Nat} {x : Bool} {o : Oven} {b : Controller} (ho : ovenAt b i = some o) (hx : o.inhibited ≠ x) :
    OnlyOffers (ovenSet i { o with inhibited := x } b) (freePlace (setInhibited i x b))
      ∧ (isActive b = true → roomFor 1 b →
          waitsInTx (phaseTelegram (ownNumber b) { o with inhibited := x }) (freePlace (setInhibited i x b))) := by
  rw [setInhibited_eq ho hx]
  refine ⟨(OnlyOffers.offer _ _).trans (.freePlace _), fun ha hr => ?_⟩
  exact waitsInTx_freePlace (waitsInTx_offer_of_room (c := ovenSet i { o with inhibited := x } b) ha hr) (fun hx => by cases hx)

theorem OnlyOffers.setInhibited {i : Nat} {x : Bool} {o : Oven} {b : Controller} (ho : ovenAt b i = some o) (hx : o.inhibited ≠ x) :
    OnlyOffers (ovenSet i { o with inhibited := x } b) (setInhibited i x b) := by
  rw [setInhibited_eq ho hx]
  exact .offer _ _

/-- The push job goes on where the oven is not the job's or the state is neither CLAIMED nor DOORS. -/
theorem jobOnInhibit_of_other {i : Nat} {b x : Controller} (hx : OnlyOffers b x)
    (h : jobIndex b ≠ some i ∨ (b.job.state ≠ .claimed ∧ b.job.state ≠ .doors)) : jobOnInhibit i x = x := by
  refine if_neg fun hgo => ?_
  simp only [Bool.and_eq_true, isJobOven, beq_iff_eq, Bool.or_eq_true] at hgo
  obtain ⟨⟨_, hindex⟩, hstate⟩ := hgo
  obtain h | ⟨h1, h2⟩ := h
  · obtain hsame | hnone := hx.jobIndex_cases
    · exact h (hsame.symm.trans hindex)
    · exact absurd (hnone.symm.trans hindex) (fun hx => by cases hx)
  · obtain hsame | hidle := hx.state_cases
    · rw [hsame] at hstate
      exact hstate.elim h1 h2
    · rw [hidle] at hstate
      exact hstate.elim (fun hx => by cases hx) fun hx => by cases hx

theorem afterJob_inhibited (g : Config) (o : Oven) : (o.afterJob g).inhibited = o.inhibited := by
  unfold Oven.afterJob
  dsimp only
  split <;> rfl

/-- Settles O50: the CLEAR telegrams, then INHIBIT with and without an abort. -/
theorem clearAndInhibitTaken : Obligations.ClearAndInhibitTaken := by
  refine ⟨fun q c t rest hands => ?_, fun q c t rest hands => ?_⟩
  · have hsticker (ht : t.at 1 = 1) : exec .clearSticker ⟨q, c⟩ = .next ⟨q, freePlace (takeClearSticker t (withRx rest c))⟩ :=
      act_handOn hands (by simp [codeIsNot, clearHardcountCode, ht])
    have hhard (ht : t.at 1 = 2) : exec .clearHardcount ⟨q, c⟩ = .next ⟨q, freePlace (takeClearHardcount t (withRx rest c))⟩ :=
      act_handOn hands (by simp [codeIsNot, clearStickerCode, ht])
    refine ⟨fun i o hi ho ht hphase hrem hfree => ?_, fun i o hwaits hi ho ht hphase => ?_, fun i o hwaits hi ho ht => ?_,
      fun hwaits hnone => ⟨fun ht => ?_, fun ht => ?_⟩⟩
    · obtain ⟨b, hb⟩ : ∃ b, b = withRx rest c := ⟨_, rfl⟩
      have hbo : ovenAt b i = some o := by rw [hb]; exact ho
      have hbi : ovenIndex b t.oven = some i := by rw [hb]; exact hi
      have hbr : anyRemoved b i = false := by rw [hb]; exact hrem
      obtain ⟨x, hx⟩ : ∃ x, x = ovenSet i { o with minutes := 0 } b := ⟨_, rfl⟩
      have htaken : takeClearSticker t b = tableSetPhase i .empty x := by
        have hmod : modifyOven i (fun o => { o with minutes := 0 }) b = x := hx ▸ modifyOven_eq_ovenSet _ hbo
        rw [← hmod]
        simp [takeClearSticker, clearStickerCode, ht, hbi, phaseAt, hbo, hphase]
      have hstep := hsticker ht
      rw [← hb, htaken] at hstep
      have hoff : OnlyOffers (ovenSet i { o with minutes := 0 } b) x := hx ▸ .refl _
      obtain ⟨hoven, hall, _, hwaits⟩ := phaseTaken hoff hbo (p := .empty) (by
        obtain h | h := hfree
        · exact .inl (by rw [hb]; exact h)
        · exact .inr (.inl (by rw [hb]; exact congrArg evaluates h)))
      rw [hbr] at hoven hall hwaits
      refine ⟨_, _, hstep, hoven, rfl, ?_, fun ha hr => ?_⟩
      · rw [hb] at hall ⊢
        exact hall
      · have hw := hwaits (by rw [hb]; exact ha) (by rw [hx, hb]; exact hr)
        rw [hb] at hw ⊢
        exact hw
    · refine next_of_nothingWaits (hsticker ht) ?_ hwaits rfl rfl rfl rfl
      have hno : phaseAt (withRx rest c) i ≠ some .sticker := by
        simp [phaseAt, show ovenAt (withRx rest c) i = some o from ho, hphase]
      simp [takeClearSticker, clearStickerCode, ht, show ovenIndex (withRx rest c) t.oven = some i from hi, hno]
    · refine next_of_nothingWaits (hhard ht) ?_ hwaits rfl rfl rfl rfl
      have hmod := modifyOven_eq_ovenSet (c := withRx rest c) (fun o => { o with hardCount := 0 }) ho
      simp only [takeClearHardcount, clearHardcountCode, ht, show ovenIndex (withRx rest c) t.oven = some i from hi, if_pos, hmod]
      rfl
    · refine next_of_nothingWaits (hsticker ht) ?_ hwaits rfl rfl rfl rfl
      simp [takeClearSticker, show ovenIndex (withRx rest c) t.oven = none from hnone]
    · refine next_of_nothingWaits (hhard ht) ?_ hwaits rfl rfl rfl rfl
      simp [takeClearHardcount, show ovenIndex (withRx rest c) t.oven = none from hnone]
  · have hset (ht : t.at 1 = 1) : exec .inhibitSet ⟨q, c⟩ = .next ⟨q, freePlace (takeInhibitSet t (withRx rest c))⟩ :=
      act_handOn hands (by simp [codeIsNot, inhibitClearCode, ht])
    have hclear (ht : t.at 1 = 2) : exec .inhibitClear ⟨q, c⟩ = .next ⟨q, freePlace (takeInhibitClear t (withRx rest c))⟩ :=
      act_handOn hands (by simp [codeIsNot, inhibitSetCode, ht])
    have htakes {i : Nat} {o : Oven} (hi : ovenIndex c t.oven = some i) (ho : ovenAt c i = some o) (ht : t.at 1 = 1)
        (hno : o.inhibited = false) : takeInhibitSet t (withRx rest c) = jobOnInhibit i (setInhibited i true (withRx rest c)) := by
      have ho' : ovenAt (withRx rest c) i = some o := ho
      simp [takeInhibitSet, inhibitSetCode, ht, show ovenIndex (withRx rest c) t.oven = some i from hi, ho', hno]
    have hclears {i : Nat} (hi : ovenIndex c t.oven = some i) (ht : t.at 1 = 2) :
        takeInhibitClear t (withRx rest c) = setInhibited i false (withRx rest c) := by
      simp [takeInhibitClear, inhibitClearCode, ht, show ovenIndex (withRx rest c) t.oven = some i from hi]
    refine ⟨fun i o hi ho ht hno hroom hfree => ?_, fun i o hi ho ht hno hthirty hn hstate => ?_, fun i o hi ho ht hyes hroom => ?_,
      fun i o hwaits hi ho => ⟨fun ht hyes => ?_, fun ht hno => ?_⟩, fun hwaits hnone => ⟨fun ht => ?_, fun ht => ?_⟩⟩
    · have hne : o.inhibited ≠ true := by rw [hno]; exact Bool.false_ne_true
      have hother := jobOnInhibit_of_other (OnlyOffers.setInhibited (b := withRx rest c) ho hne) hfree
      have hstep := hset ht
      rw [htakes hi ho ht hno, hother] at hstep
      obtain ⟨hall, hwaits⟩ := flagTaken (b := withRx rest c) ho hne
      exact ⟨_, hstep, hall, fun ha => hwaits ha hroom⟩
    · have hne : o.inhibited ≠ true := by rw [hno]; exact Bool.false_ne_true
      obtain ⟨x, hx⟩ : ∃ x, x = setInhibited i true (withRx rest c) := ⟨_, rfl⟩
      have hoffer := setInhibited_eq (c := withRx rest c) ho hne
      rw [← hx] at hoffer
      have hoff : OnlyOffers (ovenSet i { o with inhibited := true } (withRx rest c)) x := hx ▸ .setInhibited ho hne
      have hnotBidding : c.job.state ≠ .bidding := by obtain h | h := hstate <;> rw [h] <;> exact fun hx => by cases hx
      have hjob : x.job = { c.job with owed := x.job.owed } := hoff.job_of_ne hnotBidding
      have hindex : jobIndex x = some i := (jobIndex_congr (c := c) hoff.start (by rw [hjob])).trans (jobIndex_eq hn hi)
      have habort : jobOnInhibit i x = abortJob .inhibited x := by
        refine if_pos ?_
        have hruns : jobRuns x = true := by
          have : receiving x = receiving c := by simp only [receiving, hoff.start]; rfl
          exact this.trans hands.2.1
        have hs : x.job.state = c.job.state := by rw [hjob]
        rw [hruns, isJobOven, hindex, hs]
        obtain h | h := hstate <;> rw [h] <;> simp
      have hstep := hset ht
      rw [htakes hi ho ht hno, ← hx, habort] at hstep
      have hflag : JobBase 0 i { o with inhibited := true } c (ovenSet i { o with inhibited := true } (withRx rest c)) :=
        ⟨⟨rfl, rfl, fun _ _ => Nat.le_refl _, fun _ _ _ _ hf => hf.elim⟩, rfl, fun _ => rfl, ovenAt_ovenSet (c := withRx rest c) ho,
          fun _ hj => ovenAt_ovenSet_ne (c := withRx rest c) hj, rfl, rfl, rfl⟩
      have hbase : JobBase 1 i { o with inhibited := true } c x := by
        rw [hoffer]
        exact hflag.next (k := 1) (.offer (fun _ hu => hu.elim) _) (by simp) (by simp) (by simp) (by simp) (by simp)
      have hstays : EventsStay c x := by
        rw [hoffer]
        exact EventsStay.trans (c := ovenSet i { o with inhibited := true } (withRx rest c)) (.of_eq rfl) (.offer _ _)
      have haborts : AbortsJob 4 t.oven i { o with inhibited := true } c (freePlace (abortJob .inhibited x)) :=
        .of_base (r := .inhibited) hbase (by omega) hjob hn hi hnotBidding
          (fun hp => by obtain h | h := hstate <;> rw [h] at hp <;> cases hp) (hstays.entry 24 (by decide) (by decide)) (hstays.thirty hthirty)
      have hinhibited : ∃ o', ovenAt (freePlace (abortJob .inhibited x)) i = some o' ∧ o'.inhibited = true := by
        obtain h | h := haborts.ovenCase
        · exact ⟨_, h, rfl⟩
        · exact ⟨_, h, afterJob_inhibited _ _⟩
      obtain ⟨o', ho', hi'⟩ := hinhibited
      refine ⟨_, o', hstep, haborts, ho', hi', ?_, ?_⟩
      · have hdoors : (freePlace (abortJob .inhibited x)).doors = x.doors := by simp
        rw [hdoors, hoff.doors]
        rfl
      · have hrx : (freePlace (abortJob .inhibited x)).line.rx = x.line.rx := by simp
        rw [hrx, hoff.line]
        rfl
    · have hne : o.inhibited ≠ false := by rw [hyes]; exact fun hx => by cases hx
      have hstep := hclear ht
      rw [hclears hi ht] at hstep
      obtain ⟨hall, hwaits⟩ := flagTaken (b := withRx rest c) ho hne
      exact ⟨_, hstep, hall, fun ha => hwaits ha hroom⟩
    · refine next_of_nothingWaits (hset ht) ?_ hwaits rfl rfl rfl rfl
      simp [takeInhibitSet, inhibitSetCode, ht, show ovenIndex (withRx rest c) t.oven = some i from hi,
        show ovenAt (withRx rest c) i = some o from ho, hyes]
    · refine next_of_nothingWaits (hclear ht) ?_ hwaits rfl rfl rfl rfl
      rw [hclears hi ht]
      exact setInhibited_same (c := withRx rest c) ho hno
    · refine next_of_nothingWaits (hset ht) ?_ hwaits rfl rfl rfl rfl
      simp [takeInhibitSet, show ovenIndex (withRx rest c) t.oven = none from hnone]
    · refine next_of_nothingWaits (hclear ht) ?_ hwaits rfl rfl rfl rfl
      simp [takeInhibitClear, show ovenIndex (withRx rest c) t.oven = none from hnone]

end Sys2Proof.Machine
end

section
/-! SUPPORT. The work of a command on the push job: what it has offered, the record of the job oven, and the record of the job. -/

-- The lemmas are checked one after another, as the tests are.
set_option Elab.async false

namespace Sys2Proof.Machine

open Sys2Proof

/-- A PERMIT goes on waiting where no release is owed. -/
theorem waitsInTx_freePlace_of_none_owed {t : Telegram} {c : Controller} (h : waitsInTx t c) (ho : c.job.owed = none) :
    waitsInTx t (freePlace c) := by
  rw [freePlace_of_none_owed ho]
  exact mem_offerEvent h

namespace JobBase

variable {m i n : Nat} {o : Oven} {c b d : Controller}

theorem modified (h : JobBase m i o c b) (f : Oven → Oven) : JobBase m i (f o) c (modifyOven i f b) where
  keeps := h.keeps.trans (m := 0) (.of_eq (by simp) (by simp))
  start := h.start
  states := h.states
  oven := by rw [modifyOven_eq_ovenSet f h.oven]; exact ovenAt_ovenSet h.oven
  others j hj := by
    rw [modifyOven_eq_ovenSet f h.oven]
    exact (ovenAt_ovenSet_ne hj).trans (h.others j hj)
  table := by
    have : (modifyOven i f b).table = { b.table with ovens := (modifyOven i f b).table.ovens } := rfl
    rw [this, h.table]
  round := h.round
  held := h.held

theorem moved {p : Phase} {k : Nat} (h : JobBase m i o c b) (hk : QueueKeeps (fun _ => False) k b (setPhase i p b)) :
    JobBase (m + k) i (movedOven (Machine.cfg c) p (Machine.anyRemoved c i) o) c (setPhase i p b) where
  keeps := h.keeps.trans hk
  start := (OnlyOffers.setPhase i p b).start.trans h.start
  states ch := (doorAt_congr (c := b) (by simp) ch).trans (h.states ch)
  oven := by
    have ho : b.table.ovens[i]? = some o := h.oven
    simp only [ovenAt, setPhase_ovens, List.getElem?_modify_eq, ho, h.cfg, h.anyRemoved]
    rfl
  others j hj := by
    have := h.others j hj
    simp only [ovenAt, setPhase_ovens, List.getElem?_modify] at this ⊢
    simpa [Ne.symm hj] using this
  table := by rw [setPhase_table, h.table]
  round := (OnlyOffers.setPhase i p b).round.trans h.round
  held := (OnlyOffers.setPhase i p b).held.trans h.held

end JobBase

/-- b is c after some of a command's work on the push job: at most m telegrams have been offered, the record of the oven at index
i is o, that of the job j but for the release owed, which has been told of no loss where there was room. -/
structure JobWork (m i : Nat) (o : Oven) (j : Job) (c b : Controller) : Prop where
  base : JobBase m i o c b
  job : b.job = { j with owed := b.job.owed }
  owed : isActive c = true → roomFor m c → b.job.owed = c.job.owed
  track : b.track = { c.track with call := b.track.call }
  rx : b.line.rx = c.line.rx

/-- Where there is room, or a place to take, nothing offered has been lost: no release is owed for it. -/
structure NoLoss (n : Nat) (b d : Controller) : Prop where
  keeps : QueueKeeps (fun _ => False) n b d
  owed : isActive b = true → roomFor n b → d.job.owed = b.job.owed

namespace NoLoss

variable {m n : Nat} {b c d : Controller}

theorem of_eq (hl : d.start.line = b.start.line) (hline : d.line = b.line) (hj : d.job.owed = b.job.owed) : NoLoss 0 b d :=
  ⟨.of_eq hl hline, fun _ _ => hj⟩

theorem trans (h : NoLoss m b c) (k : NoLoss n c d) : NoLoss (m + n) b d where
  keeps := h.keeps.trans k.keeps
  owed ha hr := by
    rw [k.owed (h.keeps.active.trans ha) (h.keeps.room ha hr), h.owed ha (by rw [roomFor] at hr ⊢; omega)]

theorem mono (h : NoLoss m b d) (hle : m ≤ n) : NoLoss n b d :=
  ⟨h.keeps.mono hle, fun ha hr => h.owed ha (by rw [roomFor] at hr ⊢; omega)⟩

theorem count (k : EventKind) (first : Option Nat) (c : Controller) : NoLoss 1 c (count k first c) :=
  ⟨.count k first c, fun _ _ => by simp⟩

theorem withdrawKind (k : Kind) (c : Controller) : NoLoss 0 c (withdrawKind k c) :=
  ⟨.withdrawKind (fun _ hu => hu.elim) c, fun _ _ => by simp⟩

theorem offer (t : Telegram) (c : Controller) : NoLoss 1 c (offer t c) :=
  ⟨.offer (fun _ hu => hu.elim) c, fun ha hr => by rw [offer_job_of_room ha (by rw [roomFor] at hr; simp [txRoom]; omega)]⟩

theorem offerHalt (n : Nat) (c : Controller) : NoLoss 1 c (offerHalt n c) :=
  (withdrawKind .permit c).trans (offer (haltTelegram (ownNumber c) n) _)

theorem offerPermit (n code : Nat) (c : Controller) : NoLoss 1 c (offerPermit n code c) :=
  (withdrawKind .permit c).trans (offer (permitTelegram (ownNumber c) n code) _)

theorem offerRelease (n : Nat) (out : PushOutcome) (c : Controller) : NoLoss 1 c (offerRelease n out c) :=
  (withdrawKind .permit c).trans (offer (releaseTelegram (ownNumber c) n out) _)

theorem setPhase (i : Nat) (p : Phase) (c : Controller) : NoLoss 1 c (setPhase i p c) := by
  have hmod : NoLoss 0 c (modifyOven i (fun o => ({ o with phase := p }).withStage (cfg c)) c) := of_eq (by simp) (by simp) (by simp)
  have hqueue (x : Controller) : NoLoss 1 x (queuePhase i x) := by
    unfold queuePhase
    split
    · exact offer _ x
    · exact ⟨(QueueKeeps.refl x).mono (Nat.zero_le _), fun _ _ => rfl⟩
  have hup (x : Controller) : NoLoss 0 x (takeUpPhase i x) := of_eq (by simp) (by simp) (by simp)
  exact (hmod.trans (hqueue _)).trans (hup _)

/-- A second PHASE of an oven takes the place of the first (R40). -/
theorem setPhase_again {i : Nat} {p : Phase} {o : Oven} {t : Telegram} {c : Controller} (ho : ovenAt c i = some o)
    (hw : waitsInTx t c) (hk : t.kind = some .phase) (hn : t.oven = (phaseTelegram (ownNumber c) o).oven) :
    NoLoss 0 c (Machine.setPhase i p c) := by
  obtain ⟨m, hm⟩ : ∃ m, m = modifyOven i (fun o => ({ o with phase := p }).withStage (cfg c)) c := ⟨_, rfl⟩
  have hom : ovenAt m i = some (({ o with phase := p }).withStage (cfg c)) := by rw [hm, ovenAt_modifyOven_self, ho]; rfl
  obtain ⟨u, hu⟩ : ∃ u, u = phaseTelegram (ownNumber m) (({ o with phase := p }).withStage (cfg c)) := ⟨_, rfl⟩
  have hset : Machine.setPhase i p c = takeUpPhase i (Machine.offer u m) := by
    rw [hu, ← queuePhase_eq hom, hm]
    rfl
  have hkind : u.kind = some .phase := by rw [hu]; rfl
  have hplace : samePlace u t = true := by
    have hoven : u.oven = t.oven := by rw [hn, hu, hm]; rfl
    simp [samePlace, hkind, hk, hoven]
  have hmod : NoLoss 0 c m := hm ▸ of_eq (by simp) (by simp) (by simp)
  have hup (x : Controller) : NoLoss 0 x (takeUpPhase i x) := of_eq (by simp) (by simp) (by simp)
  have hreplace (ha : isActive m = true) : Machine.offer u m = replaceEntry u m :=
    offer_of_samePlace ha ⟨_, by rw [hm]; exact hw, hplace⟩
  have hoffer : NoLoss 0 m (Machine.offer u m) :=
    { keeps :=
        { state := by simp
          number := by simp
          length := fun ha _ => by
            rw [hreplace ha, replaceEntry_tx, if_neg (by rw [hkind]; exact fun h => h.elim (fun hx => by cases hx) fun hx => by cases hx)]
            simp [replaceInPlace]
          kept := fun _ _ _ _ hf => hf.elim }
      owed := fun ha _ => by
        rw [hreplace ha]
        simp }
  rw [hset]
  exact (hmod.trans hoffer).trans (hup _)

end NoLoss

namespace JobWork

variable {m i n : Nat} {o : Oven} {j : Job} {c b d : Controller}

theorem refl (ho : ovenAt c i = some o) : JobWork 0 i o c.job c c := ⟨.refl ho, rfl, fun _ _ => rfl, rfl, rfl⟩

theorem weaken (h : JobWork m i o j c b) (hle : m ≤ n) : JobWork n i o j c b where
  base := { h.base with keeps := h.base.keeps.mono hle }
  job := h.job
  owed ha hr := h.owed ha (by rw [roomFor] at hr ⊢; omega)
  track := h.track
  rx := h.rx

/-- Work that only offers. -/
theorem offers (h : JobWork m i o j c b) (hs : j.state ≠ .bidding) (hk : NoLoss n b d) (hoff : OnlyOffers b d) :
    JobWork (m + n) i o j c d where
  base := h.base.next hk.keeps hoff.start hoff.doors hoff.table hoff.round hoff.held
  job := by rw [hoff.job_of_ne (by rw [h.job]; exact hs), h.job]
  owed ha hr := (hk.owed (h.base.keeps.active.trans ha) (h.base.keeps.room ha hr)).trans
    (h.owed ha (by rw [roomFor] at hr ⊢; omega))
  track := by rw [hoff.track, h.track]
  rx := by rw [hoff.line]; exact h.rx

theorem count (h : JobWork m i o j c b) (hs : j.state ≠ .bidding) (k : EventKind) (first : Option Nat) :
    JobWork (m + 1) i o j c (count k first b) := h.offers hs (.count k first b) (.count k first b)

theorem offerHalt (h : JobWork m i o j c b) (hs : j.state ≠ .bidding) (n : Nat) : JobWork (m + 1) i o j c (offerHalt n b) :=
  h.offers hs (.offerHalt n b) (.offerHalt n b)

theorem offerPermit (h : JobWork m i o j c b) (hs : j.state ≠ .bidding) (n code : Nat) : JobWork (m + 1) i o j c (offerPermit n code b) :=
  h.offers hs (.offerPermit n code b) (.offerPermit n code b)

theorem offerRelease (h : JobWork m i o j c b) (hs : j.state ≠ .bidding) (n : Nat) (out : PushOutcome) :
    JobWork (m + 1) i o j c (offerRelease n out b) := h.offers hs (.offerRelease n out b) (.offerRelease n out b)

theorem modified (h : JobWork m i o j c b) (f : Oven → Oven) : JobWork m i (f o) j c (modifyOven i f b) :=
  ⟨h.base.modified f, h.job, h.owed, h.track, h.rx⟩

theorem moved {p : Phase} (h : JobWork m i o j c b) (hs : j.state ≠ .bidding) (hk : NoLoss n b (setPhase i p b)) :
    JobWork (m + n) i (movedOven (cfg c) p (anyRemoved c i) o) j c (setPhase i p b) where
  base := h.base.moved hk.keeps
  job := by rw [setPhase_job (by rw [h.job]; exact hs), h.job]
  owed ha hr := (hk.owed (h.base.keeps.active.trans ha) (h.base.keeps.room ha hr)).trans
    (h.owed ha (by rw [roomFor] at hr ⊢; omega))
  track := by rw [(OnlyOffers.setPhase i p b).track, show (withFrameOf (setPhase i p b) (withOven i (movedOven (cfg b) p (anyRemoved b i)) b)).track
    = b.track from rfl, h.track]
  rx := by
    have hrx : (setPhase i p b).line.rx = b.line.rx := by simp
    rw [hrx]
    exact h.rx

theorem setPhase (h : JobWork m i o j c b) (hs : j.state ≠ .bidding) (p : Phase) :
    JobWork (m + 1) i (movedOven (cfg c) p (anyRemoved c i) o) j c (setPhase i p b) := h.moved hs (.setPhase i p b)

/-- A change of the job record that passes by the release owed. -/
theorem modifyJob {f : Job → Job} (h : JobWork m i o j c b) (hf : ∀ j w, f { j with owed := w } = { f j with owed := w }) :
    JobWork m i o (f j) c (modifyJob f b) where
  base := h.base.next (k := 0) (.of_eq rfl rfl) rfl rfl rfl rfl rfl
  job := by
    have : (Machine.modifyJob f b).job = f b.job := rfl
    rw [this, h.job, hf]
  owed ha hr := by
    have hkeep : (f b.job).owed = { f b.job with owed := b.job.owed }.owed := congrArg Job.owed (hf b.job b.job.owed)
    exact hkeep.trans (h.owed ha hr)
  track := h.track
  rx := h.rx

theorem stopHold (h : JobWork m i o j c b) : JobWork m i o { j with holdSecs := 0, cause := none } c (stopHold b) where
  base := h.base.next (k := 0) (.of_eq rfl rfl) rfl rfl rfl rfl rfl
  job := by
    have : (Machine.stopHold b).job = { b.job with holdSecs := 0, cause := none } := rfl
    rw [this, h.job]
  owed := h.owed
  track := h.track
  rx := h.rx

theorem reclosingEntered (h : JobWork m i o j c b) : JobWork m i o
    { j with state := .reclosing, holdSecs := 0, cause := none, permitOut := false, holdOut := false } c (reclosingEntered b) where
  base := h.base.reclosingEntered
  job := by rw [reclosingEntered_job, h.job]
  owed ha hr := by
    rw [reclosingEntered_job]
    exact h.owed ha hr
  track := by
    have hdrop (x : Controller) : (dropCall x).track = { x.track with call := (dropCall x).track.call } := by
      unfold dropCall
      split <;> rfl
    have hwith := (OnlyOffers.withdrawKind .permit (Machine.stopHold (enterJob .reclosing b))).track
    rw [Machine.reclosingEntered, hdrop, hwith]
    have : (Machine.stopHold (enterJob .reclosing b)).track = b.track := rfl
    rw [this, h.track]
  rx := (reclosingEntered_frame b).2.2.2.2.2.2.trans h.rx

theorem jobIndex (h : JobWork m i o j c b) (hj : j.oven = c.job.oven) : Machine.jobIndex b = Machine.jobIndex c :=
  jobIndex_congr h.base.start (by rw [h.job]; exact hj)

theorem receiving (h : JobWork m i o j c b) : receiving b = Machine.receiving c := by simp only [Machine.receiving, h.base.start]

end JobWork

end Sys2Proof.Machine
end

section
/-! SUPPORT. Push start and push end (R8, R82, R83, R88, R91): what each leaves of the records and what it counts. -/

-- The lemmas are checked one after another, as the tests are.
set_option Elab.async false

namespace Sys2Proof.Machine

open Sys2Proof

/-! ## The conditions after some work on the job -/

theorem JobWork.conditions_of_guide {m i n : Nat} {o : Oven} {j : Job} {c b : Controller} (h : JobWork m i o j c b)
    (hg : guideCondition c n = false) : permitConditions b i n = false := by
  have hb : guideCondition b n = false := by
    rw [← hg, guideCondition, h.track]
    rfl
  simp [permitConditions, hb]

/-- Once the push has started, a PUSHER at its work meets condition 3, and a car that is being loaded condition 5 (R80). -/
theorem JobWork.conditions_of_started {m i n : Nat} {o : Oven} {j : Job} {c b : Controller} (h : JobWork m i o j c b)
    (hj : j.state = .pushing ∨ j.state = .held ∧ j.started = true) (hp : c.track.pusher = ⟨some n, some .pushing, 0, false⟩)
    (hr : bothRemoved c i = true) (ho : o.command = 0) (hg : guideCondition c n = true) (hc : carCondition c n = true) :
    permitConditions b i n = true := by
  have hstate : b.job.state = .pushing ∨ b.job.state = .held ∧ b.job.started = true := by
    rw [h.job]
    exact hj
  simp only [bothRemoved, Bool.and_eq_true, beq_iff_eq] at hr
  simp only [guideCondition, Bool.and_eq_true, beq_iff_eq, Bool.not_eq_true'] at hg
  simp only [carCondition, Bool.and_eq_true, Bool.or_eq_true, beq_iff_eq, Bool.not_eq_true'] at hc
  rw [permitConditions_iff h.base.oven, h.base.states, h.base.states, h.track, hp]
  refine ⟨hr.1, hr.2, ho, ⟨rfl, rfl, .inr ⟨hstate, rfl⟩⟩, ⟨hg.1.1, hg.1.2, hg.2⟩, ⟨hc.1.1.1, hc.1.1.2, hc.1.2, ?_⟩⟩
  obtain h | ⟨_, h⟩ := hc.2
  · exact .inl h
  · exact .inr ⟨hstate, h⟩

/-! ## Push start -/

theorem JobWork.startPush {m i : Nat} {o : Oven} {j : Job} {c b : Controller} (h : JobWork m i o j c b) (hs : j.state ≠ .bidding) :
    JobWork (m + 1) i (movedOven (cfg c) .pushing (anyRemoved c i) o) { j with started := true } c (startPush i b) :=
  (h.modifyJob (f := fun j => { j with started := true }) fun _ _ => rfl).setPhase hs .pushing

theorem EventsStay.startPush (i : Nat) (c : Controller) : EventsStay c (startPush i c) :=
  EventsStay.trans (c := modifyJob (fun j => { j with started := true }) c) (.of_eq rfl) (.setPhase _ _ _)

theorem EventsStay.resumePush (n : Nat) (c : Controller) : EventsStay c (resumePush n c) := by
  have hoffered : EventsStay c (Machine.offerPermit n permitPushCode (withdrawHalt n (stopHold c))) :=
    EventsStay.trans (c := stopHold c) (.of_eq rfl) ((EventsStay.withdraw _ _).trans (EventsStay.offerPermit n permitPushCode (withdrawHalt n (stopHold c))))
  unfold Machine.resumePush
  exact .ite (fun _ => hoffered.trans (.of_eq rfl)) fun _ => hoffered.trans (.of_eq rfl)

theorem JobWork.holdPush {m i : Nat} {o : Oven} {j : Job} {c b : Controller} (h : JobWork m i o j c b) (hs : j.state ≠ .bidding) (n : Nat) :
    JobWork (m + 2) i o (heldJob .condition j) c (holdPush .condition n b) := by
  rw [holdPush_eq]
  have hoffered : JobWork (m + 1) i o { j with holdSecs := 0, cause := none } c (holdOffered .condition n b) := h.stopHold.offerHalt hs n
  exact (hoffered.modifyJob (f := heldJob .condition) fun _ _ => rfl).count (fun hx => by cases hx) .pushHeld (some n)

theorem JobWork.resumePush {m i : Nat} {o : Oven} {j : Job} {c b : Controller} (h : JobWork m i o j c b) (hs : j.state ≠ .bidding) (n : Nat) :
    JobWork (m + 1) i o (resumedJob j) c (resumePush n b) := by
  have hstop := h.stopHold
  have hloss : NoLoss 0 (Machine.stopHold b) (withdrawHalt n (Machine.stopHold b)) := ⟨.withdrawHalt (fun _ hu => hu.elim) _, fun _ _ => by simp⟩
  have hwithdrawn := hstop.offers hs hloss (.withdraw _ _)
  have hoffered := hwithdrawn.offerPermit hs n permitPushCode
  have hstarted : (Machine.offerPermit n permitPushCode (withdrawHalt n (Machine.stopHold b))).job.started = j.started := by
    rw [hoffered.job]
  simp only [Machine.resumePush, hstarted, resumedJob]
  split
  · exact hoffered.modifyJob (f := Job.enter .pushing) fun _ _ => rfl
  · exact hoffered.modifyJob (f := Job.enter .permitted) fun _ _ => rfl

/-! ## Push end -/

/-- A force at or above the threshold raises the hard push count (R8). -/
def hardTaken (i n force : Nat) (c : Controller) : Controller :=
  if (cfg c).hardPush ≤ force then
    count .hardPush (some n) (modifyOven i (fun o => { o with hardCount := min 15 (o.hardCount + 1) }) c)
  else c

/-- The oven record after a force. -/
def Oven.forced (g : Config) (force : Nat) (o : Oven) : Oven :=
  if g.hardPush ≤ force then { o with hardCount := min 15 (o.hardCount + 1) } else o

theorem Oven.forced_keeps (g : Config) (force : Nat) (o : Oven) :
    (o.forced g force).number = o.number ∧ (o.forced g force).phase = o.phase ∧ (o.forced g force).minutes = o.minutes
      ∧ (o.forced g force).target = o.target ∧ (o.forced g force).allowance = o.allowance := by
  unfold Oven.forced
  split <;> exact ⟨rfl, rfl, rfl, rfl, rfl⟩

theorem tablePushEnd_pushing {i n force : Nat} {completed : Bool} {c : Controller} (h : phaseAt (hardTaken i n force c) i = some .pushing) :
    tablePushEnd i n force completed c =
      if completed then setPhase i .empty (modifyOven i (fun o => { o with minutes := 0 }) (hardTaken i n force c))
      else count .sticker (some n) (setPhase i .sticker (hardTaken i n force c)) := by
  unfold hardTaken at h
  simp only [tablePushEnd, h]
  rfl

theorem tablePushEnd_sticker {i n force : Nat} {completed : Bool} {c : Controller} (h : phaseAt (hardTaken i n force c) i = some .sticker) :
    tablePushEnd i n force completed c =
      if completed then setPhase i .empty (modifyOven i (fun o => { o with minutes := 0 }) (hardTaken i n force c))
      else count .sticker (some n) (hardTaken i n force c) := by
  unfold hardTaken at h
  simp only [tablePushEnd, h]
  rfl

theorem tablePushEnd_other {i n force : Nat} {completed : Bool} {c : Controller} (h1 : phaseAt (hardTaken i n force c) i ≠ some .pushing)
    (h2 : phaseAt (hardTaken i n force c) i ≠ some .sticker) : tablePushEnd i n force completed c = hardTaken i n force c := by
  unfold hardTaken at h1 h2
  unfold tablePushEnd
  dsimp only
  split
  · contradiction
  · contradiction
  · rfl

/-- What a push end counts: HARD PUSH where the force was hard, STICKER where the push failed. -/
structure EndCounts (n : Nat) (strong short : Prop) (c d : Controller) : Prop where
  length : d.events.entries.length = c.events.entries.length
  hard : strong → d.events.entry 26 = EventEntry.raised (some n) (c.events.entry 26)
  failed : short → d.events.entry 27 = EventEntry.raised (some n) (c.events.entry 27)
  sound : ¬ short → d.events.entry 27 = c.events.entry 27
  others : ∀ j, 1 ≤ j → j ≠ 6 → j ≠ 26 → j ≠ 27 → d.events.entry j = c.events.entry j

theorem EndCounts.trans {n : Nat} {hard failed : Prop} {b c d e : Controller} (hb : EventsStay b c) (h : EndCounts n hard failed c d)
    (he : EventsStay d e) : EndCounts n hard failed b e where
  length := he.length.trans (h.length.trans hb.length)
  hard hh := by
    rw [he.entry 26 (by decide) (by decide), h.hard hh, hb.entry 26 (by decide) (by decide)]
  failed hf := by
    rw [he.entry 27 (by decide) (by decide), h.failed hf, hb.entry 27 (by decide) (by decide)]
  sound hn := by
    rw [he.entry 27 (by decide) (by decide), h.sound hn, hb.entry 27 (by decide) (by decide)]
  others j h1 h6 h26 h27 := by
    rw [he.entry j h1 h6, h.others j h1 h6 h26 h27, hb.entry j h1 h6]

/-- The force is counted first. -/
theorem hardTaken_counts (i n force : Nat) {c : Controller} (ht : thirtyEntries c) :
    EndCounts n ((cfg c).hardPush ≤ force) False c (hardTaken i n force c) := by
  unfold hardTaken
  split
  · next hh =>
    have hm : (modifyOven i (fun o => { o with hardCount := min 15 (o.hardCount + 1) }) c).events = c.events := rfl
    exact {
      length := by rw [length_entries_count, hm]
      hard := fun _ => (entry_count (k := .hardPush) (c := modifyOven i _ c) ht).trans (by rw [hm]; rfl)
      failed := fun h => h.elim
      sound := fun _ => by rw [entry_count_ne (by decide) (by decide), hm]
      others := fun j h1 _ h26 _ => by rw [entry_count_ne (k := .hardPush) h1 h26, hm] }
  · next hh =>
    exact ⟨rfl, fun h => absurd h hh, fun h => h.elim, fun _ => rfl, fun _ _ _ _ _ => rfl⟩

/-- A failed push is counted last. -/
theorem EndCounts.sticker {n : Nat} {hard : Prop} {c d e : Controller} (ht : thirtyEntries c) (h : EndCounts n hard False c d)
    (he : EventsStay d e) : EndCounts n hard True c (count .sticker (some n) e) where
  length := by rw [length_entries_count, he.length, h.length]
  hard hh := by
    rw [entry_count_ne (by decide) (by decide), he.entry 26 (by decide) (by decide), h.hard hh]
  failed _ := by
    have hte : thirtyEntries e := (he.length.trans h.length).trans ht
    have hcount := entry_count (k := .sticker) (first := some n) hte
    rw [show EventKind.sticker.number = 27 from rfl] at hcount
    rw [hcount, he.entry 27 (by decide) (by decide), h.sound (fun hf => hf)]
  sound hn := absurd trivial hn
  others j h1 h6 h26 h27 := by
    rw [entry_count_ne (k := .sticker) h1 h27, he.entry j h1 h6, h.others j h1 h6 h26 h27]

theorem JobWork.hardTaken {m i : Nat} {o : Oven} {j : Job} {c b : Controller} (h : JobWork m i o j c b) (hs : j.state ≠ .bidding)
    (n force : Nat) : JobWork (m + 1) i (o.forced (cfg c) force) j c (hardTaken i n force b) := by
  unfold Machine.hardTaken Oven.forced
  rw [h.base.cfg]
  split
  · exact (h.modified fun o => { o with hardCount := min 15 (o.hardCount + 1) }).count hs .hardPush (some n)
  · exact h.offers hs ⟨(QueueKeeps.refl b).mono (Nat.zero_le _), fun _ _ => rfl⟩ (.refl b)

/-- The record of the oven that a push end has settled. -/
structure EndOven (g : Config) (force : Nat) (completed : Bool) (o o' : Oven) : Prop where
  empty : completed = true → o'.phase = .empty ∧ o'.minutes = 0
  sticker : completed = false → o'.phase = .sticker ∧ o'.minutes = o.minutes
  hard : o'.hardCount = (o.forced g force).hardCount
  plan : o'.target = o.target ∧ o'.allowance = o.allowance

theorem EndOven.phase {g : Config} {force : Nat} {completed : Bool} {o o' : Oven} (h : EndOven g force completed o o') :
    o'.phase = .empty ∨ o'.phase = .sticker := by
  cases completed with
  | true => exact .inl (h.empty rfl).1
  | false => exact .inr (h.sticker rfl).1

theorem hardTaken_entries_kept {i n force : Nat} {c : Controller} : ∀ e ∈ c.line.tx, e ∈ (hardTaken i n force c).line.tx := by
  intro e he
  unfold hardTaken
  split
  · exact mem_count _ _ he
  · exact he

/-- A push end of an oven in PUSHING or STICKER. A phase change takes k places of the transmit queue. -/
theorem JobWork.tablePushEnd {m k i : Nat} {o : Oven} {j : Job} {c b : Controller} (h : JobWork m i o j c b) (hs : j.state ≠ .bidding)
    (hph : o.phase = .pushing ∨ o.phase = .sticker) (ht : thirtyEntries b) (n force : Nat) (completed : Bool)
    (hloss : ∀ x ox p, (∀ e ∈ b.line.tx, e ∈ x.line.tx) → ovenAt x i = some ox → ox.number = o.number → NoLoss k x (Machine.setPhase i p x)) :
    ∃ o', JobWork (m + 2 + k) i o' j c (tablePushEnd i n force completed b) ∧ EndOven (cfg c) force completed o o'
      ∧ EndCounts n ((cfg c).hardPush ≤ force) (completed = false) b (tablePushEnd i n force completed b) := by
  have hx := h.hardTaken hs n force
  have hcounts := hardTaken_counts i n force ht
  obtain ⟨hnumber, hphase, hminutes, htarget, hallowance⟩ := o.forced_keeps (cfg c) force
  have hat : phaseAt (Machine.hardTaken i n force b) i = some o.phase := by
    rw [phaseAt, hx.base.oven, ← hphase]
    rfl
  rw [h.base.cfg] at hcounts
  have hkept := hardTaken_entries_kept (i := i) (n := n) (force := force) (c := b)
  have hempty (e : completed = true) (heq : Machine.tablePushEnd i n force completed b = Machine.setPhase i .empty
      (modifyOven i (fun o => { o with minutes := 0 }) (Machine.hardTaken i n force b))) :
      ∃ o', JobWork (m + 2 + k) i o' j c (Machine.tablePushEnd i n force completed b) ∧ EndOven (cfg c) force completed o o'
      ∧ EndCounts n ((cfg c).hardPush ≤ force) (completed = false) b (Machine.tablePushEnd i n force completed b) := by
    rw [heq]
    have hzero := hx.modified fun o => { o with minutes := 0 }
    have hmoved := hzero.moved hs (hloss _ _ .empty hkept hzero.base.oven hnumber)
    obtain ⟨_, hp, hm, ht', ha, _, hc⟩ := movedOven_keeps (cfg c) .empty (anyRemoved c i) { o.forced (cfg c) force with minutes := 0 }
    refine ⟨_, ?_, ⟨fun _ => ⟨hp, hm⟩, fun hf => absurd (e.symm.trans hf) (by decide), hc, ht'.trans htarget, ha.trans hallowance⟩, ?_⟩
    · exact hmoved.weaken (by omega)
    · have hstay : EventsStay (Machine.hardTaken i n force b) (Machine.setPhase i .empty
          (modifyOven i (fun o => { o with minutes := 0 }) (Machine.hardTaken i n force b))) :=
        EventsStay.trans (c := modifyOven i (fun o => { o with minutes := 0 }) (Machine.hardTaken i n force b)) (.of_eq rfl) (.setPhase _ _ _)
      have := EndCounts.trans (.refl b) hcounts hstay
      rw [e]
      exact ⟨this.length, this.hard, fun hf => absurd hf (by decide), fun _ => this.sound fun hf => hf, this.others⟩
  obtain hp | hp := hph
  · rw [hp] at hat
    cases hc : completed with
    | true => exact hc ▸ hempty hc ((tablePushEnd_pushing hat).trans (if_pos hc))
    | false =>
      rw [tablePushEnd_pushing hat, if_neg (by decide)]
      have hmoved := (hx.moved hs (hloss _ _ .sticker hkept hx.base.oven hnumber)).count hs .sticker (some n)
      obtain ⟨_, hp, hm, ht', ha, _, hc⟩ := movedOven_keeps (cfg c) .sticker (anyRemoved c i) (o.forced (cfg c) force)
      refine ⟨_, ?_, ⟨fun hf => absurd hf (by decide), fun _ => ⟨hp, hm.trans hminutes⟩, hc, ht'.trans htarget, ha.trans hallowance⟩, ?_⟩
      · exact hmoved.weaken (by omega)
      · have hall := hcounts.sticker ht (EventsStay.setPhase i .sticker (Machine.hardTaken i n force b))
        exact ⟨hall.length, hall.hard, fun _ => hall.failed trivial, fun hf => absurd rfl hf, hall.others⟩
  · rw [hp] at hat
    cases hc : completed with
    | true => exact hc ▸ hempty hc ((tablePushEnd_sticker hat).trans (if_pos hc))
    | false =>
      rw [tablePushEnd_sticker hat, if_neg (by decide)]
      refine ⟨_, (hx.count hs .sticker (some n)).weaken (by omega), ⟨fun hf => absurd hf (by decide), fun _ => ⟨hphase.trans hp, hminutes⟩, rfl,
        htarget, hallowance⟩, ?_⟩
      have hall := hcounts.sticker ht (EventsStay.refl (Machine.hardTaken i n force b))
      exact ⟨hall.length, hall.hard, fun _ => hall.failed trivial, fun hf => absurd rfl hf, hall.others⟩

end Sys2Proof.Machine
end

section
/-! SUPPORT. The PUSHER reports of a push start and a push end (R82, R83, R88, R91). -/

-- The lemmas are checked one after another, as the tests are.
set_option Elab.async false

namespace Sys2Proof.Machine

open Sys2Proof

/-- The controller after the record of a PUSHER at oven n has been set. -/
def pusherSet (rest : List Telegram) (n : Nat) (st : PusherState) (c : Controller) : Controller :=
  { withRx rest c with track := { c.track with pusher := ⟨some n, some st, 0, false⟩ } }

theorem pusherSet_work {rest : List Telegram} {n i : Nat} {st : PusherState} {o : Oven} {c : Controller} (ho : ovenAt c i = some o) :
    JobWork 0 i o c.job (pusherSet rest n st c) (pusherSet rest n st c) := .refl (c := pusherSet rest n st c) ho

/-- A PUSHER at the job oven is a push start or a push end, and the conditions are evaluated after it. -/
theorem pusher_step {q : List Instr} {c : Controller} {t : Telegram} {rest : List Telegram} {n i : Nat} (hands : Hands c .pusher t rest)
    (hn : c.job.oven = some n) (hi : ovenIndex c n = some i) (hspot : t.at 0 = n) (hpos : 0 < n) (hle : n ≤ 192) (h4 : t.at 4 ≤ 1) :
    (t.at 1 = 3 → exec .pusher ⟨q, c⟩ = .next ⟨q, freePlace (evaluate (pusherPushing i n (pusherSet rest n .pushing c)))⟩)
      ∧ (t.at 1 = 4 → exec .pusher ⟨q, c⟩
        = .next ⟨q, freePlace (evaluate (pusherReturned i n (t.at2 2) (t.at 4 == 1) (pusherSet rest n .returned c)))⟩) := by
  have hstep : exec .pusher ⟨q, c⟩ = .next ⟨q, freePlace (takePusher t (withRx rest c))⟩ := act_handOn hands rfl
  have hfield : ovenField (t.at 0) = some n := by rw [hspot, ovenField_eq, if_neg (by omega)]
  have hindex (st : PusherState) : jobIndex (pusherSet rest n st c) = some i := jobIndex_eq (c := pusherSet rest n st c) hn hi
  have hjob (st : PusherState) : (pusherSet rest n st c).job.oven = some n := hn
  refine ⟨fun ht => ?_, fun ht => ?_⟩
  · have hst : pusherStateOf (t.at 1) = some .pushing := by rw [ht]; rfl
    rw [hstep, takePusher_of_state hst (by omega) h4, if_neg (fun hx => by cases hx), hfield,
      show ({ withRx rest c with track := { (withRx rest c).track with pusher := ⟨some n, some .pushing, 0, false⟩ } } : Controller)
        = pusherSet rest n .pushing c from rfl]
    simp only [jobOnPusher, hjob, hindex, if_true]
  · have hst : pusherStateOf (t.at 1) = some .returned := by rw [ht]; rfl
    rw [hstep, takePusher_of_state hst (by omega) h4, if_neg (fun hx => by cases hx), hfield,
      show ({ withRx rest c with track := { (withRx rest c).track with pusher := ⟨some n, some .returned, 0, false⟩ } } : Controller)
        = pusherSet rest n .returned c from rfl]
    simp only [jobOnPusher, hjob, hindex, if_true]

/-! ## What a step shows of the work -/

/-- What the work on the push job leaves, once what waits for a free place has been offered. -/
theorem JobWork.shows {m i : Nat} {o : Oven} {j : Job} {c b : Controller} (h : JobWork m i o j c b) :
    ovenAt (freePlace b) i = some o ∧ (∀ k, k ≠ i → ovenAt (freePlace b) k = ovenAt c k)
      ∧ (freePlace b).job = { j with owed := (freePlace b).job.owed } ∧ (freePlace b).track.pusher = c.track.pusher
      ∧ (freePlace b).line.rx = c.line.rx := by
  have hfree := OnlyOffers.freePlace b
  refine ⟨?_, fun k hk => ?_, ?_, ?_, ?_⟩
  · rw [ovenAt, hfree.table]
    exact h.base.oven
  · rw [ovenAt, hfree.table]
    exact h.base.others k hk
  · rw [freePlace_job, h.job]
  · rw [freePlace_track, h.track]
  · rw [hfree.line]
    exact h.rx

/-- The push end's record and counts are those of R8. -/
theorem PushEndTaken.of_counts {t : Telegram} {o o₁ o' : Oven} {n : Nat} {c d : Controller} (h4 : t.at 4 ≤ 1)
    (hoven : EndOven (cfg c) (t.at2 2) (t.at 4 == 1) o₁ o') (hm : o₁.minutes = o.minutes) (hh : o₁.hardCount = o.hardCount)
    (hp : o₁.target = o.target ∧ o₁.allowance = o.allowance)
    (hcounts : EndCounts n ((cfg c).hardPush ≤ t.at2 2) ((t.at 4 == 1) = false) c d) : PushEndTaken t o o' c d where
  completed h := hoven.empty (by simp [h])
  failed h := by
    obtain ⟨hphase, hminutes⟩ := hoven.sticker (by simp [h])
    refine ⟨hphase, hminutes.trans hm, ?_⟩
    rw [countedOnce, hcounts.failed (by simp [h])]
    rfl
  hard h := by
    have hforced := hoven.hard
    rw [Oven.forced, if_pos h] at hforced
    refine ⟨by rw [hforced, hh], ?_⟩
    rw [countedOnce, hcounts.hard h]
    rfl
  soft h := by
    have hforced := hoven.hard
    rw [Oven.forced, if_neg (Nat.not_le.mpr h)] at hforced
    rw [hforced, hh]
  plan := ⟨hoven.plan.1.trans hp.1, hoven.plan.2.trans hp.2⟩

/-- The record of a job that has entered RECLOSING after a push end. -/
def endedJob (j : Job) : Job :=
  { j with state := .reclosing, ended := true, holdSecs := 0, cause := none, permitOut := false, holdOut := false }

/-- A push end, reclosed at once where both doors are latched (R88, R89). -/
theorem JobWork.pushEnded {m k i n : Nat} {o : Oven} {j : Job} {c b : Controller} (h : JobWork m i o j c b) (hs : j.state ≠ .bidding)
    (hn : j.oven = some n) (hi : Machine.jobIndex b = some i) (hev : EventsStay c b) (hph : o.phase = .pushing ∨ o.phase = .sticker)
    (ht : thirtyEntries c) (force : Nat) (completed : Bool)
    (hloss : ∀ x ox p, (∀ e ∈ b.line.tx, e ∈ x.line.tx) → ovenAt x i = some ox → ox.number = o.number → NoLoss k x (Machine.setPhase i p x)) :
    ∃ o', EndOven (cfg c) force completed o o'
      ∧ EndCounts n ((cfg c).hardPush ≤ force) (completed = false) c (freePlace (enterReclosing (takePushEnd i n force completed b)))
      ∧ (enterReclosing (takePushEnd i n force completed b)).track.call.step = .none
      ∧ evaluate (enterReclosing (takePushEnd i n force completed b)) = enterReclosing (takePushEnd i n force completed b)
      ∧ (bothLatched c i = false → JobWork (m + 2 + k) i o' (endedJob j) c (enterReclosing (takePushEnd i n force completed b)))
      ∧ (bothLatched c i = true → JobWork (m + 3 + k) i o' (Job.toIdle j) c (enterReclosing (takePushEnd i n force completed b))
          ∧ (isActive c = true → roomFor (m + 3 + k) c →
              waitsInTx (releaseTelegram (ownNumber c) n .pushed) (enterReclosing (takePushEnd i n force completed b)))) := by
  obtain ⟨o', hwork, hoven, hcounts⟩ := h.tablePushEnd hs hph (hev.thirty ht) n force completed hloss
  obtain ⟨x, hx⟩ : ∃ x, x = takePushEnd i n force completed b := ⟨_, rfl⟩
  have hwx : JobWork (m + 2 + k) i o' { j with ended := true } c x := by
    rw [hx]
    exact hwork.modifyJob (f := fun j => { j with ended := true }) fun _ _ => rfl
  have hcx : EndCounts n ((cfg c).hardPush ≤ force) (completed = false) c x := by
    rw [hx]
    exact .trans hev hcounts (.of_eq rfl)
  have hxn : x.job.oven = some n := by rw [hwx.job]; exact hn
  have hxi : Machine.jobIndex x = some i := by
    have hbn : b.job.oven = some n := by rw [h.job]; exact hn
    rw [jobIndex_congr (c := b) (hwx.base.start.trans h.base.start.symm) (hxn.trans hbn.symm)]
    exact hi
  have hended : x.job.ended = true := by rw [hwx.job]
  have hreclosing : JobWork (m + 2 + k) i o' (endedJob j) c (Machine.reclosingEntered x) := hwx.reclosingEntered
  have henter := enterReclosing_eq x
  rw [checkReclosing_reclosingEntered hxn hxi, hwx.base.bothLatched, if_pos hended] at henter
  rw [← hx]
  cases hl : bothLatched c i with
  | false =>
    rw [hl, if_neg (by decide)] at henter
    have hstate : evaluates (Machine.reclosingEntered x).job.state = false := by rw [hreclosing.job]; rfl
    rw [henter]
    exact ⟨o', hoven, .trans (.refl c) hcx ((EventsStay.reclosingEntered x).trans (.freePlace _)), reclosingEntered_step x,
      evaluate_of_state hstate, fun _ => hreclosing, fun hf => absurd hf (by decide)⟩
  | true =>
    rw [hl, if_pos rfl] at henter
    obtain ⟨y, hy⟩ : ∃ y, y = Machine.offerRelease n .pushed (Machine.reclosingEntered x) := ⟨_, rfl⟩
    have hwy : JobWork (m + 2 + k + 1) i o' (endedJob j) c y := by
      rw [hy]
      exact hreclosing.offerRelease (fun hx => by cases hx) n .pushed
    have hsettle : settlePhase i y = y := by
      rw [settlePhase_eq hwy.base.oven]
      obtain hp | hp := hoven.phase <;> rw [hp] <;> rfl
    rw [← hy, hsettle] at henter
    have hidle : JobWork (m + 3 + k) i o' (Job.toIdle j) c (idleJob y) := by
      have := (hwy.modifyJob (f := Job.toIdle) fun _ _ => rfl).weaken (n := m + 3 + k) (by omega)
      exact this
    have hstate : evaluates (idleJob y).job.state = false := rfl
    have hstays : EventsStay x (freePlace (idleJob y)) := by
      have hrelease : EventsStay (Machine.reclosingEntered x) y := hy ▸ .offerRelease n .pushed _
      exact (EventsStay.reclosingEntered x).trans (hrelease.trans ((EventsStay.idleJob y).trans (.freePlace _)))
    rw [henter]
    refine ⟨o', hoven, .trans (.refl c) hcx hstays, ?_, evaluate_of_state hstate, fun hf => absurd hf (by decide), fun _ => ⟨hidle, fun ha hr => ?_⟩⟩
    · rw [(idleJob_records y).2.2.2, hy, offerRelease_step, reclosingEntered_step]
    · have hroom : roomFor 1 (Machine.reclosingEntered x) := hreclosing.base.room ha (by rw [roomFor] at hr ⊢; omega)
      have hw := offerRelease_waits (n := n) (o := .pushed) (hreclosing.base.keeps.active.trans ha) hroom
      rw [hreclosing.base.keeps.ownNumber, ← hy] at hw
      exact hw

theorem phaseTelegram_oven {a b : Nat} {o o' : Oven} (h : o.number = o'.number) : (phaseTelegram a o).oven = (phaseTelegram b o').oven := by
  simp only [phaseTelegram, Telegram.oven, h]
  rfl

/-- After a push start the PHASE of the push end takes the place of the one just queued. -/
theorem JobWork.startPush_again {m i : Nat} {o : Oven} {j : Job} {c b : Controller} (h : JobWork m i o j c b) (ha : isActive c = true)
    (hr : roomFor (m + 1) c) : ∀ x ox p, (∀ e ∈ (Machine.startPush i b).line.tx, e ∈ x.line.tx) → ovenAt x i = some ox → ox.number = o.number →
      NoLoss 0 x (Machine.setPhase i p x) := by
  intro x ox p hkept hox hnumber
  have hroom : roomFor 1 b := h.base.room ha hr
  have hw := setPhase_waits (p := .pushing) (c := Machine.modifyJob (fun j => { j with started := true }) b) (h.base.keeps.active.trans ha) hroom
    h.base.oven
  exact .setPhase_again hox (hkept _ hw) rfl (phaseTelegram_oven hnumber.symm)

theorem anyRemoved_of_bothRemoved {c : Controller} {i : Nat} (h : bothRemoved c i = true) : anyRemoved c i = true := by
  simp only [bothRemoved, Bool.and_eq_true, beq_iff_eq] at h
  simp [anyRemoved, h.1]

theorem bothLatched_of_bothRemoved {c : Controller} {i : Nat} (h : bothRemoved c i = true) : bothLatched c i = false := by
  cases hl : bothLatched c i with
  | false => rfl
  | true => exact absurd ((anyRemoved_of_bothRemoved h).symm.trans (bothLatched_anyRemoved hl)) (by decide)

/-- A push end at the job oven: what it leaves and what it counts, by whether the reclosing is complete at once. The push may have
started with it (R83). -/
theorem returned_taken {q : List Instr} {c k z : Controller} {t : Telegram} {rest : List Telegram} {m p n i : Nat} {o o₁ : Oven} {j : Job}
    (hk : k = pusherSet rest n .returned c) (hthirty : thirtyEntries c) (hwork : JobWork m i o₁ j k z) (hev : EventsStay k z)
    (hs : j.state ≠ .bidding) (hn : j.oven = some n) (hi : jobIndex z = some i) (hph : o₁.phase = .pushing ∨ o₁.phase = .sticker)
    (h4 : t.at 4 ≤ 1) (hm : o₁.minutes = o.minutes) (hh : o₁.hardCount = o.hardCount) (hp : o₁.target = o.target ∧ o₁.allowance = o.allowance)
    (hloss : ∀ x ox r, (∀ e ∈ z.line.tx, e ∈ x.line.tx) → ovenAt x i = some ox → ox.number = o₁.number → NoLoss p x (setPhase i r x))
    (hstep : exec .pusher ⟨q, c⟩ = .next ⟨q, freePlace (evaluate (enterReclosing (takePushEnd i n (t.at2 2) (t.at 4 == 1) z)))⟩) :
    ∃ d o', exec .pusher ⟨q, c⟩ = .next ⟨q, d⟩ ∧ ovenAt d i = some o' ∧ PushEndTaken t o o' c d
      ∧ (bothLatched c i = true → d.job = { Job.idleRecord with owed := d.job.owed }
          ∧ (isActive c = true → roomFor (m + 3 + p) c → waitsInTx (releaseTelegram (ownNumber c) n .pushed) d))
      ∧ (bothLatched c i = false → d.job = { endedJob j with owed := d.job.owed })
      ∧ (∀ a, a ≠ i → ovenAt d a = ovenAt c a) ∧ d.events.entry 25 = c.events.entry 25 ∧ d.track.call.step = .none
      ∧ d.track.pusher = ⟨some n, some .returned, 0, false⟩ ∧ d.line.rx = rest := by
  have htk : thirtyEntries k := by rw [hk]; exact hthirty
  obtain ⟨o', hoven, hcounts, hcall, hself, hopen, hlatched⟩ := hwork.pushEnded hs hn hi hev hph htk (t.at2 2) (t.at 4 == 1) hloss
  rw [hself] at hstep
  generalize enterReclosing (takePushEnd i n (t.at2 2) (t.at 4 == 1) z) = x at hstep hcounts hcall hopen hlatched
  have hcall' : (freePlace x).track.call.step = .none := by rw [freePlace_track]; exact hcall
  have htaken : PushEndTaken t o o' k (freePlace x) := .of_counts h4 hoven hm hh hp hcounts
  have h25 := hcounts.others 25 (by decide) (by decide) (by decide) (by decide)
  cases hl : bothLatched c i with
  | false =>
    have hshow := (hopen (by rw [hk]; exact hl)).shows
    rw [hk] at hshow htaken h25
    obtain ⟨ho', hothers, hjob, hpusher, hrx⟩ := hshow
    exact ⟨_, o', hstep, ho', ⟨htaken.completed, htaken.failed, htaken.hard, htaken.soft, htaken.plan⟩, fun hf => absurd hf (by decide), fun _ => hjob, hothers, h25, hcall', hpusher, hrx⟩
  | true =>
    obtain ⟨hidle, hrelease⟩ := hlatched (by rw [hk]; exact hl)
    have hshow := hidle.shows
    rw [hk] at hshow htaken h25 hrelease
    obtain ⟨ho', hothers, hjob, hpusher, hrx⟩ := hshow
    refine ⟨_, o', hstep, ho', ⟨htaken.completed, htaken.failed, htaken.hard, htaken.soft, htaken.plan⟩, fun _ => ⟨hjob.trans rfl, fun ha hr => ?_⟩, fun hf => absurd hf (by decide), hothers, h25, hcall', hpusher,
      hrx⟩
    exact waitsInTx_freePlace (hrelease ha hr) (fun hx => by cases hx)

/-- A PUSHER PUSHING at the job oven of a PERMITTED job whose conditions hold starts the push (R82). -/
theorem permitted_starts {q : List Instr} {c : Controller} {rest : List Telegram} {n i : Nat} {o : Oven}
    (hrec : receiving c = true) (hn : c.job.oven = some n) (hi : ovenIndex c n = some i) (ho : ovenAt c i = some o)
    (hs : c.job.state = .permitted) (hboth : bothRemoved c i = true) (hcommand : o.command = 0) (hg : guideCondition c n = true)
    (hc : carCondition c n = true)
    (hstep : exec .pusher ⟨q, c⟩ = .next ⟨q, freePlace (evaluate (pusherPushing i n (pusherSet rest n .pushing c)))⟩) :
    ∃ d o', exec .pusher ⟨q, c⟩ = .next ⟨q, d⟩ ∧ ovenAt d i = some o'
      ∧ d.job = { c.job with state := .pushing, started := true, permitOut := true, holdOut := false, owed := d.job.owed }
      ∧ o'.phase = .pushing ∧ o'.minutes = o.minutes ∧ o'.stage = none ∧ (∀ j, j ≠ i → ovenAt d j = ovenAt c j)
      ∧ d.track.pusher = ⟨some n, some .pushing, 0, false⟩ ∧ d.line.rx = rest := by
  obtain ⟨k, hk⟩ : ∃ k, k = pusherSet rest n .pushing c := ⟨_, rfl⟩
  have hwork : JobWork 0 i o c.job k k := hk ▸ pusherSet_work ho
  have hnb : c.job.state ≠ .bidding := by rw [hs]; exact fun hx => by cases hx
  obtain ⟨x, hx⟩ : ∃ x, x = enterJob .pushing (startPush i k) := ⟨_, rfl⟩
  have hwx : JobWork 1 i (movedOven (cfg k) .pushing (anyRemoved k i) o) (Job.enter .pushing { c.job with started := true }) k x := by
    rw [hx]
    exact (hwork.startPush hnb).modifyJob (f := Job.enter .pushing) fun _ _ => rfl
  have hpushing : pusherPushing i n k = x := by
    have hks : k.job.state = .permitted := by rw [hk]; exact hs
    rw [hx]
    simp only [pusherPushing, hks]
  have hrem : anyRemoved k i = true := by rw [hk]; exact anyRemoved_of_bothRemoved hboth
  have hcond : permitConditions x i n = true := by
    refine hwx.conditions_of_started (.inl rfl) (by rw [hk]; rfl) (by rw [hk]; exact hboth) ?_ (by rw [hk]; exact hg) (by rw [hk]; exact hc)
    rw [hrem]
    exact hcommand
  have hxi : jobIndex x = some i := (hwx.jobIndex (by rw [hk]; rfl)).trans (by rw [hk]; exact jobIndex_eq (c := pusherSet rest n .pushing c) hn hi)
  have hxr : receiving x = true := hwx.receiving.trans (by rw [hk]; exact hrec)
  have hself : evaluate x = x := by
    rw [evaluate_under_way hxr (by rw [hwx.job]; exact hn) hxi (.inr (by rw [hwx.job]; rfl)), if_pos hcond]
  obtain ⟨_, hp, hm, _⟩ := movedOven_keeps (cfg k) .pushing (anyRemoved k i) o
  have hstage := movedOven_stage (cfg k) .pushing (anyRemoved k i) o
  rw [← hk, hpushing, hself] at hstep
  obtain ⟨ho', hothers, hjob, hpusher, hrx⟩ := hwx.shows
  rw [hk] at hothers hpusher hrx
  exact ⟨_, _, hstep, ho', hjob, hp, hm, hstage, hothers, hpusher, hrx⟩

/-- A PUSHER PUSHING at the job oven of a STAGED job starts the push and holds it; where the conditions hold it resumes at once
(R83, R85). -/
theorem staged_starts {q : List Instr} {c : Controller} {rest : List Telegram} {n i : Nat} {o : Oven} (hthirty : thirtyEntries c)
    (hrec : receiving c = true) (hn : c.job.oven = some n) (hi : ovenIndex c n = some i) (ho : ovenAt c i = some o)
    (hs : c.job.state = .staged) (hboth : bothRemoved c i = true)
    (hstep : exec .pusher ⟨q, c⟩ = .next ⟨q, freePlace (evaluate (pusherPushing i n (pusherSet rest n .pushing c)))⟩) :
    ∃ d o', exec .pusher ⟨q, c⟩ = .next ⟨q, d⟩ ∧ ovenAt d i = some o' ∧ o'.phase = .pushing ∧ o'.minutes = o.minutes
      ∧ (∀ j, j ≠ i → ovenAt d j = ovenAt c j) ∧ countedOnce 25 c d ∧ d.line.rx = rest
      ∧ d.track.pusher = ⟨some n, some .pushing, 0, false⟩
      ∧ (guideCondition c n = false →
          d.job = { c.job with state := .held, started := true, holdSecs := 0, cause := some .condition,
                               permitOut := false, holdOut := true, owed := d.job.owed }
            ∧ (isActive c = true → roomFor 4 c → waitsInTx (haltTelegram (ownNumber c) n) d))
      ∧ (o.command = 0 → guideCondition c n = true → carCondition c n = true →
          d.job = { c.job with state := .pushing, started := true, holdSecs := 0, cause := none, permitOut := true,
                               holdOut := false, owed := d.job.owed }
            ∧ (isActive c = true → roomFor 4 c → c.job.owed = none →
                waitsInTx (permitTelegram (ownNumber c) n permitPushCode) d)) := by
  obtain ⟨k, hk⟩ : ∃ k, k = pusherSet rest n .pushing c := ⟨_, rfl⟩
  have hwork : JobWork 0 i o c.job k k := hk ▸ pusherSet_work ho
  have hnb : c.job.state ≠ .bidding := by rw [hs]; exact fun hx => by cases hx
  obtain ⟨x, hx⟩ : ∃ x, x = holdPush .condition n (startPush i k) := ⟨_, rfl⟩
  have hstart := hwork.startPush hnb
  have hwx : JobWork 3 i (movedOven (cfg k) .pushing (anyRemoved k i) o) (heldJob .condition { c.job with started := true }) k x := by
    rw [hx]
    exact hstart.holdPush hnb n
  have hpushing : pusherPushing i n k = x := by
    have hks : k.job.state = .staged := by rw [hk]; exact hs
    rw [hx]
    simp only [pusherPushing, hks]
  have hrem : anyRemoved k i = true := by rw [hk]; exact anyRemoved_of_bothRemoved hboth
  have hxi : jobIndex x = some i := (hwx.jobIndex (by rw [hk]; rfl)).trans (by rw [hk]; exact jobIndex_eq (c := pusherSet rest n .pushing c) hn hi)
  have hxr : receiving x = true := hwx.receiving.trans (by rw [hk]; exact hrec)
  have hxn : x.job.oven = some n := by rw [hwx.job]; exact hn
  have hxs : x.job.state = .held := by rw [hwx.job]; rfl
  have hxcause : x.job.cause = some .condition := by rw [hwx.job]; rfl
  have hcases := evaluate_held hxr hxn hxi hxs
  have hcount {e : Controller} (he : EventsStay x e) : countedOnce 25 c e := by
    have hts : thirtyEntries (startPush i k) := (EventsStay.startPush i k).thirty (by rw [hk]; exact hthirty)
    have hheld := holdPush_counted (c := startPush i k) .condition n hts (hx ▸ he)
    rw [countedOnce, (EventsStay.startPush i k).entry 25 (by decide) (by decide)] at hheld
    rw [hk] at hheld
    exact hheld
  obtain ⟨_, hp, hm, _⟩ := movedOven_keeps (cfg k) .pushing (anyRemoved k i) o
  rw [← hk, hpushing, hcases] at hstep
  cases hcond : permitConditions x i n with
  | false =>
    rw [hcond, if_neg (fun h => absurd h.2 (by decide))] at hstep
    obtain ⟨ho', hothers, hjob, hpusher, hrx⟩ := hwx.shows
    rw [hk] at hothers hpusher hrx
    refine ⟨_, _, hstep, ho', hp, hm, hothers, hcount (.freePlace x), hrx, hpusher, fun _ => ⟨hjob, fun ha hroom => ?_⟩, fun h0 hg hc => ?_⟩
    · have hroom' : roomFor 2 (startPush i k) := hstart.base.room (c := k) (by rw [hk]; exact ha)
        (by rw [hk]; exact Nat.le_trans (Nat.add_le_add_left (by decide) _) hroom)
      have hw := holdPush_waits n (hstart.base.keeps.active.trans (by rw [hk]; exact ha)) hroom'
      rw [hstart.base.keeps.ownNumber, ← hx, hk] at hw
      exact waitsInTx_freePlace hw (fun hx => by cases hx)
    · have hyes := hwx.conditions_of_started (n := n) (.inr ⟨rfl, rfl⟩) (by rw [hk]; rfl) (by rw [hk]; exact hboth)
        (by rw [hrem]; exact h0) (by rw [hk]; exact hg) (by rw [hk]; exact hc)
      exact absurd (hyes.symm.trans hcond) (by decide)
  | true =>
    rw [if_pos ⟨hxcause, hcond⟩] at hstep
    have hwy := hwx.resumePush (fun hx => by cases hx) n
    obtain ⟨ho', hothers, hjob, hpusher, hrx⟩ := hwy.shows
    rw [hk] at hothers hpusher hrx
    refine ⟨_, _, hstep, ho', hp, hm, hothers, hcount ((EventsStay.resumePush n x).trans (.freePlace _)), hrx, hpusher, fun hg => ?_,
      fun _ _ _ => ⟨hjob, fun ha hroom howed => ?_⟩⟩
    · exact absurd ((hwx.conditions_of_guide (n := n) (by rw [hk]; exact hg)).symm.trans hcond) (by decide)
    · have hka : isActive k = true := by rw [hk]; exact ha
      have hkr : roomFor 4 k := by rw [hk]; exact hroom
      have hw := resumePush_waits (n := n) (hwx.base.keeps.active.trans hka) (hwx.base.room hka hkr)
      rw [hwx.base.keeps.ownNumber, hk] at hw
      have hnone : (resumePush n x).job.owed = none := (hwy.owed hka hkr).trans (by rw [hk]; exact howed)
      exact waitsInTx_freePlace_of_none_owed hw hnone

/-- A PUSHER PUSHING at the job oven of a HELD job that has not started starts the push there (R83, R85). -/
theorem held_starts {q : List Instr} {c : Controller} {rest : List Telegram} {n i : Nat} {o : Oven}
    (hrec : receiving c = true) (hn : c.job.oven = some n) (hi : ovenIndex c n = some i) (ho : ovenAt c i = some o)
    (hs : c.job.state = .held) (hns : c.job.started = false)
    (hstep : exec .pusher ⟨q, c⟩ = .next ⟨q, freePlace (evaluate (pusherPushing i n (pusherSet rest n .pushing c)))⟩) :
    ∃ d o', exec .pusher ⟨q, c⟩ = .next ⟨q, d⟩ ∧ ovenAt d i = some o' ∧ o'.phase = .pushing ∧ o'.minutes = o.minutes
      ∧ (∀ j, j ≠ i → ovenAt d j = ovenAt c j) ∧ d.line.rx = rest ∧ d.track.pusher = ⟨some n, some .pushing, 0, false⟩
      ∧ (c.job.cause = some .supervisory ∨ guideCondition c n = false → d.job = { c.job with started := true, owed := d.job.owed })
      ∧ (c.job.cause = some .condition → bothRemoved c i = true → o.command = 0 → guideCondition c n = true →
          carCondition c n = true →
          d.job = { c.job with state := .pushing, started := true, holdSecs := 0, cause := none, permitOut := true,
                               holdOut := false, owed := d.job.owed }) := by
  obtain ⟨k, hk⟩ : ∃ k, k = pusherSet rest n .pushing c := ⟨_, rfl⟩
  have hwork : JobWork 0 i o c.job k k := hk ▸ pusherSet_work ho
  have hnb : c.job.state ≠ .bidding := by rw [hs]; exact fun hx => by cases hx
  obtain ⟨x, hx⟩ : ∃ x, x = startPush i k := ⟨_, rfl⟩
  have hwx : JobWork 1 i (movedOven (cfg k) .pushing (anyRemoved k i) o) { c.job with started := true } k x := by
    rw [hx]
    exact hwork.startPush hnb
  have hpushing : pusherPushing i n k = x := by
    have hks : k.job.state = .held := by rw [hk]; exact hs
    have hkn : k.job.started = false := by rw [hk]; exact hns
    rw [hx]
    simp only [pusherPushing, hks, hkn]
    rfl
  have hxi : jobIndex x = some i := (hwx.jobIndex (by rw [hk]; rfl)).trans (by rw [hk]; exact jobIndex_eq (c := pusherSet rest n .pushing c) hn hi)
  have hxr : receiving x = true := hwx.receiving.trans (by rw [hk]; exact hrec)
  have hxn : x.job.oven = some n := by rw [hwx.job]; exact hn
  have hxs : x.job.state = .held := by rw [hwx.job]; exact hs
  have hxcause : x.job.cause = c.job.cause := by rw [hwx.job]
  have hcases := evaluate_held hxr hxn hxi hxs
  obtain ⟨_, hp, hm, _⟩ := movedOven_keeps (cfg k) .pushing (anyRemoved k i) o
  rw [← hk, hpushing, hcases, hxcause] at hstep
  by_cases hgo : c.job.cause = some .condition ∧ permitConditions x i n = true
  · rw [if_pos hgo] at hstep
    obtain ⟨ho', hothers, hjob, hpusher, hrx⟩ := (hwx.resumePush hnb n).shows
    rw [hk] at hothers hpusher hrx
    refine ⟨_, _, hstep, ho', hp, hm, hothers, hrx, hpusher, fun h => ?_, fun _ _ _ _ _ => hjob⟩
    obtain h | hg := h
    · exact absurd (hgo.1.symm.trans h) (fun hx => by cases hx)
    · exact absurd ((hwx.conditions_of_guide (n := n) (by rw [hk]; exact hg)).symm.trans hgo.2) (by decide)
  · rw [if_neg hgo] at hstep
    obtain ⟨ho', hothers, hjob, hpusher, hrx⟩ := hwx.shows
    rw [hk] at hothers hpusher hrx
    refine ⟨_, _, hstep, ho', hp, hm, hothers, hrx, hpusher, fun _ => hjob, fun hc hboth h0 hg hcar => absurd ⟨hc, ?_⟩ hgo⟩
    have hrem : anyRemoved k i = true := by rw [hk]; exact anyRemoved_of_bothRemoved hboth
    exact hwx.conditions_of_started (n := n) (.inr ⟨hs, rfl⟩) (by rw [hk]; rfl) (by rw [hk]; exact hboth)
      (by rw [hrem]; exact h0) (by rw [hk]; exact hg) (by rw [hk]; exact hcar)

/-- A PUSHER RETURNED at the job oven after a push start, in PUSHING or HELD (R88). -/
theorem returned_started {q : List Instr} {c : Controller} {t : Telegram} {rest : List Telegram} {n i : Nat} {o : Oven}
    (hthirty : thirtyEntries c) (hn : c.job.oven = some n) (hi : ovenIndex c n = some i) (ho : ovenAt c i = some o) (h4 : t.at 4 ≤ 1)
    (hs : c.job.state = .pushing ∨ c.job.state = .held ∧ c.job.started = true) (hph : o.phase = .pushing ∨ o.phase = .sticker)
    (hstep : exec .pusher ⟨q, c⟩
      = .next ⟨q, freePlace (evaluate (pusherReturned i n (t.at2 2) (t.at 4 == 1) (pusherSet rest n .returned c)))⟩) :
    ∃ d o', exec .pusher ⟨q, c⟩ = .next ⟨q, d⟩ ∧ ovenAt d i = some o' ∧ PushEndTaken t o o' c d
      ∧ (bothLatched c i = true → d.job = { Job.idleRecord with owed := d.job.owed }
          ∧ (isActive c = true → roomFor 4 c → waitsInTx (releaseTelegram (ownNumber c) n .pushed) d))
      ∧ (bothLatched c i = false → d.job = { endedJob c.job with owed := d.job.owed })
      ∧ (∀ a, a ≠ i → ovenAt d a = ovenAt c a) ∧ d.events.entry 25 = c.events.entry 25 ∧ d.track.call.step = .none
      ∧ d.track.pusher = ⟨some n, some .returned, 0, false⟩ ∧ d.line.rx = rest := by
  obtain ⟨k, hk⟩ : ∃ k, k = pusherSet rest n .returned c := ⟨_, rfl⟩
  have hwork : JobWork 0 i o c.job k k := hk ▸ pusherSet_work ho
  have hnb : c.job.state ≠ .bidding := by obtain h | ⟨h, _⟩ := hs <;> rw [h] <;> exact fun hx => by cases hx
  have hki : jobIndex k = some i := by rw [hk]; exact jobIndex_eq (c := pusherSet rest n .returned c) hn hi
  have hreturned : pusherReturned i n (t.at2 2) (t.at 4 == 1) k = enterReclosing (takePushEnd i n (t.at2 2) (t.at 4 == 1) k) := by
    have hkj : k.job = c.job := by rw [hk]; rfl
    obtain h | ⟨h, h'⟩ := hs
    · simp only [pusherReturned, hkj, h]
    · simp only [pusherReturned, hkj, h, h', if_true]
  rw [← hk, hreturned] at hstep
  exact returned_taken (m := 0) (p := 1) hk hthirty hwork (.refl k) hnb hn hki hph h4 rfl rfl ⟨rfl, rfl⟩ (fun x _ r _ _ _ => .setPhase i r x) hstep

/-- A PUSHER RETURNED at the job oven before a push start is start and end in one (R83). -/
theorem returned_unstarted {q : List Instr} {c : Controller} {t : Telegram} {rest : List Telegram} {n i : Nat} {o : Oven}
    (hthirty : thirtyEntries c) (hn : c.job.oven = some n) (hi : ovenIndex c n = some i) (ho : ovenAt c i = some o) (h4 : t.at 4 ≤ 1)
    (hs : c.job.state = .staged ∨ c.job.state = .permitted ∨ c.job.state = .held ∧ c.job.started = false)
    (hstep : exec .pusher ⟨q, c⟩
      = .next ⟨q, freePlace (evaluate (pusherReturned i n (t.at2 2) (t.at 4 == 1) (pusherSet rest n .returned c)))⟩) :
    ∃ d o', exec .pusher ⟨q, c⟩ = .next ⟨q, d⟩ ∧ ovenAt d i = some o' ∧ PushEndTaken t o o' c d
      ∧ (bothLatched c i = true → d.job = { Job.idleRecord with owed := d.job.owed }
          ∧ (isActive c = true → roomFor 4 c → waitsInTx (releaseTelegram (ownNumber c) n .pushed) d))
      ∧ (bothLatched c i = false → d.job = { endedJob { c.job with started := true } with owed := d.job.owed })
      ∧ (∀ a, a ≠ i → ovenAt d a = ovenAt c a) ∧ d.events.entry 25 = c.events.entry 25 ∧ d.track.call.step = .none
      ∧ d.track.pusher = ⟨some n, some .returned, 0, false⟩ ∧ d.line.rx = rest := by
  obtain ⟨k, hk⟩ : ∃ k, k = pusherSet rest n .returned c := ⟨_, rfl⟩
  have hwork : JobWork 0 i o c.job k k := hk ▸ pusherSet_work ho
  have hnb : c.job.state ≠ .bidding := by obtain h | h | ⟨h, _⟩ := hs <;> rw [h] <;> exact fun hx => by cases hx
  obtain ⟨z, hz⟩ : ∃ z, z = startPush i k := ⟨_, rfl⟩
  have hwz : JobWork 1 i (movedOven (cfg k) .pushing (anyRemoved k i) o) { c.job with started := true } k z := hz ▸ hwork.startPush hnb
  have hzi : jobIndex z = some i :=
    (hwz.jobIndex (by rw [hk]; rfl)).trans (by rw [hk]; exact jobIndex_eq (c := pusherSet rest n .returned c) hn hi)
  have hreturned : pusherReturned i n (t.at2 2) (t.at 4 == 1) k = enterReclosing (takePushEnd i n (t.at2 2) (t.at 4 == 1) z) := by
    have hkj : k.job = c.job := by rw [hk]; rfl
    rw [hz]
    obtain h | h | ⟨h, h'⟩ := hs
    · simp only [pusherReturned, hkj, h]
    · simp only [pusherReturned, hkj, h]
    · simp only [pusherReturned, hkj, h, h', if_neg Bool.false_ne_true]
  rw [← hk, hreturned] at hstep
  have hev : EventsStay k z := hz ▸ .startPush i k
  obtain ⟨_, hp, hm, ht, ha, _, hc⟩ := movedOven_keeps (cfg k) .pushing (anyRemoved k i) o
  by_cases hroom : isActive c = true ∧ roomFor 4 c
  · have hka : isActive k = true := by rw [hk]; exact hroom.1
    have hkr : roomFor 1 k := by rw [hk]; exact Nat.le_trans (Nat.add_le_add_left (by decide) _) hroom.2
    have hloss := hwork.startPush_again hka hkr
    rw [← hz] at hloss
    exact returned_taken (m := 1) (p := 0) hk hthirty hwz hev hnb hn hzi (.inl hp) h4 hm hc ⟨ht, ha⟩
      (fun x ox r hkept hox hnumber => hloss x ox r hkept hox (hnumber.trans (movedOven_keeps (cfg k) .pushing (anyRemoved k i) o).1)) hstep
  · obtain ⟨d, o', hd, ho', htaken, hlatched, hrest⟩ := returned_taken (m := 1) (p := 1) hk hthirty hwz hev hnb hn hzi (.inl hp) h4 hm hc
      ⟨ht, ha⟩ (fun x _ r _ _ _ => .setPhase i r x) hstep
    exact ⟨d, o', hd, ho', htaken, fun hl => ⟨(hlatched hl).1, fun h1 h2 => absurd ⟨h1, h2⟩ hroom⟩, hrest⟩

/-- A late push end in RECLOSING: the oven table takes it, and the job waits on (R91). -/
theorem returned_late {q : List Instr} {c : Controller} {t : Telegram} {rest : List Telegram} {n i : Nat} {o : Oven}
    (hthirty : thirtyEntries c) (ho : ovenAt c i = some o) (h4 : t.at 4 ≤ 1) (hs : c.job.state = .reclosing) (hstarted : c.job.started = true)
    (hended : c.job.ended = false)
    (hstep : exec .pusher ⟨q, c⟩
      = .next ⟨q, freePlace (evaluate (pusherReturned i n (t.at2 2) (t.at 4 == 1) (pusherSet rest n .returned c)))⟩) :
    ∃ d o', exec .pusher ⟨q, c⟩ = .next ⟨q, d⟩ ∧ ovenAt d i = some o'
      ∧ d.job = { c.job with ended := true, owed := d.job.owed } ∧ (∀ j, j ≠ i → ovenAt d j = ovenAt c j)
      ∧ d.track.pusher = ⟨some n, some .returned, 0, false⟩ ∧ d.line.rx = rest
      ∧ (o.phase = .pushing ∨ o.phase = .sticker → PushEndTaken t o o' c d)
      ∧ (o.phase ≠ .pushing → o.phase ≠ .sticker → o'.phase = o.phase ∧ o'.minutes = o.minutes
          ∧ d.events.entry 27 = c.events.entry 27) := by
  obtain ⟨k, hk⟩ : ∃ k, k = pusherSet rest n .returned c := ⟨_, rfl⟩
  have hwork : JobWork 0 i o c.job k k := hk ▸ pusherSet_work ho
  have hnb : c.job.state ≠ .bidding := by rw [hs]; exact fun hx => by cases hx
  have htk : thirtyEntries k := by rw [hk]; exact hthirty
  obtain ⟨x, hx⟩ : ∃ x, x = takePushEnd i n (t.at2 2) (t.at 4 == 1) k := ⟨_, rfl⟩
  have hreturned : pusherReturned i n (t.at2 2) (t.at 4 == 1) k = x := by
    have hkj : k.job = c.job := by rw [hk]; rfl
    rw [hx]
    simp only [pusherReturned, hkj, hs, hstarted, hended, Bool.not_false, Bool.and_self, if_true]
  have hself {m : Nat} {o' : Oven} (h : JobWork m i o' { c.job with ended := true } k x) : evaluate x = x :=
    evaluate_of_state (by rw [h.job]; exact congrArg evaluates hs)
  rw [← hk, hreturned] at hstep
  by_cases hph : o.phase = .pushing ∨ o.phase = .sticker
  · obtain ⟨o', hend, hoven, hcounts⟩ := hwork.tablePushEnd (k := 1) hnb hph htk n (t.at2 2) (t.at 4 == 1) fun x _ r _ _ _ => .setPhase i r x
    have hwx : JobWork 3 i o' { c.job with ended := true } k x := by
      rw [hx]
      exact hend.modifyJob (f := fun j => { j with ended := true }) fun _ _ => rfl
    have hcx : EndCounts n ((cfg k).hardPush ≤ t.at2 2) ((t.at 4 == 1) = false) k (freePlace x) :=
      .trans (.refl k) hcounts (EventsStay.trans (c := x) (.of_eq (by rw [hx]; rfl)) (.freePlace x))
    have htaken : PushEndTaken t o o' k (freePlace x) := .of_counts h4 hoven rfl rfl ⟨rfl, rfl⟩ hcx
    rw [hself hwx] at hstep
    obtain ⟨ho', hothers, hjob, hpusher, hrx⟩ := hwx.shows
    rw [hk] at hothers hpusher hrx htaken
    refine ⟨_, o', hstep, ho', hjob, hothers, hpusher, hrx, fun _ => ?_, fun h1 h2 => absurd hph (not_or.mpr ⟨h1, h2⟩)⟩
    exact ⟨htaken.completed, htaken.failed, htaken.hard, htaken.soft, htaken.plan⟩
  · have hhard := hwork.hardTaken hnb n (t.at2 2)
    obtain ⟨_, hphase, hminutes, _⟩ := o.forced_keeps (cfg k) (t.at2 2)
    have hat : phaseAt (hardTaken i n (t.at2 2) k) i = some o.phase := by
      rw [phaseAt, hhard.base.oven, ← hphase]
      rfl
    have hother : tablePushEnd i n (t.at2 2) (t.at 4 == 1) k = hardTaken i n (t.at2 2) k :=
      tablePushEnd_other (by rw [hat]; exact fun h => hph (.inl (Option.some.inj h))) (by rw [hat]; exact fun h => hph (.inr (Option.some.inj h)))
    have hwx : JobWork 1 i (o.forced (cfg k) (t.at2 2)) { c.job with ended := true } k x := by
      rw [hx, takePushEnd, hother]
      exact hhard.modifyJob (f := fun j => { j with ended := true }) fun _ _ => rfl
    have h27 : (freePlace x).events.entry 27 = k.events.entry 27 := by
      have hstay : EventsStay (hardTaken i n (t.at2 2) k) (freePlace x) :=
        EventsStay.trans (c := x) (.of_eq (by rw [hx, takePushEnd, hother]; rfl)) (.freePlace x)
      exact (EndCounts.trans (.refl k) (hardTaken_counts i n (t.at2 2) htk) hstay).sound fun h => h
    rw [hself hwx] at hstep
    obtain ⟨ho', hothers, hjob, hpusher, hrx⟩ := hwx.shows
    rw [hk] at hothers hpusher hrx h27
    exact ⟨_, _, hstep, ho', hjob, hothers, hpusher, hrx, fun h => absurd h hph, fun _ _ => ⟨hphase, hminutes, h27⟩⟩

/-- Settles O44: the push start, the push end, and the reports out of their order. -/
theorem pushStartsAndEnds : Obligations.PushStartsAndEnds := by
  refine ⟨fun q c t rest n i o hands ha hroom hthirty hn hi ho hboth hspot hpos hle h4 => ?_,
    fun q c t rest n i o hands hthirty hn hi ho hspot hpos hle h4 => ?_⟩
  · obtain ⟨hstart, hend⟩ := pusher_step (q := q) hands hn hi hspot hpos hle h4
    refine ⟨fun ht hs h0 hg hc => permitted_starts hands.2.1 hn hi ho hs hboth h0 hg hc (hstart ht), fun ht hs hphase => ?_⟩
    obtain ⟨d, o', hd, ho', ⟨hempty, hsticker, hhard, hsoft, hplan⟩, _, hopen, hothers, _, hcall, hpusher, hrx⟩ :=
      returned_started hthirty hn hi ho h4 hs (.inl hphase) (hend ht)
    exact ⟨d, o', hd, ho', hopen (bothLatched_of_bothRemoved hboth), hempty, hsticker, hhard, hsoft, hplan.1, hplan.2, hothers, hcall, hpusher, hrx⟩
  · obtain ⟨hstart, hend⟩ := pusher_step (q := q) hands hn hi hspot hpos hle h4
    refine ⟨fun ht hs hboth => staged_starts hthirty hands.2.1 hn hi ho hs hboth (hstart ht),
      fun ht hs hns => held_starts hands.2.1 hn hi ho hs hns (hstart ht), fun k ht hs hk => ?_, fun ht hs hl => ?_, fun ht hs hl => ?_,
      fun st hwaits hcode hs => ?_, fun ht hs hstarted hended => returned_late hthirty ho h4 hs hstarted hended (hend ht)⟩
    · have hk' : k = pusherSet rest n .pushing c := hk
      have hkj : k.job = c.job := by rw [hk]; rfl
      have hpushing : pusherPushing i n k = k := by
        obtain h | ⟨h, h'⟩ := hs
        · simp only [pusherPushing, hkj, h]
        · simp only [pusherPushing, hkj, h, h', if_true]
      have hstep := hstart ht
      rw [← hk', hpushing] at hstep
      refine ⟨hstep, fun hwaits hcond => ?_⟩
      have hki : jobIndex k = some i := by rw [hk']; exact jobIndex_eq (c := pusherSet rest n .pushing c) hn hi
      have hkr : receiving k = true := by rw [hk]; exact hands.2.1
      have hself : evaluate k = k := by
        obtain h | ⟨h, h'⟩ := hs
        · rw [if_pos h] at hcond
          rw [evaluate_under_way hkr (by rw [hkj]; exact hn) hki (.inr (by rw [hkj]; exact h)), if_pos hcond]
        · rw [if_neg (by rw [h]; exact fun hx => by cases hx)] at hcond
          rw [evaluate_held hkr (by rw [hkj]; exact hn) hki (by rw [hkj]; exact h), if_neg]
          rintro ⟨hcause, hyes⟩
          obtain hc | hc := hcond
          · rw [hkj, hc] at hcause
            cases hcause
          · exact absurd (hyes.symm.trans hc) (by decide)
      exact next_of_nothingWaits hstep hself hwaits (by rw [hk]; rfl) (by rw [hk]; rfl) (by rw [hk]; rfl) (by rw [hk]; rfl)
    · obtain h | h | h | ⟨h, h', hph⟩ := hs
      case inr.inr.inr =>
        obtain ⟨d, o', hd, ho', htaken, hlatched, _, hothers, hrest⟩ := returned_started hthirty hn hi ho h4
          (h.imp id fun h => ⟨h, h'⟩) hph (hend ht)
        exact ⟨d, o', hd, ho', htaken, (hlatched hl).1, (hlatched hl).2, hothers, hrest⟩
      all_goals
        obtain ⟨d, o', hd, ho', htaken, hlatched, _, hothers, hrest⟩ := returned_unstarted hthirty hn hi ho h4 (by simp [h]) (hend ht)
        exact ⟨d, o', hd, ho', htaken, (hlatched hl).1, (hlatched hl).2, hothers, hrest⟩
    · obtain h | h | h | ⟨h, h', hph⟩ := hs
      case inr.inr.inr =>
        obtain ⟨d, o', hd, ho', htaken, _, hopen, hothers, hrest⟩ := returned_started hthirty hn hi ho h4
          (h.imp id fun h => ⟨h, h'⟩) hph (hend ht)
        refine ⟨d, o', hd, ho', htaken, (hopen hl).trans ?_, hothers, hrest⟩
        rw [endedJob, h']
      all_goals
        obtain ⟨d, o', hd, ho', htaken, _, hopen, hothers, hrest⟩ := returned_unstarted hthirty hn hi ho h4 (by simp [h]) (hend ht)
        exact ⟨d, o', hd, ho', htaken, hopen hl, hothers, hrest⟩
    · have hquiet : evaluates c.job.state = false := by
        obtain h | h | h | h | ⟨h, _⟩ := hs <;> rw [h] <;> rfl
      obtain ⟨ht, rfl⟩ | ⟨ht, rfl⟩ := hcode
      · have hpushing : pusherPushing i n (pusherSet rest n .pushing c) = pusherSet rest n .pushing c := by
          have hj : (pusherSet rest n .pushing c).job = c.job := rfl
          obtain h | h | h | h | ⟨h, _⟩ := hs <;> simp only [pusherPushing, hj, h]
        have hstep := hstart ht
        rw [hpushing] at hstep
        exact next_of_nothingWaits hstep (evaluate_of_state (c := pusherSet rest n .pushing c) hquiet) hwaits rfl rfl rfl rfl
      · have hreturned : pusherReturned i n (t.at2 2) (t.at 4 == 1) (pusherSet rest n .returned c) = pusherSet rest n .returned c := by
          have hj : (pusherSet rest n .returned c).job = c.job := rfl
          obtain h | h | h | h | ⟨h, h'⟩ := hs
          case inr.inr.inr.inr =>
            obtain h' | h' | h' := h'
            · omega
            · simp only [pusherReturned, hj, h, h', Bool.false_and, if_neg Bool.false_ne_true]
            · simp only [pusherReturned, hj, h, h', Bool.not_true, Bool.and_false, if_neg Bool.false_ne_true]
          all_goals simp only [pusherReturned, hj, h]
        have hstep := hend ht
        rw [hreturned] at hstep
        exact next_of_nothingWaits hstep (evaluate_of_state (c := pusherSet rest n .returned c) hquiet) hwaits rfl rfl rfl rfl

end Sys2Proof.Machine
end

section
/-! SUPPORT. What a report to the push job leaves of the due events and of the event table; the door record derived from a changed
accepted pair (R121 to R123, R138, R144). -/

-- The lemmas are checked one after another, as the tests are.
set_option Elab.async false

namespace Sys2Proof.Machine

open Sys2Proof

/-- From c to d no event has been counted but of the kinds of ks (and TX DROPPED), and nothing has become due or is due no more but
the hold timer and the travel timer. -/
structure Reports (ks : List Nat) (c d : Controller) : Prop where
  due : d.due = { c.due with holdTimer := d.due.holdTimer, travelTimer := d.due.travelTimer }
  length : d.events.entries.length = c.events.entries.length
  entry : ∀ j, 1 ≤ j → j ≠ 6 → j ∉ ks → d.events.entry j = c.events.entry j

namespace Reports

variable {ks : List Nat} {b c d : Controller}

theorem of_stays (hd : d.due = { c.due with holdTimer := d.due.holdTimer, travelTimer := d.due.travelTimer }) (h : EventsStay c d) :
    Reports ks c d := ⟨hd, h.length, fun j h1 h6 _ => h.entry j h1 h6⟩

theorem refl (c : Controller) : Reports ks c c := of_stays rfl (.refl c)

theorem trans (h : Reports ks b c) (k : Reports ks c d) : Reports ks b d where
  due := by rw [k.due, h.due]
  length := k.length.trans h.length
  entry j h1 h6 hk := (k.entry j h1 h6 hk).trans (h.entry j h1 h6 hk)

theorem ite {p : Prop} [Decidable p] {x y : Controller} (hx : p → Reports ks c x) (hy : ¬p → Reports ks c y) :
    Reports ks c (if p then x else y) := by
  split
  · exact hx ‹_›
  · exact hy ‹_›

theorem offers (h : OnlyOffers c d) (he : EventsStay c d) : Reports ks c d := of_stays (by rw [h.due]) he

theorem count {k : EventKind} (hk : k.number ∈ ks) (first : Option Nat) (c : Controller) : Reports ks c (count k first c) where
  due := by simp
  length := length_entries_count _ _ _
  entry j h1 _ hj := entry_count_ne h1 fun h => hj (h ▸ hk)

theorem setPhase (i : Nat) (p : Phase) (c : Controller) : Reports ks c (setPhase i p c) := of_stays (by simp) (.setPhase i p c)

theorem settlePhase (i : Nat) (c : Controller) : Reports ks c (settlePhase i c) := of_stays (by simp) (.settlePhase i c)

theorem holdPush (hk : 25 ∈ ks) (cause : HoldCause) (n : Nat) (c : Controller) : Reports ks c (holdPush cause n c) := by
  rw [holdPush_eq]
  have hoffered : Reports ks c (holdOffered cause n c) := by
    have hdue := (holdOffered_offers cause n c).due
    exact of_stays (by rw [hdue]; rfl) (holdOffered_stays cause n c)
  have hjob : Reports ks (holdOffered cause n c) (modifyJob (heldJob cause) (holdOffered cause n c)) := of_stays rfl (.of_eq rfl)
  exact (hoffered.trans hjob).trans (count (k := .pushHeld) hk _ _)

theorem resumePush (n : Nat) (c : Controller) : Reports ks c (resumePush n c) := by
  refine of_stays ?_ (.resumePush n c)
  have hoff := ((OnlyOffers.withdraw _ _).trans (OnlyOffers.offerPermit n permitPushCode (withdrawHalt n (stopHold c)))).due
  have hdue : (Machine.resumePush n c).due = (offerPermit n permitPushCode (withdrawHalt n (stopHold c))).due := by
    simp only [Machine.resumePush]
    split <;> rfl
  rw [hdue, hoff]
  rfl

/-- An evaluation counts at most PUSH HELD (R81, R84). -/
theorem evaluate (hk : 25 ∈ ks) (c : Controller) : Reports ks c (evaluate c) := by
  unfold Machine.evaluate
  split
  · next n i _ _ =>
    refine ite (fun _ => ?_) fun _ => refl c
    unfold evaluateFor
    split
    · refine ite (fun _ => ?_) fun _ => refl c
      have hpermit : Reports ks c (offerPermit n permitPushCode c) := offers (.offerPermit n _ c) (.offerPermit n _ c)
      exact hpermit.trans (of_stays rfl (.of_eq rfl))
    · exact ite (fun _ => refl c) fun _ => holdPush hk _ _ c
    · exact ite (fun _ => refl c) fun _ => holdPush hk _ _ c
    · exact ite (fun _ => resumePush n c) fun _ => refl c
    · exact refl c
  · exact refl c

theorem checkReclosing (c : Controller) : Reports ks c (checkReclosing c) := by
  unfold Machine.checkReclosing
  split
  · next n i _ _ =>
    refine ite (fun _ => ?_) fun _ => refl c
    have hrelease (out : PushOutcome) : Reports ks c (offerRelease n out c) := offers (.offerRelease n out c) (.offerRelease n out c)
    have hsettle (x : Controller) : Reports ks x (Machine.settlePhase i x) := settlePhase i x
    have hidle (x : Controller) : Reports ks x (idleJob x) := of_stays rfl (.idleJob x)
    exact ((hrelease _).trans (hsettle _)).trans (hidle _)
  · exact refl c

theorem earlyDoor (h15 : 15 ∈ ks) (h25 : 25 ∈ ks) (i n : Nat) (c : Controller) : Reports ks c (earlyDoor i n c) := by
  have hcount : Reports ks c (Machine.count .earlyDoor (some n) c) := count (k := .earlyDoor) h15 _ c
  have hphase (x : Controller) : Reports ks x (Machine.setPhase i .isolated x) := setPhase i .isolated x
  have hpermit (x : Controller) : Reports ks x (offerPermit n permitDoorsCode x) := offers (.offerPermit n _ x) (.offerPermit n _ x)
  have henter (s : JobState) (x : Controller) : Reports ks x (enterJob s x) := of_stays rfl (.of_eq rfl)
  have hdoors := ((hcount.trans (hphase _)).trans (hpermit _)).trans (henter .doors _)
  unfold Machine.earlyDoor
  exact ite (fun _ => (hdoors.trans (henter .staged _)).trans (evaluate h25 _)) fun _ => hdoors

/-- A door's change of state, reported to the push job, counts at most EARLY DOOR and PUSH HELD. -/
theorem jobOnDoor (i : Nat) (s : DoorState) (c : Controller) : Reports [15, 25] c (jobOnDoor i s c) := by
  unfold Machine.jobOnDoor
  refine ite (fun _ => ?_) fun _ => refl c
  have henter (x : Controller) : Reports [15, 25] x (enterJob .staged x) := of_stays rfl (.of_eq rfl)
  split
  · exact ite (fun _ => earlyDoor (by decide) (by decide) _ _ c) fun _ => refl c
  · exact ite (fun _ => (henter c).trans (evaluate (by decide) _)) fun _ => refl c
  · exact checkReclosing c
  · exact evaluate (by decide) c

end Reports

/-! ## The derivation -/

/-- The accepted pair of a channel, taken into its record. -/
def pairTaken (ch : Nat) (c : Controller) : Controller :=
  modifyDoor ch (fun d => { d with present := acceptedAt c.doors.presentIn ch, latched := acceptedAt c.doors.latchedIn ch }) c

theorem deriveDoor_same {ch : Nat} {r : Door} {c : Controller} (hr : c.doors.doors[ch]? = some r)
    (h : deriveState (acceptedAt c.doors.presentIn ch) (acceptedAt c.doors.latchedIn ch) r.state = r.state) :
    deriveDoor ch c = countConflict ch (pairTaken ch c) := by
  simp only [deriveDoor, hr, h, if_true]
  rfl

theorem deriveDoor_changed {ch : Nat} {r : Door} {c : Controller} {s : DoorState} (hr : c.doors.doors[ch]? = some r)
    (hs : deriveState (acceptedAt c.doors.presentIn ch) (acceptedAt c.doors.latchedIn ch) r.state = s) (h : s ≠ r.state) :
    deriveDoor ch c = jobOnDoor (ch / 2) s (doorMoved ch r.state s (pairTaken ch c)) := by
  simp only [deriveDoor, hr, hs, if_neg h]
  rfl

/-- The derivation taken where no warning and no overdue point of the channel waits. -/
theorem exec_doorInput {q : List Instr} {c : Controller} {ch : Nat} (hp : c.start.powerOn = false) (hdue : ch ∈ c.due.doorInput)
    (hwarn : ch ∉ c.due.doorWarn) (hover : ch ∉ c.due.doorOverdue) : exec (.doorInputAccepted ch) ⟨q, c⟩ = .next ⟨q, freePlace (deriveDoor ch
      (modifyDue (fun d => { d with doorInput := d.doorInput.filter (· != ch) }) c))⟩ := by
  have htake : takeDoorInput ch c = freePlace (deriveDoor ch
      (modifyDue (fun d => { d with doorInput := d.doorInput.filter (· != ch) }) c)) := by
    rw [takeDoorInput, if_pos (by simpa using hdue), takeDoorWarn_of_not_due hwarn, takeDoorOverdue_of_not_due hover]
    rfl
  rw [← htake]
  exact event_of_running (c := c) hp

theorem deriveState_eq (p l : Bool) (s : DoorState) : deriveState p l s =
    if p = false then .removed else if l = false then .unlatched else if s = .unlatched ∨ s = .removed then .checking else s := by
  cases p <;> cases l <;> cases s <;> rfl

/-! ## The conflict (R122) -/

theorem countConflict_counts {ch : Nat} {d : Door} {c : Controller} (hd : c.doors.doors[ch]? = some d)
    (h : d.state = .removed ∧ d.latched = true ∧ d.conflict = false) :
    countConflict ch c = count .doorInputConflict (some (ovenNumber c (ch / 2))) (modifyDoor ch (fun d => { d with conflict := true }) c) := by
  simp only [countConflict, hd, if_pos h]

theorem countConflict_rests {ch : Nat} {d : Door} {c : Controller} (hd : c.doors.doors[ch]? = some d)
    (h : ¬ (d.state = .removed ∧ d.latched = true ∧ d.conflict = false)) : countConflict ch c = c := by
  simp only [countConflict, hd, if_neg h]

/-- The conflict is counted where the record asks for it, and what follows in the derivation counts no second one. -/
theorem conflict_entry {ch : Nat} {d : Door} {c y e : Controller} (hd : y.doors.doors[ch]? = some d) (hev : y.events = c.events)
    (hstart : y.start = c.start) (hrep : Reports [15, 16, 25] (countConflict ch y) e) :
    (thirtyEntries c → d.state = .removed ∧ d.latched = true ∧ d.conflict = false → countedOnce 17 c e
        ∧ ((c.events.entry 17).first = none → (e.events.entry 17).first = some ((cfg c).first + ch / 2)))
      ∧ (¬ (d.state = .removed ∧ d.latched = true ∧ d.conflict = false) → e.events.entry 17 = c.events.entry 17) := by
  have hkept := hrep.entry 17 (by decide) (by decide) (by decide)
  refine ⟨fun ht h => ?_, fun h => ?_⟩
  · rw [countConflict_counts hd h] at hkept
    have hty : thirtyEntries (modifyDoor ch (fun d => { d with conflict := true }) y) := by
      rw [thirtyEntries, show (modifyDoor ch (fun d => { d with conflict := true }) y).events = y.events from rfl, hev]
      exact ht
    have hcount := entry_count (k := .doorInputConflict) (first := some (ovenNumber y (ch / 2))) hty
    rw [show EventKind.doorInputConflict.number = 17 from rfl] at hcount
    have hall : e.events.entry 17 = EventEntry.raised (some (ovenNumber y (ch / 2))) (c.events.entry 17) := by
      rw [hkept, hcount, ← hev]
      rfl
    have hoven : ovenNumber y (ch / 2) = (cfg c).first + ch / 2 := by
      rw [ovenNumber, cfg_congr hstart]
    rw [countedOnce, hall]
    refine ⟨rfl, fun hfirst => ?_⟩
    simp [EventEntry.raised, hfirst, hoven]
  · rw [countConflict_rests hd h] at hkept
    rw [hkept, hev]

/-- What follows the count of the conflict at a change of state counts at most UNAUTHORISED DOOR, EARLY DOOR and PUSH HELD. -/
theorem changed_reports (ch : Nat) (old new : DoorState) (c : Controller) :
    Reports [15, 16, 25] (countConflict ch (modifyDoor ch (Door.changed new) c)) (jobOnDoor (ch / 2) new (doorMoved ch old new c)) := by
  have hcounted : Reports [15, 16, 25] (countConflict ch (modifyDoor ch (Door.changed new) c)) (doorCounted ch new c) := by
    refine Reports.ite (fun _ => ?_) fun _ => .refl _
    exact .ite (fun _ => .refl _) fun _ => .count (k := .unauthorisedDoor) (by decide) _ _
  have hmoved : Reports [15, 16, 25] (doorCounted ch new c) (doorMoved ch old new c) := by
    rw [doorMoved_eq]
    exact .of_stays (by simp) (.of_eq (by simp))
  have hjob := Reports.jobOnDoor (ch / 2) new (doorMoved ch old new c)
  exact (hcounted.trans hmoved).trans ⟨hjob.due, hjob.length, fun j h1 h6 hj => hjob.entry j h1 h6 fun hm => hj (by
    simp only [List.mem_cons, List.not_mem_nil, or_false] at hm ⊢
    omega)⟩

/-- The conflict flag is the only field that a conflict changes. -/
theorem Door.conflicted_keeps (d : Door) : d.conflicted = { d with conflict := d.conflicted.conflict } := by
  unfold Door.conflicted
  split <;> rfl

theorem Door.conflicted_conflict {d : Door} (h : d.state = .removed) : d.conflicted.conflict = (d.conflict || d.latched) := by
  unfold Door.conflicted
  split
  · next hall => simp [hall.2.1]
  · next hno => cases hc : d.conflict <;> simp_all

/-- The scanner that idles starts at the next tick when a door enters CHECKING (R144, R137). -/
theorem scanTold_startNext {ch : Nat} {old : DoorState} {c : Controller} (h : c.scan.running = false) :
    (scanTold ch old .checking c).scan.startNext = true := by
  have hstay : ¬(old.latchedState && !DoorState.checking.latchedState) = true := by simp [DoorState.latchedState]
  have hidle : ¬ (modifyDoor ch (fun d => { d with score := 0, checks := (cfg c).nchk }) c).scan.running = true := by
    rw [show (modifyDoor ch (fun d => { d with score := 0, checks := (cfg c).nchk }) c).scan = c.scan from rfl, h]
    decide
  simp only [scanTold, if_neg hstay, if_true, scanEntersChecking, if_neg hidle]
  rfl

/-- A gate on the channel is spoiled when its door leaves the scannable states (R138). -/
theorem scanTold_spoiled {ch : Nat} {old new : DoorState} {c : Controller} (ho : old.latchedState = true) (hn : new.latchedState = false)
    (hr : c.scan.running = true) (hc : c.scan.channel = ch) : (scanTold ch old new c).scan.spoiled = true := by
  have hne : new ≠ .checking := fun h => by rw [h] at hn; cases hn
  have hgo : (old.latchedState && !new.latchedState) = true := by rw [ho, hn]; rfl
  simp only [scanTold, if_neg hne, if_pos hgo, scanLeaves]
  split
  · rfl
  · next hno => simp [modifyDoor, hr, hc] at hno

theorem doorCounted_rx (ch : Nat) (new : DoorState) (c : Controller) : (doorCounted ch new c).line.rx = c.line.rx := by
  simp only [doorCounted]
  split <;> simp

theorem doorMoved_records (ch : Nat) (old new : DoorState) (c : Controller) :
    (doorMoved ch old new c).start = c.start ∧ (doorMoved ch old new c).time = c.time ∧ (doorMoved ch old new c).round = c.round
      ∧ (doorMoved ch old new c).held = c.held ∧ (doorMoved ch old new c).line.rx = c.line.rx ∧ (doorMoved ch old new c).due = c.due
      ∧ (doorMoved ch old new c).job = c.job ∧ (doorMoved ch old new c).track = c.track := by
  rw [doorMoved_eq]
  simp [doorCounted_rx]

/-- Settles O16: by whether the derived state is the one held. -/
theorem doorDerived : Obligations.DoorDerived := by
  intro q c ch r p l hp hdue hwarn hover hr hpe hle
  obtain ⟨b, hb⟩ : ∃ b, b = modifyDue (fun d => { d with doorInput := d.doorInput.filter (· != ch) }) c := ⟨_, rfl⟩
  have hstep := exec_doorInput (q := q) hp hdue hwarn hover
  rw [← hb] at hstep
  have hbr : b.doors.doors[ch]? = some r := by rw [hb]; exact hr
  have hbp : acceptedAt b.doors.presentIn ch = p := by rw [hb, hpe]; rfl
  have hbl : acceptedAt b.doors.latchedIn ch = l := by rw [hb, hle]; rfl
  obtain ⟨r₁, hr₁⟩ : ∃ r₁ : Door, r₁ = { r with present := p, latched := l } := ⟨_, rfl⟩
  have hpair : (pairTaken ch b).doors.doors = c.doors.doors.set ch r₁ := by
    rw [pairTaken, modifyDoor, modify_eq_set _ hbr, hbp, hbl, ← hr₁, hb]
    rfl
  have hlt : ch < c.doors.doors.length := (List.getElem?_eq_some_iff.mp hr).1
  have hpairAt : (pairTaken ch b).doors.doors[ch]? = some r₁ := by rw [hpair]; simp [hlt]
  have hbdue : (pairTaken ch b).due = { c.due with doorInput := c.due.doorInput.filter (· != ch) } := by rw [hb]; rfl
  have hs := deriveState_eq p l r.state
  by_cases hsame : deriveState p l r.state = r.state
  · have hder := deriveDoor_same hbr (by rw [hbp, hbl]; exact hsame)
    rw [hder] at hstep
    obtain ⟨y, hy⟩ : ∃ y, y = pairTaken ch b := ⟨_, rfl⟩
    obtain ⟨x, hx⟩ : ∃ x, x = countConflict ch y := ⟨_, rfl⟩
    rw [← hy, ← hx] at hstep
    rw [← hy] at hpair hpairAt hbdue
    have hystart : y.start = c.start := by rw [hy, hb]; rfl
    obtain ⟨hcounted, hrests⟩ := conflict_entry (c := c) (e := freePlace x) hpairAt (by rw [hy, hb]; rfl) hystart
      (by rw [← hx]; exact .offers (.freePlace x) (.freePlace x))
    have hfree := OnlyOffers.freePlace x
    have hdoors : (freePlace x).doors.doors = c.doors.doors.set ch r₁.conflicted := by
      rw [hfree.doors, hx, countConflict_doors, modify_eq_set _ hpairAt, hpair, List.set_set]
    have hkeeps := r₁.conflicted_keeps
    have hconflict := Door.conflicted_conflict (d := r₁)
    obtain ⟨r', hr'⟩ : ∃ r', r' = r₁.conflicted := ⟨_, rfl⟩
    rw [← hr', hr₁] at hkeeps hconflict
    have hstate : r'.state = r.state := by rw [hkeeps]
    rw [← hr'] at hdoors
    rw [hr₁] at hcounted hrests
    have hxframe : x.start = c.start ∧ x.time = c.time ∧ x.round = c.round ∧ x.held = c.held ∧ x.line.rx = c.line.rx ∧ x.due = y.due := by
      have hyb : y.start = c.start ∧ y.time = c.time ∧ y.round = c.round ∧ y.held = c.held ∧ y.line.rx = c.line.rx := by
        rw [hy, hb]
        exact ⟨rfl, rfl, rfl, rfl, rfl⟩
      rw [hx]
      simpa using hyb
    obtain ⟨hxstart, hxtime, hxround, hxheld, hxrx, hxdue⟩ := hxframe
    refine ⟨_, r', hstep, by rw [hdoors]; simp [hlt], by rw [hkeeps], by rw [hkeeps], hstate.trans (hsame.symm.trans hs), fun h => ?_, fun h1 h2 => ?_,
      fun ht h1 h2 h3 => hcounted ht ⟨hstate.symm.trans h1, h2, h3⟩, fun h => hrests ?_, fun h1 h2 => absurd (hstate.symm.trans h1) h2,
      fun _ => by rw [hkeeps]; exact ⟨rfl, rfl, rfl, rfl⟩, fun h1 h2 => ?_, by rw [hkeeps], by rw [hkeeps], by rw [hkeeps], fun j hj => ?_,
      hfree.start.trans hxstart, hfree.time.trans hxtime, hfree.round.trans hxround, hfree.held.trans hxheld, ?_, ?_⟩
    · exact hconflict (hstate.symm.trans h)
    · exact absurd (hstate.trans h2) h1
    · rintro ⟨h1, h2, h3⟩
      obtain h | h | h := h
      · exact h (hstate.trans h1)
      · exact absurd (h2.symm.trans h) (by decide)
      · exact absurd (h3.symm.trans h) (by decide)
    · rw [hstate] at h1
      obtain h1 | h1 := h1 <;> rw [h1] at h2 <;> cases h2
    · rw [hdoors, List.getElem?_set_ne (Ne.symm hj)]
    · rw [hfree.line]
      exact hxrx
    · rw [hfree.due, hxdue, hbdue]
  · obtain ⟨s, hsd⟩ : ∃ s, s = deriveState p l r.state := ⟨_, rfl⟩
    rw [← hsd] at hsame hs
    have hder := deriveDoor_changed hbr (by rw [hbp, hbl]; exact hsd.symm) hsame
    rw [hder] at hstep
    obtain ⟨y, hy⟩ : ∃ y, y = pairTaken ch b := ⟨_, rfl⟩
    rw [← hy] at hstep hpair hpairAt hbdue
    obtain ⟨x, hx⟩ : ∃ x, x = jobOnDoor (ch / 2) s (doorMoved ch r.state s y) := ⟨_, rfl⟩
    rw [← hx] at hstep
    have hystart : y.start = c.start := by rw [hy, hb]; rfl
    have hfree := OnlyOffers.freePlace x
    have hchanged : (modifyDoor ch (Door.changed s) y).doors.doors[ch]? = some (r₁.changed s) := by
      rw [modifyDoor, modify_eq_set _ hpairAt, hpair]
      simp [hlt]
    have hrep : Reports [15, 16, 25] (countConflict ch (modifyDoor ch (Door.changed s) y)) (freePlace x) := by
      rw [hx]
      exact (changed_reports ch r.state s y).trans (.offers (.freePlace _) (.freePlace _))
    obtain ⟨hcounted, hrests⟩ := conflict_entry (c := c) hchanged (by rw [hy, hb]; rfl) (by rw [← hystart]; rfl) hrep
    obtain ⟨r', hr'⟩ : ∃ r', r' = r₁.moved (cfg c).nchk r.state s := ⟨_, rfl⟩
    have hdoors : (freePlace x).doors.doors = c.doors.doors.set ch r' := by
      have hxd : x.doors = (doorMoved ch r.state s y).doors := by rw [hx]; simp
      rw [hfree.doors, hxd, doorMoved_doors, modify_eq_set _ hpairAt, hpair, List.set_set, cfg_congr hystart, hr']
    rw [hr₁] at hcounted hrests hr'
    obtain ⟨hmstart, hmtime, hmround, hmheld, hmrx, hmdue, _, _⟩ := doorMoved_records ch r.state s y
    have hxframe : x.start = c.start ∧ x.time = c.time ∧ x.round = c.round ∧ x.held = c.held ∧ x.line.rx = c.line.rx := by
      have hyb : y.start = c.start ∧ y.time = c.time ∧ y.round = c.round ∧ y.held = c.held ∧ y.line.rx = c.line.rx := by
        rw [hy, hb]
        exact ⟨rfl, rfl, rfl, rfl, rfl⟩
      rw [hx]
      simpa [hmstart, hmtime, hmround, hmheld, hmrx] using hyb
    obtain ⟨hxstart, hxtime, hxround, hxheld, hxrx⟩ := hxframe
    have hscan : (freePlace x).scan = (doorMoved ch r.state s y).scan := by
      rw [hfree.scan, hx]
      simp
    have hyscan : y.scan = c.scan := by rw [hy, hb]; rfl
    have hstate : r'.state = s := by rw [hr']; rfl
    have hconf : r'.conflict = (s == .removed && (r.conflict || l)) := by rw [hr']; rfl
    have hcond : (Door.changed s { r with present := p, latched := l }).conflict = (r.conflict && s == .removed) := rfl
    refine ⟨_, r', hstep, by rw [hdoors]; simp [hlt], by rw [hr']; rfl, by rw [hr']; rfl, by rw [hstate, hs], fun h => ?_, fun h1 _ => ?_,
      fun ht h1 h2 h3 => hcounted ht ⟨hstate.symm.trans h1, h2, by rw [hcond, h3]; rfl⟩, fun h => hrests ?_, fun h1 h2 => ?_, fun h => ?_,
      fun h1 h2 => ?_, by rw [hr']; rfl, by rw [hr']; rfl, by rw [hr']; rfl, fun j hj => ?_,
      hfree.start.trans hxstart, hfree.time.trans hxtime, hfree.round.trans hxround, hfree.held.trans hxheld, ?_, ?_⟩
    · rw [hconf, ← hstate, h]
      rfl
    · have hne : (s == .removed) = false := beq_eq_false_iff_ne.mpr (hstate ▸ h1)
      rw [hconf, hne, Bool.false_and]
    · rintro ⟨h1, h2, h3⟩
      obtain h | h | h := h
      · exact h (hstate.trans h1)
      · exact absurd (h2.symm.trans h) (by decide)
      · have hs' : s = .removed := h1
        rw [hcond, h, hs'] at h3
        cases h3
    · have hc : s = .checking := hstate.symm.trans h1
      rw [hr', hc]
      refine ⟨rfl, ?_, ?_, rfl, ?_, fun hidle => ?_⟩
      · simp [Door.moved]
      · simp [Door.moved]
      · simp [Door.moved, DoorState.latchedState]
      · rw [hscan, doorMoved_eq, hc]
        exact scanTold_startNext (by simpa [hyscan] using hidle)
    · have hne : s ≠ .checking := fun hc => h.elim (fun h => h (hstate.trans hc)) fun h => hsame (hc.trans h.symm)
      rw [hr']
      simp [Door.moved, hne]
    · have hopen : s.latchedState = false := by
        rw [hstate] at h1
        obtain h1 | h1 := h1 <;> rw [h1] <;> rfl
      rw [hr']
      refine ⟨by simp [Door.moved, h2, hopen], fun hrun hch => ?_⟩
      rw [hscan, doorMoved_eq]
      exact scanTold_spoiled h2 hopen (by simpa [hyscan] using hrun) (by simpa [hyscan] using hch)
    · rw [hdoors, List.getElem?_set_ne (Ne.symm hj)]
    · rw [hfree.line]
      exact hxrx
    · have hrepdue := (Reports.jobOnDoor (ch / 2) s (doorMoved ch r.state s y)).due
      rw [← hx, hmdue, hbdue] at hrepdue
      rw [hfree.due]
      exact hrepdue

end Sys2Proof.Machine
end

section
/-! SUPPORT. The forced-close demand and the push job after a door has changed state (R78, R79, R81, R89, R127, R129, R156). -/

-- The lemmas are checked one after another, as the tests are.
set_option Elab.async false

namespace Sys2Proof.Machine

open Sys2Proof

/-! ## A door that has changed state -/

/-- The controller after the door of a channel has changed from a state to another, before the push job is told. -/
def doorChanged (ch : Nat) (old new : DoorState) (c : Controller) : Controller :=
  doorMoved ch old new (pairTaken ch (modifyDue (fun d => { d with doorInput := d.doorInput.filter (· != ch) }) c))

theorem exec_doorInput_changed {q : List Instr} {c : Controller} {ch : Nat} {r : Door} {s : DoorState} (hp : c.start.powerOn = false)
    (hdue : ch ∈ c.due.doorInput) (hwarn : ch ∉ c.due.doorWarn) (hover : ch ∉ c.due.doorOverdue) (hr : c.doors.doors[ch]? = some r)
    (hs : deriveState (acceptedAt c.doors.presentIn ch) (acceptedAt c.doors.latchedIn ch) r.state = s) (hne : s ≠ r.state) :
    exec (.doorInputAccepted ch) ⟨q, c⟩ = .next ⟨q, freePlace (jobOnDoor (ch / 2) s (doorChanged ch r.state s c))⟩ := by
  rw [exec_doorInput hp hdue hwarn hover]
  have hder := deriveDoor_changed (c := modifyDue (fun d => { d with doorInput := d.doorInput.filter (· != ch) }) c) hr hs hne
  rw [hder]
  rfl

theorem exec_doorInput_same {q : List Instr} {c : Controller} {ch : Nat} {r : Door} (hp : c.start.powerOn = false)
    (hdue : ch ∈ c.due.doorInput) (hwarn : ch ∉ c.due.doorWarn) (hover : ch ∉ c.due.doorOverdue) (hr : c.doors.doors[ch]? = some r)
    (hs : deriveState (acceptedAt c.doors.presentIn ch) (acceptedAt c.doors.latchedIn ch) r.state = r.state) :
    exec (.doorInputAccepted ch) ⟨q, c⟩ = .next ⟨q, freePlace (countConflict ch
      (pairTaken ch (modifyDue (fun d => { d with doorInput := d.doorInput.filter (· != ch) }) c)))⟩ := by
  rw [exec_doorInput hp hdue hwarn hover]
  have hder := deriveDoor_same (c := modifyDue (fun d => { d with doorInput := d.doorInput.filter (· != ch) }) c) hr hs
  rw [hder]

theorem doorAt_pairTaken (ch : Nat) (c : Controller) (j : Nat) : doorAt (pairTaken ch c) j = doorAt c j := by
  simp only [doorAt, pairTaken, modifyDoor, List.getElem?_modify]
  cases c.doors.doors[j]? with
  | none => rfl
  | some d =>
    by_cases hj : ch = j <;> simp [hj]

section
variable {ch : Nat} {old new : DoorState} {c : Controller}

theorem doorChanged_records : (doorChanged ch old new c).start = c.start ∧ (doorChanged ch old new c).job = c.job
    ∧ (doorChanged ch old new c).track = c.track := by
  obtain ⟨hstart, _, _, _, _, _, hjob, htrack⟩ := doorMoved_records ch old new
    (pairTaken ch (modifyDue (fun d => { d with doorInput := d.doorInput.filter (· != ch) }) c))
  exact ⟨hstart, hjob, htrack⟩

theorem doorChanged_doorAt {r : Door} (hr : c.doors.doors[ch]? = some r) (j : Nat) :
    doorAt (doorChanged ch old new c) j = if ch = j then some new else doorAt c j := by
  obtain ⟨b, hb⟩ : ∃ b, b = pairTaken ch (modifyDue (fun d => { d with doorInput := d.doorInput.filter (· != ch) }) c) := ⟨_, rfl⟩
  have hbd : doorAt b j = doorAt c j := by rw [hb, doorAt_pairTaken]; rfl
  have hbr : ∃ r₁, b.doors.doors[ch]? = some r₁ := by
    rw [hb]
    simp [pairTaken, modifyDoor, modifyDue, hr]
  obtain ⟨r₁, hbr⟩ := hbr
  rw [doorChanged, ← hb, doorAt, doorMoved_doors, modify_eq_set _ hbr, List.getElem?_set]
  split
  · next hj =>
    rw [if_pos (List.getElem?_eq_some_iff.mp hbr).1]
    rfl
  · exact hbd

/-- The oven records after the change: the demand is followed on the oven of the door. -/
theorem doorChanged_ovens : (doorChanged ch old new c).table.ovens = c.table.ovens.modify (ch / 2)
    (demandOven (cfg c) (anyRemoved c (ch / 2)) (anyRemoved (doorChanged ch old new c) (ch / 2))) := by
  obtain ⟨b, hb⟩ : ∃ b, b = pairTaken ch (modifyDue (fun d => { d with doorInput := d.doorInput.filter (· != ch) }) c) := ⟨_, rfl⟩
  have hany : anyRemoved b (ch / 2) = anyRemoved c (ch / 2) :=
    anyRemoved_of_doorAt (fun j => by rw [hb, doorAt_pairTaken]; rfl) _
  have hcfg : cfg b = cfg c := by rw [hb]; rfl
  have hovens : b.table.ovens = c.table.ovens := by rw [hb]; rfl
  rw [doorChanged, ← hb, doorMoved_table, hany, hcfg, hovens]

theorem doorChanged_ovenAt {o : Oven} (ho : ovenAt c (ch / 2) = some o) : ovenAt (doorChanged ch old new c) (ch / 2)
    = some (demandOven (cfg c) (anyRemoved c (ch / 2)) (anyRemoved (doorChanged ch old new c) (ch / 2)) o) := by
  have ho' : c.table.ovens[ch / 2]? = some o := ho
  rw [ovenAt, doorChanged_ovens]
  simp [ho']

theorem doorChanged_others {j : Nat} (hj : j ≠ ch / 2) : ovenAt (doorChanged ch old new c) j = ovenAt c j := by
  rw [ovenAt, doorChanged_ovens]
  simp [ovenAt, Ne.symm hj]

theorem authorised_congr {b : Controller} {i : Nat} (hs : b.start = c.start) (hj : b.job = c.job) : authorised b i = authorised c i := by
  simp only [authorised, isJobOven, jobIndex_congr hs (by rw [hj]), hj]

theorem doorChanged_eq : ∃ b, b.start = c.start ∧ b.job = c.job ∧ b.events = c.events ∧ b.line = c.line ∧ b.reg = c.reg
    ∧ b.table = c.table ∧ b.doors.doors = c.doors.doors.modify ch
      (fun d => { d with present := acceptedAt c.doors.presentIn ch, latched := acceptedAt c.doors.latchedIn ch })
    ∧ (∀ j, anyRemoved (doorChanged ch old new c) j = anyRemoved (doorCounted ch new b) j)
    ∧ doorChanged ch old new c = scanTold ch old new (demandFollowed (ch / 2) (anyRemoved c (ch / 2)) (doorCounted ch new b)) := by
  refine ⟨pairTaken ch (modifyDue (fun d => { d with doorInput := d.doorInput.filter (· != ch) }) c), rfl, rfl, rfl, rfl, rfl, rfl, rfl,
    doorMoved_anyRemoved ch old new _, ?_⟩
  rw [doorChanged, doorMoved_eq]
  have hany : anyRemoved (pairTaken ch (modifyDue (fun d => { d with doorInput := d.doorInput.filter (· != ch) }) c)) (ch / 2)
      = anyRemoved c (ch / 2) := anyRemoved_of_doorAt (fun j => by rw [doorAt_pairTaken]; rfl) _
  rw [hany]

/-- No door comes off: nothing is counted. -/
theorem doorCounted_quiet {r : Door} (hr : c.doors.doors[ch]? = some r) (hne : new ≠ .removed) :
    doorCounted ch new c = modifyDoor ch (Door.changed new) c := by
  have hrecord : (modifyDoor ch (Door.changed new) c).doors.doors[ch]? = some (r.changed new) := by simp [modifyDoor, hr]
  simp only [doorCounted, if_neg hne]
  exact countConflict_rests hrecord fun h => hne h.1

/-- A door that comes off the job oven is not counted as unauthorised (R129). -/
theorem doorCounted_authorised (ha : authorised c (ch / 2) = true) :
    doorCounted ch new c = countConflict ch (modifyDoor ch (Door.changed new) c) := by
  have ha' : authorised (countConflict ch (modifyDoor ch (Door.changed new) c)) (ch / 2) = true := by
    rw [authorised_congr (c := c) (by simp [modifyDoor]) (by simp [modifyDoor])]
    exact ha
  simp only [doorCounted, countUnauthorised, if_pos ha', ite_self]

theorem doorCounted_unauthorised (ha : authorised c (ch / 2) = false) : ∃ first,
    doorCounted ch .removed c = count .unauthorisedDoor first (countConflict ch (modifyDoor ch (Door.changed .removed) c)) := by
  have ha' : ¬ authorised (countConflict ch (modifyDoor ch (Door.changed .removed) c)) (ch / 2) = true := by
    rw [authorised_congr (c := c) (by simp [modifyDoor]) (by simp [modifyDoor]), ha]
    decide
  exact ⟨_, by simp only [doorCounted, countUnauthorised, if_neg ha', if_true]; rfl⟩

theorem Reports.countConflict {ks : List Nat} (hk : 17 ∈ ks) (ch : Nat) (c : Controller) : Reports ks c (countConflict ch c) := by
  unfold Machine.countConflict
  split
  · refine .ite (fun _ => ?_) fun _ => .refl c
    exact Reports.trans (c := modifyDoor ch (fun d => { d with conflict := true }) c) (.of_stays rfl (.of_eq rfl))
      (.count (k := .doorInputConflict) hk _ _)
  · exact .refl c

theorem NoLoss.countConflict (ch : Nat) (c : Controller) : NoLoss 1 c (countConflict ch c) := by
  have hrefl : NoLoss 1 c c := ⟨(QueueKeeps.refl c).mono (Nat.zero_le _), fun _ _ => rfl⟩
  unfold Machine.countConflict
  split
  · split
    · have hmod : NoLoss 0 c (modifyDoor ch (fun d => { d with conflict := true }) c) := .of_eq rfl rfl rfl
      exact (hmod.trans (.count .doorInputConflict _ _)).mono (Nat.le_refl _)
    · exact hrefl
  · exact hrefl

/-- What the change counts beside UNAUTHORISED DOOR and the conflict: nothing. -/
theorem doorChanged_entry : (doorChanged ch old new c).events.entries.length = c.events.entries.length
    ∧ ∀ j, 1 ≤ j → j ≠ 6 → j ∉ [16, 17] → (doorChanged ch old new c).events.entry j = c.events.entry j := by
  obtain ⟨b, _, _, hev, _, _, _, _, _, heq⟩ := doorChanged_eq (ch := ch) (old := old) (new := new) (c := c)
  have hcounted : Reports [16, 17] b (doorCounted ch new b) := by
    have hconf : Reports [16, 17] b (Machine.countConflict ch (modifyDoor ch (Door.changed new) b)) :=
      Reports.trans (c := modifyDoor ch (Door.changed new) b) (.of_stays rfl (.of_eq rfl)) (.countConflict (by decide) ch _)
    refine Reports.ite (fun _ => hconf.trans ?_) fun _ => hconf
    exact .ite (fun _ => .refl _) fun _ => .count (k := .unauthorisedDoor) (by decide) _ _
  have hsame : (doorChanged ch old new c).events = (doorCounted ch new b).events := by rw [heq]; simp
  rw [hsame, ← hev]
  exact ⟨hcounted.length, hcounted.entry⟩

/-- The line and the release owed after a change that counts at most m events. -/
theorem doorChanged_noLoss {m : Nat} (h : ∀ b, b.start = c.start → b.job = c.job → b.doors.doors = c.doors.doors.modify ch
      (fun d => { d with present := acceptedAt c.doors.presentIn ch, latched := acceptedAt c.doors.latchedIn ch }) →
      NoLoss m b (doorCounted ch new b)) : NoLoss m c (doorChanged ch old new c) := by
  obtain ⟨b, hs, hj, _, hl, _, _, hd, _, heq⟩ := doorChanged_eq (ch := ch) (old := old) (new := new) (c := c)
  have hcb : NoLoss 0 c b := .of_eq (by rw [hs]) hl (by rw [hj])
  have hrest : NoLoss 0 (doorCounted ch new b) (doorChanged ch old new c) := by
    rw [heq]
    exact .of_eq (by simp) (by simp) (by simp)
  exact ((hcb.trans (h b hs hj hd)).trans hrest).mono (by omega)

theorem doorChanged_noLoss_quiet {r : Door} (hr : c.doors.doors[ch]? = some r) (hne : new ≠ .removed) :
    NoLoss 0 c (doorChanged ch old new c) := by
  refine doorChanged_noLoss fun b _ _ hd => ?_
  have hbr : ∃ r₁, b.doors.doors[ch]? = some r₁ := by rw [hd]; simp [hr]
  obtain ⟨r₁, hbr⟩ := hbr
  rw [doorCounted_quiet hbr hne]
  exact .of_eq rfl rfl rfl

theorem doorChanged_noLoss_authorised (ha : authorised c (ch / 2) = true) : NoLoss 1 c (doorChanged ch old new c) := by
  refine doorChanged_noLoss fun b hs hj _ => ?_
  rw [doorCounted_authorised ((authorised_congr hs hj).trans ha)]
  have hmod : NoLoss 0 b (modifyDoor ch (Door.changed new) b) := .of_eq rfl rfl rfl
  exact (hmod.trans (.countConflict ch _)).mono (by omega)

/-- A door of the job oven is not counted as unauthorised. -/
theorem doorChanged_entry_authorised (ha : authorised c (ch / 2) = true) :
    (doorChanged ch old new c).events.entry 16 = c.events.entry 16 := by
  obtain ⟨b, hs, hj, hev, _, _, _, _, _, heq⟩ := doorChanged_eq (ch := ch) (old := old) (new := new) (c := c)
  have hsame : (doorChanged ch old new c).events = (doorCounted ch new b).events := by rw [heq]; simp
  rw [hsame, doorCounted_authorised ((authorised_congr hs hj).trans ha), ← hev]
  exact (Reports.countConflict (ks := [17]) (by decide) ch (modifyDoor ch (Door.changed new) b)).entry 16 (by decide) (by decide) (by decide)

/-- A door that comes off another oven is (R129). -/
theorem doorChanged_counted (ht : thirtyEntries c) (ha : authorised c (ch / 2) = false) : countedOnce 16 c (doorChanged ch old .removed c) := by
  obtain ⟨b, hs, hj, hev, _, _, _, _, _, heq⟩ := doorChanged_eq (ch := ch) (old := old) (new := .removed) (c := c)
  obtain ⟨first, hcount⟩ := doorCounted_unauthorised (c := b) (ch := ch) ((authorised_congr hs hj).trans ha)
  obtain ⟨y, hy⟩ : ∃ y, y = Machine.countConflict ch (modifyDoor ch (Door.changed .removed) b) := ⟨_, rfl⟩
  have hconf : Reports [17] (modifyDoor ch (Door.changed .removed) b) y := hy ▸ .countConflict (by decide) ch _
  have hyt : thirtyEntries y := by
    rw [thirtyEntries, hconf.length, show (modifyDoor ch (Door.changed .removed) b).events = b.events from rfl, hev]
    exact ht
  have hy16 : y.events.entry 16 = c.events.entry 16 := by
    rw [hconf.entry 16 (by decide) (by decide) (by decide), show (modifyDoor ch (Door.changed .removed) b).events = b.events from rfl, hev]
  have hraised := entry_count (k := .unauthorisedDoor) (first := first) hyt
  rw [show EventKind.unauthorisedDoor.number = 16 from rfl, hy16] at hraised
  have hsame : (doorChanged ch old .removed c).events = (doorCounted ch .removed b).events := by rw [heq]; simp
  rw [countedOnce, hsame, hcount, ← hy, hraised]
  rfl

/-- The frame requested when the valve closes carries command 0 for the oven (R127, R160). -/
theorem doorChanged_frame (hoff : anyRemoved c (ch / 2) = false) (hnow : anyRemoved (doorChanged ch old new c) (ch / 2) = true)
    {o : Oven} (ho : ovenAt c (ch / 2) = some o) (hon : c.reg.framesOn = true) (hfree : c.reg.frame = none) (hch : ch < 16) :
    ∃ f, (doorChanged ch old new c).reg.frame = some f ∧ f[ch / 2]? = some 0 := by
  obtain ⟨b, _, _, _, _, hreg, htable, _, hany, heq⟩ := doorChanged_eq (ch := ch) (old := old) (new := new) (c := c)
  obtain ⟨y, hy⟩ : ∃ y, y = doorCounted ch new b := ⟨_, rfl⟩
  have hyreg : y.reg = c.reg := by rw [hy, (doorCounted_frame _ _ _).2.2.2.2.2.2.2.2.2, hreg]
  have hyo : ovenAt y (ch / 2) = some o := by
    rw [hy, ovenAt, (doorCounted_frame _ _ _).2.1, htable]
    exact ho
  have hynow : anyRemoved y (ch / 2) = true := by
    rw [hy, ← hany]
    exact hnow
  have hforce : demandFollowed (ch / 2) (anyRemoved c (ch / 2)) y = forceClose (ch / 2) y := by
    simp only [demandFollowed, hoff, hynow, Bool.not_false, Bool.and_self, if_true]
  have hframe : (doorChanged ch old new c).reg = (forceClose (ch / 2) y).reg := by
    rw [heq, ← hy, hforce]
    simp
  obtain ⟨z, hz⟩ : ∃ z, z = modifyOven (ch / 2) Oven.enterClosed y := ⟨_, rfl⟩
  have hzreg : z.reg = c.reg := by rw [hz]; exact hyreg
  have hzo : ovenAt z (ch / 2) = some o.enterClosed := by
    rw [hz, modifyOven_eq_ovenSet _ hyo]
    exact ovenAt_ovenSet hyo
  have hsent : (forceClose (ch / 2) y).reg.frame = some (buildFrame z) := by
    rw [forceClose, ← hz, requestFrame, if_pos (by rw [hzreg, hon, hfree]; rfl)]
  refine ⟨_, by rw [hframe, hsent], ?_⟩
  have hlt : ch / 2 < 8 := by omega
  simp only [buildFrame, commandAt, List.getElem?_map, List.getElem?_range hlt, Option.map_some, hzo]
  rfl

end

/-! ## The demand on an oven that is not the job's -/

theorem jobOnDoor_other {i : Nat} {s : DoorState} {c : Controller} (h : jobIndex c ≠ some i) : jobOnDoor i s c = c := by
  refine if_neg fun hgo => h ?_
  simp only [Bool.and_eq_true, isJobOven, beq_iff_eq] at hgo
  exact hgo.2

theorem demandOven_keeps (g : Config) (was now : Bool) (o : Oven) :
    (demandOven g was now o).number = o.number ∧ (demandOven g was now o).phase = o.phase ∧ (demandOven g was now o).minutes = o.minutes
      ∧ (demandOven g was now o).target = o.target ∧ (demandOven g was now o).inhibited = o.inhibited := by
  obtain ⟨hn, hp, hm, ht, _, _, hi, _⟩ := enterMode_keeps g o
  unfold demandOven
  split
  · exact ⟨rfl, rfl, rfl, rfl, rfl⟩
  · split
    · exact ⟨hn, hp, hm, ht, hi⟩
    · exact ⟨rfl, rfl, rfl, rfl, rfl⟩

/-- The mode that each phase gives a valve back to (R156, R158). -/
theorem enterMode_cases (g : Config) (o : Oven) :
    (o.phase = .empty ∨ o.phase = .isolated ∨ o.phase = .pushing ∨ o.phase = .sticker →
        (o.enterMode g).mode = .closed ∧ (o.enterMode g).command = 0 ∧ (o.enterMode g).integrator = 0)
      ∧ (o.phase = .charging → (o.enterMode g).mode = .forced ∧ (o.enterMode g).command = g.uchg)
      ∧ (o.phase = .isolating → (o.enterMode g).mode = .isolating ∧ (o.enterMode g).command = o.command)
      ∧ (o.phase = .coking ∨ o.phase = .unknown → (o.enterMode g).mode = .regulate ∧ (o.enterMode g).command = o.command
          ∧ (o.enterMode g).integrator = clampInt (o.command * 1024) ((rowInForce g o).umin * 1024) ((rowInForce g o).umax * 1024)) := by
  refine ⟨fun h => ?_, fun h => ?_, fun h => ?_, fun h => ?_⟩
  · obtain h | h | h | h := h <;> rw [Oven.enterMode, h] <;> exact ⟨rfl, rfl, rfl⟩
  · rw [Oven.enterMode, h]
    exact ⟨rfl, rfl⟩
  · rw [Oven.enterMode, h]
    exact ⟨rfl, rfl⟩
  · obtain h | h := h <;> rw [Oven.enterMode, h] <;> exact ⟨rfl, rfl, rfl⟩

/-- A door of the oven that is off. -/
theorem anyRemoved_of_side {c : Controller} {ch : Nat} (h : doorAt c ch = some .removed) : anyRemoved c (ch / 2) = true := by
  have hside : ch = 2 * (ch / 2) ∨ ch = 2 * (ch / 2) + 1 := by omega
  obtain hs | hs := hside <;> (rw [hs] at h; simp [anyRemoved, h])

theorem demandMovesValve_other : ∀ (q : List Instr) (c : Controller) (ch : Nat) (r : Door) (o : Oven), c.start.powerOn = false →
    ch ∈ c.due.doorInput → ch ∉ c.due.doorWarn → ch ∉ c.due.doorOverdue → c.doors.doors[ch]? = some r →
    ovenAt c (ch / 2) = some o → jobIndex c ≠ some (ch / 2) → thirtyEntries c →
    ∃ d o', exec (.doorInputAccepted ch) ⟨q, c⟩ = .next ⟨q, d⟩ ∧ ovenAt d (ch / 2) = some o'
      ∧ (∀ j, j ≠ ch / 2 → ovenAt d j = ovenAt c j)
      ∧ o'.phase = o.phase ∧ o'.minutes = o.minutes ∧ o'.target = o.target
      ∧ (r.state ≠ .removed → acceptedAt c.doors.presentIn ch = false → countedOnce 16 c d)
      ∧ (anyRemoved c (ch / 2) = false → acceptedAt c.doors.presentIn ch = false →
          o' = { o with mode := .closed, command := 0, integrator := 0, isoCount := 0, noDraw := 0 }
            ∧ (c.reg.framesOn = true → c.reg.frame = none → ch < 16 →
                ∃ f, d.reg.frame = some f ∧ f[ch / 2]? = some 0))
      ∧ (anyRemoved c (ch / 2) = true → anyRemoved d (ch / 2) = false →
          (o.phase = .empty ∨ o.phase = .isolated ∨ o.phase = .pushing ∨ o.phase = .sticker →
              o'.mode = .closed ∧ o'.command = 0 ∧ o'.integrator = 0)
            ∧ (o.phase = .charging → o'.mode = .forced ∧ o'.command = (cfg c).uchg)
            ∧ (o.phase = .isolating → o'.mode = .isolating ∧ o'.command = o.command)
            ∧ (o.phase = .coking ∨ o.phase = .unknown → o'.mode = .regulate ∧ o'.command = o.command
                ∧ o'.integrator = clampInt (o.command * 1024) ((rowInForce (cfg c) o).umin * 1024)
                    ((rowInForce (cfg c) o).umax * 1024))) := by
  intro q c ch r o hp hdue hwarn hover hr ho hother hthirty
  obtain ⟨s, hs⟩ : ∃ s, s = deriveState (acceptedAt c.doors.presentIn ch) (acceptedAt c.doors.latchedIn ch) r.state := ⟨_, rfl⟩
  have hrat : doorAt c ch = some r.state := by simp [doorAt, hr]
  have hremoved (h : acceptedAt c.doors.presentIn ch = false) : s = .removed := by rw [hs, h]; cases acceptedAt c.doors.latchedIn ch <;> rfl
  by_cases hsame : s = r.state
  · have hstep := exec_doorInput_same (q := q) hp hdue hwarn hover hr (hs.symm.trans hsame)
    obtain ⟨y, hy⟩ : ∃ y, y = pairTaken ch (modifyDue (fun d => { d with doorInput := d.doorInput.filter (· != ch) }) c) := ⟨_, rfl⟩
    rw [← hy] at hstep
    have hfree := OnlyOffers.freePlace (countConflict ch y)
    have htable : (freePlace (countConflict ch y)).table = c.table := by
      rw [hfree.table, (countConflict_frame ch y).2.2.1, hy]
      rfl
    have hany : anyRemoved (freePlace (countConflict ch y)) (ch / 2) = anyRemoved c (ch / 2) := by
      refine anyRemoved_of_doorAt (fun j => ?_) _
      have hat : doorAt (freePlace (countConflict ch y)) j = doorAt (countConflict ch y) j := doorAt_congr (by rw [hfree.doors]) j
      rw [hat, doorAt_of_modify (countConflict_doors ch y) Door.conflicted_state, hy, doorAt_pairTaken]
      rfl
    refine ⟨_, o, hstep, (ovenAt_congr (by rw [htable]) _).trans ho, fun j _ => ovenAt_congr (by rw [htable]) j, rfl, rfl, rfl, fun hne hpr => ?_,
      fun hno hpr => ?_, fun hyes hnow => ?_⟩
    · exact absurd (hsame.symm.trans (hremoved hpr)) hne
    · have hrem : doorAt c ch = some .removed := by rw [hrat, ← hsame, hremoved hpr]
      exact absurd ((anyRemoved_of_side hrem).symm.trans hno) (by decide)
    · exact absurd (hyes.symm.trans (hany.symm.trans hnow)) (by decide)
  · have hstep := exec_doorInput_changed (q := q) hp hdue hwarn hover hr hs.symm hsame
    obtain ⟨k, hk⟩ : ∃ k, k = doorChanged ch r.state s c := ⟨_, rfl⟩
    obtain ⟨hkstart, hkjob, _⟩ := doorChanged_records (ch := ch) (old := r.state) (new := s) (c := c)
    rw [← hk] at hstep hkstart hkjob
    rw [jobOnDoor_other (by rw [jobIndex_congr hkstart (by rw [hkjob])]; exact hother)] at hstep
    have hfree := OnlyOffers.freePlace k
    have hauth : authorised c (ch / 2) = false := by
      have : isJobOven c (ch / 2) = false := by simpa [isJobOven] using hother
      rw [authorised, this, Bool.and_false]
    have hko := doorChanged_ovenAt (ch := ch) (old := r.state) (new := s) ho
    rw [← hk] at hko
    have hnow : anyRemoved (freePlace k) (ch / 2) = anyRemoved k (ch / 2) := anyRemoved_congr hfree.doors _
    obtain ⟨_, hphase, hminutes, htarget, _⟩ := demandOven_keeps (cfg c) (anyRemoved c (ch / 2)) (anyRemoved k (ch / 2)) o
    have hoff (hpr : acceptedAt c.doors.presentIn ch = false) : anyRemoved k (ch / 2) = true := by
      refine anyRemoved_of_side ?_
      rw [hk, doorChanged_doorAt hr, if_pos rfl, hremoved hpr]
    refine ⟨_, _, hstep, (ovenAt_congr (by rw [hfree.table]) _).trans hko, fun j hj => ?_, hphase, hminutes, htarget, fun hne hpr => ?_,
      fun hno hpr => ⟨?_, fun hon hnone hch => ?_⟩, fun hyes hnone => ?_⟩
    · exact (ovenAt_congr (by rw [hfree.table]) j).trans (hk ▸ doorChanged_others hj)
    · have hcount := doorChanged_counted (ch := ch) (old := r.state) hthirty hauth
      rw [hremoved hpr] at hk
      rw [countedOnce, EventTable.entry, freePlace_entries, hk]
      exact hcount
    · rw [hno, hoff hpr]
      rfl
    · have hframe := doorChanged_frame (old := r.state) (new := s) hno (by rw [← hk]; exact hoff hpr) ho hon hnone hch
      rw [freePlace_reg, hk]
      exact hframe
    · have hmode : demandOven (cfg c) (anyRemoved c (ch / 2)) (anyRemoved k (ch / 2)) o = o.enterMode (cfg c) := by
        rw [hyes, hnow.symm.trans hnone]
        rfl
      rw [hmode]
      exact enterMode_cases (cfg c) o

end Sys2Proof.Machine
end

section
/-! SUPPORT. The doors of the job oven (R78, R79, R81, R84, R89). -/

-- The lemmas are checked one after another, as the tests are.
set_option Elab.async false

namespace Sys2Proof.Machine

open Sys2Proof

/-- The conditions are read from the doors, the ovens, the machine records and, of the job, from whether the push has started. -/
theorem permitConditions_congr {c d : Controller} (hd : d.doors.doors = c.doors.doors) (ho : d.table.ovens = c.table.ovens)
    (hp : d.track.pusher = c.track.pusher) (hg : d.track.guide = c.track.guide) (hc : d.track.car = c.track.car)
    (hs : afterStart d = afterStart c) (i n : Nat) : permitConditions d i n = permitConditions c i n := by
  simp only [permitConditions, bothRemoved, commandAt, pusherCondition, guideCondition, carCondition, doorAt_congr hd, ovenAt_congr ho, hp, hg,
    hc, hs]

section
variable {q : List Instr} {c k : Controller} {ch n i : Nat} {r : Door} {o : Oven} {s : DoorState}

/-- EARLY DOOR: a door of the job oven has come off in CLAIMED (R78). -/
theorem earlyDoor_taken (hi : i = ch / 2) (hk : k = doorChanged ch r.state .removed c) (hr : c.doors.doors[ch]? = some r)
    (ho : ovenAt c i = some o) (hrec : receiving c = true) (hn : c.job.oven = some n) (hindex : jobIndex c = some i)
    (hs : c.job.state = .claimed) (hrem : anyRemoved c i = false) (hthirty : thirtyEntries c)
    (hstep : exec (.doorInputAccepted ch) ⟨q, c⟩ = .next ⟨q, freePlace (jobOnDoor i .removed k)⟩) :
    ∃ d, exec (.doorInputAccepted ch) ⟨q, c⟩ = .next ⟨q, d⟩ ∧ countedOnce 15 c d
      ∧ ((c.events.entry 15).first = none → (d.events.entry 15).first = some n) ∧ d.events.entry 16 = c.events.entry 16
      ∧ d.job = { c.job with state := .doors, permitOut := false, holdOut := false, owed := d.job.owed }
      ∧ ovenAt d i = some { o with
          phase := .isolated, stage := none, mode := .closed, command := 0, integrator := 0, isoCount := 0, noDraw := 0 }
      ∧ (∀ j, j ≠ i → ovenAt d j = ovenAt c j)
      ∧ (isActive c = true → roomFor 4 c → c.job.owed = none →
          waitsInTx (permitTelegram (ownNumber c) n permitDoorsCode) d
            ∧ waitsInTx (phaseTelegram (ownNumber c) { o with phase := .isolated }) d) := by
  obtain ⟨hkstart, hkjob, _⟩ := doorChanged_records (ch := ch) (old := r.state) (new := .removed) (c := c)
  rw [← hk] at hkstart hkjob
  have hauth : authorised c (ch / 2) = true := by rw [authorised, hs, isJobOven, hindex, hi]; simp [JobState.beyondClaiming]
  have hat (j : Nat) := doorChanged_doorAt (old := r.state) (new := .removed) hr j
  rw [← hk] at hat
  have hkrem : anyRemoved k i = true := by rw [hi]; exact anyRemoved_of_side (by rw [hat, if_pos rfl])
  have hkboth : bothRemoved k i = false := by
    have h0 : doorAt c (2 * i) ≠ some .removed := fun h => by simp [anyRemoved, h] at hrem
    have h1 : doorAt c (2 * i + 1) ≠ some .removed := fun h => by simp [anyRemoved, h] at hrem
    rw [bothRemoved, hat, hat]
    have hside : ch ≠ 2 * i ∨ ch ≠ 2 * i + 1 := by omega
    obtain h | h := hside
    · simp [h, h0]
    · simp [h, h1]
  have hko : ovenAt k i = some o.enterClosed := by
    have := doorChanged_ovenAt (old := r.state) (new := .removed) (hi ▸ ho)
    rw [← hk, ← hi, hrem, hkrem] at this
    exact this
  have hko' (j : Nat) (hj : j ≠ i) : ovenAt k j = ovenAt c j := hk ▸ doorChanged_others (hi ▸ hj)
  have hloss : NoLoss 1 c k := hk ▸ doorChanged_noLoss_authorised hauth
  have hkindex : jobIndex k = some i := (jobIndex_congr hkstart (by rw [hkjob])).trans hindex
  obtain ⟨x, hx⟩ : ∃ x, x = setPhase i .isolated (count .earlyDoor (some n) k) := ⟨_, rfl⟩
  obtain ⟨e, he⟩ : ∃ e, e = enterJob .doors (offerPermit n permitDoorsCode x) := ⟨_, rfl⟩
  have hnb : k.job.state ≠ .bidding := by rw [hkjob, hs]; exact fun hx => by cases hx
  have hwork : JobWork 1 i o.enterClosed k.job k (count .earlyDoor (some n) k) := (JobWork.refl hko).count hnb .earlyDoor (some n)
  have hwx : JobWork 2 i (movedOven (cfg k) .isolated (anyRemoved k i) o.enterClosed) k.job k x := hx ▸ hwork.setPhase hnb .isolated
  have hwe : JobWork 3 i (movedOven (cfg k) .isolated (anyRemoved k i) o.enterClosed) (Job.enter .doors k.job) k e := by
    rw [he]
    exact (hwx.offerPermit hnb n permitDoorsCode).modifyJob (f := Job.enter .doors) fun _ _ => rfl
  have hearly : jobOnDoor i .removed k = e := by
    have hgo : (jobRuns k && isJobOven k i) = true := by
      have : jobRuns k = true := by rw [jobRuns, receiving, hkstart]; exact hrec
      rw [this, isJobOven, hkindex]
      simp
    have hkn : k.job.oven = some n := by rw [hkjob]; exact hn
    have hks : k.job.state = .claimed := by rw [hkjob]; exact hs
    have hboth : bothRemoved e i = false := by
      rw [← hkboth]
      simp [bothRemoved, hwe.base.states]
    rw [jobOnDoor, if_pos hgo, hkn, hks]
    simp only [if_true, earlyDoor, ← hx, ← he, hboth, if_neg Bool.false_ne_true]
  rw [hearly] at hstep
  obtain ⟨hlen, hentries⟩ := doorChanged_entry (ch := ch) (old := r.state) (new := .removed) (c := c)
  have h16 := doorChanged_entry_authorised (ch := ch) (old := r.state) (new := .removed) hauth
  rw [← hk] at hlen hentries h16
  have htk : thirtyEntries k := hlen.trans hthirty
  have hstays : EventsStay (count .earlyDoor (some n) k) (freePlace e) := by
    have hpermit : EventsStay x e := he ▸ EventsStay.trans (c := offerPermit n permitDoorsCode x) (.offerPermit n _ x) (.of_eq rfl)
    have hphase : EventsStay (count .earlyDoor (some n) k) x := hx ▸ .setPhase i .isolated _
    exact (hphase.trans hpermit).trans (.freePlace e)
  have h15 : (freePlace e).events.entry 15 = EventEntry.raised (some n) (c.events.entry 15) := by
    rw [hstays.entry 15 (by decide) (by decide)]
    have hcount := entry_count (k := .earlyDoor) (first := some n) htk
    rw [show EventKind.earlyDoor.number = 15 from rfl, hentries 15 (by decide) (by decide) (by decide)] at hcount
    exact hcount
  obtain ⟨hde, hothers, hjob, _, _⟩ := hwe.shows
  refine ⟨_, hstep, by rw [countedOnce, h15]; rfl, fun hfirst => by rw [h15]; simp [EventEntry.raised, hfirst], ?_, ?_, ?_, fun j hj => ?_,
    fun ha hroom howed => ?_⟩
  · rw [hstays.entry 16 (by decide) (by decide), entry_count_ne (by decide) (by decide), h16]
  · rw [hjob, hkjob]
    rfl
  · rw [hde, hkrem]
    rfl
  · exact (hothers j hj).trans (hko' j hj)
  · have hka : isActive k = true := hloss.keeps.active.trans ha
    have hkr : roomFor 3 k := hloss.keeps.room ha hroom
    have hkn : ownNumber k = ownNumber c := hloss.keeps.ownNumber
    have hxa : isActive x = true := hwx.base.keeps.active.trans hka
    have hxr : roomFor 1 x := hwx.base.room hka hkr
    have hpermit : waitsInTx (permitTelegram (ownNumber c) n permitDoorsCode) e := by
      have hw := offerPermit_waits (n := n) (code := permitDoorsCode) hxa hxr
      rw [hwx.base.keeps.ownNumber, hkn] at hw
      rw [he]
      exact hw
    have hphase : waitsInTx (phaseTelegram (ownNumber c) { o with phase := .isolated }) e := by
      have hw := setPhase_waits (p := .isolated) (hwork.base.keeps.active.trans hka)
        (hwork.base.room (k := 1) hka (Nat.le_trans (Nat.add_le_add_left (by decide) _) hkr)) hwork.base.oven
      rw [← hx, hwork.base.keeps.ownNumber, hkn] at hw
      have hkeep := (QueueKeeps.offerPermit (P := fun u => u.kind ≠ some .permit) (fun _ hu => hu) n permitDoorsCode x).waits hxa hxr
        (fun hx => by cases hx) hw
      rw [he]
      exact hkeep
    have hnone : e.job.owed = none := by
      rw [hwe.owed hka hkr, hloss.owed ha (Nat.le_trans (Nat.add_le_add_left (by decide) _) hroom)]
      exact howed
    exact ⟨waitsInTx_freePlace_of_none_owed hpermit hnone, waitsInTx_freePlace hphase (fun hx => by cases hx)⟩

/-- A door comes off in DOORS: the second one makes the job STAGED, and PERMITTED where the conditions hold (R79, R81). -/
theorem secondDoor_taken (hi : i = ch / 2) (hk : k = doorChanged ch r.state .removed c) (hrec : receiving c = true) (hn : c.job.oven = some n)
    (hindex : jobIndex c = some i) (hs : c.job.state = .doors) (ho : ovenAt c i = some o)
    (hstep : exec (.doorInputAccepted ch) ⟨q, c⟩ = .next ⟨q, freePlace (jobOnDoor i .removed k)⟩) :
    ∃ d, exec (.doorInputAccepted ch) ⟨q, c⟩ = .next ⟨q, d⟩ ∧ (∀ j, j ≠ i → ovenAt d j = ovenAt c j)
      ∧ (bothRemoved d i = false → d.job = { c.job with owed := d.job.owed })
      ∧ (bothRemoved d i = true → permitConditions d i n = false →
          d.job = { c.job with state := .staged, permitOut := false, holdOut := false, owed := d.job.owed })
      ∧ (bothRemoved d i = true → permitConditions d i n = true →
          d.job = { c.job with state := .permitted, permitOut := true, holdOut := false, owed := d.job.owed }
            ∧ (isActive c = true → roomFor 4 c → c.job.owed = none →
                waitsInTx (permitTelegram (ownNumber c) n permitPushCode) d)) := by
  obtain ⟨hkstart, hkjob, _⟩ := doorChanged_records (ch := ch) (old := r.state) (new := .removed) (c := c)
  rw [← hk] at hkstart hkjob
  have hauth : authorised c (ch / 2) = true := by rw [authorised, hs, isJobOven, hindex, hi]; simp [JobState.beyondClaiming]
  obtain ⟨o₁, hko⟩ : ∃ o₁, ovenAt k i = some o₁ := by rw [hk, hi]; exact ⟨_, doorChanged_ovenAt (hi ▸ ho)⟩
  have hko' (j : Nat) (hj : j ≠ i) : ovenAt k j = ovenAt c j := hk ▸ doorChanged_others (hi ▸ hj)
  have hloss : NoLoss 1 c k := hk ▸ doorChanged_noLoss_authorised hauth
  have hkindex : jobIndex k = some i := (jobIndex_congr hkstart (by rw [hkjob])).trans hindex
  have hkrec : receiving k = true := by rw [receiving, hkstart]; exact hrec
  have hkn : k.job.oven = some n := by rw [hkjob]; exact hn
  have hks : k.job.state = .doors := by rw [hkjob]; exact hs
  have hnb : k.job.state ≠ .bidding := by rw [hks]; exact fun hx => by cases hx
  have hjob : jobOnDoor i .removed k = if bothRemoved k i then evaluate (enterJob .staged k) else k := by
    have hgo : (jobRuns k && isJobOven k i) = true := by
      have : jobRuns k = true := hkrec
      rw [this, isJobOven, hkindex]
      simp
    rw [jobOnDoor, if_pos hgo, hkn, hks]
  have hwk : JobWork 0 i o₁ k.job k k := .refl hko
  have hboth {m : Nat} {j : Job} {y : Controller} (h : JobWork m i o₁ j k y) : bothRemoved (freePlace y) i = bothRemoved k i := by
    have hd (a : Nat) : doorAt (freePlace y) a = doorAt k a := (doorAt_congr (c := y) (by simp) a).trans (h.base.states a)
    simp [bothRemoved, hd]
  rw [hjob] at hstep
  cases hb : bothRemoved k i with
  | false =>
    rw [hb, if_neg Bool.false_ne_true] at hstep
    obtain ⟨_, hothers, hj, _, _⟩ := hwk.shows
    refine ⟨_, hstep, fun j hj => (hothers j hj).trans (hko' j hj), fun _ => by rw [hj, hkjob], fun h _ => ?_, fun h _ => ?_⟩
    · exact absurd (h.symm.trans ((hboth hwk).trans hb)) (by decide)
    · exact absurd (h.symm.trans ((hboth hwk).trans hb)) (by decide)
  | true =>
    obtain ⟨x, hx⟩ : ∃ x, x = enterJob .staged k := ⟨_, rfl⟩
    have hwx : JobWork 0 i o₁ (Job.enter .staged k.job) k x := hx ▸ hwk.modifyJob (f := Job.enter .staged) fun _ _ => rfl
    have hxi : jobIndex x = some i := (hwx.jobIndex rfl).trans hkindex
    have hxs : x.job.state = .staged := by rw [hx]; rfl
    have hxn : x.job.oven = some n := by rw [hx]; exact hkn
    rw [hb, if_pos rfl, ← hx, evaluate_staged (hwx.receiving.trans hkrec) hxn hxi hxs] at hstep
    have hsame {m : Nat} {j : Job} {y : Controller} (h : JobWork m i o₁ j k y) (hj : j.state = .staged ∨ j.state = .permitted)
        (ht : y.table.ovens = x.table.ovens) (hd : y.doors.doors = x.doors.doors) :
        permitConditions (freePlace y) i n = permitConditions x i n := by
      have hfree := OnlyOffers.freePlace y
      have htrack := h.track
      have hxtrack := hwx.track
      refine permitConditions_congr (by rw [hfree.doors, hd]) (by rw [hfree.table, ht]) ?_ ?_ ?_ ?_ i n
      · rw [freePlace_track, htrack, hxtrack]
      · rw [freePlace_track, htrack, hxtrack]
      · rw [freePlace_track, htrack, hxtrack]
      · have hdj : (freePlace y).job.state = j.state := by rw [h.shows.2.2.1]
        rw [afterStart, afterStart, hdj, hxs]
        obtain hj | hj := hj <;> rw [hj] <;> rfl
    cases hc : permitConditions x i n with
    | false =>
      rw [hc, if_neg Bool.false_ne_true] at hstep
      obtain ⟨_, hothers, hj, _, _⟩ := hwx.shows
      have hcond := (hsame hwx (.inl rfl) rfl rfl).trans hc
      refine ⟨_, hstep, fun j hj => (hothers j hj).trans (hko' j hj), fun h => ?_, fun _ _ => by rw [hj, hkjob]; rfl, fun _ h => ?_⟩
      · exact absurd (h.symm.trans ((hboth hwx).trans hb)) (by decide)
      · exact absurd (h.symm.trans hcond) (by decide)
    | true =>
      rw [hc, if_pos rfl] at hstep
      obtain ⟨e, he⟩ : ∃ e, e = enterJob .permitted (offerPermit n permitPushCode x) := ⟨_, rfl⟩
      have hwe : JobWork 1 i o₁ (Job.enter .permitted (Job.enter .staged k.job)) k e := by
        rw [he]
        exact (hwx.offerPermit (fun hx => by cases hx) n permitPushCode).modifyJob (f := Job.enter .permitted) fun _ _ => rfl
      rw [← he] at hstep
      obtain ⟨_, hothers, hj, _, _⟩ := hwe.shows
      have hoff := OnlyOffers.offerPermit n permitPushCode x
      have hcond := (hsame hwe (.inr rfl) (by rw [he]; exact congrArg OvenTable.ovens hoff.table)
        (by rw [he]; exact congrArg DoorUnit.doors hoff.doors)).trans hc
      refine ⟨_, hstep, fun j hj => (hothers j hj).trans (hko' j hj), fun h => ?_, fun _ h => ?_, fun _ _ => ⟨by rw [hj, hkjob]; rfl,
        fun ha hroom howed => ?_⟩⟩
      · exact absurd (h.symm.trans ((hboth hwe).trans hb)) (by decide)
      · exact absurd (h.symm.trans hcond) (by decide)
      · have hka : isActive k = true := hloss.keeps.active.trans ha
        have hkr : roomFor 3 k := hloss.keeps.room ha hroom
        have hkr1 : roomFor 1 k := Nat.le_trans (Nat.add_le_add_left (by decide) _) hkr
        have hw := offerPermit_waits (n := n) (code := permitPushCode) (hwx.base.keeps.active.trans hka) (hwx.base.room (k := 1) hka hkr1)
        rw [hwx.base.keeps.ownNumber, hloss.keeps.ownNumber] at hw
        have hnone : e.job.owed = none := by
          rw [hwe.owed hka hkr1, hloss.owed ha (Nat.le_trans (Nat.add_le_add_left (by decide) _) hroom)]
          exact howed
        have hwait : waitsInTx (permitTelegram (ownNumber c) n permitPushCode) e := by rw [he]; exact hw
        exact waitsInTx_freePlace_of_none_owed hwait hnone

/-- A door put back holds a push that is permitted or under way (R81, R84). -/
theorem doorBack_holds (hi : i = ch / 2) (hk : k = doorChanged ch r.state s c) (hr : c.doors.doors[ch]? = some r) (hne : s ≠ .removed)
    (ho : ovenAt c i = some o) (hrec : receiving c = true) (hn : c.job.oven = some n) (hindex : jobIndex c = some i)
    (hs : c.job.state = .permitted ∨ c.job.state = .pushing) (hthirty : thirtyEntries c)
    (hstep : exec (.doorInputAccepted ch) ⟨q, c⟩ = .next ⟨q, freePlace (jobOnDoor i s k)⟩) :
    ∃ d, exec (.doorInputAccepted ch) ⟨q, c⟩ = .next ⟨q, d⟩ ∧ countedOnce 25 c d
      ∧ d.job = { c.job with state := .held, holdSecs := 0, cause := some .condition, permitOut := false, holdOut := true,
                             owed := d.job.owed }
      ∧ (isActive c = true → roomFor 4 c → waitsInTx (haltTelegram (ownNumber c) n) d) := by
  obtain ⟨hkstart, hkjob, _⟩ := doorChanged_records (ch := ch) (old := r.state) (new := s) (c := c)
  rw [← hk] at hkstart hkjob
  obtain ⟨o₁, hko⟩ : ∃ o₁, ovenAt k i = some o₁ := by rw [hk, hi]; exact ⟨_, doorChanged_ovenAt (hi ▸ ho)⟩
  have hloss : NoLoss 0 c k := hk ▸ doorChanged_noLoss_quiet hr hne
  have hkindex : jobIndex k = some i := (jobIndex_congr hkstart (by rw [hkjob])).trans hindex
  have hkrec : receiving k = true := by rw [receiving, hkstart]; exact hrec
  have hkn : k.job.oven = some n := by rw [hkjob]; exact hn
  have hks : k.job.state = .permitted ∨ k.job.state = .pushing := by rw [hkjob]; exact hs
  have hnb : k.job.state ≠ .bidding := by obtain h | h := hks <;> rw [h] <;> exact fun hx => by cases hx
  have hfails : permitConditions k i n = false := by
    have hat (j : Nat) := doorChanged_doorAt (old := r.state) (new := s) hr j
    rw [← hk] at hat
    have hside : ch = 2 * i ∨ ch = 2 * i + 1 := by omega
    have hboth : bothRemoved k i = false := by
      rw [bothRemoved, hat, hat]
      obtain h | h := hside <;> simp [h, hne]
    rw [permitConditions, hboth]
    rfl
  have hjob : jobOnDoor i s k = holdPush .condition n k := by
    have hgo : (jobRuns k && isJobOven k i) = true := by
      have : jobRuns k = true := hkrec
      rw [this, isJobOven, hkindex]
      simp
    have heval : jobOnDoor i s k = evaluate k := by
      rw [jobOnDoor, if_pos hgo, hkn]
      obtain h | h := hks <;> rw [h]
    rw [heval, evaluate_under_way hkrec hkn hkindex hks, if_neg (by simp [hfails])]
  rw [hjob] at hstep
  obtain ⟨hlen, hentries⟩ := doorChanged_entry (ch := ch) (old := r.state) (new := s) (c := c)
  rw [← hk] at hlen hentries
  have hcount := holdPush_counted (c := k) .condition n (hlen.trans hthirty) (.freePlace (holdPush .condition n k))
  rw [countedOnce, hentries 25 (by decide) (by decide) (by decide)] at hcount
  have hwork := (JobWork.refl hko).holdPush hnb n
  obtain ⟨_, _, hj, _, _⟩ := hwork.shows
  refine ⟨_, hstep, hcount, by rw [hj, hkjob]; rfl, fun ha hroom => ?_⟩
  have hkr : roomFor 2 k := hloss.keeps.room (m := 2) ha (Nat.le_trans (Nat.add_le_add_left (by decide) _) hroom)
  have hw := holdPush_waits n (hloss.keeps.active.trans ha) hkr
  rw [hloss.keeps.ownNumber] at hw
  exact waitsInTx_freePlace hw (fun hx => by cases hx)

/-- The door that leaves both latched ends a job in RECLOSING (R89). -/
theorem doorLatched_ends (hi : i = ch / 2) (hk : k = doorChanged ch r.state .checking c) (hr : c.doors.doors[ch]? = some r)
    (hlat : r.state.latchedState = false) (ho : ovenAt c i = some o) (hrec : receiving c = true) (hn : c.job.oven = some n)
    (hindex : jobIndex c = some i) (hs : c.job.state = .reclosing)
    (hstep : exec (.doorInputAccepted ch) ⟨q, c⟩ = .next ⟨q, freePlace (jobOnDoor i .checking k)⟩) :
    ∃ d, exec (.doorInputAccepted ch) ⟨q, c⟩ = .next ⟨q, d⟩ ∧ (∀ j, j ≠ i → ovenAt d j = ovenAt c j)
      ∧ (bothLatched d i = false → d.job = { c.job with owed := d.job.owed })
      ∧ (bothLatched d i = true →
          JobEnds n i (if r.state = .removed then o.enterMode (cfg c) else o) (if c.job.ended then .pushed else .aborted) c d) := by
  obtain ⟨hkstart, hkjob, _⟩ := doorChanged_records (ch := ch) (old := r.state) (new := .checking) (c := c)
  rw [← hk] at hkstart hkjob
  have hko := doorChanged_ovenAt (old := r.state) (new := .checking) (hi ▸ ho)
  rw [← hk, ← hi] at hko
  have hko' (j : Nat) (hj : j ≠ i) : ovenAt k j = ovenAt c j := hk ▸ doorChanged_others (hi ▸ hj)
  have hloss : NoLoss 0 c k := hk ▸ doorChanged_noLoss_quiet hr (fun hx => by cases hx)
  have hkindex : jobIndex k = some i := (jobIndex_congr hkstart (by rw [hkjob])).trans hindex
  have hkn : k.job.oven = some n := by rw [hkjob]; exact hn
  have hks : k.job.state = .reclosing := by rw [hkjob]; exact hs
  have hjob : jobOnDoor i .checking k = if bothLatched k i = true then completeReclosing i n k else k := by
    have hgo : (jobRuns k && isJobOven k i) = true := by
      have : jobRuns k = true := by rw [jobRuns, receiving, hkstart]; exact hrec
      rw [this, isJobOven, hkindex]
      simp
    have hcheck : jobOnDoor i .checking k = checkReclosing k := by rw [jobOnDoor, if_pos hgo, hkn, hks]
    rw [hcheck]
    simp only [checkReclosing, hkn, hkindex, hks, true_and]
  have hwk : JobWork 0 i _ k.job k k := .refl hko
  rw [hjob] at hstep
  cases hl : bothLatched k i with
  | false =>
    rw [hl, if_neg Bool.false_ne_true] at hstep
    obtain ⟨_, hothers, hj, _, _⟩ := hwk.shows
    have hsame : bothLatched (freePlace k) i = false := by
      rw [← hl]
      simp [bothLatched, doorAt_congr (congrArg DoorUnit.doors (OnlyOffers.freePlace k).doors)]
    exact ⟨_, hstep, fun j hj => (hothers j hj).trans (hko' j hj), fun _ => by rw [hj, hkjob], fun h => absurd (h.symm.trans hsame) (by decide)⟩
  | true =>
    obtain ⟨out, hout⟩ : ∃ out : PushOutcome, out = if c.job.ended then .pushed else .aborted := ⟨_, rfl⟩
    have hcomplete : completeReclosing i n k = idleJob (settlePhase i (offerRelease n out k)) := by
      rw [hout, ← hkjob]
      rfl
    rw [hl, if_pos rfl, hcomplete] at hstep
    have hkrem : anyRemoved k i = false := bothLatched_anyRemoved hl
    have hwas : anyRemoved c i = true ↔ r.state = .removed := by
      have hat (j : Nat) := doorChanged_doorAt (old := r.state) (new := .checking) hr j
      rw [← hk] at hat
      have hrat : doorAt c ch = some r.state := by simp [doorAt, hr]
      simp only [anyRemoved, Bool.or_eq_false_iff, beq_eq_false_iff_ne] at hkrem
      obtain ⟨h0, h1⟩ := hkrem
      rw [hat] at h0 h1
      simp only [anyRemoved, Bool.or_eq_true, beq_iff_eq]
      have hside : ch = 2 * i ∨ ch = 2 * i + 1 := by omega
      obtain h | h := hside
      · have hne : ch ≠ 2 * i + 1 := by omega
        rw [if_neg hne] at h1
        rw [show doorAt c (2 * i) = some r.state from h ▸ hrat]
        simp [h1]
      · have hne : ch ≠ 2 * i := by omega
        rw [if_neg hne] at h0
        rw [show doorAt c (2 * i + 1) = some r.state from h ▸ hrat]
        simp [h0]
    have hrecord : demandOven (cfg c) (anyRemoved c i) (anyRemoved k i) o = if r.state = .removed then o.enterMode (cfg c) else o := by
      rw [hkrem]
      by_cases hrem : r.state = .removed
      · rw [hwas.mpr hrem, if_pos hrem]
        rfl
      · have : anyRemoved c i = false := Bool.eq_false_iff.mpr fun h => hrem (hwas.mp h)
        rw [this, if_neg hrem]
        rfl
    rw [hrecord] at hko
    generalize (if r.state = .removed then o.enterMode (cfg c) else o) = o₂ at hko ⊢
    have hends : JobEnds n i _ out k (freePlace (idleJob (settlePhase i (offerRelease n out k)))) :=
      .of_reclosed (.refl hko) (by omega) hkrem
    have hcfg : cfg k = cfg c := cfg_congr hkstart
    have hroom (ha : isActive c = true) (hr : roomFor 4 c) : roomFor 4 k := hloss.keeps.room (m := 4) ha (by rw [Nat.zero_add]; exact hr)
    have hothers (j : Nat) (hj : j ≠ i) : ovenAt (freePlace (idleJob (settlePhase i (offerRelease n out k)))) j = ovenAt c j := by
      have hbase : JobBase 1 i _ k (offerRelease n out k) := (JobBase.refl hko).offerRelease n out
      have hrem : anyRemoved (offerRelease n out k) i = false := (hbase.anyRemoved i).trans hkrem
      have htable : (freePlace (idleJob (settlePhase i (offerRelease n out k)))).table = (settlePhase i (offerRelease n out k)).table := by
        rw [(OnlyOffers.freePlace _).table]
        rfl
      exact (ovenAt_congr (by rw [htable]) j).trans (((hbase.settled hrem).1 j hj).trans (hko' j hj))
    refine ⟨_, hstep, hothers, fun h => ?_, fun _ => ?_⟩
    · have hsame : bothLatched (freePlace (idleJob (settlePhase i (offerRelease n out k)))) i = true := by
        have hd : (freePlace (idleJob (settlePhase i (offerRelease n out k)))).doors = k.doors := by
          rw [(OnlyOffers.freePlace _).doors]
          have : (idleJob (settlePhase i (offerRelease n out k))).doors = (settlePhase i (offerRelease n out k)).doors := rfl
          rw [this]
          simp
        rw [← hl]
        simp [bothLatched, doorAt_congr (congrArg DoorUnit.doors hd)]
      exact absurd (h.symm.trans hsame) (by decide)
    · rw [← hout]
      exact {
        job := hends.job
        oven := by rw [← hcfg]; exact hends.oven
        release := fun ha hr => by rw [← hloss.keeps.ownNumber]; exact hends.release (hloss.keeps.active.trans ha) (hroom ha hr)
        phase := fun ha hr hne => by
          rw [← hcfg] at hne ⊢
          rw [← hloss.keeps.ownNumber]
          exact hends.phase (hloss.keeps.active.trans ha) (hroom ha hr) hne
        owed := fun ha hlt => hends.owed (hloss.keeps.active.trans ha) hlt }

end

/-- Settles O17: the demand on another oven, then the doors of the job oven by the state of the job. -/
theorem demandMovesValve : Obligations.DemandMovesValve := by
  refine ⟨demandMovesValve_other, fun q c ch n r o hp hdue hwarn hover hr ho hrec hn hi hthirty => ?_⟩
  have hindex : jobIndex c = some (ch / 2) := jobIndex_eq hn hi
  have hstep {s : DoorState} (hs : deriveState (acceptedAt c.doors.presentIn ch) (acceptedAt c.doors.latchedIn ch) r.state = s)
      (hne : s ≠ r.state) : exec (.doorInputAccepted ch) ⟨q, c⟩ = .next ⟨q, freePlace (jobOnDoor (ch / 2) s (doorChanged ch r.state s c))⟩ :=
    exec_doorInput_changed hp hdue hwarn hover hr hs hne
  have hremoved (hpr : acceptedAt c.doors.presentIn ch = false) :
      deriveState (acceptedAt c.doors.presentIn ch) (acceptedAt c.doors.latchedIn ch) r.state = .removed := by
    rw [deriveState_eq, if_pos hpr]
  refine ⟨fun hne hpr hs hrem => ?_, fun hne hpr hs => ?_, fun hrem hpr hs => ?_, fun hlat hpr hla hs => ?_⟩
  · exact earlyDoor_taken rfl rfl hr ho hrec hn hindex hs hrem hthirty (hstep (hremoved hpr) (Ne.symm hne))
  · exact secondDoor_taken rfl rfl hrec hn hindex hs ho (hstep (hremoved hpr) (Ne.symm hne))
  · have hne : deriveState (acceptedAt c.doors.presentIn ch) (acceptedAt c.doors.latchedIn ch) r.state ≠ .removed := by
      rw [hpr, hrem]
      cases acceptedAt c.doors.latchedIn ch <;> exact fun hx => by cases hx
    exact doorBack_holds rfl rfl hr hne ho hrec hn hindex hs hthirty (hstep rfl fun h => hne (h.trans hrem))
  · have hs' : deriveState (acceptedAt c.doors.presentIn ch) (acceptedAt c.doors.latchedIn ch) r.state = .checking := by
      rw [hpr, hla]
      cases hr' : r.state <;> rw [hr'] at hlat <;> first | rfl | cases hlat
    exact doorLatched_ends rfl rfl hr hlat ho hrec hn hindex hs (hstep hs' (fun h => by rw [← h] at hlat; cases hlat))

end Sys2Proof.Machine
end

section
/-! SUPPORT. An event counted many times over, and the entry to ACTIVE (R18, R20, R197). -/

-- The lemmas are checked one after another, as the tests are.
set_option Elab.async false

namespace Sys2Proof.Machine

open Sys2Proof

/-! ## An event counted many times -/

/-- From c to d the entry of kind j has been raised n times, its count holding at 255 (R187). -/
structure Tallied (j n : Nat) (c d : Controller) : Prop where
  length : d.events.entries.length = c.events.entries.length
  count : thirtyEntries c → (c.events.entry j).count ≤ 255 →
    (d.events.entry j).count = min 255 ((c.events.entry j).count + n)

namespace Tallied

variable {j m n : Nat} {b c d : Controller}

/-- Nothing is counted where the entry stays. -/
theorem of_entry (hl : d.events.entries.length = c.events.entries.length) (he : d.events.entry j = c.events.entry j) :
    Tallied j 0 c d := ⟨hl, fun _ h => by rw [he]; omega⟩

theorem of_eq (h : d.events.entries = c.events.entries) : Tallied j 0 c d :=
  of_entry (by rw [h]) (by simp [EventTable.entry, h])

theorem of_stays (h : EventsStay c d) (hj : 1 ≤ j) (h6 : j ≠ 6) : Tallied j 0 c d := of_entry h.length (h.entry j hj h6)

theorem trans (h : Tallied j m b c) (k : Tallied j n c d) : Tallied j (m + n) b d where
  length := k.length.trans h.length
  count ht hle := by
    have hc := h.count ht hle
    rw [k.count (h.length.trans ht) (by omega), hc]
    omega

theorem once (k : EventKind) (first : Option Nat) (c : Controller) : Tallied k.number 1 c (Machine.count k first c) where
  length := length_entries_count k first c
  count ht _ := by rw [entry_count ht]; rfl

theorem other {k : EventKind} {first : Option Nat} {c : Controller} (hj : 1 ≤ j) (hne : j ≠ k.number) :
    Tallied j 0 c (Machine.count k first c) := of_entry (length_entries_count k first c) (entry_count_ne hj hne)

/-- Counting at some of the items of a list, at each where P holds of what has been done. -/
theorem fold {P : Controller → Prop} {p : Nat → Bool} {f : Controller → Nat → Controller} (hP : ∀ b i, P b → P (f b i))
    (h : ∀ b i, P b → Tallied j (if p i then 1 else 0) b (f b i)) (l : List Nat) (hc : P c) :
    Tallied j (l.countP p) c (l.foldl f c) := by
  induction l generalizing c with
  | nil => exact of_eq rfl
  | cons i l ih =>
    have := (h c i hc).trans (ih (hP c i hc))
    rw [List.countP_cons, Nat.add_comm]
    exact this

end Tallied

/-- A count over the positions of a list counts its members. -/
theorem countP_range {α : Type} (p : α → Bool) (l : List α) :
    (List.range l.length).countP (fun i => (l[i]?).any p) = l.countP p := by
  induction l with
  | nil => rfl
  | cons x l ih =>
    rw [List.length_cons, List.range_succ_eq_map, List.countP_cons, List.countP_map, List.countP_cons]
    exact congrArg (· + _) ih

/-! ## The EVENT that is queued once -/

/-- From c to d the transmit queue has kept its entries and has grown by the EVENT alone, where none was queued. -/
structure EventOnce (c d : Controller) : Prop where
  kept : ∀ e ∈ c.line.tx, e ∈ d.line.tx
  places : d.line.tx.length + (!d.events.queued).toNat = c.line.tx.length + (!c.events.queued).toNat
  waits : (c.events.queued = true → waitsInTx (eventTelegram (ownNumber c)) c) →
    d.events.queued = true → waitsInTx (eventTelegram (ownNumber c)) d
  number : ownNumber d = ownNumber c

namespace EventOnce

variable {b c d : Controller}

theorem of_eq (hl : d.line = c.line) (hq : d.events.queued = c.events.queued) : EventOnce c d where
  kept _ he := by rwa [hl]
  places := by rw [hl, hq]
  waits h hd := by rw [waitsInTx, hl]; exact h (hq ▸ hd)
  number := by simp [ownNumber, hl]

theorem trans (h : EventOnce b c) (k : EventOnce c d) : EventOnce b d where
  kept e he := k.kept e (h.kept e he)
  places := k.places.trans h.places
  waits hb hd := by
    have := k.waits (fun hq => h.number ▸ h.waits hb hq) hd
    rwa [h.number] at this
  number := k.number.trans h.number

theorem offerEvent (c : Controller) : EventOnce c (offerEvent c) := by
  by_cases h : (isActive c && !c.events.queued && c.events.anyReportable && txRoom c) = true
  · have hq : c.events.queued = false := by simp_all
    rw [Machine.offerEvent, if_pos h]
    exact ⟨fun e he => by simp [he], by simp [hq, setTx], fun _ _ => by simp [waitsInTx], rfl⟩
  · rw [Machine.offerEvent, if_neg h]
    exact of_eq rfl rfl

theorem count (k : EventKind) (first : Option Nat) (c : Controller) : EventOnce c (count k first c) :=
  trans (c := { c with events := c.events.raise k first }) (of_eq rfl rfl) (offerEvent _)

theorem foldl {f : Controller → Nat → Controller} (h : ∀ b i, EventOnce b (f b i)) (l : List Nat) (c : Controller) :
    EventOnce c (l.foldl f c) := by
  induction l generalizing c with
  | nil => exact of_eq rfl rfl
  | cons i l ih => exact (h c i).trans (ih _)

/-- At most one place is taken. -/
theorem length_le (h : EventOnce c d) : d.line.tx.length ≤ c.line.tx.length + 1 := by
  have hp := h.places
  have : (!c.events.queued).toNat ≤ 1 := Bool.toNat_le _
  omega

end EventOnce

/-! ## SEED NEEDED counted for the UNKNOWN ovens (R20) -/

theorem countSeedNeeded_of_unknown {c : Controller} {i : Nat} (h : phaseAt c i = some .unknown) :
    countSeedNeeded c i = count .seedNeeded (some (ovenNumber c i)) c := if_pos h

theorem countSeedNeeded_of_ne {c : Controller} {i : Nat} (h : phaseAt c i ≠ some .unknown) : countSeedNeeded c i = c := if_neg h

theorem countSeedNeeded_once (c : Controller) (i : Nat) : EventOnce c (countSeedNeeded c i) := by
  unfold countSeedNeeded
  split
  · exact .count _ _ c
  · exact .of_eq rfl rfl

theorem phaseAt_congr {c d : Controller} (h : d.table.ovens = c.table.ovens) (i : Nat) : phaseAt d i = phaseAt c i := by
  simp [phaseAt, ovenAt, h]

/-- The controller after SEED NEEDED has been looked at for the ovens below index n. -/
def seedsCounted (n : Nat) (c : Controller) : Controller := (List.range n).foldl countSeedNeeded c

theorem seedsCounted_succ (n : Nat) (c : Controller) : seedsCounted (n + 1) c = countSeedNeeded (seedsCounted n c) n := by
  simp [seedsCounted, List.range_succ]

theorem seedsCounted_frame (n : Nat) (c : Controller) :
    (seedsCounted n c).table = c.table ∧ (seedsCounted n c).start = c.start := by
  induction n with
  | zero => exact ⟨rfl, rfl⟩
  | succ n ih => rw [seedsCounted_succ]; simpa using ih

theorem seedsCounted_once (n : Nat) (c : Controller) : EventOnce c (seedsCounted n c) :=
  .foldl countSeedNeeded_once _ c

/-- SEED NEEDED is counted once for each UNKNOWN oven. -/
theorem seedsCounted_tallied (c : Controller) :
    Tallied 7 (c.table.ovens.countP fun o => o.phase = .unknown) c (seedsCounted c.table.ovens.length c) := by
  have hp (i : Nat) : decide (phaseAt c i = some .unknown) = (c.table.ovens[i]?).any fun o => o.phase = .unknown := by
    rw [phaseAt, ovenAt]
    cases c.table.ovens[i]? <;> simp
  rw [← countP_range]
  refine .fold (P := fun b => b.table.ovens = c.table.ovens) (fun b i hb => by simpa using hb) (fun b i hb => ?_) _ rfl
  rw [← hp, ← phaseAt_congr hb]
  by_cases h : phaseAt b i = some .unknown
  · rw [countSeedNeeded_of_unknown h, if_pos (by simpa using h)]
    exact .once .seedNeeded _ b
  · rw [countSeedNeeded_of_ne h, if_neg (by simpa using h)]
    exact .of_eq rfl

/-- The lowest UNKNOWN oven is the first of an entry that had none. -/
theorem seedsCounted_first {c : Controller} {i : Nat} (ht : thirtyEntries c) (hf : (c.events.entry 7).first = none)
    (hi : phaseAt c i = some .unknown) (hlow : ∀ j, j < i → phaseAt c j ≠ some .unknown) (n : Nat) :
    thirtyEntries (seedsCounted n c)
      ∧ ((seedsCounted n c).events.entry 7).first = if i < n then some (ovenNumber c i) else none := by
  induction n with
  | zero => exact ⟨ht, hf.trans (if_neg (Nat.not_lt_zero i)).symm⟩
  | succ n ih =>
    obtain ⟨hthirty, hfirst⟩ := ih
    obtain ⟨htable, hstart⟩ := seedsCounted_frame n c
    have hphase := phaseAt_congr (c := c) (d := seedsCounted n c) (by rw [htable]) n
    have hnumber : ovenNumber (seedsCounted n c) n = ovenNumber c n := by simp [ovenNumber, cfg, hstart]
    rw [seedsCounted_succ]
    by_cases hn : phaseAt c n = some .unknown
    · have hle : i ≤ n := Nat.le_of_not_lt fun h => hlow n h hn
      rw [countSeedNeeded_of_unknown (hphase.trans hn)]
      refine ⟨(length_entries_count _ _ _).trans hthirty, ?_⟩
      have hentry := entry_count (k := .seedNeeded) (first := some (ovenNumber (seedsCounted n c) n)) hthirty
      rw [show EventKind.seedNeeded.number = 7 from rfl] at hentry
      rw [hentry, if_pos (by omega), EventEntry.raised, hfirst, hnumber]
      by_cases hlt : i < n
      · simp [hlt]
      · simp [show n = i by omega]
    · rw [countSeedNeeded_of_ne (by rwa [hphase])]
      have hne : n ≠ i := fun h => hn (h ▸ hi)
      exact ⟨hthirty, hfirst.trans (ite_congr (propext (by omega)) (fun _ => rfl) fun _ => rfl)⟩

theorem countSeedsNeeded_eq (c : Controller) : countSeedsNeeded c =
    if c.table.seedNeeded then seedsCounted c.table.ovens.length { c with table := { c.table with seedNeeded := false } } else c := rfl

theorem countSeedsNeeded_table (c : Controller) : (countSeedsNeeded c).table = { c.table with seedNeeded := false } := by
  rw [countSeedsNeeded_eq]
  split
  · rw [(seedsCounted_frame _ _).1]
  · next h =>
    have h : c.table.seedNeeded = false := by simpa using h
    rw [← h]

theorem countSeedsNeeded_once (c : Controller) : EventOnce c (countSeedsNeeded c) := by
  rw [countSeedsNeeded_eq]
  split
  · exact (EventOnce.of_eq (c := c) (d := { c with table := { c.table with seedNeeded := false } }) rfl rfl).trans (seedsCounted_once _ _)
  · exact .of_eq rfl rfl

theorem countSeedsNeeded_tallied (c : Controller) :
    Tallied 7 (if c.table.seedNeeded then c.table.ovens.countP fun o => o.phase = .unknown else 0) c (countSeedsNeeded c) := by
  rw [countSeedsNeeded_eq]
  split
  · have := seedsCounted_tallied { c with table := { c.table with seedNeeded := false } }
    exact ⟨this.length, this.count⟩
  · exact .of_eq rfl

/-! ## The entry to ACTIVE -/

/-- Where there is room, the edge PHASEs leave the push job. -/
theorem queueEdgePhases_job_of_room {c : Controller} (ha : isActive c = true) (hroom : roomFor 2 c) :
    (queueEdgePhases c).job = c.job := by
  have hqueue (i : Nat) (x : Controller) (hx : isActive x = true) (hr : x.line.tx.length < 8) :
      (queuePhase i x).job = x.job ∧ (queuePhase i x).line.tx.length ≤ x.line.tx.length + 1 := by
    have hroom : txRoom x = true := by simpa [txRoom] using hr
    unfold queuePhase
    split
    · exact ⟨offer_job_of_room hx hroom, length_offer hx hroom⟩
    · exact ⟨rfl, by omega⟩
  have hlen : c.line.tx.length + 2 ≤ 8 := hroom
  obtain ⟨hjob, hlen0⟩ := hqueue 0 c ha (by omega)
  simp only [queueEdgePhases]
  split
  · exact hjob
  · exact (hqueue _ _ (by simpa [isActive] using ha) (by omega)).1.trans hjob

theorem EventsStay.queueEdgePhases (c : Controller) : EventsStay c (queueEdgePhases c) := by
  simp only [Machine.queueEdgePhases]
  split
  · exact .queuePhase 0 c
  · exact (EventsStay.queuePhase 0 c).trans (.queuePhase _ _)

/-- The edge PHASEs leave EVENT queued where there is room. -/
theorem queueEdgePhases_queued {c : Controller} (ha : isActive c = true) (hroom : roomFor 2 c) :
    (queueEdgePhases c).events.queued = c.events.queued := by
  have hqueue (i : Nat) (x : Controller) (hx : isActive x = true) (hr : x.line.tx.length < 8) :
      (queuePhase i x).events = x.events ∧ (queuePhase i x).line.tx.length ≤ x.line.tx.length + 1 := by
    have hroom : txRoom x = true := by simpa [txRoom] using hr
    unfold queuePhase
    split
    · exact ⟨offer_events_of_room hx hroom, length_offer hx hroom⟩
    · exact ⟨rfl, by omega⟩
  have hlen : c.line.tx.length + 2 ≤ 8 := hroom
  obtain ⟨hevents, hlen0⟩ := hqueue 0 c ha (by omega)
  simp only [queueEdgePhases]
  split
  · rw [hevents]
  · rw [(hqueue _ _ (by simpa [isActive] using ha) (by omega)).1, hevents]

/-- After a free place has been offered in a queue with room, no release is owed. -/
theorem freePlace_job_of_room {c : Controller} (ha : isActive c = true) (hr : c.line.tx.length < 8) :
    (freePlace c).job = { c.job with owed := none } := by
  have hoff : (offerOwed c).job = { c.job with owed := none } := by
    cases ho : c.job.owed with
    | none =>
      rw [show offerOwed c = c by simp only [offerOwed, ho], ← ho]
    | some w => exact (offerOwed_of_room ha hr ho).1
  rw [freePlace, ← hoff]
  simp

/-- A free place with room for two takes the RELEASE owed and the EVENT. -/
theorem freePlace_offers {c : Controller} (ha : isActive c = true) (hroom : roomFor 2 c) :
    (∀ w, c.job.owed = some w → waitsInTx (releaseTelegram (ownNumber c) w.oven w.outcome) (freePlace c))
      ∧ ∀ j, c.events.queued = false → 1 ≤ j → j ≤ 30 → c.events.reportable j = true →
        (freePlace c).events.queued = true ∧ waitsInTx (eventTelegram (ownNumber c)) (freePlace c) := by
  have hlen : c.line.tx.length + 2 ≤ 8 := hroom
  have hoff := OnlyOffers.offerOwed c
  refine ⟨fun w hw => mem_offerEvent (offerOwed_of_room ha (by omega) hw).2, fun j hq h1 h30 hr => ?_⟩
  have hlen1 := length_offerOwed_of_room (c := c) (by omega)
  rw [← hoff.ownNumber]
  exact offerEvent_queues (by simpa [isActive, hoff.start] using ha) (by rw [offerOwed_events]; exact hq) (by omega) h1 h30
    (by rw [offerOwed_events]; exact hr)

/-- The controller that has become ACTIVE, before it queues anything. -/
def becameActive (c : Controller) : Controller :=
  { c with
    start := { c.start with line := .active, listen := none }
    table := { c.table with edge := some 60 }
    reg := { c.reg with mainSend := if c.reg.main.tap then some 1 else none } }

theorem listenExpires_eq {c : Controller} (h : c.start.line = .listen) :
    listenExpires c = countSeedsNeeded (queueEdgePhases (becameActive c)) := if_pos h

/-- Settles O11: the edge PHASEs find an empty queue, SEED NEEDED adds at most one EVENT to it, and what then waits finds room. -/
theorem becomesActive : Obligations.BecomesActive := by
  intro q c a z hp hdue hline htx ha hz _ haz
  obtain ⟨b, hb⟩ : ∃ b, b = modifyDue (fun d => { d with listenTimer := false }) c := ⟨_, rfl⟩
  have hstep : exec .listenTimerExpiry ⟨q, c⟩ = .next ⟨q, freePlace (listenExpires b)⟩ := by
    rw [hb]
    exact event_takeDue (due := fun c => c.due.listenTimer) hp hdue
  obtain ⟨y, hy⟩ : ∃ y, y = becameActive b := ⟨_, rfl⟩
  obtain ⟨x, hx⟩ : ∃ x, x = queueEdgePhases y := ⟨_, rfl⟩
  obtain ⟨s, hs⟩ : ∃ s, s = countSeedsNeeded x := ⟨_, rfl⟩
  have hexpires : listenExpires b = s := by rw [hs, hx, hy]; exact listenExpires_eq (by rw [hb]; exact hline)
  rw [hexpires] at hstep
  have hyactive : isActive y = true := by rw [hy]; rfl
  have hytx : y.line = c.line := by rw [hy, hb]; rfl
  have hyevents : y.events = c.events := by rw [hy, hb]; rfl
  have hynumber : ownNumber y = ownNumber c := by simp [ownNumber, hytx]
  have hroom : roomFor 2 y := by rw [roomFor, hytx, htx]; decide
  have hovens : y.table.ovens = c.table.ovens := by rw [hy, hb]; rfl
  obtain ⟨hwa, hwz, hxlen⟩ := queueEdgePhases_waits (a := a) (z := z) hyactive hroom
    ((ovenAt_congr hovens 0).trans ha) (by rw [hovens]; exact hz) haz
  rw [← hx] at hwa hwz hxlen
  have hxoff : OnlyOffers y x := hx ▸ .queueEdgePhases y
  have hxstays : EventsStay y x := hx ▸ .queueEdgePhases y
  have honce : EventOnce x s := hs ▸ countSeedsNeeded_once x
  have hstally := countSeedsNeeded_tallied x
  rw [← hs] at hstally
  have hslen : s.line.tx.length ≤ 3 := by
    have := honce.length_le
    rw [hytx, htx, List.length_nil] at hxlen
    omega
  have hsstart : s.start = y.start := by rw [hs, (countSeedsNeeded_frame x).1, hxoff.start]
  have hsactive : isActive s = true := by simpa [isActive, hsstart] using hyactive
  have hsnumber : ownNumber s = ownNumber c := by rw [honce.number, hxoff.ownNumber, hynumber]
  have hsjob : s.job = c.job := by
    rw [hs, (countSeedsNeeded_frame x).2.2.2.2.2.2.2.2.1, hx, queueEdgePhases_job_of_room hyactive hroom, hy, hb]
    rfl
  obtain ⟨hrelease, hevent⟩ := freePlace_offers hsactive (by rw [roomFor]; omega)
  have hfree := OnlyOffers.freePlace s
  have hentry7 : (freePlace s).events.entry 7 = s.events.entry 7 := by
    rw [EventTable.entry, freePlace_entries, EventTable.entry]
  have hxentry7 : x.events.entry 7 = c.events.entry 7 := by rw [hxstays.entry 7 (by decide) (by decide), hyevents]
  have hxthirty (ht : thirtyEntries c) : thirtyEntries x := hxstays.thirty (by rw [thirtyEntries, hyevents]; exact ht)
  have hxtable : x.table = { c.table with edge := some 60 } := by rw [hxoff.table, hy, hb]; rfl
  have hstable : s.table = { c.table with edge := some 60, seedNeeded := false } := by
    rw [hs, countSeedsNeeded_table, hxtable]
  refine ⟨_, hstep, ?_, ?_, ?_, ?_, ?_, ?_, ?_, ?_, ?_, ?_, ?_, ?_, fun w hw => ?_, fun j hq h1 h30 hr => ?_, fun hc => ?_, fun hno => ?_,
    fun i ht hseed hfirst hi hlow => ?_⟩
  · rw [hfree.start, hsstart, hy, hb]
    rfl
  · rw [hfree.table, hstable]
  · have hmain : y.reg.mainSend = if c.reg.main.tap then some 1 else none := by rw [hy, hb]; rfl
    rw [freePlace_reg, hs, (countSeedsNeeded_frame x).2.2.2.2.2.2.2.2.2, hx, (queueEdgePhases_frame1 y).2.2.2.2.2.2.2.2.2.2.2, hmain]
  · exact mem_freePlace (honce.kept _ (hynumber ▸ hwa)) (fun h => by cases h)
  · exact mem_freePlace (honce.kept _ (hynumber ▸ hwz)) (fun h => by cases h)
  · rw [hfree.time, hs, hx, hy, hb]
    simp [becameActive, modifyDue]
  · rw [hfree.round, hs, hx, hy, hb]
    simp [becameActive, modifyDue]
  · rw [hfree.held, hs, hx, hy, hb]
    simp [becameActive, modifyDue]
  · rw [hfree.doors, hs, hx, hy, hb]
    simp [becameActive, modifyDue]
  · rw [hfree.scan, hs, hx, hy, hb]
    simp [becameActive, modifyDue]
  · rw [hfree.line, hs, hx, hy, hb]
    simp [becameActive, modifyDue]
  · rw [freePlace_job_of_room hsactive (by omega), hsjob]
  · rw [← hsnumber]
    exact hrelease w (by rw [hsjob]; exact hw)
  · have hsreport : s.events.reportable j = true := by
      rw [EventTable.reportable, EventTable.entry] at hr ⊢
      rw [freePlace_entries, hfree.events] at hr
      exact hr
    rw [← hsnumber]
    cases hsq : s.events.queued with
    | false => exact hevent j hsq h1 h30 hsreport
    | true =>
      refine ⟨freePlace_queued hsq, mem_freePlace ?_ (fun h => by cases h)⟩
      rw [honce.number]
      refine honce.waits (fun hxq => ?_) hsq
      rw [hx, queueEdgePhases_queued hyactive hroom, hyevents, hq] at hxq
      cases hxq
  · rw [hentry7, hstally.count (hxthirty hc.1) (by rw [hxentry7]; exact entry_count_le hc 7), hxentry7, hxtable]
  · have hsame : s = x := by
      rw [hs, countSeedsNeeded_eq, hxtable]
      exact if_neg (by simpa using hno)
    rw [hentry7, hsame, hxentry7]
  · have hseeds : s = seedsCounted x.table.ovens.length { x with table := { x.table with seedNeeded := false } } := by
      rw [hs, countSeedsNeeded_eq, if_pos (by rw [hxtable]; exact hseed)]
    have hphase (j : Nat) : phaseAt { x with table := { x.table with seedNeeded := false } } j = phaseAt c j :=
      phaseAt_congr (by rw [hxtable]) j
    have hcounted := (seedsCounted_first (c := { x with table := { x.table with seedNeeded := false } }) (i := i) (hxthirty ht)
      (by rw [← hfirst, ← hxentry7]) (by rw [hphase]; exact hi) (fun j hj => by rw [hphase]; exact hlow j hj) x.table.ovens.length).2
    have hlt : i < x.table.ovens.length := by
      obtain ⟨o, ho, _⟩ := Option.map_eq_some_iff.mp hi
      rw [hxtable]
      exact (List.getElem?_eq_some_iff.mp ho).1
    have hcfg : cfg x = cfg c := by rw [cfg, cfg, hxoff.start, hy, hb]; rfl
    rw [hentry7, hseeds, hcounted, if_pos hlt]
    exact congrArg (fun g : Config => some (g.first + i)) hcfg

end Sys2Proof.Machine
end

section
/-! SUPPORT. The completion of a load that succeeds, and the door records it may form (R131, R196 to R198). -/

-- The lemmas are checked one after another, as the tests are.
set_option Elab.async false

namespace Sys2Proof.Machine

open Sys2Proof

/-! ## A sound load -/

/-- The end of the image read is no longer due. -/
def loadTaken (c : Controller) : Controller := modifyDue (fun d => { d with loadComplete := false }) c

/-- A sound image comes into force; in LISTEN nothing is offered to a free place. -/
theorem exec_loadComplete_of_sound {q : List Instr} {c : Controller} (hp : c.start.powerOn = false)
    (hdue : c.due.loadComplete = true) (hlen : imageByte c.start.image 0 + 3 ≤ c.start.image.length)
    (hsound : soundLoad c.start.straps c.start.image) :
    exec .loadComplete ⟨q, c⟩
      = .next ⟨q, loadInForce (loadedConfig c.start.image).1 (loadedConfig c.start.image).2 (loadTaken c)⟩ := by
  refine (event_takeDue (due := fun c => c.due.loadComplete) hp hdue).trans ?_
  have hload : loadCompletes (loadTaken c)
      = loadInForce (loadedConfig c.start.image).1 (loadedConfig c.start.image).2 (loadTaken c) :=
    if_pos ((loadSucceeds_iff hlen).mpr hsound)
  have hfree : freePlace (loadCompletes (loadTaken c))
      = loadInForce (loadedConfig c.start.image).1 (loadedConfig c.start.image).2 (loadTaken c) := by
    rw [hload, freePlace_of_not_active]
    simp [isActive, loadInForce_start]
  rw [← hfree]
  rfl

/-- The geometry is kept where F, k and N are as in the configuration in force (R198). -/
theorem sameGeometry_iff {old : Option Config} {g : Config} :
    sameGeometry old g = true ↔ ∃ o, old = some o ∧ o.first = g.first ∧ o.count = g.count ∧ o.last = g.last := by
  cases old with
  | none => simp [sameGeometry]
  | some o => simp [sameGeometry, and_assoc]

/-- CONFIG CLAMPED names no oven. -/
theorem countClamps_succ (n : Nat) (c : Controller) : countClamps (n + 1) c = count .seedNeeded none (countClamps n c) := by
  simp [countClamps, List.range_succ]

theorem countClamps_tallied (n : Nat) (c : Controller) : Tallied 7 n c (countClamps n c) := by
  induction n with
  | zero => exact .of_eq rfl
  | succ n ih => exact countClamps_succ n c ▸ ih.trans (.once .seedNeeded none _)

theorem countClamps_first {c : Controller} (ht : thirtyEntries c) (n : Nat) :
    ((countClamps n c).events.entry 7).first = (c.events.entry 7).first := by
  induction n with
  | zero => rfl
  | succ n ih =>
    have hentry := entry_count (k := .seedNeeded) (first := none) ((countClamps_tallied n c).length.trans ht)
    rw [show EventKind.seedNeeded.number = 7 from rfl] at hentry
    rw [countClamps_succ, hentry, EventEntry.raised, ← ih]
    exact ite_eq_right_iff.mpr fun hn => (Option.isNone_iff_eq_none.mp hn).symm

theorem countClamps_entry_ne {j : Nat} (hj : 1 ≤ j) (hne : j ≠ 7) (n : Nat) (c : Controller) :
    (countClamps n c).events.entry j = c.events.entry j := by
  induction n with
  | zero => rfl
  | succ n ih => rw [countClamps_succ, entry_count_ne (k := .seedNeeded) hj hne, ih]

/-- What is counted before the cold or the warm start: the corrections alone. -/
theorem loadBegun_entries (g : Config) (n : Nat) (c : Controller) :
    Tallied 7 n c (loadBegun g n c)
      ∧ (thirtyEntries c → ((loadBegun g n c).events.entry 7).first = (c.events.entry 7).first)
      ∧ ∀ j, 1 ≤ j → j ≠ 7 → (loadBegun g n c).events.entry j = c.events.entry j := by
  have hreport : (takeReportSet g c).events.entries = c.events.entries := by
    unfold takeReportSet
    split <;> rfl
  have hentry (j : Nat) : (takeReportSet g c).events.entry j = c.events.entry j := by simp [EventTable.entry, hreport]
  have hevents : (loadBegun g n c).events = (countClamps n (takeReportSet g c)).events := rfl
  refine ⟨?_, fun ht => ?_, fun j hj hne => ?_⟩
  · have := (Tallied.of_eq (j := 7) hreport).trans (countClamps_tallied n (takeReportSet g c))
    rw [Nat.zero_add] at this
    exact ⟨this.length, this.count⟩
  · rw [hevents, countClamps_first (by rw [thirtyEntries, hreport]; exact ht), hentry]
  · rw [hevents, countClamps_entry_ne hj hne, hentry]

/-! ## The entry to LISTEN -/

/-- The frame requested at the entry to LISTEN. -/
theorem enterListen_frames (c : Controller) :
    (c.reg.frame = none → (enterListen c).reg.frame = some (buildFrame c) ∧ (enterListen c).reg.frameHeld = false)
      ∧ ∀ f, c.reg.frame = some f → (enterListen c).reg.frame = some f ∧ (enterListen c).reg.frameHeld = true := by
  refine ⟨fun h => ?_, fun f h => ?_⟩ <;> simp [enterListen, requestFrame, modifyReg, modifyStart, h, buildFrame, commandAt, ovenAt]

/-- What the entry to LISTEN starts in the regulation unit. -/
theorem enterListen_reg (c : Controller) :
    (enterListen c).reg = { c.reg with framesOn := true, period := some (cfg c).periodTicks,
                                       frame := (enterListen c).reg.frame, frameHeld := (enterListen c).reg.frameHeld } := by
  simp only [enterListen, requestFrame]
  split <;> rfl

theorem enterListen_line (c : Controller) :
    (enterListen c).line = { c.line with number := c.start.straps.toNat, phase := .counting, ack := false } := by
  simp [enterListen, modifyReg, modifyStart]

/-- The frame is that of ListenFrame where the link stood so before. -/
theorem listenFrame_of_enterListen {c x : Controller} (h : x.reg.frame = c.reg.frame) : ListenFrame c (enterListen x) := by
  obtain ⟨hsent, hwaits⟩ := enterListen_frames x
  refine ⟨fun hf => ?_, fun f hf => hwaits f (h.trans hf)⟩
  have hov (j : Nat) : ovenAt (enterListen x) j = ovenAt x j := ovenAt_congr (by simp) j
  simp only [hov]
  exact hsent (h.trans hf)

/-! ## The door records formed (R131) -/

/-- The records as they stand once the effects of the channels below m have been worked in. -/
theorem formedUpTo_record (m : Nat) (c : Controller) (ch : Nat) :
    (formedUpTo m c).doors.doors[ch]?
      = ((formedUpTo 0 c).doors.doors[ch]?).map fun r => if ch < m then r.conflicted else r := by
  induction m with
  | zero => simp
  | succ m ih =>
    rw [formedUpTo_succ, formingEffects_doors, List.getElem?_modify, ih, Option.map_eq_map, Option.map_map]
    congr 1
    funext r
    by_cases hm : m = ch
    · subst hm
      simp
    · have hlt : ch < m + 1 ↔ ch < m := by omega
      simp [hm, hlt]

/-- Every record formed has been looked at for its conflict. -/
theorem formDoors_records (c : Controller) :
    (formDoors c).doors.doors = (List.range (2 * (cfg c).count)).map fun ch => (formedDoor c ch).conflicted := by
  rw [formDoors_eq]
  change (formedUpTo (2 * (cfg c).count) c).doors.doors = _
  apply List.ext_getElem?
  intro ch
  rw [formedUpTo_record, formedUpTo_zero_doors]
  by_cases h : ch < 2 * (cfg c).count
  · simp [h]
  · simp [h]

/-- What a channel's forming counts, where no job makes its door's removal one of its own. -/
theorem formingEffects_tallied {ch : Nat} {r : Door} {c : Controller} (hr : c.doors.doors[ch]? = some r)
    (ha : authorised c (ch / 2) = false) (hno : r.conflict = false) :
    Tallied 16 (if r.state = .removed then 1 else 0) c (formingEffects ch c)
      ∧ Tallied 17 (if r.conflicted.conflict = true then 1 else 0) c (formingEffects ch c) := by
  have hstate : doorAt c ch = some r.state := by simp [doorAt, hr]
  by_cases hremoved : r.state = .removed
  · obtain ⟨x, hx⟩ : ∃ x, x = countConflict ch c := ⟨_, rfl⟩
    have hcounts : countUnauthorised ch x = count .unauthorisedDoor (some (ovenNumber x (ch / 2))) x := by
      refine if_neg ?_
      have : authorised x (ch / 2) = authorised c (ch / 2) := 
        authorised_congr (by rw [hx]; simp) (by rw [hx]; simp)
      simp [this, ha]
    have hends : EventsStay (countUnauthorised ch x) (formingEffects ch c) := by
      rw [formingEffects, if_pos (by rw [hstate, hremoved]), ← hx]
      exact .ite (fun _ => .refl _) fun _ => .forceClose _ _
    have h16 : Tallied 16 0 c x := by
      rw [hx]
      unfold countConflict
      split
      · split
        · exact (Tallied.of_eq (j := 16) (c := c) (d := modifyDoor ch (fun d => { d with conflict := true }) c) rfl).trans
            (.other (k := .doorInputConflict) (by decide) (by decide))
        · exact .of_eq rfl
      · exact .of_eq rfl
    have h17 : Tallied 17 (if r.conflicted.conflict = true then 1 else 0) c x := by
      by_cases hl : r.latched = true
      · have hall : r.state = .removed ∧ r.latched = true ∧ r.conflict = false := ⟨hremoved, hl, hno⟩
        rw [hx, countConflict_counts hr hall, Door.conflicted, if_pos hall]
        exact (Tallied.of_eq (j := 17) (c := c) (d := modifyDoor ch (fun d => { d with conflict := true }) c) rfl).trans
          (.once .doorInputConflict _ _)
      · have hall : ¬ (r.state = .removed ∧ r.latched = true ∧ r.conflict = false) := fun h => hl h.2.1
        rw [hx, countConflict_rests hr hall, Door.conflicted, if_neg hall, hno]
        exact .of_eq rfl
    rw [if_pos hremoved]
    rw [hcounts] at hends
    have k16 : Tallied 16 1 x (count .unauthorisedDoor (some (ovenNumber x (ch / 2))) x) := .once .unauthorisedDoor _ x
    have k17 : Tallied 17 0 x (count .unauthorisedDoor (some (ovenNumber x (ch / 2))) x) :=
      .other (k := .unauthorisedDoor) (by decide) (by decide)
    have e16 := (h16.trans k16).trans (.of_stays hends (by decide) (by decide))
    have e17 := (h17.trans k17).trans (.of_stays hends (by decide) (by decide))
    exact ⟨e16, e17⟩
  · have hsame : formingEffects ch c = c := if_neg (by rw [hstate]; simpa using hremoved)
    have hconf : ¬ (r.state = .removed ∧ r.latched = true ∧ r.conflict = false) := fun h => hremoved h.1
    rw [hsame, if_neg hremoved, Door.conflicted, if_neg hconf, hno]
    exact ⟨.of_eq rfl, .of_eq rfl⟩

theorem formedUpTo_frame (m : Nat) (c : Controller) :
    (formedUpTo m c).job = c.job ∧ (formedUpTo m c).start = c.start := by
  induction m with
  | zero => exact ⟨rfl, rfl⟩
  | succ m ih => rw [formedUpTo_succ]; simpa using ih

/-- What has been counted once the effects of the channels below m have been worked in. -/
theorem formedUpTo_tallied {c : Controller} (ha : ∀ i, authorised c i = false) {m : Nat} (hm : m ≤ 2 * (cfg c).count) :
    Tallied 16 (((List.range m).map (formedDoor c)).countP fun r => r.state = .removed) c (formedUpTo m c)
      ∧ Tallied 17 (((List.range m).map (formedDoor c)).countP fun r => r.conflicted.conflict) c (formedUpTo m c) := by
  induction m with
  | zero => exact ⟨.of_eq rfl, .of_eq rfl⟩
  | succ m ih =>
    obtain ⟨h16, h17⟩ := ih (by omega)
    have hr : (formedUpTo m c).doors.doors[m]? = some (formedDoor c m) := by
      have hlt : m < 2 * (cfg c).count := by omega
      rw [formedUpTo_record, formedUpTo_zero_doors]
      simp [hlt]
    obtain ⟨hjob, hstart⟩ := formedUpTo_frame m c
    obtain ⟨k16, k17⟩ := formingEffects_tallied hr (by rw [authorised_congr hstart hjob]; exact ha _) rfl
    rw [formedUpTo_succ, List.range_succ, List.map_append, List.countP_append, List.countP_append]
    have one (p : Door → Bool) (r : Door) : [r].countP p = if p r = true then 1 else 0 := by simp [List.countP_cons]
    simp only [List.map_singleton, one, decide_eq_true_eq]
    exact ⟨h16.trans k16, h17.trans k17⟩

/-- What the forming of the door records has made is read from the door records, the ovens, the scanner and the event table. -/
theorem FormsDoors.congr {g : Config} {c d e : Controller} (h : FormsDoors g c d) (hd : e.doors = d.doors)
    (ho : e.table.ovens = d.table.ovens) (hs : e.scan.startNext = d.scan.startNext)
    (he : e.events.entries = d.events.entries) : FormsDoors g c e where
  length := by rw [hd]; exact h.length
  record := by rw [hd]; exact h.record
  closed i o hi hr := h.closed i o ((ovenAt_congr ho i).symm.trans hi) (by rwa [anyRemoved_congr hd] at hr)
  starts := hs.trans h.starts
  unauthorised hc := by rw [hd, EventTable.entry, he]; exact h.unauthorised hc
  conflicts hc := by rw [hd, EventTable.entry, he]; exact h.conflicts hc

/-- The door records formed, where no push job is under way. -/
theorem formsDoors_of_formed {c x : Controller} (ha : ∀ i, authorised x i = false)
    (hl : x.events.entries.length = c.events.entries.length) (h16 : x.events.entry 16 = c.events.entry 16)
    (h17 : x.events.entry 17 = c.events.entry 17) : FormsDoors (cfg x) c (formDoors x) := by
  obtain ⟨t16, t17⟩ := formedUpTo_tallied ha (Nat.le_refl _)
  have hrecords := formDoors_records x
  have hevents : (formDoors x).events = (formedUpTo (2 * (cfg x).count) x).events := by rw [formDoors_eq]; rfl
  have hcount (p : Door → Bool) (q : Door → Bool) (hpq : ∀ r : Door, p r.conflicted = q r) :
      (formDoors x).doors.doors.countP p = ((List.range (2 * (cfg x).count)).map (formedDoor x)).countP q := by
    rw [hrecords, List.countP_map, List.countP_map]
    exact List.countP_congr fun ch _ => by simp [hpq]
  refine ⟨by rw [hrecords]; simp, fun ch r hr => ?_, fun i o hi hr => ?_, rfl, fun hc => ?_, fun hc => ?_⟩
  · rw [hrecords, List.getElem?_map] at hr
    obtain ⟨j, hj, rfl⟩ := Option.map_eq_some_iff.mp hr
    obtain rfl : ch = j := by
      obtain ⟨hlt, hx⟩ := List.getElem?_eq_some_iff.mp hj
      simpa using hx
    have hin : (formDoors x).doors.presentIn = x.doors.presentIn ∧ (formDoors x).doors.latchedIn = x.doors.latchedIn := by simp
    rw [hin.1, hin.2]
    simp only [Door.conflicted, formedDoor, formedState]
    cases hp : acceptedAt x.doors.presentIn ch <;> cases hl : acceptedAt x.doors.latchedIn ch <;> simp
  · rw [formDoors_ovens] at hi
    obtain ⟨o', _, rfl⟩ := Option.map_eq_some_iff.mp hi
    rw [if_pos hr]
    exact ⟨rfl, rfl, rfl⟩
  · have hle := entry_count_le hc 16
    rw [hevents, t16.count (hl.trans hc.1) (by rw [h16]; exact hle), h16,
      hcount (fun r => r.state = .removed) (fun r => r.state = .removed) fun r => by rw [Door.conflicted_state]]
  · have hle := entry_count_le hc 17
    rw [hevents, t17.count (hl.trans hc.1) (by rw [h17]; exact hle), h17,
      hcount (fun r => r.conflict) (fun r => r.conflicted.conflict) fun r => rfl]

end Sys2Proof.Machine
end

section
/-! SUPPORT. The cold start: the records it leaves and the door records it forms (R20, R131, R170). -/

-- The lemmas are checked one after another, as the tests are.
set_option Elab.async false

namespace Sys2Proof.Machine

open Sys2Proof

/-! ## What the forming of the door records leaves -/

/-- Forming counts DOOR INPUT CONFLICT and UNAUTHORISED DOOR alone. -/
theorem formingEffects_entry_ne {j : Nat} (hj : 1 ≤ j) (h16 : j ≠ 16) (h17 : j ≠ 17) (ch : Nat) (c : Controller) :
    (formingEffects ch c).events.entry j = c.events.entry j
      ∧ (formingEffects ch c).events.entries.length = c.events.entries.length := by
  have hconf : (countConflict ch c).events.entry j = c.events.entry j
      ∧ (countConflict ch c).events.entries.length = c.events.entries.length := by
    unfold countConflict
    split
    · split
      · exact ⟨entry_count_ne (k := .doorInputConflict) hj h17, length_entries_count _ _ _⟩
      · exact ⟨rfl, rfl⟩
    · exact ⟨rfl, rfl⟩
  have hun (x : Controller) : (countUnauthorised ch x).events.entry j = x.events.entry j
      ∧ (countUnauthorised ch x).events.entries.length = x.events.entries.length := by
    unfold countUnauthorised
    split
    · exact ⟨rfl, rfl⟩
    · exact ⟨entry_count_ne (k := .unauthorisedDoor) hj h16, length_entries_count _ _ _⟩
  have hboth := hun (countConflict ch c)
  rw [hconf.1, hconf.2] at hboth
  unfold formingEffects
  split
  · dsimp only
    split
    · exact hboth
    · simpa using hboth
  · exact ⟨rfl, rfl⟩

theorem formDoors_entry_ne {j : Nat} (hj : 1 ≤ j) (h16 : j ≠ 16) (h17 : j ≠ 17) (c : Controller) :
    (formDoors c).events.entry j = c.events.entry j := by
  have hall (m : Nat) : (formedUpTo m c).events.entry j = c.events.entry j := by
    induction m with
    | zero => rfl
    | succ m ih => rw [formedUpTo_succ, (formingEffects_entry_ne hj h16 h17 _ _).1, ih]
  exact hall _

/-- While no frames are sent the forming changes the ovens of the table and the held request alone. -/
theorem formingEffects_rest (ch : Nat) {c : Controller} (h : c.reg.framesOn = false) :
    (formingEffects ch c).table = { c.table with ovens := (formingEffects ch c).table.ovens }
      ∧ (formingEffects ch c).reg = { c.reg with frameHeld := (formingEffects ch c).reg.frameHeld } := by
  have hreg : (countUnauthorised ch (countConflict ch c)).reg = c.reg := by simp
  have htable : (countUnauthorised ch (countConflict ch c)).table = c.table := by simp
  unfold formingEffects
  split
  · dsimp only
    split
    · exact ⟨by rw [htable], by rw [hreg]⟩
    · rw [forceClose, requestFrame, if_neg (by simp [modifyOven, h])]
      exact ⟨by simp [modifyOven], by simp [modifyOven]⟩
  · exact ⟨rfl, rfl⟩

theorem formDoors_rest {c : Controller} (h : c.reg.framesOn = false) :
    (formDoors c).table = { c.table with ovens := (formDoors c).table.ovens }
      ∧ (formDoors c).reg = { c.reg with frameHeld := (formDoors c).reg.frameHeld } := by
  have hall (m : Nat) : (formedUpTo m c).table = { c.table with ovens := (formedUpTo m c).table.ovens }
      ∧ (formedUpTo m c).reg = { c.reg with frameHeld := (formedUpTo m c).reg.frameHeld } := by
    induction m with
    | zero => exact ⟨rfl, rfl⟩
    | succ m ih =>
      obtain ⟨htable, hreg⟩ := ih
      obtain ⟨ktable, kreg⟩ := formingEffects_rest m (c := formedUpTo m c) (by rw [hreg]; exact h)
      rw [formedUpTo_succ]
      exact ⟨by rw [ktable, htable], by rw [kreg, hreg]⟩
  exact hall _

theorem formDoors_scan (c : Controller) : (formDoors c).scan = { c.scan with startNext := true } := by
  have hall (m : Nat) : (formedUpTo m c).scan = c.scan := by
    induction m with
    | zero => rfl
    | succ m ih => rw [formedUpTo_succ, (formingEffects_frame _ _).2.2.2.2.1, ih]
  rw [formDoors_eq, ← hall (2 * (cfg c).count)]
  rfl

/-! ## The cold records -/

/-- The controller that a cold start leaves, before the entry to LISTEN. -/
theorem coldStart_cases (g : Config) (c : Controller) :
    (inputsAccepted c = true ∧ coldStart g c = formDoors (coldRecords g c))
      ∨ inputsAccepted c = false ∧ coldStart g c = coldRecords g c := by
  have hinputs : inputsAccepted (coldRecords g c) = inputsAccepted c := rfl
  rw [coldStart_eq, hinputs]
  cases inputsAccepted c
  · exact .inr ⟨rfl, rfl⟩
  · exact .inl ⟨rfl, rfl⟩

/-- The ovens of a cold start: each is cold, or closed where a door of it is REMOVED. -/
theorem coldStart_ovens (g : Config) (c : Controller) :
    (coldStart g c).table.ovens = (List.range g.count).map fun i =>
      if anyRemoved (coldStart g c) i then (coldOven g i).enterClosed else coldOven g i := by
  apply List.ext_getElem?
  intro i
  have hcold : ovenAt (coldRecords g c) i = ((List.range g.count)[i]?).map (coldOven g) := by
    change ((List.range g.count).map (coldOven g))[i]? = _
    rw [List.getElem?_map]
  have hrange (f : Nat → Oven) : ((List.range g.count)[i]?).map f = ((List.range g.count)[i]?).map fun _ => f i := by
    by_cases h : i < g.count
    · simp [h]
    · simp [h]
  rw [List.getElem?_map, hrange]
  rw [hrange] at hcold
  obtain ⟨_, hc⟩ | ⟨_, hc⟩ := coldStart_cases g c
  · change ovenAt (coldStart g c) i = _
    rw [hc, formDoors_ovens, hcold, Option.map_map]
    rfl
  · change ovenAt (coldStart g c) i = _
    have hnone : anyRemoved (coldRecords g c) i = false := rfl
    rw [hc, hcold, hnone]
    rfl

/-- What a cold start leaves besides the ovens, the door records and the scanner. -/
theorem coldStart_rest (g : Config) (c : Controller) :
    (coldStart g c).table = { coldTable g with ovens := (coldStart g c).table.ovens }
      ∧ (coldStart g c).reg = { freshRegulation g false c.reg with frameHeld := (coldStart g c).reg.frameHeld }
      ∧ (coldStart g c).round = Round.closedRecord ∧ (coldStart g c).held = HeldRecord.emptyRecord g.tclaim
      ∧ (coldStart g c).job = Job.idleRecord ∧ (coldStart g c).track = Tracker.unknown g.staleLimit
      ∧ (∀ j, 1 ≤ j → j ≠ 16 → j ≠ 17 → (coldStart g c).events.entry j = c.events.entry j)
      ∧ (coldStart g c).scan.running = false := by
  obtain ⟨_, hc⟩ | ⟨_, hc⟩ := coldStart_cases g c
  · obtain ⟨htable, hreg⟩ := formDoors_rest (c := coldRecords g c) rfl
    obtain ⟨_, _, hround, hheld, _, htrack, hjob, _⟩ := formDoors_frame (coldRecords g c)
    rw [hc]
    exact ⟨htable, hreg, hround, hheld, hjob, htrack, fun j h1 h16 h17 => formDoors_entry_ne h1 h16 h17 _,
      by rw [formDoors_scan]; rfl⟩
  · rw [hc]
    exact ⟨rfl, rfl, rfl, rfl, rfl, rfl, fun _ _ _ _ => rfl, rfl⟩

theorem loadBegun_frame (g : Config) (n : Nat) (c : Controller) :
    (loadBegun g n c).start = { c.start with config := some g, reading := false, byteLeft := none }
      ∧ (loadBegun g n c).reg = c.reg ∧ (loadBegun g n c).doors = c.doors ∧ (loadBegun g n c).job = c.job
      ∧ (loadBegun g n c).table = c.table ∧ (loadBegun g n c).scan = c.scan ∧ (loadBegun g n c).due = c.due
      ∧ (loadBegun g n c).time = c.time ∧ (loadBegun g n c).line.rx = c.line.rx := by
  simp [loadBegun, modifyStart]

theorem loadBegun_enable (g : Config) (n : Nat) (c : Controller) :
    (loadBegun g n c).events.enable = if c.start.config.isNone then g.reportSet else c.events.enable := by
  have h : (loadBegun g n c).events.enable = (takeReportSet g c).events.enable := by simp [loadBegun, modifyStart]
  rw [h, takeReportSet]
  split <;> rfl

/-- A load of another geometry, or where no configuration is in force, is a cold start. -/
theorem loadInForce_of_cold {g : Config} {n : Nat} {c : Controller}
    (h : ∀ old, c.start.config = some old → ¬ (old.first = g.first ∧ old.count = g.count ∧ old.last = g.last)) :
    loadInForce g n c = enterListen (coldStart g (loadBegun g n c)) := by
  have hno : ¬ sameGeometry c.start.config g = true := fun hs => by
    obtain ⟨o, ho, hsame⟩ := sameGeometry_iff.mp hs
    exact h o ho hsame
  rw [loadInForce_eq, if_neg hno]

/-- The rows of a corrected image are ordered. -/
theorem loadedConfig_ordered (b : List Byte) : (loadedConfig b).1.unknownRow.umin ≤ (loadedConfig b).1.unknownRow.umax := by
  have h : (loadedConfig b).1.unknownRow = rowOrdered (rowInRange (rawConfig b).unknownRow) := rfl
  rw [h]
  exact Int.le_max_left _ _

theorem coldOven_integrator {g : Config} (h : g.unknownRow.umin ≤ g.unknownRow.umax) (i : Nat) :
    (coldOven g i).integrator = g.unknownRow.umin * 1024 := by
  change clampInt (g.unknownRow.umin * 1024) (g.unknownRow.umin * 1024) (g.unknownRow.umax * 1024) = _
  rw [clampInt, if_neg (by omega), if_neg (by omega)]

/-- Settles O7: the records of a cold start, entered into LISTEN. -/
theorem coldLoad : Obligations.ColdLoad := by
  intro q c g hp hdue hlen hsound hg hcold
  obtain ⟨x, hx⟩ : ∃ x, x = loadBegun g (loadedConfig c.start.image).2 (loadTaken c) := ⟨_, rfl⟩
  obtain ⟨y, hy⟩ : ∃ y, y = coldStart g x := ⟨_, rfl⟩
  have hstep : exec .loadComplete ⟨q, c⟩ = .next ⟨q, enterListen y⟩ := by
    rw [exec_loadComplete_of_sound hp hdue hlen hsound, ← hg, loadInForce_of_cold (c := loadTaken c) hcold, ← hx, ← hy]
  obtain ⟨hxstart, hxreg, _, _, _, _, _, hxtime, _⟩ := loadBegun_frame g (loadedConfig c.start.image).2 (loadTaken c)
  rw [← hx] at hxstart hxreg hxtime
  obtain ⟨htable, hreg, hround, hheld, hjob, htrack, hentry, _⟩ := coldStart_rest g x
  have hovens := coldStart_ovens g x
  rw [← hy] at htable hreg hround hheld hjob htrack hentry hovens
  have hystart : y.start = x.start := by rw [hy, (coldStart_frame g x).1]
  obtain ⟨ltime, ltable, lround, lheld, ldoors, _, _, ltrack, ljob, levents, _, _⟩ := enterListen_frame y
  have lreg := enterListen_reg y
  have lline := enterListen_line y
  have hcfg : cfg y = g := by rw [cfg, hystart, hxstart]; rfl
  rw [hcfg] at lreg
  have hremoved (j : Nat) : anyRemoved (enterListen y) j = anyRemoved y j := anyRemoved_congr ldoors j
  have hnumber : (enterListen y).line.number = c.start.straps.toNat := by rw [lline, hystart, hxstart]; rfl
  refine ⟨_, hstep, ?_, ?_, hnumber, by rw [lline], ?_, fun j o ho => ?_, ?_⟩
  · have hstart := loadInForce_start g (loadedConfig c.start.image).2 (loadTaken c)
    rw [loadInForce_of_cold (c := loadTaken c) hcold, ← hx, ← hy] at hstart
    exact hstart
  · rw [ltime, hy, (coldStart_frame g x).2.1, hxtime]
    rfl
  · rw [ltable, hovens]
    simp
  · rw [ltable, hovens, List.getElem?_map] at ho
    obtain ⟨i, hi, rfl⟩ := Option.map_eq_some_iff.mp ho
    obtain rfl : j = i := by
      obtain ⟨hlt, hx⟩ := List.getElem?_eq_some_iff.mp hi
      simpa using hx
    rw [hremoved, hy]
    cases hr : anyRemoved (coldStart g x) j with
    | false =>
      refine ⟨rfl, rfl, rfl, rfl, rfl, rfl, rfl, rfl, rfl, rfl, rfl, rfl, rfl, rfl, rfl, fun _ => ⟨rfl, rfl, ?_⟩, nofun⟩
      exact coldOven_integrator (hg ▸ loadedConfig_ordered _) j
    | true => exact ⟨rfl, rfl, rfl, rfl, rfl, rfl, rfl, rfl, rfl, rfl, rfl, rfl, rfl, rfl, rfl, nofun, fun _ => ⟨rfl, rfl, rfl⟩⟩
  · obtain ⟨tally, first, _⟩ := loadBegun_entries g (loadedConfig c.start.image).2 (loadTaken c)
    rw [← hx] at tally first
    have hentry7 : (enterListen y).events.entry 7 = x.events.entry 7 := by
      rw [levents, hentry 7 (by decide) (by decide) (by decide)]
    rw [ltable, lround, lheld, ljob, ltrack, htable, hround, hheld, hjob, htrack, hentry7, levents]
    have hframe : y.reg.frame = c.reg.frame := by rw [hreg, hxreg]; rfl
    refine ⟨rfl, rfl, rfl, rfl, rfl, rfl, rfl, rfl, rfl, rfl, rfl, ?_, ?_, ?_, ?_, ?_, listenFrame_of_enterListen hframe, ?_, ?_,
      fun hc => ⟨tally.count hc.1 (entry_count_le hc 7), first hc.1⟩⟩
    · rw [lreg, hreg]; rfl
    · rw [lreg, hreg]; rfl
    · rw [lreg, hreg]; rfl
    · rw [lreg]; rfl
    · rw [lreg]
    · rw [lreg, hreg]; rfl
    · rw [hy, (coldStart_frame g x).2.2.2.2.2.2.2.2.1, hx, loadBegun_enable]
      rfl

/-! ## The door records at a load and at the first tick -/

theorem authorised_of_idle {c : Controller} (h : c.job.oven = none) (i : Nat) : authorised c i = false := by
  simp [authorised, isJobOven, jobIndex, h]

/-- Settles O8: at a load the cold records have an idle job; at the first tick the inputs have all been accepted. -/
theorem doorsFormed : Obligations.DoorsFormed := by
  refine ⟨fun q c g hp hdue hlen hsound hg hcold hin => ?_, fun q c g p l hready hconfig hdoors hjob => ?_⟩
  · obtain ⟨x, hx⟩ : ∃ x, x = loadBegun g (loadedConfig c.start.image).2 (loadTaken c) := ⟨_, rfl⟩
    have hstep : exec .loadComplete ⟨q, c⟩ = .next ⟨q, enterListen (coldStart g x)⟩ := by
      rw [exec_loadComplete_of_sound hp hdue hlen hsound, ← hg, loadInForce_of_cold (c := loadTaken c) hcold, ← hx]
    obtain ⟨hxstart, _, hxdoors, _, _, _, _, _, _⟩ := loadBegun_frame g (loadedConfig c.start.image).2 (loadTaken c)
    rw [← hx] at hxstart hxdoors
    have hcoldEq : coldStart g x = formDoors (coldRecords g x) := by
      have hxin : inputsAccepted x = true := by
        rw [inputsAccepted, hxdoors]
        exact hin
      obtain ⟨_, h⟩ | ⟨h, _⟩ := coldStart_cases g x
      · exact h
      · rw [hxin] at h
        cases h
    have hcfg : cfg (coldRecords g x) = g := by
      change x.start.config.getD Config.blank = g
      rw [hxstart]
      rfl
    obtain ⟨tally, _, hentry⟩ := loadBegun_entries g (loadedConfig c.start.image).2 (loadTaken c)
    rw [← hx] at tally hentry
    have hforms : FormsDoors g c (formDoors (coldRecords g x)) := by
      have := formsDoors_of_formed (c := c) (x := coldRecords g x) (fun i => authorised_of_idle rfl i) tally.length
        (hentry 16 (by decide) (by decide)) (hentry 17 (by decide) (by decide))
      rwa [hcfg] at this
    obtain ⟨_, ltable, _, _, ldoors, lscan, _, _, _, levents, _, _⟩ := enterListen_frame (coldStart g x)
    refine ⟨_, hstep, ?_, ?_, ?_, ?_⟩
    · rw [lscan, (coldStart_rest g x).2.2.2.2.2.2.2]
    · rw [← hcoldEq] at hforms
      exact hforms.congr ldoors (by rw [ltable]) (by rw [lscan]) (by rw [levents])
    · rw [ldoors, (coldStart_frame g x).2.2.1, hxdoors]
      rfl
    · rw [ldoors, (coldStart_frame g x).2.2.2.1, hxdoors]
      rfl
  · obtain ⟨y, hy⟩ : ∃ y, y = ticked p l c := ⟨_, rfl⟩
    have hticked := ticked_eq p l hready.2
    rw [← hy] at hticked
    have hpresent : y.doors.presentIn = sampleInputs p c.doors.presentIn := by rw [hticked]
    have hlatched : y.doors.latchedIn = sampleInputs l c.doors.latchedIn := by rw [hticked]
    have hydoors : y.doors.doors = [] := by rw [hticked]; exact hdoors
    have hyevents : y.events = c.events := by rw [hticked]
    have hsampled (x : BitVec 16) (s : List DoorInput) : (sampleInputs x s).all (·.accepted.isSome) = true := by
      rw [List.all_eq_true]
      intro i hi
      obtain ⟨ch, hch⟩ := List.mem_iff_getElem?.mp hi
      rw [getElem?_sampleInputs] at hch
      obtain ⟨d, _, rfl⟩ := Option.map_eq_some_iff.mp hch
      unfold DoorInput.sample
      (repeat' split) <;> rfl
    have hlate : lateForming y = formDoors y := by
      refine if_pos ?_
      have hsome : y.start.config = some g := by rw [hticked]; exact hconfig
      simp [hsome, hydoors, inputsAccepted, hpresent, hlatched, hsampled]
    obtain ⟨m, hm⟩ : ∃ m, m = timeTick (formDoors y) := ⟨_, rfl⟩
    have hstep : exec (.tick10ms p l) ⟨q, c⟩ = .next ⟨q, freePlace m⟩ := by
      rw [exec_tick10ms_of_ready p l hready, tickBase_eq, ← hy, hlate, ← hm]
    rw [timeTick_eq] at hm
    have hcfg : cfg y = g := by rw [hticked, cfg, hconfig]; rfl
    have hforms : FormsDoors g c (formDoors y) := by
      have := formsDoors_of_formed (c := c) (x := y) (authorised_of_idle (by rw [hticked]; exact hjob)) (by rw [hyevents])
        (by rw [hyevents]) (by rw [hyevents])
      rwa [hcfg] at this
    have hoff := OnlyOffers.freePlace m
    have hfdoors : (freePlace m).doors = (formDoors y).doors := by rw [hoff.doors, hm]
    have hfovens : (freePlace m).table.ovens = (formDoors y).table.ovens := by rw [hoff.table, hm]
    have haccepted (x : BitVec 16) (s : List DoorInput) (ch : Nat) (i : DoorInput) (hi : s[ch]? = some i)
        (hnone : i.accepted = none) : acceptedAt (sampleInputs x s) ch = x.getLsbD ch := by
      simp [acceptedAt, getElem?_sampleInputs, hi, DoorInput.sample, hnone]
    refine ⟨_, hstep, hforms.congr hfdoors hfovens (by rw [hoff.scan, hm]) (by rw [freePlace_entries, hm]), ?_, fun ch i hi hn => ?_,
      fun ch i hi hn => ?_, fun j o ho hr => ?_⟩
    · rw [hoff.due, hm]
      simp [hticked, hdoors]
    · have : (formDoors y).doors.presentIn = sampleInputs p c.doors.presentIn := by rw [← hpresent]; simp
      rw [hfdoors, this]
      exact haccepted p _ ch i hi hn
    · have : (formDoors y).doors.latchedIn = sampleInputs l c.doors.latchedIn := by rw [← hlatched]; simp
      rw [hfdoors, this]
      exact haccepted l _ ch i hi hn
    · have hyo : ovenAt y j = some o := by rw [hticked]; exact ho
      rw [anyRemoved_congr hfdoors] at hr
      rw [ovenAt_congr hfovens, formDoors_ovens, hyo, Option.map_some, hr]
      rfl

end Sys2Proof.Machine
end

section
/-! SUPPORT. The warm start: the records it keeps and empties, and the settlement of the push job (R21, R22, R100). -/

-- The lemmas are checked one after another, as the tests are.
set_option Elab.async false

namespace Sys2Proof.Machine

open Sys2Proof

/-- A load of the same geometry is a warm start. -/
theorem loadInForce_of_warm {g old : Config} {n : Nat} {c : Controller} (h : c.start.config = some old)
    (hfirst : old.first = g.first) (hcount : old.count = g.count) (hlast : old.last = g.last) :
    loadInForce g n c = enterListen (warmRecords g (settleJob (loadBegun g n c))) := by
  rw [loadInForce_eq, if_pos (sameGeometry_iff.mpr ⟨old, h, hfirst, hcount, hlast⟩)]
  rfl

/-- Outside ACTIVE the corrections counted leave the transmit queue. -/
theorem loadBegun_line {g : Config} {n : Nat} {c : Controller} (ha : isActive c = false) : (loadBegun g n c).line = c.line := by
  have hclamps (x : Controller) (hx : isActive x = false) : (countClamps n x).line = x.line := by
    induction n with
    | zero => rfl
    | succ n ih =>
      have hact : isActive (countClamps n x) = false := by simpa [isActive] using hx
      have hcount (y : Controller) (hy : isActive y = false) : (count .seedNeeded none y).line = y.line := by
        rw [count, offerEvent, if_neg]
        simpa [isActive] using fun h => by simp [isActive, h] at hy
      rw [countClamps_succ, hcount _ hact, ih]
  have hreport : (takeReportSet g c).line = c.line := by simp
  have hline : (loadBegun g n c).line = (countClamps n (takeReportSet g c)).line := rfl
  rw [hline, hclamps _ (by simpa [isActive] using ha), hreport]

/-- A job in IDLE, BIDDING or CLAIMING is IDLE after the settlement. -/
theorem settleJob_of_idle {c : Controller} (h : c.job.state = .idle ∨ c.job.state = .bidding ∨ c.job.state = .claiming) :
    settleJob c = idleJob c := by
  have hno : c.job.state.beyondClaiming = false := by obtain h | h | h := h <;> rw [h] <;> rfl
  rw [settleJob, hno]
  rfl

/-- Settles O9: the settlement idles the job alone, and the warm records keep the rest. -/
theorem warmLoadKeeps : Obligations.WarmLoadKeeps := by
  intro q c old g hp hdue hlen hsound hg hconfig hfirst hcount hlast hline hjob
  obtain ⟨x, hx⟩ : ∃ x, x = loadBegun g (loadedConfig c.start.image).2 (loadTaken c) := ⟨_, rfl⟩
  have hwarm : loadInForce g (loadedConfig c.start.image).2 (loadTaken c) = enterListen (warmRecords g (settleJob x)) := by
    rw [hx]
    exact loadInForce_of_warm hconfig hfirst hcount hlast
  obtain ⟨hxstart, hxreg, hxdoors, hxjob, hxtable, hxscan, _, hxtime, _⟩ :=
    loadBegun_frame g (loadedConfig c.start.image).2 (loadTaken c)
  have hxline : x.line = c.line := by rw [hx, loadBegun_line (by simp [loadTaken, isActive, modifyDue, hline])]; rfl
  have hxenable := loadBegun_enable g (loadedConfig c.start.image).2 (loadTaken c)
  obtain ⟨tally, first, _⟩ := loadBegun_entries g (loadedConfig c.start.image).2 (loadTaken c)
  rw [← hx] at hxstart hxreg hxdoors hxjob hxtable hxscan hxtime hxenable tally first
  obtain ⟨y, hy⟩ : ∃ y, y = warmRecords g (settleJob x) := ⟨_, rfl⟩
  have hsettle : settleJob x = idleJob x := settleJob_of_idle (by rw [hxjob]; exact hjob)
  rw [hsettle] at hy
  have hstep : exec .loadComplete ⟨q, c⟩ = .next ⟨q, enterListen y⟩ := by
    rw [exec_loadComplete_of_sound hp hdue hlen hsound, ← hg, hwarm, hsettle, ← hy]
  obtain ⟨ltime, ltable, lround, lheld, ldoors, lscan, _, ltrack, ljob, levents, lrx, ltx⟩ := enterListen_frame y
  have lreg := enterListen_reg y
  have lline := enterListen_line y
  have hystart : y.start = x.start := by rw [hy]; rfl
  have hcfg : cfg y = g := by rw [cfg, hystart, hxstart]; rfl
  rw [hcfg] at lreg
  have hyline : y.line = c.line := by rw [hy]; exact hxline
  have hyreg : y.reg = freshRegulation g x.reg.framesOn x.reg := by rw [hy]; rfl
  have hyevents : y.events = x.events := by rw [hy]; rfl
  refine ⟨_, hstep, ?_, ?_, ?_, ?_, ?_, ?_, ?_, ?_, ?_, ?_, ?_, ?_, ?_, ?_, ?_, ?_, ?_, ?_, ?_, fun hc => ?_⟩
  · have hstart := loadInForce_start g (loadedConfig c.start.image).2 (loadTaken c)
    rw [hwarm, hsettle, ← hy] at hstart
    exact hstart
  · rw [ltime, hy]
    exact hxtime
  · rw [lline, hystart, hxstart]
    rfl
  · rw [lrx, hyline]
  · rw [ltx, hyline]
  · rw [ltable, hy]
    change { x.table with edge := none, seedNeeded := false } = _
    rw [hxtable]
    rfl
  · rw [ldoors, hy]
    change x.doors.presentIn = _
    rw [hxdoors]
    rfl
  · rw [ldoors, hy]
    change x.doors.latchedIn = _
    rw [hxdoors]
    rfl
  · rw [ldoors, hy]
    change x.doors.doors.map _ = _
    rw [hxdoors]
    rfl
  · rw [lscan, hy]
    exact hxscan
  · rw [lround, hy]
    rfl
  · rw [lheld, hy]
    rfl
  · rw [ljob, hy]
    change x.job.toIdle = _
    rw [hxjob]
    rfl
  · rw [ltrack, hy]
    rfl
  · rw [lreg, hyreg]
    rfl
  · rw [lreg]
    rfl
  · rw [levents, hyevents, hxenable]
    change (if c.start.config.isNone then g.reportSet else c.events.enable) = _
    rw [hconfig]
    rfl
  · rw [lreg]
  · exact listenFrame_of_enterListen (by rw [hyreg, hxreg]; rfl)
  · rw [levents, hyevents]
    exact ⟨tally.count hc.1 (entry_count_le hc 7), first hc.1⟩

/-! ## The settlement of the push job (R100) -/

theorem settleJob_at {i n : Nat} {o : Oven} {c : Controller} (hs : c.job.state.beyondClaiming = true) (hn : c.job.oven = some n)
    (hi : ovenIndex c n = some i) (ho : ovenAt c i = some o) : settleJob c = settleJobAt i n o.phase c := by
  have hidx : jobIndex c = some i := by rw [jobIndex, hn]; exact hi
  have hphase : phaseAt c i = some o.phase := by rw [phaseAt, ho]; rfl
  simp only [settleJob, hs, if_true, hn, hidx, hphase]

/-- The record of the push job after its settlement with a door of its oven REMOVED. -/
def settledOff (p : Phase) (j : Job) : Job :=
  { j.enter .reclosing with started := (settledFlags p).1, ended := (settledFlags p).2, minutes := 0, holdSecs := 0, cause := none }

/-- With a door of its oven REMOVED the job is RECLOSING, and an oven in PUSHING is STICKER. -/
theorem settleJobAt_removed {i n : Nat} {o : Oven} {c : Controller} (ha : isActive c = false) (ho : ovenAt c i = some o)
    (hr : anyRemoved c i = true) :
    (settleJobAt i n o.phase c).job = settledOff o.phase c.job
      ∧ (∃ o', ovenAt (settleJobAt i n o.phase c) i = some o' ∧ o'.minutes = o.minutes
          ∧ o'.phase = if o.phase = .pushing then .sticker else o.phase)
      ∧ ∀ j, j ≠ i → ovenAt (settleJobAt i n o.phase c) j = ovenAt c j := by
  obtain ⟨m, hm⟩ : ∃ m, m = modifyJob (settledOff o.phase) c := ⟨_, rfl⟩
  have hset : settleJobAt i n o.phase c = if o.phase = .pushing then setPhase i .sticker m else m := by
    rw [settleJobAt, if_pos hr, hm]
    rfl
  have hmo (j : Nat) : ovenAt m j = ovenAt c j := by rw [hm]; rfl
  rw [hset]
  split
  · obtain ⟨_, hphase, hminutes, _⟩ := movedOven_keeps (cfg m) .sticker (anyRemoved m i) o
    have hov (j : Nat) : ovenAt (setPhase i .sticker m) j = if i = j then (ovenAt m j).map (movedOven (cfg m) .sticker (anyRemoved m i))
        else ovenAt m j := by
      simp only [ovenAt, setPhase_ovens, List.getElem?_modify]
      split
      · rfl
      · simp
    refine ⟨?_, ⟨_, ?_, hminutes, hphase⟩, fun j hj => ?_⟩
    · rw [setPhase_job_of_not_active (by rw [hm]; exact ha), hm]
      rfl
    · rw [hov, if_pos rfl, hmo, ho]
      rfl
    · rw [hov, if_neg (Ne.symm hj), hmo]
  · exact ⟨by rw [hm]; rfl, ⟨o, by rw [hmo, ho], rfl, rfl⟩, fun j _ => hmo j⟩

/-- With no door of its oven REMOVED the job is IDLE and owes a RELEASE, and the oven leaves the job phases. -/
theorem settleJobAt_shut {i n : Nat} {o : Oven} {c : Controller} (ha : isActive c = false) (ho : ovenAt c i = some o)
    (hr : anyRemoved c i = false) :
    (settleJobAt i n o.phase c).job = { Job.idleRecord with owed := some ⟨n, settledOutcome o.phase⟩ }
      ∧ ovenAt (settleJobAt i n o.phase c) i = some (o.afterJob (cfg c))
      ∧ ∀ j, j ≠ i → ovenAt (settleJobAt i n o.phase c) j = ovenAt c j := by
  obtain ⟨m, hm⟩ : ∃ m, m = modifyJob (fun j => { j.toIdle with owed := some ⟨n, settledOutcome o.phase⟩ }) c := ⟨_, rfl⟩
  have hset : settleJobAt i n o.phase c = settlePhase i m := by
    rw [settleJobAt, hr, hm]
    rfl
  have hmr : anyRemoved m i = false := by rw [hm]; exact hr
  obtain ⟨hoven, hothers⟩ := settlePhase_ovenAt (i := i) (o := o) (c := m) (by rw [hm]; exact ho) hmr
  rw [hset]
  refine ⟨?_, ?_, fun j hj => ?_⟩
  · rw [settlePhase_job_of_not_active (by rw [hm]; exact ha), hm]
    rfl
  · rw [hoven, hm]
    rfl
  · rw [hothers j hj, hm]
    rfl

/-- Settles O10: by the doors of the job oven, and then by its phase. -/
theorem warmLoadSettles : Obligations.WarmLoadSettles := by
  intro q c old g i n o hp hdue hlen hsound hg hconfig hfirst hcount hlast hline hs hn hi ho
  obtain ⟨x, hx⟩ : ∃ x, x = loadBegun g (loadedConfig c.start.image).2 (loadTaken c) := ⟨_, rfl⟩
  obtain ⟨hxstart, _, hxdoors, hxjob, hxtable, _, _, _, _⟩ := loadBegun_frame g (loadedConfig c.start.image).2 (loadTaken c)
  rw [← hx] at hxstart hxdoors hxjob hxtable
  have hxo (j : Nat) : ovenAt x j = ovenAt c j := ovenAt_congr (by rw [hxtable]; rfl) j
  have hxi : ovenIndex x n = some i := by
    have hcfg : cfg x = g := by rw [cfg, hxstart]; rfl
    have hcfgc : cfg c = old := by rw [cfg, hconfig]; rfl
    rw [← hi, ovenIndex, ovenIndex, hcfg, hcfgc, hfirst, hcount]
  have hxactive : isActive x = false := by rw [isActive, hxstart]; simp [loadTaken, modifyDue, hline]
  have hxjob' : x.job = c.job := hxjob
  have hxr : anyRemoved x i = anyRemoved c i := anyRemoved_congr hxdoors i
  obtain ⟨y, hy⟩ : ∃ y, y = settleJobAt i n o.phase x := ⟨_, rfl⟩
  have hsettle : settleJob x = y := by
    rw [hy]
    exact settleJob_at (by rw [hxjob']; exact hs) (by rw [hxjob']; exact hn) hxi (by rw [hxo]; exact ho)
  have hstep : exec .loadComplete ⟨q, c⟩ = .next ⟨q, enterListen (warmRecords g y)⟩ := by
    rw [exec_loadComplete_of_sound hp hdue hlen hsound, ← hg, loadInForce_of_warm (c := loadTaken c) hconfig hfirst hcount hlast,
      ← hx, hsettle]
  have hov (j : Nat) : ovenAt (enterListen (warmRecords g y)) j = ovenAt y j := ovenAt_congr (by simp [warmRecords]) j
  have hjob : (enterListen (warmRecords g y)).job = y.job := by simp [warmRecords]
  cases hr : anyRemoved c i with
  | true =>
    obtain ⟨kjob, ⟨o', ho', hminutes, hphase⟩, hothers⟩ :=
      settleJobAt_removed (n := n) hxactive ((hxo i).trans ho) (hxr.trans hr)
    rw [← hy] at kjob ho' hothers
    rw [hxjob'] at kjob
    refine ⟨_, o', hstep, (hov i).trans ho', hminutes, fun j hj => by rw [hov, hothers j hj, hxo], ?_⟩
    rw [hjob, kjob]
    refine ⟨rfl, rfl, fun _ => ⟨rfl, hn, rfl, rfl, rfl, rfl, rfl, fun h => ?_, fun h => ?_, fun h => ?_⟩, fun h => nomatch h⟩
    · obtain h | h := h <;> rw [hphase, h] <;> exact ⟨rfl, rfl, rfl⟩
    · rw [hphase, h]
      exact ⟨rfl, rfl, rfl⟩
    · obtain h | h := h <;> rw [hphase, h] <;> exact ⟨rfl, rfl, rfl⟩
  | false =>
    obtain ⟨kjob, ho', hothers⟩ := settleJobAt_shut (n := n) hxactive ((hxo i).trans ho) (hxr.trans hr)
    rw [← hy] at kjob ho' hothers
    refine ⟨_, _, hstep, (hov i).trans ho', afterJob_minutes _ o, fun j hj => by rw [hov, hothers j hj, hxo], ?_⟩
    rw [hjob, kjob]
    refine ⟨rfl, rfl, (fun h => by cases h), fun _ => ⟨rfl, rfl, fun h => ?_, fun h => ?_, fun h => ?_⟩⟩
    · obtain h | h := h <;> simp [Oven.afterJob, settledOutcome, h]
    · simp [Oven.afterJob, settledOutcome, h]
    · obtain h | h := h <;> simp [Oven.afterJob, settledOutcome, h]

end Sys2Proof.Machine
end

section
/-! SUPPORT. A telegram of the station that has not completed (R28, R29). -/

-- The lemmas are checked one after another, as the tests are.
set_option Elab.async false

namespace Sys2Proof.Machine

open Sys2Proof

/-- The controller whose telegram has been broken off, before the block of a dropped entry is told. -/
def brokenOff (p : LinePhase) (c : Controller) : Controller :=
  { c with line := { c.line with phase := p, tx := clearOnLine c.line.tx } }

theorem breakOff_eq (p : LinePhase) (t : Telegram) (f : Fate) (c : Controller) :
    breakOff p t f c = if f = .dropped then notTaken t (brokenOff p c) else brokenOff p c := rfl

theorem breakOff_offers (p : LinePhase) (t : Telegram) (f : Fate) (c : Controller) : OnlyOffers (brokenOff p c) (breakOff p t f c) := by
  rw [breakOff_eq]
  split
  · exact .notTaken t _
  · exact .refl _

theorem breakOff_tx (p : LinePhase) (t : Telegram) (f : Fate) (c : Controller) :
    (breakOff p t f c).line.tx = clearOnLine c.line.tx := by
  rw [breakOff_eq]
  split
  · exact notTaken_tx _ _
  · rfl

theorem breakOff_entries (p : LinePhase) (t : Telegram) (f : Fate) (c : Controller) :
    (breakOff p t f c).events.entries = c.events.entries := by
  rw [breakOff_eq]
  split
  · exact notTaken_entries _ _
  · rfl

/-- An entry stays when what waits is offered, a PERMIT where no release is owed. -/
theorem mem_freePlace_of_kind {x : TxEntry} {c : Controller} (h : x ∈ c.line.tx)
    (hk : x.tel.kind ≠ some .permit ∨ c.job.owed = none) : x ∈ (freePlace c).line.tx := by
  obtain hk | hk := hk
  · exact mem_freePlace h hk
  · rw [freePlace_of_none_owed hk]
    exact mem_offerEvent h

/-- What joins the queue when what waits is offered is an EVENT or a RELEASE. -/
theorem kind_of_mem_freePlace {x : TxEntry} {c : Controller} (h : x ∈ (freePlace c).line.tx) :
    x ∈ c.line.tx ∨ x.tel.kind = some .event ∨ x.tel.kind = some .release := by
  obtain rfl | ⟨_, _, rfl⟩ | h := mem_of_mem_freePlace h
  · exact .inr (.inl rfl)
  · exact .inr (.inr rfl)
  · exact .inl h

/-- No EVENT is offered where one waits. -/
theorem offerEvent_of_queued {c : Controller} (h : c.events.queued = true) : offerEvent c = c := if_neg (by simp [h])

theorem count_of_queued {k : EventKind} {first : Option Nat} {c : Controller} (h : c.events.queued = true) :
    count k first c = { c with events := c.events.raise k first } := offerEvent_of_queued h

/-- Settles O37: what a broken-off telegram leaves, and what waits and is then offered. -/
theorem brokenOffStays : Obligations.BrokenOffStays := by
  intro q c t f tx hready hphase htx
  have htx' : clearOnLine c.line.tx = tx := htx.symm
  have hbroken (p : LinePhase) : brokenOff p c = { c with line := { c.line with phase := p, tx := tx } } := by
    rw [brokenOff, htx']
  have hjob (p : LinePhase) (hf : f ≠ .dropped) : breakOff p t f c = brokenOff p c := if_neg hf
  have howed (p : LinePhase) (e : TxEntry) (hk : e.tel.kind ≠ some .permit ∨ c.job.owed = none ∧ f ≠ .dropped) :
      e.tel.kind ≠ some .permit ∨ (breakOff p t f c).job.owed = none := hk.imp_right fun ⟨ho, hf⟩ => by rw [hjob p hf]; exact ho
  refine ⟨?_, fun hthirty => ?_⟩
  · obtain ⟨b, hb⟩ : ∃ b, b = breakOff .receiving t f c := ⟨_, rfl⟩
    have hbtx : b.line.tx = tx := by rw [hb, breakOff_tx, htx']
    have hstep : exec .arbitrationLost ⟨q, c⟩ = .next ⟨q, freePlace b⟩ := by
      have hloses : losesArbitration c = b := by simp only [losesArbitration, hphase, hb]
      rw [← hloses]
      exact act_of_ready hready
    refine ⟨_, hstep, ?_, fun e he hk => ?_, fun e he => ?_, fun hf hwaits => ?_⟩
    · rw [← hbroken, hb]
      exact (breakOff_offers _ t f c).trans (.freePlace _)
    · exact mem_freePlace_of_kind (by rw [hbtx]; exact he) (hb ▸ howed .receiving e hk)
    · rw [← hbtx]
      exact kind_of_mem_freePlace he
    · have hkept : nothingWaits b = true := by
        have hlen : tx.length = c.line.tx.length := by rw [htx, List.length_map]
        rw [hb, hjob _ hf, hbroken]
        simpa [nothingWaits, isActive, txRoom, hlen] using hwaits
      rw [freePlace_of_nothingWaits hkept, hbtx]
  · obtain ⟨b, hb⟩ : ∃ b, b = breakOff .counting t f c := ⟨_, rfl⟩
    have hbtx : b.line.tx = tx := by rw [hb, breakOff_tx, htx']
    have hbentries : b.events.entries = c.events.entries := by rw [hb, breakOff_entries]
    have hstep : exec .lineError ⟨q, c⟩ = .next ⟨q, freePlace (count .lineError none b)⟩ := by
      have herrs : lineErrs c = count .lineError none b := by simp only [lineErrs, hphase, hb]
      rw [← herrs]
      exact act_of_ready hready
    refine ⟨_, hstep, ?_, ?_, fun e he hk => ?_, fun e he => ?_, fun hf ho hq => ?_⟩
    · exact countedOnce_of_stays (k := .lineError) (.freePlace _) (.of_eq hbentries) (by decide) hthirty
    · rw [← hbroken, hb]
      exact ((breakOff_offers _ t f c).trans (.count _ _ _)).trans (.freePlace _)
    · refine mem_freePlace_of_kind (mem_count _ _ (by rw [hbtx]; exact he)) ?_
      have : (count .lineError none b).job = b.job := by simp
      rw [this]
      exact hb ▸ howed .counting e hk
    · obtain he | he := kind_of_mem_freePlace he
      · obtain rfl | he := mem_of_mem_count he
        · exact .inr (.inl rfl)
        · exact .inl (hbtx ▸ he)
      · exact .inr he
    · have hbsame : b = brokenOff .counting c := by rw [hb, hjob _ hf]
      have hbq : b.events.queued = true := by rw [hbsame]; exact hq
      have hbo : (count .lineError none b).job.owed = none := by
        rw [show (count .lineError none b).job = b.job by simp, hbsame]
        exact ho
      have hqueued : (count .lineError none b).events.queued = true := by rw [count_of_queued hbq]; exact hbq
      rw [freePlace_of_none_owed hbo, offerEvent_of_queued hqueued, count_of_queued hbq]
      exact hbtx

end Sys2Proof.Machine
end

section
/-! SUPPORT. A telegram of the station that has been sent: what its entry's leaving and its report make of the queue and of the
block that queued it (R31, R43, R53, R108, R162, R190). -/

-- The lemmas are checked one after another, as the tests are.
set_option Elab.async false

namespace Sys2Proof.Machine

open Sys2Proof

/-! ## Entries that are not on the line -/

/-- From c to d no entry has been put on the line: what is new in the queue waits. -/
def Unsent (c d : Controller) : Prop := ∀ x ∈ d.line.tx, x ∈ c.line.tx ∨ x.onLine = false

namespace Unsent

variable {b c d : Controller}

theorem of_eq (h : d.line.tx = c.line.tx) : Unsent c d := fun _ hx => .inl (h ▸ hx)

theorem refl (c : Controller) : Unsent c c := of_eq rfl

theorem trans (h : Unsent b c) (k : Unsent c d) : Unsent b d := fun x hx => (k x hx).elim (h x) .inr

theorem offerEvent (c : Controller) : Unsent c (offerEvent c) := fun _ hx =>
  (mem_of_mem_offerEvent hx).elim (fun h => .inr (by rw [h])) .inl

theorem count (k : EventKind) (first : Option Nat) (c : Controller) : Unsent c (count k first c) := fun _ hx =>
  (mem_of_mem_count hx).elim (fun h => .inr (by rw [h])) .inl

theorem withdraw (p : Telegram → Bool) (c : Controller) : Unsent c (withdraw p c) := fun _ hx => .inl (mem_of_mem_withdraw hx).1

theorem offer (t : Telegram) (c : Controller) : Unsent c (offer t c) := fun _ hx =>
  (mem_of_mem_offer hx).elim (fun h => .inr (by rw [h])) fun h => h.elim (fun h => .inr (by rw [h])) .inl

theorem freePlace (c : Controller) : Unsent c (freePlace c) := fun x hx => by
  obtain rfl | ⟨_, _, rfl⟩ | h := mem_of_mem_freePlace hx
  · exact .inr rfl
  · exact .inr rfl
  · exact .inl h

theorem setPhase (i : Nat) (p : Phase) (c : Controller) : Unsent c (setPhase i p c) := by
  obtain ⟨m, hm⟩ : ∃ m, m = modifyOven i (fun o => ({ o with phase := p }).withStage (cfg c)) c := ⟨_, rfl⟩
  have hset : (Machine.setPhase i p c).line = (queuePhase i m).line := by
    rw [Machine.setPhase, ← hm]
    simp
  have hqueue : Unsent m (queuePhase i m) := by
    unfold queuePhase
    split
    · exact offer _ m
    · exact refl m
  have hstart : Unsent c m := of_eq (by rw [hm]; rfl)
  exact (hstart.trans hqueue).trans (of_eq (by rw [hset]))

theorem offerPermit (n code : Nat) (c : Controller) : Unsent c (offerPermit n code c) := (withdraw _ c).trans (offer _ _)

theorem offerHalt (n : Nat) (c : Controller) : Unsent c (offerHalt n c) := (withdraw _ c).trans (offer _ _)

theorem offerRelease (n : Nat) (out : PushOutcome) (c : Controller) : Unsent c (offerRelease n out c) :=
  (withdraw _ c).trans (offer _ _)

theorem ite {p : Prop} [Decidable p] {x y : Controller} (hx : p → Unsent c x) (hy : ¬p → Unsent c y) :
    Unsent c (if p then x else y) := by
  split
  · exact hx ‹_›
  · exact hy ‹_›

theorem holdPush (cause : HoldCause) (n : Nat) (c : Controller) : Unsent c (holdPush cause n c) := by
  rw [holdPush_eq]
  have hoffered : Unsent c (holdOffered cause n c) := by
    unfold holdOffered
    exact ite (fun _ => trans (of_eq rfl) (offerHalt n (stopHold c))) fun _ => of_eq rfl
  exact (hoffered.trans (of_eq rfl)).trans (count _ _ _)

theorem resumePush (n : Nat) (c : Controller) : Unsent c (resumePush n c) := by
  have hstop : Unsent c (stopHold c) := of_eq rfl
  have hhalt : Unsent (stopHold c) (withdrawHalt n (stopHold c)) := withdraw _ _
  have hpermit := (hstop.trans hhalt).trans (offerPermit n permitPushCode _)
  simp only [Machine.resumePush]
  exact ite (fun _ => hpermit.trans (of_eq rfl)) fun _ => hpermit.trans (of_eq rfl)

theorem evaluate (c : Controller) : Unsent c (evaluate c) := by
  unfold Machine.evaluate
  split
  · next n i _ _ =>
    refine ite (fun _ => ?_) fun _ => refl c
    unfold evaluateFor
    split
    · exact ite (fun _ => (offerPermit n permitPushCode c).trans (of_eq rfl)) fun _ => refl c
    · exact ite (fun _ => refl c) fun _ => holdPush _ _ c
    · exact ite (fun _ => refl c) fun _ => holdPush _ _ c
    · exact ite (fun _ => resumePush n c) fun _ => refl c
    · exact refl c
  · exact refl c

theorem earlyDoor (i n : Nat) (c : Controller) : Unsent c (earlyDoor i n c) := by
  have hdoors : Unsent c (enterJob .doors (Machine.offerPermit n permitDoorsCode (Machine.setPhase i .isolated (Machine.count .earlyDoor (some n) c)))) :=
    (((count _ _ c).trans (setPhase i .isolated _)).trans (offerPermit n _ _)).trans (of_eq rfl)
  unfold Machine.earlyDoor
  refine ite (fun _ => ?_) fun _ => hdoors
  exact (hdoors.trans (of_eq rfl)).trans (evaluate (enterJob .staged _))

theorem requestCall (n : Nat) (c : Controller) : Unsent c (requestCall n c) := by
  have hstart : Unsent c (modifyCall (fun k =>
      { k with step := .pending, oven := some n, queued := false, expiries := 0, remaining := 0 }) (stopTravel c)) := of_eq rfl
  refine hstart.trans (ite (fun _ => ?_) fun _ => refl _)
  unfold offerCall
  split
  · exact trans (of_eq rfl) (offer _ _)
  · exact refl _

theorem claimSent (ident : Nat) (c : Controller) : Unsent c (claimSent ident c) := by
  unfold Machine.claimSent
  refine ite (fun _ => ?_) fun _ => refl c
  split
  · next n i _ _ =>
    refine ite (fun _ => ?_) fun _ => ?_
    · exact (offerRelease n .abandoned c).trans (of_eq rfl)
    · simp only [enterClaimed]
      generalize hm : modifyJob (fun j =>
        { j.enter .claimed with minutes := 0, started := false, ended := false, cause := none, holdSecs := 0 }) c = m
      have hjob : Unsent c m := hm ▸ of_eq rfl
      have hcalled : Unsent c (Machine.requestCall n (Machine.setPhase i .isolating m)) :=
        (hjob.trans (setPhase i .isolating m)).trans (requestCall n _)
      exact ite (fun _ => hcalled.trans (earlyDoor i n _)) fun _ => hcalled
  · exact refl c

end Unsent

/-! ## The report -/

/-- The controller once the entry that was on the line has left the queue. -/
def entryLeft (c : Controller) : Controller :=
  { c with line := { c.line with phase := .ended, tx := c.line.tx.filter fun x => !x.onLine } }

theorem telegramCompletes_eq {c : Controller} {t : Telegram} {f : Fate} (ack : Bool) (h : c.line.phase = .sending t f) :
    telegramCompletes ack c = countWhere (!ack) .loneTelegram none
      (if f = .withdrawn then entryLeft c else reportSent t (entryLeft c)) := by
  simp only [telegramCompletes, h]
  cases ack <;> rfl

/-- A report other than that of a CLAIM or of an EVENT leaves the queue, the event table and the job. -/
theorem reportSent_leaves {t : Telegram} (h1 : t.kind ≠ some .claim) (h2 : t.kind ≠ some .event) (c : Controller) :
    (reportSent t c).line = c.line ∧ (reportSent t c).events = c.events ∧ (reportSent t c).job = c.job
      ∧ (reportSent t c).start = c.start := by
  unfold reportSent
  split
  · unfold bidSent
    split <;> exact ⟨rfl, rfl, rfl, rfl⟩
  · exact absurd ‹_› h1
  · unfold callSent
    split
    · exact ⟨rfl, rfl, rfl, rfl⟩
    · split
      · exact ⟨rfl, rfl, rfl, rfl⟩
      · exact ⟨rfl, rfl, rfl, rfl⟩
      · dsimp only
        split <;> exact ⟨rfl, rfl, rfl, rfl⟩
  · exact ⟨rfl, rfl, rfl, rfl⟩
  · exact absurd ‹_› h2
  · exact ⟨rfl, rfl, rfl, rfl⟩

/-- The event table after the carried kind's entry has been emptied and EVENT queued has become no (R190). -/
def EventTable.reported (t : EventTable) : EventTable :=
  { (t.carried.elim t fun j => t.emptyEntry j) with queued := false }

theorem eventSent_eq (c : Controller) : eventSent c = offerEvent { c with events := c.events.reported } := by
  unfold eventSent EventTable.reported
  split
  · next j hj => rw [hj]; rfl
  · next hj => rw [hj]; rfl

theorem reported_entry_ne {t : EventTable} {m : Nat} (h : ∀ j, t.carried = some j → j - 1 ≠ m - 1) :
    t.reported.entry m = t.entry m := by
  unfold EventTable.reported
  cases hj : t.carried with
  | none => rfl
  | some j =>
    simp [EventTable.entry, EventTable.emptyEntry, h j hj]

theorem reported_entry {t : EventTable} {j : Nat} (h : t.carried = some j) : t.reported.entry j = EventEntry.emptied := by
  simp only [EventTable.reported, h, Option.elim_some, EventTable.entry, EventTable.emptyEntry, List.getElem?_modify_eq]
  cases t.entries[j - 1]? <;> rfl

theorem length_reported (t : EventTable) : t.reported.entries.length = t.entries.length := by
  unfold EventTable.reported
  cases t.carried with
  | none => rfl
  | some j => simp [EventTable.emptyEntry]

/-- No EVENT is queued where nothing can be reported. -/
theorem offerEvent_not_queued {c : Controller} (hq : c.events.queued = false)
    (hno : ∀ m, 1 ≤ m → m ≤ 30 → c.events.reportable m = false) : (offerEvent c).events.queued = false := by
  have hany : c.events.anyReportable = false := by
    rw [Bool.eq_false_iff]
    intro h
    obtain ⟨m, h1, h30, hm⟩ := anyReportable_iff.mp h
    rw [hno m h1 h30] at hm
    cases hm
  rw [offerEvent, if_neg (by simp [hany])]
  exact hq

theorem reportable_congr {c d : Controller} (he : d.events.entries = c.events.entries) (hen : d.events.enable = c.events.enable) (m : Nat) :
    d.events.reportable m = c.events.reportable m := by
  rw [EventTable.reportable, EventTable.reportable, EventTable.entry, EventTable.entry, he, hen]

/-- A count makes no kind less reportable. -/
theorem reportable_raise {t : EventTable} {k : EventKind} {first : Option Nat} {m : Nat} (ht : t.entries.length = 30)
    (h : (t.raise k first).reportable m = false) : t.reportable m = false := by
  rw [Bool.eq_false_iff] at h ⊢
  refine fun hm => h ?_
  simp only [EventTable.reportable, Bool.and_eq_true, decide_eq_true_eq] at hm ⊢
  refine ⟨?_, hm.2⟩
  by_cases hk : k.number - 1 = m - 1
  · have hlt : m - 1 < t.entries.length := by
      have : k.number - 1 < 30 := by cases k <;> decide
      omega
    have hraised : ((t.raise k first).entry m).count = min 255 ((t.entries[m - 1]).count + 1) := by
      simp [EventTable.entry, EventTable.raise, hk, List.getElem?_eq_getElem hlt, EventEntry.raised]
    rw [hraised]
    omega
  · have := hm.1
    simpa [EventTable.entry, EventTable.raise, hk] using this

end Sys2Proof.Machine
end

section
/-! SUPPORT. The sending report of every kind but the CLAIM (R53, R92, R108, R162, R190). -/

-- The lemmas are checked one after another, as the tests are.
set_option Elab.async false

namespace Sys2Proof.Machine

open Sys2Proof

/-- From e to r the work of a sending report has added at most an EVENT to the queue, and has left the job. -/
structure Reported (e r : Controller) : Prop where
  kept : ∀ x ∈ e.line.tx, x ∈ r.line.tx
  new : ∀ x ∈ r.line.tx, x ∈ e.line.tx ∨ x.tel.kind = some .event
  room : r.line.tx.length + (!r.events.queued).toNat ≤ e.line.tx.length + 1
  job : r.job = e.job
  start : r.start = e.start
  number : ownNumber r = ownNumber e
  thirty : thirtyEntries e → thirtyEntries r

namespace Reported

variable {e r : Controller}

theorem of_eq (hl : r.line = e.line) (hev : r.events = e.events) (hj : r.job = e.job) (hs : r.start = e.start) : Reported e r where
  kept _ hx := by rwa [hl]
  new _ hx := .inl (by rwa [hl] at hx)
  room := by
    have := Bool.toNat_le (!r.events.queued)
    rw [hl]
    omega
  job := hj
  start := hs
  number := by rw [ownNumber, ownNumber, hl]
  thirty h := by rw [thirtyEntries, hev]; exact h

theorem eventSent (e : Controller) : Reported e (eventSent e) := by
  rw [eventSent_eq]
  obtain ⟨m, hm⟩ : ∃ m, m = { e with events := e.events.reported } := ⟨_, rfl⟩
  rw [← hm]
  have honce := EventOnce.offerEvent m
  have hoff := OnlyOffers.offerEvent m
  have hline : m.line = e.line := by rw [hm]
  refine ⟨fun x hx => honce.kept x (by rw [hline]; exact hx), fun x hx => ?_, ?_, ?_, ?_, ?_, fun ht => ?_⟩
  · obtain rfl | hx := mem_of_mem_offerEvent hx
    · exact .inr rfl
    · exact .inl (hline ▸ hx)
  · have hplaces := honce.places
    have := Bool.toNat_le (!m.events.queued)
    rw [hline] at hplaces
    omega
  · have : (offerEvent m).job = m.job := by simp
    rw [this, hm]
  · rw [hoff.start, hm]
  · rw [honce.number, ownNumber, hline]
    rfl
  · rw [thirtyEntries, offerEvent_entries, hm]
    exact (length_reported _).trans ht

theorem reportSent {t : Telegram} (h : t.kind ≠ some .claim) (e : Controller) : Reported e (reportSent t e) := by
  by_cases hk : t.kind = some .event
  · have : Machine.reportSent t e = Machine.eventSent e := by simp only [Machine.reportSent, hk]
    rw [this]
    exact eventSent e
  · obtain ⟨hl, hev, hj, hs⟩ := reportSent_leaves h hk e
    exact of_eq hl hev hj hs

/-- What is offered after the report: an EVENT, and the RELEASE owed. -/
theorem queue (h : Reported e r) (p : Bool) (k : EventKind) :
    (∀ x ∈ e.line.tx, (x.tel.kind ≠ some .permit ∨ e.job.owed = none) → x ∈ (freePlace (countWhere p k none r)).line.tx)
      ∧ ∀ x ∈ (freePlace (countWhere p k none r)).line.tx,
        x ∈ e.line.tx ∨ x.tel.kind = some .event ∨ x.tel.kind = some .release := by
  have hjob : (countWhere p k none r).job = e.job := by
    rw [← h.job]
    cases p
    · rfl
    · exact (count_frame k none r).2.2.2.2.2.2.2.2.2.1
  refine ⟨fun x hx hk => mem_freePlace_of_kind ?_ (by rw [hjob]; exact hk), fun x hx => ?_⟩
  · cases p
    · exact h.kept x hx
    · exact mem_count _ _ (h.kept x hx)
  · obtain hx | hx := kind_of_mem_freePlace hx
    · have hr : x ∈ r.line.tx ∨ x.tel.kind = some .event := by
        cases p
        · exact .inl hx
        · exact (mem_of_mem_count hx).elim (fun h => .inr (by rw [h]; rfl)) .inl
      exact hr.elim (fun hr => (h.new x hr).imp_right .inl) fun hr => .inr (.inl hr)
    · exact .inr hx

/-- The RELEASE owed takes the free place. -/
theorem release (h : Reported e r) {p : Bool} {k : EventKind} {w : OwedRelease} (ha : isActive e = true) (hw : e.job.owed = some w)
    (hr : e.line.tx.length < 7 ∨ e.line.tx.length = 7 ∧ p = false ∧ r.line = e.line) :
    (freePlace (countWhere p k none r)).job.owed = none
      ∧ waitsInTx (releaseTelegram (ownNumber e) w.oven w.outcome) (freePlace (countWhere p k none r)) := by
  have hoff := OnlyOffers.countWhere p k none r
  have hjob : (countWhere p k none r).job = e.job := by
    rw [← h.job]
    cases p
    · rfl
    · exact (count_frame k none r).2.2.2.2.2.2.2.2.2.1
  have hactive : isActive (countWhere p k none r) = true := by rw [isActive, hoff.start, h.start]; exact ha
  have hlen : (countWhere p k none r).line.tx.length < 8 := by
    obtain hr | ⟨hr, rfl, hl⟩ := hr
    · have hroom := h.room
      cases p
      · exact Nat.lt_of_le_of_lt (Nat.le_trans (Nat.le_add_right _ _) hroom) (by omega)
      · have := (EventOnce.count k none r).places
        exact Nat.lt_of_le_of_lt (Nat.le_trans (Nat.le_add_right _ _) (Nat.le_trans (Nat.le_of_eq this) hroom)) (by omega)
    · change r.line.tx.length < 8
      rw [hl]
      omega
  refine ⟨by rw [freePlace_job_of_room hactive hlen], ?_⟩
  have hwait := (offerOwed_of_room hactive hlen (by rw [hjob]; exact hw)).2
  rw [hoff.ownNumber, h.number] at hwait
  exact mem_offerEvent hwait

end Reported

/-- What a count and a free place leave of a queue in which nothing can be offered. -/
theorem queue_of_waiting {r : Controller} (p : Bool) (k : EventKind) (ho : r.job.owed = none) (hq : r.events.queued = true) :
    (freePlace (countWhere p k none r)).line.tx = r.line.tx := by
  have hz : (countWhere p k none r).line = r.line ∧ (countWhere p k none r).job = r.job ∧ (countWhere p k none r).events.queued = true := by
    cases p
    · exact ⟨rfl, rfl, hq⟩
    · rw [countWhere, if_pos rfl, count_of_queued hq]
      exact ⟨rfl, rfl, hq⟩
  rw [freePlace_of_none_owed (by rw [hz.2.1]; exact ho), offerEvent_of_queued hz.2.2, hz.1]

/-- LONE TELEGRAM is counted after a report that has counted none. -/
theorem loneTelegram_counted {c r : Controller} (ht : thirtyEntries r) (h : r.events.entry 3 = c.events.entry 3) :
    countedOnce 3 c (freePlace (countWhere true .loneTelegram none r)) := by
  have hentry := entry_count (k := .loneTelegram) (first := none) ht
  rw [show EventKind.loneTelegram.number = 3 from rfl] at hentry
  rw [countedOnce, (EventsStay.freePlace _).entry 3 (by decide) (by decide)]
  change ((count .loneTelegram none r).events.entry 3).count = _
  rw [hentry, h]
  rfl

/-! ## The CALL (R108, R109, R110) -/

theorem callSent_of_none {n : Nat} {c : Controller} (h : c.track.call.step = .none ∨ c.track.call.oven ≠ some n) : callSent n c = c := by
  by_cases ho : c.track.call.oven = some n
  · have hs := h.resolve_right fun h => h ho
    rw [callSent, if_neg (by simpa using ho), hs]
  · rw [callSent, if_pos ho]

theorem callSent_of_sent {n : Nat} {c : Controller} (hs : c.track.call.step = .sent) (ho : c.track.call.oven = some n) :
    callSent n c = modifyCall (fun k => { k with queued := false }) c := by
  rw [callSent, if_neg (by simpa using ho), hs]

/-- The car is where the CALL has been sent for. -/
def carReady (n : Nat) (c : Controller) : Prop :=
  c.track.car.stale = false ∧ c.track.car.place = some .oven ∧ c.track.car.spot = some n ∧ c.track.car.state = some .empty

theorem carAtCall_iff {n : Nat} {c : Controller} (ho : c.track.call.oven = some n) :
    (carAtCall c && !c.track.car.stale) = true ↔ carReady n c := by
  simp only [carAtCall, carReady, ho, Option.isSome_some, Bool.and_true, Bool.and_eq_true, beq_iff_eq, Bool.not_eq_true']
  exact ⟨fun ⟨⟨⟨h1, h2⟩, h3⟩, h4⟩ => ⟨h4, h1, h2, h3⟩, fun ⟨h4, h1, h2, h3⟩ => ⟨⟨⟨h1, h2⟩, h3⟩, h4⟩⟩

theorem callSent_of_pending {n : Nat} {c : Controller} (hs : c.track.call.step = .pending) (ho : c.track.call.oven = some n) :
    (carReady n c → callSent n c = stopTravel (modifyCall Call.ended c))
      ∧ (¬ carReady n c → callSent n c = modifyCall (fun k => { k with
          step := .sent, queued := false, limit := travelLimit (cfg c) c.track.car n, remaining := travelLimit (cfg c) c.track.car n }) c) := by
  obtain ⟨m, hm⟩ : ∃ m, m = modifyCall (fun k => { k with step := .sent, queued := false }) c := ⟨_, rfl⟩
  have hsent : callSent n c = if (carAtCall m && !m.track.car.stale) = true then arrive m
      else modifyCall (fun k => { k with limit := travelLimit (cfg m) m.track.car n, remaining := travelLimit (cfg m) m.track.car n }) m := by
    rw [callSent, if_neg (by simpa using ho), hs, hm]
  have hiff : (carAtCall m && !m.track.car.stale) = true ↔ carReady n c := by
    rw [carAtCall_iff (n := n) (by rw [hm]; exact ho), hm]
    rfl
  refine ⟨fun h => ?_, fun h => ?_⟩
  · rw [hsent, if_pos (hiff.mpr h), hm]
    rfl
  · rw [hsent, if_neg fun hx => h (hiff.mp hx), hm]
    rfl

/-- From where the car's way is reckoned. -/
theorem carFrom_eq (g : Config) (r : CarRecord) :
    carFrom g r = if r.place = some .oven ∨ r.place = some .transit then r.spot.getD g.tower else g.tower := by
  unfold carFrom
  cases hp : r.place with
  | none => simp
  | some p => cases p <;> cases r.spot <;> simp

/-! ## The report of each kind -/

section
variable {e : Controller} {t : Telegram}

theorem reportSent_quiet (h : t.kind = some .halt ∨ t.kind = some .release ∨ t.kind = some .permit ∨ t.kind = some .phase) :
    reportSent t e = e := by
  obtain h | h | h | h := h <;> simp only [reportSent, h]

theorem reportSent_bid (h : t.kind = some .bid) : reportSent t e = bidSent t e := by simp only [reportSent, h]

theorem reportSent_main (h : t.kind = some .main) : reportSent t e = modifyMain (fun m => { m with queued := false }) e := by
  simp only [reportSent, h]

theorem reportSent_event (h : t.kind = some .event) : reportSent t e = offerEvent { e with events := e.events.reported } := by
  rw [← eventSent_eq]
  simp only [reportSent, h]

theorem reportSent_call (h : t.kind = some .call) : reportSent t e = callSent t.oven e := by simp only [reportSent, h]

end

/-- With nothing left to report, no EVENT is queued after the report of one. -/
theorem eventSent_not_queued {m : Controller} {p : Bool} (hq : m.events.queued = false) (ht : thirtyEntries m)
    (hno : ∀ k, 1 ≤ k → k ≤ 30 → (freePlace (countWhere p .loneTelegram none (offerEvent m))).events.reportable k = false) :
    (freePlace (countWhere p .loneTelegram none (offerEvent m))).events.queued = false := by
  obtain ⟨r, hr⟩ : ∃ r, r = offerEvent m := ⟨_, rfl⟩
  obtain ⟨z, hz⟩ : ∃ z, z = countWhere p .loneTelegram none r := ⟨_, rfl⟩
  rw [← hr, ← hz] at hno ⊢
  have hrthirty : r.events.entries.length = 30 := by rw [hr, offerEvent_entries]; exact ht
  have hznone (k : Nat) (h1 : 1 ≤ k) (h30 : k ≤ 30) : z.events.reportable k = false := by
    rw [← reportable_congr (freePlace_entries z) (by simp) k]
    exact hno k h1 h30
  have hraised : p = true → ∀ k, 1 ≤ k → k ≤ 30 → (r.events.raise .loneTelegram none).reportable k = false := by
    rintro rfl k h1 h30
    have hsame := reportable_congr (c := { r with events := r.events.raise .loneTelegram none }) (d := z)
      (by rw [hz]; exact offerEvent_entries _) (by rw [hz]; simp [countWhere, EventTable.raise]) k
    rw [← hsame]
    exact hznone k h1 h30
  have hrnone (k : Nat) (h1 : 1 ≤ k) (h30 : k ≤ 30) : r.events.reportable k = false := by
    cases p
    · rw [hz] at hznone
      exact hznone k h1 h30
    · exact reportable_raise hrthirty (hraised rfl k h1 h30)
  have hmnone (k : Nat) (h1 : 1 ≤ k) (h30 : k ≤ 30) : m.events.reportable k = false := by
    rw [← reportable_congr (d := r) (by rw [hr, offerEvent_entries]) (by rw [hr]; simp) k]
    exact hrnone k h1 h30
  have hrq : r.events.queued = false := hr ▸ offerEvent_not_queued hq hmnone
  have hzq : z.events.queued = false := by
    rw [hz]
    cases p
    · exact hrq
    · exact offerEvent_not_queued (c := { r with events := r.events.raise .loneTelegram none }) hrq (hraised rfl)
  exact offerEvent_not_queued (by rw [offerOwed_events]; exact hzq) fun k h1 h30 => by
    rw [offerOwed_events]
    exact hznone k h1 h30

/-- What the report of the EVENT makes of the event table, and what is then counted and queued. -/
theorem eventSent_table {e d : Controller} {ack : Bool} {j : Nat} (ht : thirtyEntries e) (hj : e.events.carried = some j) (h1 : 1 ≤ j)
    (hd : d = freePlace (countWhere (!ack) .loneTelegram none (offerEvent { e with events := e.events.reported }))) :
    (d.events.entry j).count = (if ack = false ∧ j = 3 then 1 else 0) ∧ (d.events.entry j).first = none
      ∧ (∀ m, 1 ≤ m → m ≤ 30 → m ≠ j → m ≠ 6 → (ack = true ∨ m ≠ 3) → d.events.entry m = e.events.entry m)
      ∧ ((∀ m, 1 ≤ m → m ≤ 30 → d.events.reportable m = false) → d.events.queued = false)
      ∧ OnlyOffers e d := by
  obtain ⟨m, hm⟩ : ∃ m, m = { e with events := e.events.reported } := ⟨_, rfl⟩
  obtain ⟨r, hr⟩ : ∃ r, r = offerEvent m := ⟨_, rfl⟩
  rw [← hm] at hd
  have hmthirty : thirtyEntries m := by rw [hm]; exact (length_reported _).trans ht
  have hrentries : r.events.entries = m.events.entries := by rw [hr, offerEvent_entries]
  have hrthirty : thirtyEntries r := by rw [thirtyEntries, hrentries]; exact hmthirty
  have hrentry (k : Nat) : r.events.entry k = e.events.reported.entry k := by rw [EventTable.entry, hrentries, hm]; rfl
  have hdentry (k : Nat) : d.events.entry k = (countWhere (!ack) .loneTelegram none r).events.entry k := by
    rw [EventTable.entry, hd, freePlace_entries, ← hr, EventTable.entry]
  have hd3 : d.events.entry 3 = if ack then r.events.entry 3 else EventEntry.raised none (r.events.entry 3) := by
    rw [hdentry]
    cases ack
    · exact entry_count (k := .loneTelegram) (first := none) hrthirty
    · rfl
  have hdother (k : Nat) (hk : 1 ≤ k) (h3 : k ≠ 3) : d.events.entry k = e.events.reported.entry k := by
    rw [hdentry, ← hrentry]
    exact countWhere_entry_ne hk h3
  have hempty := reported_entry hj
  refine ⟨?_, ?_, fun k hk _ hkj _ hlone => ?_, fun hno => ?_, ?_⟩
  · by_cases h3 : j = 3
    · subst h3
      rw [hd3, hrentry, hempty]
      cases ack <;> rfl
    · rw [hdother j h1 h3, hempty, if_neg fun h => h3 h.2]
      rfl
  · by_cases h3 : j = 3
    · subst h3
      rw [hd3, hrentry, hempty]
      cases ack <;> rfl
    · rw [hdother j h1 h3, hempty]
      rfl
  · have hrep : e.events.reported.entry k = e.events.entry k :=
      reported_entry_ne fun i hi => by
        obtain rfl : j = i := Option.some.inj (hj.symm.trans hi)
        omega
    by_cases h3 : k = 3
    · subst h3
      have hack : ack = true := hlone.resolve_right fun h => h rfl
      rw [hd3, if_pos hack, hrentry, hrep]
    · rw [hdother k hk h3, hrep]
  · rw [hd] at hno ⊢
    exact eventSent_not_queued (by rw [hm]; rfl) hmthirty hno
  · have hmoff : OnlyOffers e m := by
      rw [hm]
      refine ⟨rfl, rfl, rfl, rfl, rfl, rfl, rfl, rfl, rfl, .inl rfl, rfl, rfl, ?_, .inl rfl⟩
      unfold EventTable.reported
      cases e.events.carried <;> rfl
    rw [hd]
    exact ((hmoff.trans (.offerEvent m)).trans (.countWhere _ _ _ _)).trans (.freePlace _)

end Sys2Proof.Machine
end

section
/-! SUPPORT. What the sending report of a CLAIM counts, and the sending report of every kind (R31). -/

-- The lemmas are checked one after another, as the tests are.
set_option Elab.async false

namespace Sys2Proof.Machine

open Sys2Proof

namespace Reports

variable {ks : List Nat} {c : Controller}

theorem requestCall (n : Nat) (c : Controller) : Reports ks c (requestCall n c) := by
  obtain ⟨m, hm⟩ : ∃ m, m = modifyCall (fun k =>
      { k with step := .pending, oven := some n, queued := false, expiries := 0, remaining := 0 }) (stopTravel c) := ⟨_, rfl⟩
  have hstart : Reports ks c m := hm ▸ of_stays rfl (.of_eq rfl)
  have hoffer : Reports ks m (offerCall m) := by
    unfold offerCall
    split
    · have hcall : Reports ks m (modifyCall (fun k => { k with queued := true }) m) := of_stays rfl (.of_eq rfl)
      exact hcall.trans (offers (.offer _ _) (.offer _ _))
    · exact refl m
  have hall : Reports ks c (if m.track.car.state = some .empty then offerCall m else m) := ite (fun _ => hstart.trans hoffer) fun _ => hstart
  rw [hm] at hall
  exact hall

/-- The sending report of a CLAIM counts at most EARLY DOOR and PUSH HELD. -/
theorem claimSent (ident : Nat) (c : Controller) : Reports [15, 25] c (claimSent ident c) := by
  have hjob (f : Job → Job) (x : Controller) : Reports [15, 25] x (modifyJob f x) := of_stays rfl (.of_eq rfl)
  unfold Machine.claimSent
  refine ite (fun _ => ?_) fun _ => refl c
  split
  · next n i _ _ =>
    refine ite (fun _ => ?_) fun _ => ?_
    · exact (offers (.offerRelease n _ c) (.offerRelease n _ c)).trans (of_stays rfl (.idleJob _))
    · have hcalled := ((hjob (fun j =>
        { j.enter .claimed with minutes := 0, started := false, ended := false, cause := none, holdSecs := 0 }) c).trans
        (setPhase i .isolating _)).trans (requestCall n _)
      exact ite (fun _ => hcalled.trans (earlyDoor (by decide) (by decide) i n _)) fun _ => hcalled
  · exact refl c

end Reports

/-- The report of a kind whose entry LONE TELEGRAM's is not. -/
theorem reportSent_lone {t : Telegram} {e : Controller} (ht : thirtyEntries e) (h : t.kind ≠ some .event ∨ e.events.carried ≠ some 3) :
    thirtyEntries (reportSent t e) ∧ (reportSent t e).events.entry 3 = e.events.entry 3 := by
  by_cases hclaim : t.kind = some .claim
  · have hreport : reportSent t e = claimSent t.ident e := by simp only [reportSent, hclaim]
    have hrep := Reports.claimSent t.ident e
    rw [hreport]
    exact ⟨hrep.length.trans ht, hrep.entry 3 (by decide) (by decide) (by decide)⟩
  · by_cases hevent : t.kind = some .event
    · have hcarried := h.resolve_left fun h => h hevent
      refine ⟨(Reported.reportSent hclaim e).thirty ht, ?_⟩
      rw [reportSent_event hevent, EventTable.entry, offerEvent_entries]
      exact reported_entry_ne fun j hj hidx => hcarried (by rw [hj, show j = 3 by omega])
    · obtain ⟨_, hev, _⟩ := reportSent_leaves hclaim hevent e
      exact ⟨by rw [thirtyEntries, hev]; exact ht, by rw [hev]⟩

theorem stopTravel_of_nothing {c : Controller} (h : c.due = Due.nothing) : stopTravel c = c := by
  rw [stopTravel, h, show ({ Due.nothing with travelTimer := false } : Due) = Due.nothing from rfl, ← h]

/-- Settles O38: the report by kind, then what is counted and offered. -/
theorem sentIsReported : Obligations.SentIsReported := by
  intro q c e t f ack hready hthirty hphase he
  have he' : e = entryLeft c := he
  obtain ⟨r, hr⟩ : ∃ r, r = if f = .withdrawn then e else reportSent t e := ⟨_, rfl⟩
  obtain ⟨d, hd⟩ : ∃ d, d = freePlace (countWhere (!ack) .loneTelegram none r) := ⟨_, rfl⟩
  have hstep : exec (.telegramSent ack) ⟨q, c⟩ = .next ⟨q, d⟩ := by
    have hall : telegramCompletes ack c = countWhere (!ack) .loneTelegram none r := by rw [telegramCompletes_eq ack hphase, hr, he']
    rw [hd, ← hall]
    exact act_of_ready hready
  have hoff : OnlyOffers r d := by
    rw [hd]
    exact (OnlyOffers.countWhere _ _ _ r).trans (.freePlace _)
  have hedue : e.due = Due.nothing := by rw [he]; exact hready.2
  have heact : isActive e = isActive c := by rw [he]; rfl
  have henumber : ownNumber e = ownNumber c := by rw [he]; rfl
  have hecall : e.track = c.track := by rw [he]
  have hgone : f = .withdrawn → r = e := fun h => by rw [hr, if_pos h]
  have hreports : f ≠ .withdrawn → r = reportSent t e := fun h => by rw [hr, if_neg h]
  have hreported (h : t.kind ≠ some .claim) : Reported e r := by
    rw [hr]
    split
    · exact .of_eq rfl rfl rfl rfl
    · exact .reportSent h e
  have hleaves (h1 : t.kind ≠ some .claim) (h2 : t.kind ≠ some .event) :
      r.line = e.line ∧ r.events = e.events ∧ r.job = e.job := by
    rw [hr]
    split
    · exact ⟨rfl, rfl, rfl⟩
    · obtain ⟨hl, hev, hj, _⟩ := reportSent_leaves h1 h2 e
      exact ⟨hl, hev, hj⟩
  have hdtrack : d.track = r.track := by
    have hcount : (countWhere (!ack) .loneTelegram none r).track = r.track := by cases ack <;> simp [countWhere]
    rw [hd, freePlace_track, hcount]
  have hdmain : d.reg = r.reg := by
    have hcount : (countWhere (!ack) .loneTelegram none r).reg = r.reg := by cases ack <;> simp [countWhere]
    rw [hd, freePlace_reg, hcount]
  refine ⟨d, hstep, fun x hx => ?_, fun hk => ?_, fun h1 h2 ho hq => ?_, fun w hk ha hw hroom => ?_, fun hlone hk => ?_, fun h => ?_,
    fun hf hk hown hopen => ?_, fun hf hk hno => ?_, fun hf hk => ?_, fun j hf hk hj h1 _ => ?_, fun hf hk hno => ?_,
    fun hf hk hs ho => ?_, fun w l hf hk hs ho hw hl => ?_⟩
  · have hunsent : Unsent e d := by
      have hreport : Unsent e r := by
        by_cases hk : t.kind = some .claim
        · rw [hr]
          refine .ite (fun _ => .refl e) fun _ => ?_
          have : reportSent t e = claimSent t.ident e := by simp only [reportSent, hk]
          rw [this]
          exact .claimSent _ _
        · by_cases h2 : t.kind = some .event
          · rw [hr]
            refine .ite (fun _ => .refl e) fun _ => ?_
            rw [reportSent_event h2]
            exact Unsent.trans (.of_eq rfl) (.offerEvent _)
          · exact .of_eq (by rw [(hleaves hk h2).1])
      rw [hd]
      refine (hreport.trans ?_).trans (.freePlace _)
      cases ack
      · exact .count _ _ r
      · exact .refl r
    obtain hx | hx := hunsent x hx
    · rw [he] at hx
      simpa using (List.mem_filter.mp hx).2
    · exact hx
  · obtain ⟨hkept, hnew⟩ := (hreported hk).queue (!ack) .loneTelegram
    rw [← hd] at hkept hnew
    exact ⟨fun x hx hp => hkept x hx (by rw [he]; exact hp), hnew⟩
  · obtain ⟨hl, hev, hj⟩ := hleaves h1 h2
    rw [hd, queue_of_waiting _ _ (by rw [hj, he]; exact ho) (by rw [hev, he]; exact hq), hl]
  · have hrelease := (hreported hk).release (p := !ack) (k := .loneTelegram) (w := w) (heact.trans ha) (by rw [he]; exact hw)
      (hroom.imp_right fun ⟨hlen, hack, h2⟩ => ⟨hlen, by rw [hack]; rfl, (hleaves hk h2).1⟩)
    rw [← hd, henumber] at hrelease
    exact hrelease
  · have hethirty : thirtyEntries e := by rw [he]; exact hthirty
    have hsame : thirtyEntries r ∧ r.events.entry 3 = e.events.entry 3 := by
      by_cases hf : f = .withdrawn
      · rw [hgone hf]
        exact ⟨hethirty, rfl⟩
      · rw [hreports hf]
        exact reportSent_lone hethirty ((hk.resolve_left hf).imp_right fun h => by rw [he]; exact h)
    rw [hd, hlone]
    exact loneTelegram_counted hsame.1 (hsame.2.trans (by rw [he]))
  · obtain hf | hk := h
    · exact hgone hf ▸ hoff
    · have hsame : r = e := by
        rw [hr]
        split
        · rfl
        · exact reportSent_quiet hk
      exact hsame ▸ hoff
  · have hbid : r = modifyRound (fun r => { r with ownSent := true, bids := enterBid ⟨t.src, t.oven, t.ident⟩ r.bids }) e := by
      rw [hreports hf, reportSent_bid hk, bidSent, if_pos (by rw [he]; exact ⟨hown, hopen⟩)]
    rw [hbid] at hoff
    rw [he] at hoff ⊢
    exact hoff
  · have hbid : r = e := by
      rw [hreports hf, reportSent_bid hk, bidSent, if_neg]
      rw [he]
      exact fun ⟨h1, h2⟩ => hno.elim (fun h => h h1) fun h => by rw [h] at h2; cases h2
    exact hbid ▸ hoff
  · have hmain : r = modifyMain (fun m => { m with queued := false }) e := by rw [hreports hf, reportSent_main hk]
    refine ⟨by rw [hdmain, hmain]; rfl, ?_⟩
    rw [hmain] at hoff
    rw [he] at hoff ⊢
    exact hoff
  · have htable := eventSent_table (e := e) (d := d) (ack := ack) (j := j) (by rw [he]; exact hthirty) (by rw [he]; exact hj) h1
      (by rw [hd, hreports hf, reportSent_event hk])
    rw [he] at htable ⊢
    exact htable
  · have hcall : r = e := by rw [hreports hf, reportSent_call hk, callSent_of_none (by rw [hecall]; exact hno)]
    exact ⟨hcall ▸ hoff, by rw [hdtrack, hcall, hecall]⟩
  · have hcall : r = modifyCall (fun k => { k with queued := false }) e := by
      rw [hreports hf, reportSent_call hk, callSent_of_sent (by rw [hecall]; exact hs) (by rw [hecall]; exact ho)]
    refine ⟨?_, by rw [hdtrack, hcall]; rfl⟩
    rw [hcall] at hoff
    rw [he] at hoff ⊢
    exact hoff
  · obtain ⟨harrives, hgoes⟩ := callSent_of_pending (n := t.oven) (c := e) (by rw [hecall]; exact hs) (by rw [hecall]; exact ho)
    rw [← reportSent_call hk, ← hreports hf] at harrives hgoes
    have hlimit : travelLimit (cfg e) e.track.car t.oven = l := by
      have hcfg : cfg e = cfg c := by rw [he]; rfl
      rw [hl, hw, travelLimit, carFrom_eq, hcfg, hecall]
    rw [hlimit] at hgoes
    have hnothing : stopTravel (modifyCall Call.ended e) = modifyCall Call.ended e := stopTravel_of_nothing hedue
    rw [hnothing] at harrives
    have hready_iff : carReady t.oven e ↔ c.track.car.stale = false ∧ c.track.car.place = some .oven ∧ c.track.car.spot = some t.oven
        ∧ c.track.car.state = some .empty := by rw [carReady, hecall]
    refine ⟨?_, fun h1 h2 h3 h4 => ?_, fun hno => ?_⟩
    · by_cases h : carReady t.oven e
      · rw [hdtrack, harrives h]
        rfl
      · rw [hdtrack, hgoes h]
        rfl
    · have hcall := harrives (hready_iff.mpr ⟨h1, h2, h3, h4⟩)
      rw [hcall] at hoff
      rw [he] at hoff ⊢
      exact hoff
    · have hcall := hgoes fun h => hno (hready_iff.mp h)
      rw [hcall] at hoff
      rw [he] at hoff ⊢
      exact hoff

end Sys2Proof.Machine
end

section
/-! SUPPORT. The sent CLAIM (R60, R71, R74, R75, R78, R106). -/

-- The lemmas are checked one after another, as the tests are.
set_option Elab.async false

namespace Sys2Proof.Machine

open Sys2Proof

/-! ## The call requested (R106) -/

/-- The call as the push job asks for it, before a CALL is offered. -/
def callAsked (n : Nat) (c : Controller) : Controller :=
  modifyCall (fun k => { k with step := .pending, oven := some n, queued := false, expiries := 0, remaining := 0 }) (stopTravel c)

theorem requestCall_eq (n : Nat) (c : Controller) : requestCall n c =
    if c.track.car.state = some .empty then
      offer (callTelegram (ownNumber c) n) (modifyCall (fun k => { k with queued := true }) (callAsked n c))
    else callAsked n c := rfl

/-- From c to d the call goes on for the same oven. -/
structure CallGoesOn (c d : Controller) : Prop where
  step : d.track.call.step = c.track.call.step
  oven : d.track.call.oven = c.track.call.oven

namespace CallGoesOn

variable {b c d : Controller}

theorem refl (c : Controller) : CallGoesOn c c := ⟨rfl, rfl⟩

theorem trans (h : CallGoesOn b c) (k : CallGoesOn c d) : CallGoesOn b d := ⟨k.step.trans h.step, k.oven.trans h.oven⟩

theorem of_track (h : d.track = { c.track with call := { c.track.call with queued := d.track.call.queued } }) : CallGoesOn c d :=
  ⟨by rw [h], by rw [h]⟩

theorem of_offers (h : OnlyOffers c d) : CallGoesOn c d := of_track h.track

theorem setPhase (i : Nat) (p : Phase) (c : Controller) : CallGoesOn c (setPhase i p c) := of_track (OnlyOffers.setPhase i p c).track

theorem enterJob (s : JobState) (c : Controller) : CallGoesOn c (enterJob s c) := ⟨rfl, rfl⟩

end CallGoesOn

/-- The call that has been asked for. -/
theorem requestCall_call (n : Nat) (c : Controller) :
    (requestCall n c).track.call.step = .pending ∧ (requestCall n c).track.call.oven = some n
      ∧ (requestCall n c).track.call.expiries = 0 ∧ (requestCall n c).track.call.remaining = 0 := by
  rw [requestCall_eq]
  split
  · rw [(OnlyOffers.offer _ _).track]
    exact ⟨rfl, rfl, rfl, rfl⟩
  · exact ⟨rfl, rfl, rfl, rfl⟩

/-- A CALL is offered at once where the car is EMPTY, and waits where there is room. -/
theorem requestCall_queued {n : Nat} {c : Controller} (ha : isActive c = true) (hr : c.line.tx.length < 8) :
    (c.track.car.state = some .empty →
        (requestCall n c).track.call.queued = true ∧ waitsInTx (callTelegram (ownNumber c) n) (requestCall n c))
      ∧ (c.track.car.state ≠ some .empty → (requestCall n c).track.call.queued = false) := by
  refine ⟨fun h => ?_, fun h => ?_⟩
  · obtain ⟨m, hm⟩ : ∃ m, m = modifyCall (fun k => { k with queued := true }) (callAsked n c) := ⟨_, rfl⟩
    have hmactive : isActive m = true := by rw [hm]; exact ha
    have hmroom : txRoom m = true := by rw [txRoom, hm, decide_eq_true_eq]; exact hr
    rw [requestCall_eq, if_pos h, ← hm]
    exact ⟨by rw [offer_track_of_room hmactive hmroom, hm]; rfl, waitsInTx_offer hmactive hmroom⟩
  · rw [requestCall_eq, if_neg h]
    rfl

namespace JobWork

variable {m i n : Nat} {o : Oven} {j : Job} {c b : Controller}

theorem modifyCall (h : JobWork m i o j c b) (f : Call → Call) : JobWork m i o j c (modifyCall f b) where
  base := h.base.next (k := 0) (.of_eq rfl rfl) rfl rfl rfl rfl rfl
  job := h.job
  owed := h.owed
  track := by
    have : (Machine.modifyCall f b).track = { b.track with call := f b.track.call } := rfl
    rw [this, h.track]
  rx := h.rx

theorem stopTravel (h : JobWork m i o j c b) : JobWork m i o j c (stopTravel b) where
  base := h.base.next (k := 0) (.of_eq rfl rfl) rfl rfl rfl rfl rfl
  job := h.job
  owed := h.owed
  track := h.track
  rx := h.rx

theorem requestCall (h : JobWork m i o j c b) (hs : j.state ≠ .bidding) (n : Nat) : JobWork (m + 1) i o j c (requestCall n b) := by
  have hasked : JobWork m i o j c (callAsked n b) := h.stopTravel.modifyCall _
  rw [requestCall_eq]
  split
  · exact (hasked.modifyCall _).offers hs (.offer _ _) (.offer _ _)
  · exact hasked.weaken (Nat.le_succ m)

theorem countWhere (h : JobWork m i o j c b) (hs : j.state ≠ .bidding) (p : Bool) (k : EventKind) (first : Option Nat) :
    JobWork (m + 1) i o j c (countWhere p k first b) := by
  cases p
  · exact h.weaken (Nat.le_succ m)
  · exact h.count hs k first

/-- EARLY DOOR, up to DOORS (R78). -/
theorem earlyDoors (h : JobWork m i o j c b) (hs : j.state ≠ .bidding) (n : Nat) :
    JobWork (m + 3) i (movedOven (cfg c) .isolated (anyRemoved c i) o) (Job.enter .doors j) c
      (enterJob .doors (Machine.offerPermit n permitDoorsCode (Machine.setPhase i .isolated (Machine.count .earlyDoor (some n) b)))) :=
  (((h.count hs .earlyDoor (some n)).setPhase hs .isolated).offerPermit hs n permitDoorsCode).modifyJob (f := Job.enter .doors)
    fun _ _ => rfl

end JobWork

/-! ## The report of the CLAIM -/

/-- The record of the push job in CLAIMED (R74). -/
def Job.claimed (j : Job) : Job :=
  { j.enter .claimed with minutes := 0, started := false, ended := false, cause := none, holdSecs := 0 }

/-- The claimed oven and the call to it, before a door that is off is looked at. -/
def claimedCalled (i n : Nat) (c : Controller) : Controller := requestCall n (setPhase i .isolating (modifyJob Job.claimed c))

theorem enterClaimed_eq (i n : Nat) (c : Controller) :
    enterClaimed i n c = if anyRemoved (claimedCalled i n c) i then earlyDoor i n (claimedCalled i n c) else claimedCalled i n c := rfl

theorem claimedCalled_work {i n : Nat} {o : Oven} {c : Controller} (ho : ovenAt c i = some o) :
    JobWork 2 i (movedOven (cfg c) .isolating (anyRemoved c i) o) c.job.claimed c (claimedCalled i n c) := by
  have hjob : JobWork 0 i o c.job.claimed c (modifyJob Job.claimed c) := (JobWork.refl ho).modifyJob (f := Job.claimed) fun _ _ => rfl
  exact (hjob.setPhase (fun hx => by cases hx) .isolating).requestCall (fun hx => by cases hx) n

/-- The controller in which the block is told of its sent CLAIM, and what is then counted and offered. -/
theorem exec_claimSent {q : List Instr} {c : Controller} {t : Telegram} {f : Fate} {n i : Nat} {o : Oven} {ack : Bool} (hready : Ready c)
    (hphase : c.line.phase = .sending t f) (hf : f ≠ .withdrawn) (hk : t.kind = some .claim) (hs : c.job.state = .claiming)
    (hown : c.job.ownClaim = some t.ident) (hn : c.job.oven = some n) (hi : ovenIndex c n = some i) (ho : ovenAt c i = some o) :
    exec (.telegramSent ack) ⟨q, c⟩ = .next ⟨q, freePlace (countWhere (!ack) .loneTelegram none
      (if o.inhibited then abandonClaim n (entryLeft c) else enterClaimed i n (entryLeft c)))⟩ := by
  have hindex : jobIndex (entryLeft c) = some i := by
    have : jobIndex (entryLeft c) = jobIndex c := rfl
    rw [this, jobIndex, hn]
    exact hi
  have hoven : (ovenAt (entryLeft c) i).any (·.inhibited) = o.inhibited := by
    have : ovenAt (entryLeft c) i = some o := ho
    rw [this]
    rfl
  have hjob : (entryLeft c).job = c.job := rfl
  have hreport : reportSent t (entryLeft c)
      = if o.inhibited then abandonClaim n (entryLeft c) else enterClaimed i n (entryLeft c) := by
    simp only [reportSent, hk, claimSent, hjob, hs, hown, and_self, if_true, hn, hindex, hoven]
  have hall := telegramCompletes_eq ack hphase
  rw [if_neg hf, hreport] at hall
  rw [← hall]
  exact act_of_ready hready

/-- LONE TELEGRAM is counted besides where no station drove the ack slot. -/
theorem exec_claimSent_lone {q : List Instr} {c d : Controller} {t : Telegram} {f : Fate} (hready : Ready c)
    (hphase : c.line.phase = .sending t f) (hf : f ≠ .withdrawn) (hk : t.kind = some .claim) (ht : thirtyEntries c)
    (h : exec (.telegramSent false) ⟨q, c⟩ = .next ⟨q, d⟩) : countedOnce 3 c d := by
  have hall := telegramCompletes_eq false hphase
  rw [if_neg hf] at hall
  have hstep : exec (.telegramSent false) ⟨q, c⟩
      = .next ⟨q, freePlace (countWhere true .loneTelegram none (reportSent t (entryLeft c)))⟩ := by
    rw [← show telegramCompletes false c = countWhere true .loneTelegram none (reportSent t (entryLeft c)) from hall]
    exact act_of_ready hready
  rw [hstep] at h
  cases h
  obtain ⟨hthirty, hentry⟩ := reportSent_lone (t := t) (e := entryLeft c) ht (.inl (by rw [hk]; exact fun hx => by cases hx))
  exact loneTelegram_counted hthirty hentry

end Sys2Proof.Machine
end

section
/-! SUPPORT. A sent CLAIM of an oven that is inhibited, that is shut, and that has a door off (R74, R75, R78). -/

-- The lemmas are checked one after another, as the tests are.
set_option Elab.async false

namespace Sys2Proof.Machine

open Sys2Proof

section
variable {q : List Instr} {c e d : Controller} {n i : Nat} {o : Oven} {p : Bool}

/-- With room for four once the entry has left. -/
theorem roomFor_entryLeft {k : Nat} (h : roomFor k c) : roomFor k (entryLeft c) := by
  have := List.length_filter_le (fun x : TxEntry => !x.onLine) c.line.tx
  rw [roomFor] at h ⊢
  exact Nat.le_trans (Nat.add_le_add_right this k) h

/-- What is counted and offered after the report leaves the machine records and the call. -/
theorem lastOffers_track (p : Bool) (x : Controller) : (freePlace (countWhere p .loneTelegram none x)).track = x.track := by
  have hcount : (countWhere p .loneTelegram none x).track = x.track := by cases p <;> simp [countWhere]
  rw [freePlace_track, hcount]

theorem mem_lastOffers {u : Telegram} {x : Controller} (p : Bool) (hu : u.kind ≠ some .permit) (h : waitsInTx u x) :
    waitsInTx u (freePlace (countWhere p .loneTelegram none x)) := by
  refine mem_freePlace ?_ hu
  cases p
  · exact h
  · exact mem_count _ _ h

/-- An inhibited oven is released (R75). -/
theorem abandonClaim_taken (he : e = entryLeft c) (hd : d = freePlace (countWhere p .loneTelegram none (abandonClaim n e)))
    (ha : isActive c = true) (hroom : roomFor 4 c) :
    d.job.state = .idle ∧ d.job.oven = none ∧ waitsInTx (releaseTelegram (ownNumber c) n .abandoned) d ∧ d.table = c.table
      ∧ d.reg.frame = c.reg.frame ∧ d.track.pusher = c.track.pusher ∧ d.track.call.step = c.track.call.step := by
  obtain ⟨b, hb⟩ : ∃ b, b = offerRelease n .abandoned e := ⟨_, rfl⟩
  have hboff : OnlyOffers e b := hb ▸ .offerRelease n _ e
  have hlast : OnlyOffers (idleJob b) d := by
    rw [hd, abandonClaim, ← hb]
    exact (OnlyOffers.countWhere _ _ _ _).trans (.freePlace _)
  have hdjob : d.job = { Job.idleRecord with owed := d.job.owed } := hlast.job_of_ne (fun hx => by cases hx)
  have hdtrack : d.track = b.track := by
    rw [hd, lastOffers_track, abandonClaim, ← hb]
    rfl
  have hereg : b.reg.frame = c.reg.frame := by rw [hboff.reg, he]; rfl
  refine ⟨by rw [hdjob]; rfl, by rw [hdjob]; rfl, ?_, ?_, ?_, ?_, ?_⟩
  · have heroom : roomFor 4 e := he ▸ roomFor_entryLeft hroom
    have hwait : waitsInTx (releaseTelegram (ownNumber e) n .abandoned) b :=
      hb ▸ offerRelease_waits (by rw [he]; exact ha) (Nat.le_trans (Nat.add_le_add_left (by decide) _) heroom)
    rw [show ownNumber e = ownNumber c by rw [he]; rfl] at hwait
    rw [hd, abandonClaim, ← hb]
    exact mem_lastOffers p (fun hx => by cases hx) hwait
  · rw [hlast.table]
    exact hboff.table.trans (by rw [he]; rfl)
  · rw [hlast.reg]
    exact hereg
  · rw [hdtrack, hboff.track, he]
    rfl
  · rw [hdtrack, hboff.track, he]
    rfl

/-- An oven that no door is off of is claimed (R74). -/
theorem enterClaimed_taken (he : e = entryLeft c) (hd : d = freePlace (countWhere p .loneTelegram none (enterClaimed i n e)))
    (ha : isActive c = true) (hroom : roomFor 4 c) (ho : ovenAt c i = some o) (hr : anyRemoved c i = false) :
    ovenAt d i = some { o with phase := .isolating, stage := none, mode := .isolating, isoCount := 0, noDraw := 0 }
      ∧ d.job = { c.job.claimed with owed := d.job.owed } ∧ (∀ j, j ≠ i → ovenAt d j = ovenAt c j)
      ∧ d.track.call.step = .pending ∧ d.track.call.oven = some n ∧ d.track.call.expiries = 0
      ∧ d.track.call.remaining = 0 ∧ d.track.car = c.track.car
      ∧ (c.track.car.state = some .empty → d.track.call.queued = true ∧ waitsInTx (callTelegram (ownNumber c) n) d)
      ∧ (c.track.car.state ≠ some .empty → d.track.call.queued = false) := by
  have heroom : roomFor 4 e := he ▸ roomFor_entryLeft hroom
  have heactive : isActive e = true := by rw [he]; exact ha
  have heo (j : Nat) : ovenAt e j = ovenAt c j := by rw [he]; rfl
  have her : anyRemoved e i = false := by rw [he]; exact hr
  have hejob : e.job = c.job := by rw [he]; rfl
  have hecar : e.track.car = c.track.car := by rw [he]; rfl
  have hjobwork : JobWork 0 i o e.job.claimed e (modifyJob Job.claimed e) :=
    (JobWork.refl ((heo i).trans ho)).modifyJob (f := Job.claimed) fun _ _ => rfl
  obtain ⟨x, hx⟩ : ∃ x, x = setPhase i .isolating (modifyJob Job.claimed e) := ⟨_, rfl⟩
  have hxwork : JobWork 1 i (movedOven (cfg e) .isolating (anyRemoved e i) o) e.job.claimed e x :=
    hx ▸ hjobwork.setPhase (fun hx => by cases hx) .isolating
  have hcalled : claimedCalled i n e = requestCall n x := by rw [hx]; rfl
  have hwork := claimedCalled_work (i := i) (n := n) (c := e) ((heo i).trans ho)
  have hwrem : anyRemoved (claimedCalled i n e) i = false := (anyRemoved_of_doorAt hwork.base.states i).trans her
  have hsame : enterClaimed i n e = claimedCalled i n e := by rw [enterClaimed_eq, hwrem]; rfl
  rw [hsame] at hd
  obtain ⟨hoven, hothers, hjob, _, _⟩ := (hwork.countWhere (fun hx => by cases hx) p .loneTelegram none).shows
  rw [← hd] at hoven hothers hjob
  have hdtrack : d.track = (requestCall n x).track := by rw [hd, lastOffers_track, hcalled]
  have hxactive : isActive x = true := hxwork.base.keeps.active.trans heactive
  have hxlen : x.line.tx.length < 8 := by
    have hone : roomFor 1 x := hxwork.base.room (k := 1) heactive (Nat.le_trans (Nat.add_le_add_left (by decide) _) heroom)
    rw [roomFor] at hone
    omega
  have hxcar : x.track.car = c.track.car := by rw [hxwork.track]; exact hecar
  obtain ⟨hstep, hcalloven, hexpiries, hremaining⟩ := requestCall_call n x
  obtain ⟨hcalls, hrests⟩ := requestCall_queued (n := n) hxactive hxlen
  rw [hdtrack, hxcar.symm]
  refine ⟨?_, by rw [hjob, hejob], fun j hj => (hothers j hj).trans (heo j), hstep, hcalloven, hexpiries, hremaining, by simp,
    fun hempty => ?_, hrests⟩
  · rw [hoven, her]
    rfl
  · obtain ⟨hqueued, hwait⟩ := hcalls hempty
    rw [hxwork.base.keeps.ownNumber, show ownNumber e = ownNumber c by rw [he]; rfl, ← hcalled] at hwait
    exact ⟨hqueued, hd ▸ mem_lastOffers p (fun hx => by cases hx) hwait⟩

/-- The conditions are as they were when they were evaluated. -/
theorem permitConditions_after {x y : Controller} (hjob : y.job.state = .staged ∨ y.job.state = .permitted) (hx : x.job.state = .staged)
    (hdoors : y.doors = x.doors) (hovens : y.table.ovens = x.table.ovens)
    (htrack : y.track.pusher = x.track.pusher ∧ y.track.guide = x.track.guide ∧ y.track.car = x.track.car) (hd : d = freePlace (countWhere p .loneTelegram none y)) :
    permitConditions d i n = permitConditions x i n := by
  have hoff : OnlyOffers y d := by
    rw [hd]
    exact (OnlyOffers.countWhere _ _ _ _).trans (.freePlace _)
  have hdtrack : d.track = y.track := by rw [hd, lastOffers_track]
  have hstate : d.job.state = y.job.state := by
    rw [hoff.job_of_ne]
    exact fun hb => by rw [hb] at hjob; exact hjob.elim (fun h => by cases h) fun h => by cases h
  refine permitConditions_congr (by rw [hoff.doors, hdoors]) (by rw [hoff.table, hovens]) ?_ ?_ ?_ ?_ i n
  · rw [hdtrack, htrack.1]
  · rw [hdtrack, htrack.2.1]
  · rw [hdtrack, htrack.2.2]
  · rw [afterStart, afterStart, hstate, hx]
    obtain h | h := hjob <;> rw [h] <;> rfl

/-- How EARLY DOOR ends: in DOORS, or with both doors off STAGED, or PERMITTED where the conditions hold (R78, R79). -/
structure EarlyDoorEnds (k i n : Nat) (o : Oven) (j : Job) (e y r : Controller) : Prop where
  work : JobWork k i (movedOven (cfg e) .isolated (anyRemoved e i) o) j e r
  call : CallGoesOn y r
  stays : EventsStay (count .earlyDoor (some n) y) r
  waits : bothRemoved y i = false → j.state = .doors
  stages : bothRemoved y i = true → ∃ x, x.job.state = .staged ∧ r.doors = x.doors ∧ r.table.ovens = x.table.ovens
    ∧ (r.track.pusher = x.track.pusher ∧ r.track.guide = x.track.guide ∧ r.track.car = x.track.car) ∧ j.state = if permitConditions x i n then .permitted else .staged

theorem earlyDoor_ends {k : Nat} {j : Job} {y : Controller} (hwork : JobWork k i o j e y) (hs : j.state ≠ .bidding)
    (hrec : receiving y = true) (hn : y.job.oven = some n) (hi : jobIndex y = some i) :
    ∃ m j', EarlyDoorEnds m i n o j' e y (earlyDoor i n y) := by
  obtain ⟨z, hz⟩ : ∃ z, z = setPhase i .isolated (count .earlyDoor (some n) y) := ⟨_, rfl⟩
  obtain ⟨b, hb⟩ : ∃ b, b = enterJob .doors (offerPermit n permitDoorsCode z) := ⟨_, rfl⟩
  have hbwork := hwork.earlyDoors hs n
  rw [← hz, ← hb] at hbwork
  have hbgoes : CallGoesOn y b := by
    have hpermit : CallGoesOn z b := by
      rw [hb]
      exact (CallGoesOn.of_offers (.offerPermit n permitDoorsCode z)).trans (.enterJob _ _)
    have hphase : CallGoesOn y z := hz ▸ (CallGoesOn.of_offers (.count _ _ y)).trans (.setPhase i .isolated _)
    exact hphase.trans hpermit
  have hbstays : EventsStay (count .earlyDoor (some n) y) b := by
    have hpermit : EventsStay z b := hb ▸ EventsStay.trans (c := offerPermit n permitDoorsCode z) (.offerPermit n _ z) (.of_eq rfl)
    have hphase : EventsStay (count .earlyDoor (some n) y) z := hz ▸ .setPhase i .isolated _
    exact hphase.trans hpermit
  have hboth : bothRemoved b i = bothRemoved y i := by
    have hdoor (a : Nat) : doorAt b a = doorAt y a := (hbwork.base.states a).trans (hwork.base.states a).symm
    simp [bothRemoved, hdoor]
  have hearly : earlyDoor i n y = if bothRemoved y i then evaluate (enterJob .staged b) else b := by rw [← hboth, hb, hz]; rfl
  rw [hearly]
  cases hr : bothRemoved y i with
  | false => exact ⟨_, _, hbwork, hbgoes, hbstays, fun _ => rfl, fun h => absurd (hr.symm.trans h) (by decide)⟩
  | true =>
    obtain ⟨x, hx⟩ : ∃ x, x = enterJob .staged b := ⟨_, rfl⟩
    have hxwork : JobWork (k + 3) i (movedOven (cfg e) .isolated (anyRemoved e i) o) (Job.enter .staged (Job.enter .doors j)) e x :=
      hx ▸ hbwork.modifyJob (f := Job.enter .staged) fun _ _ => rfl
    have hxstate : x.job.state = .staged := by rw [hx]; rfl
    have hyoven : j.oven = some n := by
      have := congrArg Job.oven hwork.job
      exact this.symm.trans hn
    have hxoven : x.job.oven = some n := by rw [hxwork.job]; exact hyoven
    have hxstart : x.start = y.start := hxwork.base.start.trans hwork.base.start.symm
    have hxindex : jobIndex x = some i := (jobIndex_congr hxstart (by rw [hxoven, hn])).trans hi
    rw [if_pos rfl, ← hx, evaluate_staged ((receiving_congr hxstart).trans hrec) hxoven hxindex hxstate]
    have hxgoes : CallGoesOn y x := by rw [hx]; exact hbgoes.trans (.enterJob _ _)
    have hxstays : EventsStay (count .earlyDoor (some n) y) x := by rw [hx]; exact hbstays.trans (.of_eq rfl)
    cases hc : permitConditions x i n with
    | false =>
      exact ⟨_, _, hxwork, hxgoes, hxstays, fun h => absurd (hr.symm.trans h) (by decide),
        fun _ => ⟨x, hxstate, rfl, rfl, ⟨rfl, rfl, rfl⟩, by rw [hc]; rfl⟩⟩
    | true =>
      have hoff := OnlyOffers.offerPermit n permitPushCode x
      refine ⟨_, _, (hxwork.offerPermit (fun hx => by cases hx) n permitPushCode).modifyJob (f := Job.enter .permitted) fun _ _ => rfl,
        (hxgoes.trans (.of_offers hoff)).trans (.enterJob _ _), (hxstays.trans (.offerPermit n _ x)).trans (.of_eq rfl), fun h => absurd (hr.symm.trans h) (by decide),
        fun _ => ⟨x, hxstate, hoff.doors, congrArg OvenTable.ovens hoff.table, ?_, by rw [hc]; rfl⟩⟩
      have htrack : (enterJob .permitted (offerPermit n permitPushCode x)).track = (offerPermit n permitPushCode x).track := rfl
      rw [if_pos rfl, htrack, hoff.track]
      exact ⟨rfl, rfl, rfl⟩

/-- Where a door of the claimed oven is off, EARLY DOOR is counted and the job goes on from there (R78, R79). -/
theorem earlyDoor_claimed (he : e = entryLeft c) (hd : d = freePlace (countWhere p .loneTelegram none (enterClaimed i n e)))
    (ha : isActive c = true) (ho : ovenAt c i = some o) (hn : c.job.oven = some n) (hi : ovenIndex c n = some i)
    (hr : anyRemoved c i = true) (ht : thirtyEntries c) :
    (∃ o', ovenAt d i = some o' ∧ o'.phase = .isolated ∧ o'.minutes = o.minutes) ∧ countedOnce 15 c d
      ∧ (∀ j, j ≠ i → ovenAt d j = ovenAt c j) ∧ d.track.call.step = .pending ∧ d.track.call.oven = some n
      ∧ (bothRemoved c i = false → d.job.state = .doors)
      ∧ (bothRemoved c i = true → d.job.state = (if permitConditions d i n then .permitted else .staged)) := by
  have heo (j : Nat) : ovenAt e j = ovenAt c j := by rw [he]; rfl
  have hwork := claimedCalled_work (i := i) (n := n) (c := e) ((heo i).trans ho)
  obtain ⟨y, hy⟩ : ∃ y, y = claimedCalled i n e := ⟨_, rfl⟩
  rw [← hy] at hwork
  have hydoor (a : Nat) : doorAt y a = doorAt c a := (hwork.base.states a).trans (by rw [he]; rfl)
  have hearly : enterClaimed i n e = earlyDoor i n y := by
    have hyrem : anyRemoved y i = true := (anyRemoved_of_doorAt hydoor i).trans hr
    rw [enterClaimed_eq, ← hy, hyrem]
    rfl
  have hyoven : y.job.oven = some n := by rw [hwork.job, he]; exact hn
  have hystart : y.start = c.start := hwork.base.start.trans (by rw [he]; rfl)
  have hyrec : receiving y = true := by
    have : receiving c = true := by simp only [isActive] at ha; simp [receiving, ha]
    exact (receiving_congr hystart).trans this
  have hyindex : jobIndex y = some i := by
    have hcfg : cfg y = cfg c := cfg_congr hystart
    rw [jobIndex, hyoven, Option.bind_some, ovenIndex, hcfg]
    exact hi
  have hyevents : EventsStay c y := by
    have hjob : EventsStay c (modifyJob Job.claimed e) := .of_eq (by rw [he]; rfl)
    have hphase := hjob.trans (.setPhase i .isolating _)
    have hcall : EventsStay (setPhase i .isolating (modifyJob Job.claimed e)) y := by
      have hrep := Reports.requestCall (ks := []) n (setPhase i .isolating (modifyJob Job.claimed e))
      rw [hy]
      exact ⟨hrep.length, fun j h1 h6 => hrep.entry j h1 h6 (by simp)⟩
    exact hphase.trans hcall
  obtain ⟨m, j', hends⟩ := earlyDoor_ends hwork (fun hx => by cases hx) hyrec hyoven hyindex
  rw [← hearly] at hends
  obtain ⟨hrwork, hrcall, hrstays, hwaits, hstages⟩ := hends
  have hboth : bothRemoved y i = bothRemoved c i := by simp [bothRemoved, hydoor]
  have hj' : j'.state ≠ .bidding := by
    cases hb : bothRemoved y i with
    | false => rw [hwaits hb]; exact fun hx => by cases hx
    | true =>
      obtain ⟨x, _, _, _, _, hj⟩ := hstages hb
      rw [hj]
      split <;> exact fun hx => by cases hx
  obtain ⟨hoven, hothers, hjob, _, _⟩ := (hrwork.countWhere hj' p .loneTelegram none).shows
  rw [← hd] at hoven hothers hjob
  have hdstate : d.job.state = j'.state := by rw [hjob]
  have hdtrack : d.track = (enterClaimed i n e).track := by rw [hd, lastOffers_track]
  obtain ⟨hstep, hcalloven, _, _⟩ := requestCall_call n (setPhase i .isolating (modifyJob Job.claimed e))
  rw [show requestCall n (setPhase i .isolating (modifyJob Job.claimed e)) = y from hy.symm] at hstep hcalloven
  obtain ⟨_, hphase, hminutes, _⟩ := movedOven_keeps (cfg e) .isolated (anyRemoved e i) (movedOven (cfg e) .isolating (anyRemoved e i) o)
  have hfirst := (movedOven_keeps (cfg e) .isolating (anyRemoved e i) o).2.2.1
  refine ⟨⟨_, hoven, hphase, hminutes.trans hfirst⟩, ?_, fun j hj => (hothers j hj).trans (heo j), by rw [hdtrack, hrcall.step, hstep],
    by rw [hdtrack, hrcall.oven, hcalloven], fun hb => by rw [hdstate, hwaits (hboth.trans hb)], fun hb => ?_⟩
  · have hentry := entry_count (k := .earlyDoor) (first := some n) (hyevents.thirty ht)
    rw [show EventKind.earlyDoor.number = 15 from rfl] at hentry
    have hlast : d.events.entry 15 = (enterClaimed i n e).events.entry 15 := by
      rw [hd, (EventsStay.freePlace _).entry 15 (by decide) (by decide), countWhere_entry_ne (by decide) (by decide)]
    rw [countedOnce, hlast, hrstays.entry 15 (by decide) (by decide), hentry, hyevents.entry 15 (by decide) (by decide)]
    rfl
  · obtain ⟨x, hx, hdoors, hovens, htrack, hj⟩ := hstages (hboth.trans hb)
    have hr0 : (enterClaimed i n e).job.state = j'.state := by rw [hrwork.job]
    have hcases : (enterClaimed i n e).job.state = .staged ∨ (enterClaimed i n e).job.state = .permitted := by
      rw [hr0, hj]
      split
      · exact .inr rfl
      · exact .inl rfl
    rw [hdstate, hj, permitConditions_after hcases hx hdoors hovens htrack hd]

end

/-- Settles O39: an inhibited oven, a shut one, and one with a door off. -/
theorem sentClaimClaims : Obligations.SentClaimClaims := by
  intro q c t f n i o ack hready ha hroom hphase hf hk hs hown hn hi ho
  have hstep := exec_claimSent (q := q) (ack := ack) hready hphase hf hk hs hown hn hi ho
  have hlone {d : Controller} (h : exec (.telegramSent ack) ⟨q, c⟩ = .next ⟨q, d⟩) (hack : ack = false) (ht : thirtyEntries c) :
      countedOnce 3 c d := exec_claimSent_lone hready hphase hf hk ht (hack ▸ h)
  refine ⟨fun hinh => ?_, fun hinh hr => ?_, fun hinh hr ht => ?_⟩
  · rw [hinh, if_pos rfl] at hstep
    obtain ⟨hstate, hoven, hwait, htable, hframe, hpusher, hcall⟩ := abandonClaim_taken rfl rfl ha hroom
    exact ⟨_, hstep, hstate, hoven, hwait, htable, hframe, hpusher, hcall, hlone hstep⟩
  · rw [hinh, if_neg Bool.false_ne_true] at hstep
    obtain ⟨hoven, hjob, hrest⟩ := enterClaimed_taken (n := n) (p := !ack) rfl rfl ha hroom ho hr
    obtain ⟨hothers, hcallstep, hcalloven, hexpiries, hremaining, hcar, hempty, hother⟩ := hrest
    exact ⟨_, _, hstep, hoven, hjob, rfl, hothers, hcallstep, hcalloven, hexpiries, hremaining, hcar, hempty, hother, hlone hstep⟩
  · rw [hinh, if_neg Bool.false_ne_true] at hstep
    obtain ⟨⟨o', hoven, hphase', hminutes⟩, hcount, hothers, hcallstep, hcalloven, hdoors, hboth⟩ :=
      earlyDoor_claimed (p := !ack) rfl rfl ha ho hn hi hr ht
    exact ⟨_, o', hstep, hoven, hcount, hphase', hminutes, hothers, hcallstep, hcalloven, hdoors, hboth, fun h => hlone hstep h ht⟩

end Sys2Proof.Machine
end

section
/-! SUPPORT. The oven record at the completion of a converter cycle: the samples, the choice of mode and the work of the mode
(R154, R157, R159, R165 to R168, R173 to R182). -/

-- The lemmas are checked one after another, as the tests are.
set_option Elab.async false

namespace Sys2Proof.Machine

open Sys2Proof

/-! ## The samples -/

/-- The stuck check, made where the feedback is valid. -/
def Oven.stuckAfter (fb : Option Nat) (o : Oven) : Oven := (fb.map fun v => o.stuckCheck (scaleFeedback v)).getD o

/-- The record with its two samples taken and the stuck check made. -/
def Oven.sampled (g : Config) (z : Channel) (press fb : Option Nat) (o : Oven) : Oven :=
  ((o.takePressure g z press).takeFeedback fb).stuckAfter fb

/-- The choice of mode, the work of the mode, and the isolation check. -/
def Oven.worked (g : Config) (leaking : Bool) (main : Option Int) (trusted : Bool) (fb : Option Nat) (o : Oven) : Oven :=
  ((o.chooseMode g trusted).modeWork g leaking main).isolationCheck (fb.map scaleFeedback)

theorem ovenCompletion_eq (g : Config) (z : Channel) (leaking : Bool) (main : MainRecord) (press fb : Option Nat) (o : Oven) :
    ovenCompletion g z leaking main press fb o
      = (o.sampled g z press fb).worked g leaking main.value (press.isSome && !main.stale) fb := by
  cases fb <;> rfl

theorem stuckCheck_keeps (f : Int) (o : Oven) :
    o.stuckCheck f = { o with stuck := (o.stuckCheck f).stuck, stuckCount := (o.stuckCheck f).stuckCount } := by
  unfold Oven.stuckCheck
  split
  · split <;> rfl
  · rfl

theorem takePressure_keeps (g : Config) (z : Channel) (x : Option Nat) (o : Oven) :
    o.takePressure g z x = { o with invalid := (o.takePressure g z x).invalid, filtered := (o.takePressure g z x).filtered } := by
  cases x <;> rfl

/-- The samples change the invalid count, Pf, fb and the stuck record alone. -/
theorem sampled_keeps (g : Config) (z : Channel) (press fb : Option Nat) (o : Oven) :
    o.sampled g z press fb = { o with
      invalid := (o.takePressure g z press).invalid
      filtered := (o.takePressure g z press).filtered
      feedback := (o.takeFeedback fb).feedback
      stuck := (o.sampled g z press fb).stuck
      stuckCount := (o.sampled g z press fb).stuckCount } := by
  have hp := takePressure_keeps g z press o
  unfold Oven.sampled
  generalize o.takePressure g z press = p at hp ⊢
  rw [hp]
  cases fb with
  | none => rfl
  | some v =>
    exact stuckCheck_keeps (scaleFeedback v) { o with invalid := p.invalid, filtered := p.filtered, feedback := some (scaleFeedback v) }

theorem sampled_feedback (g : Config) (z : Channel) (press fb : Option Nat) (o : Oven) :
    (∀ v, fb = some v → (o.sampled g z press fb).feedback = some (scaleFeedback v))
      ∧ (fb = none → (o.sampled g z press fb).feedback = o.feedback ∧ (o.sampled g z press fb).stuck = o.stuck
          ∧ (o.sampled g z press fb).stuckCount = o.stuckCount) := by
  unfold Oven.sampled
  rw [takePressure_keeps]
  refine ⟨fun v hv => ?_, fun hv => ?_⟩
  · subst hv
    exact congrArg Oven.feedback (stuckCheck_keeps _ _)
  · subst hv
    exact ⟨rfl, rfl, rfl⟩

/-- A feedback that agrees with the flag clears the count (R167). -/
theorem stuckCheck_agrees {f : Int} {o : Oven} (h : deviates f o.command = o.stuck) :
    (o.stuckCheck f).stuck = o.stuck ∧ (o.stuckCheck f).stuckCount = 0 := by
  rw [Oven.stuckCheck, if_neg (by simp [h])]
  exact ⟨rfl, rfl⟩

/-- A feedback that differs from the flag counts, and the third in a row turns it (R167). -/
theorem stuckCheck_differs {f : Int} {o : Oven} (h : deviates f o.command = !o.stuck) :
    (o.stuckCount < 2 → (o.stuckCheck f).stuck = o.stuck ∧ (o.stuckCheck f).stuckCount = o.stuckCount + 1)
      ∧ (2 ≤ o.stuckCount → (o.stuckCheck f).stuck = !o.stuck ∧ (o.stuckCheck f).stuckCount = 0) := by
  rw [Oven.stuckCheck, if_pos (by simp [h])]
  refine ⟨fun hlow => ?_, fun hhigh => ?_⟩
  · rw [if_neg (by omega)]
    exact ⟨rfl, rfl⟩
  · rw [if_pos (by omega)]
    exact ⟨rfl, rfl⟩

/-- The stuck check of a valid feedback (R167), on the record as its samples find it. -/
theorem sampled_stuck {g : Config} {z : Channel} {press : Option Nat} {v : Nat} {o : Oven} :
    (o.sampled g z press (some v)).stuck = (o.stuckCheck (scaleFeedback v)).stuck
      ∧ (o.sampled g z press (some v)).stuckCount = (o.stuckCheck (scaleFeedback v)).stuckCount := by
  have hfields (p : Oven) (hc : p.command = o.command) (hs : p.stuck = o.stuck) (hn : p.stuckCount = o.stuckCount) :
      (p.stuckCheck (scaleFeedback v)).stuck = (o.stuckCheck (scaleFeedback v)).stuck
        ∧ (p.stuckCheck (scaleFeedback v)).stuckCount = (o.stuckCheck (scaleFeedback v)).stuckCount := by
    unfold Oven.stuckCheck
    rw [hc, hs, hn]
    split
    · split
      · exact ⟨rfl, rfl⟩
      · exact ⟨rfl, rfl⟩
    · exact ⟨rfl, rfl⟩
  have hp := takePressure_keeps g z press o
  exact hfields ((o.takePressure g z press).takeFeedback (some v)) (by rw [hp]; rfl) (by rw [hp]; rfl) (by rw [hp]; rfl)

/-! ## The work of the mode -/

theorem isolationCheck_of_ne {fb : Option Int} {o : Oven} (h : o.mode ≠ .isolating) : o.isolationCheck fb = o := if_neg h

theorem compute_keeps (g : Config) (leaking : Bool) (main : Option Int) (o : Oven) :
    o.compute g leaking main = { o with
      integrator := (o.compute g leaking main).integrator
      command := (o.compute g leaking main).command
      noDraw := (o.compute g leaking main).noDraw } := by
  unfold Oven.compute
  split <;> rfl

section
variable {g : Config} {leaking : Bool} {main : Option Int} {trusted : Bool} {fb : Option Nat} {o : Oven}

theorem worked_closed (h : o.mode = .closed) : o.worked g leaking main trusted fb = { o with command := 0, integrator := 0 } := by
  have hchoose : o.chooseMode g trusted = o := by simp only [Oven.chooseMode, h]
  have hwork : o.modeWork g leaking main = { o with command := 0, integrator := 0 } := by simp only [Oven.modeWork, h]
  rw [Oven.worked, hchoose, hwork]
  exact isolationCheck_of_ne (by rw [h]; exact fun hx => by cases hx)

theorem worked_forced (h : o.mode = .forced) : o.worked g leaking main trusted fb = { o with command := g.uchg } := by
  have hchoose : o.chooseMode g trusted = o := by simp only [Oven.chooseMode, h]
  have hwork : o.modeWork g leaking main = { o with command := g.uchg } := by simp only [Oven.modeWork, h]
  rw [Oven.worked, hchoose, hwork]
  exact isolationCheck_of_ne (by rw [h]; exact fun hx => by cases hx)

/-- A completion that finds the valve of an oven in ISOLATING shut (R168). -/
def shutFeedback (g : Config) (fb : Option Nat) (o : Oven) : Prop :=
  max 0 (o.command - g.riso) = 0 ∧ ∃ v, fb = some v ∧ scaleFeedback v ≤ 10

theorem any_feedback_iff : ((fb.map scaleFeedback).any fun x => decide (x ≤ 10)) = true ↔ ∃ v, fb = some v ∧ scaleFeedback v ≤ 10 := by
  cases fb <;> simp

theorem worked_isolating (h : o.mode = .isolating) :
    (shutFeedback g fb o → o.worked g leaking main trusted fb
        = { o with command := max 0 (o.command - g.riso), isoCount := min 2 (o.isoCount + 1) })
      ∧ (¬ shutFeedback g fb o → o.worked g leaking main trusted fb
        = { o with command := max 0 (o.command - g.riso), isoCount := 0 }) := by
  have hchoose : o.chooseMode g trusted = o := by simp only [Oven.chooseMode, h]
  have hwork : o.modeWork g leaking main = { o with command := max 0 (o.command - g.riso) } := by simp only [Oven.modeWork, h]
  rw [Oven.worked, hchoose, hwork, Oven.isolationCheck, if_pos h]
  exact ⟨fun hs => if_pos ⟨hs.1, any_feedback_iff.mpr hs.2⟩, fun hs => if_neg fun hx => hs ⟨hx.1, any_feedback_iff.mp hx.2⟩⟩

/-- An oven whose pressure or main value is not trusted is in HOLD, with nothing computed (R157). -/
theorem worked_untrusted (h : o.mode = .hold ∨ o.mode = .regulate) : o.worked g leaking main false fb = { o with mode := .hold } := by
  have hchoose : o.chooseMode g false = { o with mode := .hold } := by
    obtain h | h := h
    · simp only [Oven.chooseMode, h, Bool.false_eq_true, if_false]
      rw [← h]
    · simp only [Oven.chooseMode, h, Bool.false_eq_true, if_false]
  rw [Oven.worked, hchoose]
  exact isolationCheck_of_ne (fun hx => by cases hx)

/-- The record in REGULATE, from HOLD with the bumpless preset (R157, R158). -/
def Oven.regulating (g : Config) (o : Oven) : Oven :=
  { o with mode := .regulate, integrator := if o.mode = .hold then presetIntegrator g o else o.integrator }

theorem worked_trusted (h : o.mode = .hold ∨ o.mode = .regulate) :
    o.worked g leaking main true fb = (o.regulating g).compute g leaking main := by
  have hchoose : o.chooseMode g true = o.regulating g := by
    obtain h | h := h
    · simp only [Oven.chooseMode, h, Oven.regulating, if_true, Oven.enterRegulate]
    · simp only [Oven.chooseMode, h, Oven.regulating, if_true, reduceCtorEq, if_false]
      rw [← h]
  rw [Oven.worked, hchoose]
  refine isolationCheck_of_ne ?_
  have hmode : (((o.regulating g).compute g leaking main)).mode = .regulate := by rw [compute_keeps]; rfl
  exact fun hx => by cases hmode.symm.trans hx

/-- The five modes of an oven, two of them taken together. -/
theorem mode_cases (o : Oven) : o.mode = .closed ∨ o.mode = .forced ∨ o.mode = .isolating ∨ o.mode = .hold ∨ o.mode = .regulate := by
  cases o.mode <;> simp

/-- The work of the mode changes the mode, the command, the integrator and the two counts alone. -/
theorem worked_keeps : o.worked g leaking main trusted fb = { o with
      mode := (o.worked g leaking main trusted fb).mode
      command := (o.worked g leaking main trusted fb).command
      integrator := (o.worked g leaking main trusted fb).integrator
      noDraw := (o.worked g leaking main trusted fb).noDraw
      isoCount := (o.worked g leaking main trusted fb).isoCount } := by
  obtain h | h | h | h := mode_cases o
  · rw [worked_closed h]
  · rw [worked_forced h]
  · by_cases hs : shutFeedback g fb o
    · rw [(worked_isolating h).1 hs]
    · rw [(worked_isolating h).2 hs]
  · cases trusted
    · rw [worked_untrusted h]
    · rw [worked_trusted h, compute_keeps]
      rfl

/-- Outside ISOLATING the isolation count stays (R168). -/
theorem worked_isoCount (h : o.mode ≠ .isolating) : (o.worked g leaking main trusted fb).isoCount = o.isoCount := by
  obtain hm | hm | hm | hm := mode_cases o
  · rw [worked_closed hm]
  · rw [worked_forced hm]
  · exact absurd hm h
  · cases trusted
    · rw [worked_untrusted hm]
    · rw [worked_trusted hm, compute_keeps]
      rfl

/-- Only in REGULATE is the no-draw count at work (R165). -/
theorem worked_noDraw (h : ¬ ((o.mode = .hold ∨ o.mode = .regulate) ∧ trusted = true)) :
    (o.worked g leaking main trusted fb).noDraw = o.noDraw := by
  obtain hm | hm | hm | hm := mode_cases o
  · rw [worked_closed hm]
  · rw [worked_forced hm]
  · by_cases hs : shutFeedback g fb o
    · rw [(worked_isolating hm).1 hs]
    · rw [(worked_isolating hm).2 hs]
  · cases trusted
    · rw [worked_untrusted hm]
    · exact absurd ⟨hm, rfl⟩ h

/-- The control computation that the completion makes (R165, R173 to R182). -/
theorem worked_computed {pf mv e former : Int} {row : Row} (h : o.mode = .hold ∨ o.mode = .regulate) (hf : o.filtered = some pf)
    (hrow : row = rowInForce g o)
    (he : e = clampInt (pf - clampInt (setpoint g o - if leaking then g.leakOffset else 0) (-700) 500) (-1000) 1000)
    (hformer : former = if o.mode = .hold then clampInt (o.command * 1024) (row.umin * 1024) (row.umax * 1024) else o.integrator) :
    (o.worked g leaking (some mv) true fb).integrator
        = clampInt (if mv ≤ pf - g.dmin then former + g.ki * e else former) (row.umin * 1024) (row.umax * 1024)
      ∧ (o.worked g leaking (some mv) true fb).command = o.command + clampInt
          (clampInt (roundDiv (o.worked g leaking (some mv) true fb).integrator 1024 + roundDiv (g.kp * e) 16) row.umin row.umax - o.command)
          (-g.r) g.r
      ∧ (o.worked g leaking (some mv) true fb).noDraw = (if mv ≤ pf - g.dmin then 0 else min 255 (o.noDraw + 1)) := by
  subst hrow he hformer
  rw [worked_trusted h, compute_eq (o := o.regulating g) hf]
  simp only [integralStage, drawSufficient, decide_eq_true_eq]
  exact ⟨rfl, rfl, rfl⟩

end

end Sys2Proof.Machine
end

section
/-! SUPPORT. One oven's work at the completion of a converter cycle: the record, the events counted, and what the push job is told
(R77, R155, R160). -/

-- The lemmas are checked one after another, as the tests are.
set_option Elab.async false

namespace Sys2Proof.Machine

open Sys2Proof

/-! ## Counts alone -/

/-- From c to d oven records were changed and events counted, and nothing else. -/
structure Quiet (c d : Controller) : Prop where
  offers : OnlyOffers { c with table := { c.table with ovens := d.table.ovens } } d
  job : d.job = c.job
  reg : d.reg = c.reg
  once : EventOnce c d

namespace Quiet

variable {b c d : Controller}

theorem refl (c : Controller) : Quiet c c := ⟨.refl c, rfl, rfl, .of_eq rfl rfl⟩

theorem trans (h : Quiet b c) (k : Quiet c d) : Quiet b d where
  offers :=
    have hbase : OnlyOffers { b with table := { b.table with ovens := d.table.ovens } } { c with table := { c.table with ovens := d.table.ovens } } :=
      { h.offers with table := by rw [h.offers.table] }
    hbase.trans k.offers
  job := k.job.trans h.job
  reg := k.reg.trans h.reg
  once := h.once.trans k.once

theorem start (h : Quiet c d) : d.start = c.start := h.offers.start

theorem modifyOven (i : Nat) (f : Oven → Oven) (c : Controller) : Quiet c (modifyOven i f c) :=
  ⟨.refl _, rfl, rfl, .of_eq rfl rfl⟩

theorem countWhere (p : Bool) (k : EventKind) (first : Option Nat) (c : Controller) : Quiet c (countWhere p k first c) := by
  cases p with
  | false => exact refl c
  | true =>
    have hcount : OnlyOffers c (count k first c) := .count k first c
    have hself : { c with table := { c.table with ovens := (count k first c).table.ovens } } = c := by rw [hcount.table]
    refine ⟨?_, by simp [Machine.countWhere], by simp [Machine.countWhere], .count k first c⟩
    show OnlyOffers { c with table := { c.table with ovens := (count k first c).table.ovens } } (count k first c)
    rw [hself]
    exact hcount

end Quiet

theorem Tallied.countWhere {j : Nat} {k : EventKind} (hj : j = k.number) (p : Bool) (first : Option Nat) (c : Controller) :
    Tallied j p.toNat c (Machine.countWhere p k first c) := by
  subst hj
  cases p
  · exact .of_eq rfl
  · exact .once k first c

theorem Tallied.countWhere_other {j : Nat} {k : EventKind} (hj : 1 ≤ j) (hne : j ≠ k.number) (p : Bool) (first : Option Nat) (c : Controller) :
    Tallied j 0 c (Machine.countWhere p k first c) := by
  cases p
  · exact .of_eq rfl
  · exact .other hj hne

/-! ## The record of one oven -/

/-- The record of the oven at index i after its whole work. -/
def ovenDone (k : Cycle) (c : Controller) (i : Nat) (o : Oven) : Oven :=
  ovenCompletion (cfg c) (channelOf (cfg c) (i + 1)) (anyLeaking c i) c.reg.main (sampleAt k (i + 1)) (sampleAt k (i + 9)) o

/-- The push job of the oven at index i takes a report of isolation complete (R77). -/
def isolatedReport (c : Controller) (i : Nat) : Bool := jobRuns c && isJobOven c i && c.job.state == .claimed

/-- The record of the oven at index i after its work and what the push job does to it. -/
def ovenEnd (k : Cycle) (c : Controller) (i : Nat) (o : Oven) : Oven :=
  if isolatedReport c i && becomesIsolated o (ovenDone k c i o) then movedOven (cfg c) .isolated (anyRemoved c i) (ovenDone k c i o)
  else ovenDone k c i o

theorem ovenDone_congr {b c : Controller} (hs : b.start = c.start) (hd : b.doors = c.doors)
    (hm : b.reg.main = { c.reg.main with queued := b.reg.main.queued }) (k : Cycle) (i : Nat) : ovenDone k b i = ovenDone k c i := by
  have hl : anyLeaking b i = anyLeaking c i := by simp [anyLeaking, doorAt, hd]
  have hvalue : b.reg.main.value = c.reg.main.value := by rw [hm]
  have hstale : b.reg.main.stale = c.reg.main.stale := by rw [hm]
  funext o
  simp only [ovenDone, ovenCompletion_eq, cfg_congr hs, hl, hvalue, hstale]

theorem ovenEnd_congr {b c : Controller} (hs : b.start = c.start) (hd : b.doors = c.doors)
    (hm : b.reg.main = { c.reg.main with queued := b.reg.main.queued }) {i : Nat} (hr : isolatedReport b i = isolatedReport c i) (k : Cycle) :
    ovenEnd k b i = ovenEnd k c i := by
  funext o
  simp only [ovenEnd, ovenDone_congr hs hd hm, cfg_congr hs, hr, anyRemoved_congr hd]

/-- The controller after an oven's record has been changed and its events counted. -/
def ovenCounted (k : Cycle) (c : Controller) (i : Nat) (o : Oven) : Controller :=
  countWhere (reachesNoDraw o (ovenDone k c i o)) .draw (some (ovenNumber c i))
    (countWhere (turnsStuck o (ovenDone k c i o)) .sensor (some (ovenNumber c i))
      (countWhere (sensorInvalid o (ovenDone k c i o)) .sensor (some (ovenNumber c i))
        (modifyOven i (fun _ => ovenDone k c i o) c)))

theorem completeOven_of_some {k : Cycle} {c : Controller} {i : Nat} {o : Oven} (h : ovenAt c i = some o) :
    completeOven k c i = jobOnCommand i (some o.command)
      (if becomesIsolated o (ovenDone k c i o) then jobOnIsolated i (ovenCounted k c i o) else ovenCounted k c i o) := by
  unfold completeOven
  rw [h]
  rfl

theorem completeOven_of_none {k : Cycle} {c : Controller} {i : Nat} (h : ovenAt c i = none) : completeOven k c i = c := by
  unfold completeOven
  rw [h]

theorem ovenCounted_quiet (k : Cycle) (c : Controller) (i : Nat) (o : Oven) : Quiet c (ovenCounted k c i o) :=
  (((Quiet.modifyOven i _ c).trans (.countWhere _ _ _ _)).trans (.countWhere _ _ _ _)).trans (.countWhere _ _ _ _)

theorem ovenCounted_ovens (k : Cycle) (c : Controller) (i : Nat) (o : Oven) :
    (ovenCounted k c i o).table.ovens = (modifyOven i (fun _ => ovenDone k c i o) c).table.ovens := by
  have h := ((OnlyOffers.countWhere (sensorInvalid o (ovenDone k c i o)) .sensor (some (ovenNumber c i))
    (modifyOven i (fun _ => ovenDone k c i o) c)).trans (.countWhere (turnsStuck o (ovenDone k c i o)) .sensor (some (ovenNumber c i)) _)).trans
    (.countWhere (reachesNoDraw o (ovenDone k c i o)) .draw (some (ovenNumber c i)) _)
  exact congrArg OvenTable.ovens h.table

/-- SENSOR INVALID and VALVE STUCK are counted under kind 28, NO DRAW under kind 29. -/
theorem ovenCounted_tallied (k : Cycle) (c : Controller) (i : Nat) (o : Oven) :
    Tallied 28 ((sensorInvalid o (ovenDone k c i o)).toNat + (turnsStuck o (ovenDone k c i o)).toNat) c (ovenCounted k c i o)
      ∧ Tallied 29 (reachesNoDraw o (ovenDone k c i o)).toNat c (ovenCounted k c i o) := by
  unfold ovenCounted
  generalize sensorInvalid o (ovenDone k c i o) = p, turnsStuck o (ovenDone k c i o) = q, reachesNoDraw o (ovenDone k c i o) = r,
    some (ovenNumber c i) = n
  obtain ⟨m, hm⟩ : ∃ m, m = modifyOven i (fun _ => ovenDone k c i o) c := ⟨_, rfl⟩
  have hmod (j : Nat) : Tallied j 0 c m := .of_eq (by rw [hm]; rfl)
  rw [← hm]
  constructor
  · have h := (((hmod 28).trans (.countWhere (k := .sensor) rfl p n m)).trans (.countWhere (k := .sensor) rfl q n _)).trans
      (.countWhere_other (k := .draw) (by decide) (by decide) r n _)
    rw [Nat.zero_add] at h
    exact h
  · have h := (((hmod 29).trans (.countWhere_other (k := .sensor) (by decide) (by decide) p n m)).trans
      (.countWhere_other (k := .sensor) (by decide) (by decide) q n _)).trans (.countWhere (k := .draw) rfl r n _)
    rw [Nat.zero_add] at h
    exact h

/-! ## What the push job is told -/

theorem jobOnIsolated_of_no_report {c : Controller} {i : Nat} (h : isolatedReport c i = false) : jobOnIsolated i c = c :=
  if_neg (by rw [← isolatedReport, h]; exact Bool.false_ne_true)

theorem jobOnCommand_of_other {c : Controller} {i : Nat} (h : isJobOven c i = false) (before : Option Int) : jobOnCommand i before c = c :=
  if_neg (by simp [h])

theorem isolatedReport_of_other {c : Controller} {i : Nat} (h : isJobOven c i = false) : isolatedReport c i = false := by
  simp [isolatedReport, h]

theorem isolatedReport_congr {b c : Controller} (hs : b.start = c.start) (hj : b.job = c.job) (i : Nat) :
    isolatedReport b i = isolatedReport c i := by
  have hindex : jobIndex b = jobIndex c := jobIndex_congr hs (by rw [hj])
  simp [isolatedReport, jobRuns, receiving, isJobOven, hs, hj, hindex]

/-- A report taken: the oven is ISOLATED and the job in DOORS with a PERMIT DOORS (R77). -/
theorem jobOnIsolated_of_report {c : Controller} {i : Nat} (h : isolatedReport c i = true) :
    ∃ n, c.job.oven = some n ∧ jobOnIsolated i c = enterJob .doors (offerPermit n permitDoorsCode (setPhase i .isolated c)) := by
  cases hn : c.job.oven with
  | none => simp [isolatedReport, isJobOven, jobIndex, hn] at h
  | some n =>
    refine ⟨n, rfl, ?_⟩
    rw [isolatedReport] at h
    rw [jobOnIsolated, if_pos h, hn]

/-- An evaluation leaves the oven of the job. -/
theorem evaluate_job_oven (c : Controller) : (evaluate c).job.oven = c.job.oven := by
  have hne {s : JobState} (hs : c.job.state = s) (h : s ≠ .bidding) : c.job.state ≠ .bidding := by rw [hs]; exact h
  have hhold (n : Nat) (h : c.job.state ≠ .bidding) : (holdPush .condition n c).job.oven = c.job.oven := by
    have hjob := (holdPush_offers .condition n h).job_of_ne (fun hx => by cases hx)
    rw [hjob]
    rfl
  unfold evaluate
  split
  · next n i _ _ =>
    split
    · unfold evaluateFor
      split
      · next hs =>
        split
        · have hjob := (OnlyOffers.offerPermit n permitPushCode c).job_of_ne (hne hs fun hx => by cases hx)
          show (offerPermit n permitPushCode c).job.oven = c.job.oven
          rw [hjob]
        · rfl
      · next hs =>
        split
        · rfl
        · exact hhold n (hne hs fun hx => by cases hx)
      · next hs =>
        split
        · rfl
        · exact hhold n (hne hs fun hx => by cases hx)
      · next hs =>
        split
        · have hstate : (resumedJob c.job).state ≠ .bidding := by
            unfold resumedJob
            cases c.job.started <;> exact fun hx => by cases hx
          have hjob := (resumePush_offers n (hne hs fun hx => by cases hx)).job_of_ne hstate
          rw [hjob]
          rfl
        · rfl
      · rfl
    · rfl
  · rfl

theorem jobOnCommand_job_oven (i : Nat) (before : Option Int) (c : Controller) : (jobOnCommand i before c).job.oven = c.job.oven := by
  unfold jobOnCommand
  split
  · exact evaluate_job_oven c
  · rfl

theorem jobOnCommand_reports (i : Nat) (before : Option Int) (c : Controller) : Reports [25] c (jobOnCommand i before c) := by
  unfold jobOnCommand
  split
  · exact .evaluate (List.mem_singleton.mpr rfl) c
  · exact .refl c

theorem jobOnIsolated_stays (i : Nat) (c : Controller) : EventsStay c (jobOnIsolated i c) := by
  cases h : isolatedReport c i with
  | false => rw [jobOnIsolated_of_no_report h]; exact .refl c
  | true =>
    obtain ⟨n, _, hx⟩ := jobOnIsolated_of_report h
    rw [hx]
    exact ((EventsStay.setPhase i .isolated c).trans (.offerPermit n permitDoorsCode _)).trans (.of_eq rfl)

theorem jobOnIsolated_job_oven (i : Nat) (c : Controller) : (jobOnIsolated i c).job.oven = c.job.oven := by
  cases h : isolatedReport c i with
  | false => rw [jobOnIsolated_of_no_report h]
  | true =>
    obtain ⟨n, _, hx⟩ := jobOnIsolated_of_report h
    have hstate : c.job.state ≠ .bidding := by
      have hclaimed : c.job.state = .claimed := by simp_all [isolatedReport]
      rw [hclaimed]
      exact fun hx => by cases hx
    have hset := setPhase_job (i := i) (p := .isolated) hstate
    have hoff := (OnlyOffers.offerPermit n permitDoorsCode (setPhase i .isolated c)).job_of_ne (by rw [hset]; exact hstate)
    rw [hx]
    show (offerPermit n permitDoorsCode (setPhase i .isolated c)).job.oven = c.job.oven
    rw [hoff, hset]

/-- A report taken moves the oven alone. -/
theorem jobOnIsolated_ovens {c : Controller} {i : Nat} (h : isolatedReport c i = true) :
    (jobOnIsolated i c).table.ovens = c.table.ovens.modify i (movedOven (cfg c) .isolated (anyRemoved c i)) := by
  obtain ⟨n, _, hx⟩ := jobOnIsolated_of_report h
  rw [hx]
  show (offerPermit n permitDoorsCode (setPhase i .isolated c)).table.ovens = _
  rw [(OnlyOffers.offerPermit n permitDoorsCode _).table, setPhase_ovens]

end Sys2Proof.Machine
end

section
/-! SUPPORT. The ovens of the section one after another at the completion of a converter cycle (R155). -/

-- The lemmas are checked one after another, as the tests are.
set_option Elab.async false

namespace Sys2Proof.Machine

open Sys2Proof

/-! ## One oven -/

theorem completeOven_ovens {k : Cycle} {c : Controller} {i : Nat} {o : Oven} (h : ovenAt c i = some o) :
    (completeOven k c i).table.ovens = c.table.ovens.modify i fun _ => ovenEnd k c i o := by
  have hq := ovenCounted_quiet k c i o
  have hovens := ovenCounted_ovens k c i o
  have hreport := isolatedReport_congr hq.start hq.job i
  have hcfg : cfg (ovenCounted k c i o) = cfg c := cfg_congr hq.start
  have hremoved : anyRemoved (ovenCounted k c i o) i = anyRemoved c i := anyRemoved_congr hq.offers.doors i
  have htable (before : Option Int) (x : Controller) : (jobOnCommand i before x).table = x.table := by simp
  rw [completeOven_of_some h, htable]
  unfold ovenEnd
  cases hb : becomesIsolated o (ovenDone k c i o) with
  | false =>
    simp only [Bool.and_false, Bool.false_eq_true, if_false]
    exact hovens
  | true =>
    cases hr : isolatedReport c i with
    | false =>
      rw [if_pos rfl, jobOnIsolated_of_no_report (hreport.trans hr)]
      exact hovens
    | true =>
      rw [if_pos rfl, jobOnIsolated_ovens (hreport.trans hr), hovens, hcfg, hremoved]
      refine List.ext_getElem? fun j => ?_
      simp only [modifyOven, List.getElem?_modify, Bool.and_self, if_true]
      by_cases hj : i = j
      · simp [hj, Function.comp_def]
      · simp [hj]

theorem completeOven_at (k : Cycle) (c : Controller) (i : Nat) :
    ovenAt (completeOven k c i) i = (ovenAt c i).map (ovenEnd k c i) := by
  cases h : ovenAt c i with
  | none => rw [completeOven_of_none h, h]; rfl
  | some o =>
    have ho : c.table.ovens[i]? = some o := h
    simp [ovenAt, completeOven_ovens h, ho]

theorem completeOven_other {k : Cycle} {c : Controller} {i j : Nat} (hj : j ≠ i) : ovenAt (completeOven k c i) j = ovenAt c j := by
  cases h : ovenAt c i with
  | none => rw [completeOven_of_none h]
  | some o => simp [ovenAt, completeOven_ovens h, Ne.symm hj]

theorem completeOven_length (k : Cycle) (c : Controller) (i : Nat) :
    (completeOven k c i).table.ovens.length = c.table.ovens.length := by
  cases h : ovenAt c i with
  | none => rw [completeOven_of_none h]
  | some o => rw [completeOven_ovens h, List.length_modify]

/-- An oven that is not the job's has its events counted, and nothing else is done. -/
theorem completeOven_quiet {c : Controller} {i : Nat} (h : isJobOven c i = false) (k : Cycle) : Quiet c (completeOven k c i) := by
  cases ho : ovenAt c i with
  | none => rw [completeOven_of_none ho]; exact .refl c
  | some o =>
    have hq := ovenCounted_quiet k c i o
    have hother : isJobOven (ovenCounted k c i o) i = false := by
      rw [isJobOven, jobIndex_congr hq.start (by rw [hq.job])]
      exact h
    have hsame : completeOven k c i = ovenCounted k c i o := by
      rw [completeOven_of_some ho, jobOnIsolated_of_no_report (isolatedReport_of_other hother), ite_self, jobOnCommand_of_other hother]
    rw [hsame]
    exact hq

theorem completeOven_job_oven (k : Cycle) (c : Controller) (i : Nat) : (completeOven k c i).job.oven = c.job.oven := by
  cases ho : ovenAt c i with
  | none => rw [completeOven_of_none ho]
  | some o =>
    rw [completeOven_of_some ho, jobOnCommand_job_oven, apply_ite Controller.job, apply_ite Job.oven, jobOnIsolated_job_oven, ite_self,
      (ovenCounted_quiet k c i o).job]

/-- Only the report for its own oven reaches the push job. -/
theorem completeOven_report {k : Cycle} {c : Controller} {i j : Nat} (hj : j ≠ i) :
    isolatedReport (completeOven k c i) j = isolatedReport c j := by
  cases h : isJobOven c i with
  | false =>
    have hq := completeOven_quiet h k
    exact isolatedReport_congr hq.start hq.job j
  | true =>
    have hindex : jobIndex c = some i := by simpa [isJobOven] using h
    have hsame : jobIndex (completeOven k c i) = jobIndex c := jobIndex_congr (by simp) (completeOven_job_oven k c i)
    have hother (x : Controller) (hx : jobIndex x = some i) : isJobOven x j = false := by
      simpa [isJobOven, hx] using fun h : i = j => hj h.symm
    rw [isolatedReport_of_other (hother _ (hsame.trans hindex)), isolatedReport_of_other (hother _ hindex)]

/-- Without a report of isolation complete no frame is requested. -/
theorem completeOven_reg_frame {k : Cycle} {c : Controller} {i : Nat} (h : isolatedReport c i = false) :
    (completeOven k c i).reg.frame = c.reg.frame := by
  cases ho : ovenAt c i with
  | none => rw [completeOven_of_none ho]
  | some o =>
    have hq := ovenCounted_quiet k c i o
    rw [completeOven_of_some ho, jobOnIsolated_of_no_report ((isolatedReport_congr hq.start hq.job i).trans h), ite_self]
    simp [hq.reg]

/-- The main record but for MAIN queued. -/
theorem completeOven_main (k : Cycle) (c : Controller) (i : Nat) :
    (completeOven k c i).reg.main = { c.reg.main with queued := (completeOven k c i).reg.main.queued } := by
  have htap : (completeOven k c i).reg.main.tap = c.reg.main.tap := by simp
  have hvalue : (completeOven k c i).reg.main.value = c.reg.main.value := by simp
  have hinvalid : (completeOven k c i).reg.main.invalid = c.reg.main.invalid := by simp
  have hage : (completeOven k c i).reg.main.age = c.reg.main.age := by simp
  have hstale : (completeOven k c i).reg.main.stale = c.reg.main.stale := by simp
  show _ = (⟨c.reg.main.tap, c.reg.main.value, c.reg.main.invalid, c.reg.main.age, c.reg.main.stale, _⟩ : MainRecord)
  rw [← htap, ← hvalue, ← hinvalid, ← hage, ← hstale]

/-- The events of one oven. -/
theorem completeOven_tallied (k : Cycle) (c : Controller) (i : Nat) :
    Tallied 28 (((ovenAt c i).any fun o => sensorInvalid o (ovenDone k c i o)).toNat
        + ((ovenAt c i).any fun o => turnsStuck o (ovenDone k c i o)).toNat) c (completeOven k c i)
      ∧ Tallied 29 ((ovenAt c i).any fun o => reachesNoDraw o (ovenDone k c i o)).toNat c (completeOven k c i) := by
  cases ho : ovenAt c i with
  | none => rw [completeOven_of_none ho]; exact ⟨.of_eq rfl, .of_eq rfl⟩
  | some o =>
    obtain ⟨hsensor, hdraw⟩ := ovenCounted_tallied k c i o
    obtain ⟨x, hx⟩ : ∃ x, x = if becomesIsolated o (ovenDone k c i o) then jobOnIsolated i (ovenCounted k c i o) else ovenCounted k c i o :=
      ⟨_, rfl⟩
    have hstays : EventsStay (ovenCounted k c i o) x := by
      rw [hx]
      exact .ite (fun _ => jobOnIsolated_stays i _) fun _ => .refl _
    have hreports := jobOnCommand_reports i (some o.command) x
    rw [completeOven_of_some ho, ← hx]
    have hlater {j : Nat} (h1 : 1 ≤ j) (h6 : j ≠ 6) (h25 : j ∉ [25]) :
        Tallied j 0 (ovenCounted k c i o) (jobOnCommand i (some o.command) x) :=
      (Tallied.of_stays hstays h1 h6).trans (.of_entry hreports.length (hreports.entry j h1 h6 h25))
    exact ⟨hsensor.trans (hlater (by decide) (by decide) (by decide)), hdraw.trans (hlater (by decide) (by decide) (by decide))⟩

/-! ## The ovens one after another -/

/-- The ovens below index n have been completed. -/
def cyclesDone (k : Cycle) (n : Nat) (c : Controller) : Controller := (List.range n).foldl (completeOven k) c

theorem cyclesDone_succ (k : Cycle) (n : Nat) (c : Controller) : cyclesDone k (n + 1) c = completeOven k (cyclesDone k n c) n := by
  simp [cyclesDone, List.range_succ]

/-- From m to b the ovens below index n have been completed. -/
structure CyclesDone (k : Cycle) (n : Nat) (m b : Controller) : Prop where
  start : b.start = m.start
  doors : b.doors = m.doors
  main : b.reg.main = { m.reg.main with queued := b.reg.main.queued }
  framesOn : b.reg.framesOn = m.reg.framesOn
  length : b.table.ovens.length = m.table.ovens.length
  done : ∀ j, j < n → ovenAt b j = (ovenAt m j).map (ovenEnd k m j)
  others : ∀ j, n ≤ j → ovenAt b j = ovenAt m j
  report : ∀ j, n ≤ j → isolatedReport b j = isolatedReport m j
  job : b.job.oven = m.job.oven
  frame : (∀ j, isolatedReport m j = false) → b.reg.frame = m.reg.frame
  sensor : Tallied 28 ((List.range n).countP (fun j => (ovenAt m j).any fun o => sensorInvalid o (ovenDone k m j o))
    + (List.range n).countP fun j => (ovenAt m j).any fun o => turnsStuck o (ovenDone k m j o)) m b
  draw : Tallied 29 ((List.range n).countP fun j => (ovenAt m j).any fun o => reachesNoDraw o (ovenDone k m j o)) m b

theorem countP_range_succ (p : Nat → Bool) (n : Nat) : (List.range (n + 1)).countP p = (List.range n).countP p + (p n).toNat := by
  rw [List.range_succ, List.countP_append, List.countP_singleton]
  cases p n <;> rfl

theorem cyclesDone_spec (k : Cycle) (n : Nat) (m : Controller) : CyclesDone k n m (cyclesDone k n m) := by
  induction n with
  | zero =>
    exact ⟨rfl, rfl, rfl, rfl, rfl, fun j h => absurd h (Nat.not_lt_zero j), fun _ _ => rfl, fun _ _ => rfl, rfl, fun _ => rfl,
      .of_eq rfl, .of_eq rfl⟩
  | succ n ih =>
    obtain ⟨b, hb⟩ : ∃ b, b = cyclesDone k n m := ⟨_, rfl⟩
    rw [← hb] at ih
    rw [cyclesDone_succ, ← hb]
    have hdone : ovenDone k b n = ovenDone k m n := ovenDone_congr ih.start ih.doors ih.main k n
    have hend : ovenEnd k b n = ovenEnd k m n := ovenEnd_congr ih.start ih.doors ih.main (ih.report n (Nat.le_refl n)) k
    have hat : ovenAt b n = ovenAt m n := ih.others n (Nat.le_refl n)
    obtain ⟨hsensor, hdraw⟩ := completeOven_tallied k b n
    rw [hat, hdone] at hsensor hdraw
    exact {
      start := (show (completeOven k b n).start = b.start by simp).trans ih.start
      doors := (show (completeOven k b n).doors = b.doors by simp).trans ih.doors
      main := by rw [completeOven_main, ih.main]
      framesOn := (show (completeOven k b n).reg.framesOn = b.reg.framesOn by simp).trans ih.framesOn
      length := (completeOven_length k b n).trans ih.length
      done := fun j hj => by
        obtain hlt | rfl := Nat.lt_succ_iff_lt_or_eq.mp hj
        · rw [completeOven_other (Nat.ne_of_lt hlt), ih.done j hlt]
        · rw [completeOven_at, hat, hend]
      others := fun j hj => (completeOven_other (Nat.ne_of_gt hj)).trans (ih.others j (Nat.le_of_succ_le hj))
      report := fun j hj => (completeOven_report (Nat.ne_of_gt hj)).trans (ih.report j (Nat.le_of_succ_le hj))
      job := (completeOven_job_oven k b n).trans ih.job
      frame := fun h => (completeOven_reg_frame ((ih.report n (Nat.le_refl n)).trans (h n))).trans (ih.frame h)
      sensor := by
        have := ih.sensor.trans hsensor
        rw [countP_range_succ, countP_range_succ]
        rwa [Nat.add_add_add_comm] at this
      draw := by
        rw [countP_range_succ]
        exact ih.draw.trans hdraw }

/-- From index a to index n no oven is the job's: events are counted, and nothing else is done. -/
theorem cyclesDone_quiet {k : Cycle} {a n : Nat} {m : Controller} (hle : a ≤ n) (h : ∀ j, a ≤ j → j < n → isJobOven m j = false) :
    Quiet (cyclesDone k a m) (cyclesDone k n m) := by
  induction hle with
  | refl => exact .refl _
  | @step n hle ih =>
    have hdone := cyclesDone_spec k n m
    have hother : isJobOven (cyclesDone k n m) n = false := by
      rw [isJobOven, jobIndex_congr hdone.start hdone.job]
      exact h n hle (Nat.lt_succ_self n)
    rw [cyclesDone_succ]
    exact (ih fun j ha hj => h j ha (Nat.lt_succ_of_lt hj)).trans (completeOven_quiet hother k)

end Sys2Proof.Machine
end

section
/-! SUPPORT. The completion that reports isolation complete to a CLAIMED job (R77, R168), and the oven record that a completion
leaves. -/

-- The lemmas are checked one after another, as the tests are.
set_option Elab.async false

namespace Sys2Proof.Machine

open Sys2Proof

/-! ## Isolation reported to the push job (R77) -/

/-- The job record after a report of isolation complete. -/
def doorsJob (j : Job) : Job := { j with state := .doors, permitOut := false, holdOut := false }

theorem NoLoss.of_once {c d : Controller} (h : EventOnce c d) (hs : d.start = c.start) (hj : d.job = c.job) : NoLoss 1 c d where
  keeps := ⟨by rw [hs], h.number, fun _ _ => h.length_le, fun _ _ e he _ => h.kept e he⟩
  owed _ _ := by rw [hj]

/-- A report taken puts the PHASE and the PERMIT DOORS in the queue, where there was room for both. -/
theorem jobOnIsolated_waits {c : Controller} {i n : Nat} {o : Oven} (h : isolatedReport c i = true) (hn : c.job.oven = some n)
    (ho : ovenAt c i = some o) (ha : isActive c = true) (hroom : roomFor 2 c) (howed : c.job.owed = none) :
    waitsInTx (permitTelegram (ownNumber c) n permitDoorsCode) (jobOnIsolated i c)
      ∧ waitsInTx (phaseTelegram (ownNumber c) { o with phase := .isolated }) (jobOnIsolated i c)
      ∧ (jobOnIsolated i c).job.owed = none := by
  obtain ⟨p, hp, hx⟩ := jobOnIsolated_of_report h
  cases hn.symm.trans hp
  obtain ⟨s, hs⟩ : ∃ s, s = setPhase i .isolated c := ⟨_, rfl⟩
  have hset : NoLoss 1 c s := hs ▸ .setPhase i .isolated c
  have hphase : waitsInTx (phaseTelegram (ownNumber c) { o with phase := .isolated }) s :=
    hs ▸ setPhase_waits ha (by rw [roomFor] at hroom ⊢; omega) ho
  have hactive : isActive s = true := hset.keeps.active.trans ha
  have hroom1 : roomFor 1 s := hset.keeps.room (m := 1) ha hroom
  have hpermit : QueueKeeps (fun u => u.kind ≠ some .permit) 1 s (offerPermit n permitDoorsCode s) := .offerPermit (fun _ hu => hu) n _ s
  rw [hx, ← hs]
  refine ⟨?_, hpermit.waits hactive hroom1 (fun hk => by cases hk) hphase, ?_⟩
  · rw [← hset.keeps.ownNumber]
    exact offerPermit_waits hactive hroom1
  · exact ((NoLoss.offerPermit n permitDoorsCode s).owed hactive hroom1).trans
      ((hset.owed ha (by rw [roomFor] at hroom ⊢; omega)).trans howed)

/-- A report taken moves the job to DOORS (R72, R77). -/
theorem jobOnIsolated_job {c : Controller} {i : Nat} (h : isolatedReport c i = true) :
    (jobOnIsolated i c).job = { doorsJob c.job with owed := (jobOnIsolated i c).job.owed } := by
  obtain ⟨n, _, hx⟩ := jobOnIsolated_of_report h
  have hstate : c.job.state ≠ .bidding := by
    have hclaimed : c.job.state = .claimed := by simp_all [isolatedReport]
    rw [hclaimed]
    exact fun hx => by cases hx
  have hset := setPhase_job (i := i) (p := .isolated) hstate
  have hoff := (OnlyOffers.offerPermit n permitDoorsCode (setPhase i .isolated c)).job_of_ne (by rw [hset]; exact hstate)
  rw [hx]
  show Job.enter .doors (offerPermit n permitDoorsCode (setPhase i .isolated c)).job = _
  rw [hoff, hset]
  rfl

/-- Where the completion reports isolation complete, the job is in DOORS and the PHASE and the PERMIT DOORS wait; the other ovens
have counted events alone. -/
theorem cyclesDone_isolated {k : Cycle} {i n : Nat} {o : Oven} {m d : Controller} (hd : d = cyclesDone k n m) (hlt : i < n)
    (hr : isolatedReport m i = true) (ho : ovenAt m i = some o) (hb : becomesIsolated o (ovenDone k m i o) = true) :
    d.job = { doorsJob m.job with owed := d.job.owed }
      ∧ ∀ p, m.job.oven = some p → isActive m = true → roomFor 3 m → m.job.owed = none →
          waitsInTx (permitTelegram (ownNumber m) p permitDoorsCode) d
            ∧ waitsInTx (phaseTelegram (ownNumber m) { ovenDone k m i o with phase := .isolated }) d ∧ d.job.owed = none := by
  have hindex : jobIndex m = some i := by simp_all [isolatedReport, isJobOven]
  have hothers (j : Nat) (hj : j ≠ i) : isJobOven m j = false := by
    simpa [isJobOven, hindex] using fun h : i = j => hj h.symm
  obtain ⟨x, hx⟩ : ∃ x, x = cyclesDone k i m := ⟨_, rfl⟩
  have hdone : CyclesDone k i m x := hx ▸ cyclesDone_spec k i m
  have hbefore : Quiet m x := hx ▸ cyclesDone_quiet (Nat.zero_le i) fun j _ hj => hothers j (Nat.ne_of_lt hj)
  have hox : ovenAt x i = some o := (hdone.others i (Nat.le_refl i)).trans ho
  have hsame : ovenDone k x i o = ovenDone k m i o := by rw [ovenDone_congr hdone.start hdone.doors hdone.main]
  obtain ⟨y, hy⟩ : ∃ y, y = ovenCounted k x i o := ⟨_, rfl⟩
  have hquiet : Quiet m y := hbefore.trans (hy ▸ ovenCounted_quiet k x i o)
  have hry : isolatedReport y i = true := (isolatedReport_congr hquiet.start hquiet.job i).trans hr
  have hoy : ovenAt y i = some (ovenDone k m i o) := by
    rw [hy, ovenAt_congr (ovenCounted_ovens k x i o), ovenAt_modifyOven_self, hox, ← hsame]
    rfl
  have hjob := jobOnIsolated_job hry
  have hstep : cyclesDone k (i + 1) m = jobOnIsolated i y := by
    rw [cyclesDone_succ, ← hx, completeOven_of_some hox, hsame, if_pos hb, ← hy]
    unfold jobOnCommand
    split
    · exact evaluate_of_state (by rw [hjob]; rfl)
    · rfl
  have hafter : Quiet (jobOnIsolated i y) d := by
    rw [hd, ← hstep]
    exact cyclesDone_quiet hlt fun j hj _ => hothers j (Nat.ne_of_gt hj)
  refine ⟨?_, fun p hp ha hroom howed => ?_⟩
  · rw [hafter.job, hjob, hquiet.job]
  · have hnoloss := NoLoss.of_once hquiet.once hquiet.start hquiet.job
    obtain ⟨hpermit, hphase, hnone⟩ := jobOnIsolated_waits hry (by rw [hquiet.job]; exact hp) hoy (hnoloss.keeps.active.trans ha)
      (hnoloss.keeps.room (m := 2) ha hroom) (by rw [hquiet.job]; exact howed)
    rw [hnoloss.keeps.ownNumber] at hpermit hphase
    exact ⟨hafter.once.kept _ hpermit, hafter.once.kept _ hphase, by rw [hafter.job]; exact hnone⟩

/-! ## The record that a completion leaves -/

section
variable {g : Config} {z : Channel} {leaking : Bool} {main : MainRecord} {x f : Option Nat} {o : Oven}

/-- A completion leaves the number, phase, minutes, plan, stage, inhibited flag and hard push count. -/
theorem ovenCompletion_keeps (w : Oven) (h : w = ovenCompletion g z leaking main x f o) :
    w.number = o.number ∧ w.phase = o.phase ∧ w.minutes = o.minutes ∧ w.target = o.target ∧ w.inhibited = o.inhibited
      ∧ w.hardCount = o.hardCount ∧ w.invalid = (o.takePressure g z x).invalid ∧ w.filtered = (o.takePressure g z x).filtered
      ∧ w.feedback = (o.takeFeedback f).feedback ∧ w.stuck = (o.sampled g z x f).stuck ∧ w.stuckCount = (o.sampled g z x f).stuckCount := by
  rw [h, ovenCompletion_eq, worked_keeps]
  dsimp only
  rw [sampled_keeps]
  exact ⟨rfl, rfl, rfl, rfl, rfl, rfl, rfl, rfl, rfl, rfl, rfl⟩

/-- The samples leave the mode, the command, the integrator and the two counts. -/
theorem sampled_mode (s : Oven) (h : s = o.sampled g z x f) :
    s.mode = o.mode ∧ s.command = o.command ∧ s.integrator = o.integrator ∧ s.noDraw = o.noDraw ∧ s.isoCount = o.isoCount := by
  rw [h, sampled_keeps]
  exact ⟨rfl, rfl, rfl, rfl, rfl⟩

theorem ovenCompletion_closed (h : o.mode = .closed) : (ovenCompletion g z leaking main x f o).mode = .closed
    ∧ (ovenCompletion g z leaking main x f o).command = 0 ∧ (ovenCompletion g z leaking main x f o).integrator = 0 := by
  have hm := (sampled_mode _ (rfl : o.sampled g z x f = _)).1.trans h
  rw [ovenCompletion_eq, worked_closed hm]
  exact ⟨hm, rfl, rfl⟩

theorem ovenCompletion_forced (h : o.mode = .forced) : (ovenCompletion g z leaking main x f o).mode = .forced
    ∧ (ovenCompletion g z leaking main x f o).command = g.uchg ∧ (ovenCompletion g z leaking main x f o).integrator = o.integrator := by
  obtain ⟨hm, _, hi, _⟩ := sampled_mode _ (rfl : o.sampled g z x f = _)
  rw [ovenCompletion_eq, worked_forced (hm.trans h)]
  exact ⟨hm.trans h, rfl, hi⟩

theorem ovenCompletion_isolating (h : o.mode = .isolating) : (ovenCompletion g z leaking main x f o).mode = .isolating
    ∧ (ovenCompletion g z leaking main x f o).command = max 0 (o.command - g.riso)
    ∧ (shutFeedback g f o → (ovenCompletion g z leaking main x f o).isoCount = min 2 (o.isoCount + 1))
    ∧ (¬ shutFeedback g f o → (ovenCompletion g z leaking main x f o).isoCount = 0) := by
  obtain ⟨hm, hc, _, _, hn⟩ := sampled_mode _ (rfl : o.sampled g z x f = _)
  have hshut : shutFeedback g f (o.sampled g z x f) ↔ shutFeedback g f o := by simp only [shutFeedback, hc]
  have hwork := worked_isolating (g := g) (leaking := leaking) (main := main.value) (trusted := x.isSome && !main.stale) (fb := f) (hm.trans h)
  rw [ovenCompletion_eq]
  by_cases hs : shutFeedback g f o
  · rw [hwork.1 (hshut.mpr hs)]
    exact ⟨hm.trans h, by rw [hc], fun _ => by rw [hn], fun hno => absurd hs hno⟩
  · rw [hwork.2 fun hx => hs (hshut.mp hx)]
    exact ⟨hm.trans h, by rw [hc], fun hx => absurd hx hs, fun _ => rfl⟩

theorem ovenCompletion_isoCount (h : o.mode ≠ .isolating) : (ovenCompletion g z leaking main x f o).isoCount = o.isoCount := by
  obtain ⟨hm, _, _, _, hn⟩ := sampled_mode _ (rfl : o.sampled g z x f = _)
  rw [ovenCompletion_eq, worked_isoCount (by rw [hm]; exact h), hn]

theorem ovenCompletion_hold (h : o.mode = .hold ∨ o.mode = .regulate) (hx : x = none ∨ main.stale = true) :
    (ovenCompletion g z leaking main x f o).mode = .hold ∧ (ovenCompletion g z leaking main x f o).command = o.command
      ∧ (ovenCompletion g z leaking main x f o).integrator = o.integrator ∧ (ovenCompletion g z leaking main x f o).noDraw = o.noDraw := by
  obtain ⟨hm, hc, hi, hn, _⟩ := sampled_mode _ (rfl : o.sampled g z x f = _)
  have htrust : (x.isSome && !main.stale) = false := by
    obtain rfl | hs := hx
    · rfl
    · simp [hs]
  rw [ovenCompletion_eq, htrust, worked_untrusted (by rw [hm]; exact h)]
  exact ⟨rfl, hc, hi, hn⟩

theorem trusted_of {main : MainRecord} {x : Option Nat} (hx : x ≠ none) (hs : main.stale = false) : (x.isSome && !main.stale) = true := by
  simp [hs, Option.isSome_iff_ne_none.mpr hx]

theorem ovenCompletion_regulate (h : o.mode = .hold ∨ o.mode = .regulate) (hx : x ≠ none) (hs : main.stale = false) :
    (ovenCompletion g z leaking main x f o).mode = .regulate := by
  have hm := (sampled_mode _ (rfl : o.sampled g z x f = _)).1
  rw [ovenCompletion_eq, trusted_of hx hs, worked_trusted (by rw [hm]; exact h), compute_keeps]
  rfl

/-- The control computation of a completion (R165, R173 to R182). -/
theorem ovenCompletion_computed {w : Oven} {pf mv e former : Int} {row : Row} (hw : w = ovenCompletion g z leaking main x f o)
    (h : o.mode = .hold ∨ o.mode = .regulate) (hx : x ≠ none) (hs : main.stale = false) (hpf : w.filtered = some pf)
    (hmv : main.value = some mv) (hrow : row = rowInForce g o)
    (he : e = clampInt (pf - clampInt (setpoint g o - if leaking then g.leakOffset else 0) (-700) 500) (-1000) 1000)
    (hformer : former = if o.mode = .hold then clampInt (o.command * 1024) (row.umin * 1024) (row.umax * 1024) else o.integrator) :
    w.integrator = clampInt (if mv ≤ pf - g.dmin then former + g.ki * e else former) (row.umin * 1024) (row.umax * 1024)
      ∧ w.command = o.command + clampInt
          (clampInt (roundDiv w.integrator 1024 + roundDiv (g.kp * e) 16) row.umin row.umax - o.command) (-g.r) g.r
      ∧ w.noDraw = (if mv ≤ pf - g.dmin then 0 else min 255 (o.noDraw + 1)) := by
  obtain ⟨hm, hc, hi, hn, _⟩ := sampled_mode _ (rfl : o.sampled g z x f = _)
  obtain ⟨_, _, _, _, _, _, _, hfiltered, _⟩ := ovenCompletion_keeps w hw
  have hsrow : rowInForce g (o.sampled g z x f) = rowInForce g o := by rw [sampled_keeps]; rfl
  have hspoint : setpoint g (o.sampled g z x f) = setpoint g o := by rw [sampled_keeps]; rfl
  have hsfiltered : (o.sampled g z x f).filtered = some pf := by
    rw [sampled_keeps]
    exact hfiltered.symm.trans hpf
  have hwork := worked_computed (leaking := leaking) (fb := f) (mv := mv) (e := e) (former := former) (row := row)
    (by rw [hm]; exact h) hsfiltered (hrow.trans hsrow.symm) (by rw [hspoint]; exact he) (by rw [hm, hc, hi]; exact hformer)
  rw [ovenCompletion_eq, trusted_of hx hs, hmv] at hw
  rw [← hw, hc, hn] at hwork
  exact hwork

/-- The no-draw count rises by one, is cleared, or stays (R165). -/
theorem ovenCompletion_noDraw (h : o.mode ≠ .hold ∧ o.mode ≠ .regulate) : (ovenCompletion g z leaking main x f o).noDraw = o.noDraw := by
  obtain ⟨hm, _, _, hn, _⟩ := sampled_mode _ (rfl : o.sampled g z x f = _)
  rw [ovenCompletion_eq, worked_noDraw (by rw [hm]; exact fun hx => hx.1.elim h.1 h.2), hn]

/-- Isolation complete is reported from ISOLATING alone, at a completion that finds the valve shut (R168). -/
theorem becomesIsolated_shut {w : Oven} (hw : w = ovenCompletion g z leaking main x f o) (h : becomesIsolated o w = true) :
    o.mode = .isolating ∧ shutFeedback g f o ∧ (o.isoCount ≤ 2 → o.isoCount = 1) := by
  have hcount : w.isoCount = 2 ∧ o.isoCount ≠ 2 := by simpa [becomesIsolated] using h
  have hmode : o.mode = .isolating := by
    refine Classical.byContradiction fun hne => ?_
    exact hcount.2 ((ovenCompletion_isoCount hne).symm.trans (hw ▸ hcount.1))
  obtain ⟨_, _, hshut, hopen⟩ := ovenCompletion_isolating (g := g) (z := z) (leaking := leaking) (main := main) (x := x) (f := f) hmode
  have hs : shutFeedback g f o := by
    refine Classical.byContradiction fun hno => ?_
    have := hopen hno
    rw [← hw] at this
    omega
  refine ⟨hmode, hs, fun hle => ?_⟩
  have := hshut hs
  rw [← hw] at this
  omega

theorem becomesIsolated_of_shut {w : Oven} (hw : w = ovenCompletion g z leaking main x f o) (hm : o.mode = .isolating)
    (hs : shutFeedback g f o) (hc : o.isoCount = 1) : becomesIsolated o w = true := by
  obtain ⟨_, _, hshut, _⟩ := ovenCompletion_isolating (g := g) (z := z) (leaking := leaking) (main := main) (x := x) (f := f) hm
  simp [becomesIsolated, hw, hshut hs, hc]

end

/-- A change of phase leaves the samples and the stuck record. -/
theorem movedOven_samples (g : Config) (p : Phase) (removed : Bool) (o : Oven) :
    (movedOven g p removed o).filtered = o.filtered ∧ (movedOven g p removed o).invalid = o.invalid
      ∧ (movedOven g p removed o).feedback = o.feedback ∧ (movedOven g p removed o).stuck = o.stuck
      ∧ (movedOven g p removed o).stuckCount = o.stuckCount := by
  obtain ⟨_, _, _, _, _, _, _, _, h1, h2, h3, h4, h5⟩ := enterMode_keeps g (({ o with phase := p }).withStage g)
  unfold movedOven
  split
  · exact ⟨rfl, rfl, rfl, rfl, rfl⟩
  · exact ⟨h1, h2, h3, h4, h5⟩

end Sys2Proof.Machine
end

section
/-! SUPPORT. The main record at the completion of a converter cycle, and the completion as a whole (R155, R161). -/

-- The lemmas are checked one after another, as the tests are.
set_option Elab.async false

namespace Sys2Proof.Machine

open Sys2Proof

/-! ## The main record (R161) -/

/-- The main record after step 1 of a completion. -/
def mainAfter (k : Cycle) (c : Controller) : MainRecord :=
  if c.reg.main.tap then c.reg.main.takeSample (cfg c) (sampleAt k 17) else c.reg.main

/-- MAIN STALE is due at step 1 of a completion (R161, R164). -/
def mainTurnsStale (k : Cycle) (c : Controller) : Bool := (mainAfter k c).stale && !c.reg.main.stale

/-- The controller at a completion with the cycle over and the main record taken. -/
def mainTaken (k : Cycle) (c : Controller) : Controller :=
  { c with reg := { c.reg with cycle := none, answer := none, main := mainAfter k c }, due := { c.due with cycleComplete := false } }

theorem completeMain_eq (k : Cycle) (c : Controller) :
    completeMain k c = countWhere (mainTurnsStale k c) .draw none (modifyMain (fun _ => mainAfter k c) c) := by
  unfold completeMain mainTurnsStale mainAfter
  split
  · rfl
  · rw [show (c.reg.main.stale && !c.reg.main.stale) = false by cases c.reg.main.stale <;> rfl]
    rfl

theorem takeSample_kept (g : Config) (x : Option Nat) (m : MainRecord) :
    (m.takeSample g x).tap = m.tap ∧ (m.takeSample g x).queued = m.queued := by
  unfold MainRecord.takeSample
  split
  · exact ⟨rfl, rfl⟩
  · dsimp only
    split <;> exact ⟨rfl, rfl⟩

theorem mainAfter_queued (k : Cycle) (c : Controller) : (mainAfter k c).queued = c.reg.main.queued := by
  unfold mainAfter
  split
  · exact (takeSample_kept _ _ _).2
  · rfl

theorem mainAfter_of_none {k : Cycle} {c : Controller} (ht : c.reg.main.tap = true) (h : sampleAt k 17 = none) :
    (mainAfter k c).invalid = min 255 (c.reg.main.invalid + 1)
      ∧ (c.reg.main.invalid = 2 → (mainAfter k c).value = none ∧ (mainAfter k c).stale = true) := by
  rw [mainAfter, if_pos ht, h]
  simp only [MainRecord.takeSample]
  split
  · exact ⟨rfl, fun _ => ⟨rfl, rfl⟩⟩
  · next hne => exact ⟨rfl, fun h2 => absurd (by rw [h2]; rfl) hne⟩

/-! ## The completion as a whole (R155) -/

theorem OnlyOffers.withFrameOf {b c : Controller} (h : OnlyOffers b c) (d : Controller) :
    OnlyOffers (withFrameOf d b) (withFrameOf d c) :=
  { h with
    reg := by
      show ({ c.reg with frame := d.reg.frame, frameHeld := d.reg.frameHeld } : Regulation) = _
      rw [h.reg]
      rfl }

/-- From c to d a converter cycle k has been completed. -/
structure CycleCompleted (k : Cycle) (c d : Controller) : Prop where
  ovens : ∀ j, j < c.table.ovens.length → ovenAt d j = (ovenAt c j).map (ovenEnd k (mainTaken k c) j)
  main : d.reg.main = { mainAfter k c with queued := d.reg.main.queued }
  sensor : Tallied 28
    ((List.range c.table.ovens.length).countP (fun j => (ovenAt c j).any fun o => sensorInvalid o (ovenDone k (mainTaken k c) j o))
      + (List.range c.table.ovens.length).countP fun j => (ovenAt c j).any fun o => turnsStuck o (ovenDone k (mainTaken k c) j o)) c d
  draw : Tallied 29
    ((mainTurnsStale k c).toNat
      + (List.range c.table.ovens.length).countP fun j => (ovenAt c j).any fun o => reachesNoDraw o (ovenDone k (mainTaken k c) j o)) c d
  offers : c.job.oven = none → OnlyOffers { c with
      table := { c.table with ovens := d.table.ovens }
      reg := { c.reg with cycle := none, answer := none, frame := d.reg.frame, frameHeld := d.reg.frameHeld,
                          main := { d.reg.main with queued := c.reg.main.queued } }
      due := { c.due with cycleComplete := false } } d
  frame : (∀ j, isolatedReport c j = false) → c.reg.framesOn = true → c.reg.frame = none →
    d.reg.frame = some ((List.range 8).map fun j => ((ovenAt d j).map (·.command)).getD 0)
  isolated : ∀ i o, isolatedReport c i = true → ovenAt c i = some o →
    becomesIsolated o (ovenDone k (mainTaken k c) i o) = true →
      d.job = { doorsJob c.job with owed := d.job.owed }
        ∧ ∀ n, c.job.oven = some n → isActive c = true → roomFor 4 c → c.job.owed = none →
            waitsInTx (permitTelegram (ownNumber c) n permitDoorsCode) d
              ∧ waitsInTx (phaseTelegram (ownNumber c) { ovenDone k (mainTaken k c) i o with phase := .isolated }) d

theorem cycleCompleted {q : List Instr} {c : Controller} {k : Cycle} (hp : c.start.powerOn = false) (hdue : c.due.cycleComplete = true)
    (hk : c.reg.cycle = some k) :
    ∃ d, exec .converterCycleComplete ⟨q, c⟩ = .next ⟨q, d⟩ ∧ CycleCompleted k c d := by
  obtain ⟨b, hb⟩ : ∃ b, b = modifyDue (fun d => { d with cycleComplete := false }) c := ⟨_, rfl⟩
  obtain ⟨t, ht⟩ : ∃ t, t = mainTaken k c := ⟨_, rfl⟩
  obtain ⟨m, hm⟩ : ∃ m, m = countWhere (mainTurnsStale k c) .draw none t := ⟨_, rfl⟩
  obtain ⟨z, hz⟩ : ∃ z, z = cyclesDone k c.table.ovens.length m := ⟨_, rfl⟩
  obtain ⟨y, hy⟩ : ∃ y, y = requestFrame z := ⟨_, rfl⟩
  obtain ⟨d, hd⟩ : ∃ d, d = freePlace y := ⟨_, rfl⟩
  have hcount : OnlyOffers t m := hm ▸ .countWhere _ _ _ _
  have hquiet : Quiet t m := hm ▸ .countWhere _ _ _ _
  have hovens : m.table.ovens = c.table.ovens := by rw [hcount.table, ht]; rfl
  have hmain : completeMain k (modifyReg (fun r => { r with cycle := none, answer := none }) b) = m := by
    rw [hm, ht, hb, completeMain_eq]
    rfl
  have hcompletes : cycleCompletes b = y := by
    have hcycle : b.reg.cycle = some k := by rw [hb]; exact hk
    simp only [cycleCompletes, hcycle]
    rw [hmain, hovens, hy, hz]
    rfl
  have hstep : exec .converterCycleComplete ⟨q, c⟩ = .next ⟨q, d⟩ := by
    rw [hd, ← hcompletes, hb]
    exact event_takeDue (due := fun c => c.due.cycleComplete) hp hdue
  have hdone : CyclesDone k c.table.ovens.length m z := hz ▸ cyclesDone_spec k _ m
  have hfree : OnlyOffers y d := hd ▸ .freePlace y
  have hframe : y = withFrameOf y z := by rw [hy]; exact requestFrame_eq z
  have hytable : y.table = z.table := by rw [hframe]; rfl
  have hyline : y.line = z.line := by rw [hframe]; rfl
  have hyjob : y.job = z.job := by rw [hframe]; rfl
  have hyevents : y.events = z.events := by rw [hframe]; rfl
  have hdovens : d.table.ovens = z.table.ovens := by rw [hfree.table, hytable]
  have hreg : m.reg = t.reg := hquiet.reg
  have hmaincongr : m.reg.main = { t.reg.main with queued := m.reg.main.queued } := by rw [hreg]
  have hreport (j : Nat) : isolatedReport m j = isolatedReport c j :=
    isolatedReport_congr (by rw [hquiet.start, ht]; rfl) (by rw [hquiet.job, ht]; rfl) j
  have hreport' (j : Nat) : isolatedReport m j = isolatedReport t j := isolatedReport_congr hquiet.start hquiet.job j
  have hworked (j : Nat) : ovenDone k m j = ovenDone k (mainTaken k c) j := by
    rw [← ht]
    exact ovenDone_congr hquiet.start hcount.doors hmaincongr k j
  have hend (j : Nat) : ovenEnd k m j = ovenEnd k (mainTaken k c) j := by
    rw [← ht]
    exact ovenEnd_congr hquiet.start hcount.doors hmaincongr (hreport' j) k
  have hat (j : Nat) : ovenAt m j = ovenAt c j := ovenAt_congr hovens j
  have htmain : t.reg.main = mainAfter k c := by rw [ht]; rfl
  have hdmain : d.reg.main = { mainAfter k c with queued := d.reg.main.queued } := by
    have hymain : y.reg.main = z.reg.main := by rw [hframe]; rfl
    rw [hfree.reg, hymain, hdone.main, hreg, htmain]
  have hlast (j n : Nat) (h : Tallied j n c z) : Tallied j n c d := by
    have hentries : d.events.entries = z.events.entries := by rw [hd, freePlace_entries, hyevents]
    exact h.trans (m := n) (n := 0) (.of_eq hentries)
  have hstart (j : Nat) : Tallied j 0 c t := .of_eq (by rw [ht]; rfl)
  refine ⟨d, hstep, fun j hj => ?_, hdmain, hlast 28 _ ?_, hlast 29 _ ?_, fun hnone => ?_, fun hno hon hfr => ?_, fun i o hr ho hbec => ?_⟩
  · rw [ovenAt_congr hdovens, hdone.done j hj, hat, hend]
  · have hfirst : Tallied 28 0 t m := hm ▸ .countWhere_other (k := .draw) (by decide) (by decide) _ _ _
    have h := ((hstart 28).trans hfirst).trans hdone.sensor
    simp only [hat, hworked, Nat.zero_add] at h
    exact h
  · have hfirst : Tallied 29 (mainTurnsStale k c).toNat t m := hm ▸ .countWhere (k := .draw) rfl _ _ _
    have h := ((hstart 29).trans hfirst).trans hdone.draw
    simp only [hat, hworked, Nat.zero_add] at h
    exact h
  · have hother (j : Nat) : isJobOven m j = false := by
      have hoven : m.job.oven = none := by rw [hquiet.job, ht]; exact hnone
      simp [isJobOven, jobIndex, hoven]
    have hall : Quiet t z := hquiet.trans (by rw [hz]; exact cyclesDone_quiet (a := 0) (Nat.zero_le _) fun j _ _ => hother j)
    have h := hall.offers.withFrameOf y
    rw [← hframe] at h
    have hbase : withFrameOf y { t with table := { t.table with ovens := z.table.ovens } } = { c with
        table := { c.table with ovens := d.table.ovens }
        reg := { c.reg with cycle := none, answer := none, frame := d.reg.frame, frameHeld := d.reg.frameHeld,
                            main := { d.reg.main with queued := c.reg.main.queued } }
        due := { c.due with cycleComplete := false } } := by
      have hdframe : d.reg.frame = y.reg.frame := by rw [hfree.reg]
      have hdheld : d.reg.frameHeld = y.reg.frameHeld := by rw [hfree.reg]
      rw [hdovens, hdframe, hdheld, hdmain, ← mainAfter_queued k c, ht]
      rfl
    rw [← hbase]
    exact h.trans hfree
  · have hzframe : z.reg.frame = none := by
      rw [hdone.frame fun j => (hreport j).trans (hno j), hreg, ht]
      exact hfr
    have hzon : z.reg.framesOn = true := by
      rw [hdone.framesOn, hreg, ht]
      exact hon
    have hyframe : y.reg.frame = some (buildFrame z) := by
      rw [hy, requestFrame, if_pos (by rw [hzon, hzframe]; rfl)]
    have hdframe : d.reg.frame = y.reg.frame := by rw [hfree.reg]
    rw [hdframe, hyframe]
    simp only [buildFrame, commandAt, ovenAt_congr hdovens]
  · have hlt : i < c.table.ovens.length := (List.getElem?_eq_some_iff.mp ho).1
    obtain ⟨hjob, hwaits⟩ := cyclesDone_isolated (k := k) hz hlt ((hreport i).trans hr) ((hat i).trans ho) (by rw [hworked]; exact hbec)
    have hmjob : m.job = c.job := by rw [hquiet.job, ht]; rfl
    rw [hmjob] at hjob hwaits
    rw [hworked] at hwaits
    have hstate : y.job.state ≠ .bidding := by
      rw [hyjob, hjob]
      exact fun hx => by cases hx
    refine ⟨by rw [hfree.job_of_ne hstate, hyjob, hjob], fun n hn ha hroom howed => ?_⟩
    have htonce : EventOnce c m := EventOnce.trans (c := t) (.of_eq (by rw [ht]; rfl) (by rw [ht]; rfl)) hquiet.once
    have hmactive : isActive m = true := by
      have hmstart : m.start = c.start := by rw [hquiet.start, ht]; rfl
      rw [isActive, hmstart]
      exact ha
    have hlen := htonce.length_le
    obtain ⟨hpermit, hphase, hnone⟩ := hwaits n hn hmactive (by rw [roomFor] at hroom ⊢; omega) howed
    rw [htonce.number] at hpermit hphase
    have hfinal {u : Telegram} (hu : waitsInTx u z) : waitsInTx u d := by
      rw [hd]
      exact waitsInTx_freePlace_of_none_owed (by rw [waitsInTx, hyline]; exact hu) (by rw [hyjob]; exact hnone)
    exact ⟨hfinal hpermit, hfinal hphase⟩

end Sys2Proof.Machine
end

section
/-! SUPPORT. What a completion leaves in the oven records, and the events it counts (R154 to R182). -/

-- The lemmas are checked one after another, as the tests are.
set_option Elab.async false

namespace Sys2Proof.Machine

open Sys2Proof

/-! ## The oven records -/

theorem ovenEnd_cases (k : Cycle) (c : Controller) (i : Nat) (o : Oven) :
    ovenEnd k c i o = ovenDone k c i o
      ∨ isolatedReport c i = true ∧ becomesIsolated o (ovenDone k c i o) = true
        ∧ ovenEnd k c i o = movedOven (cfg c) .isolated (anyRemoved c i) (ovenDone k c i o) := by
  unfold ovenEnd
  split
  · next h =>
    obtain ⟨hr, hb⟩ := Bool.and_eq_true_iff.mp h
    exact .inr ⟨hr, hb, rfl⟩
  · exact .inl rfl

/-- A report of isolation complete moves the phase and the valve alone. -/
theorem ovenEnd_keeps {k : Cycle} {c : Controller} {i : Nat} {o : Oven} (e w : Oven) (he : e = ovenEnd k c i o) (hw : w = ovenDone k c i o) :
    e.number = w.number ∧ e.minutes = w.minutes ∧ e.target = w.target ∧ e.inhibited = w.inhibited ∧ e.hardCount = w.hardCount
      ∧ e.filtered = w.filtered ∧ e.invalid = w.invalid ∧ e.feedback = w.feedback ∧ e.stuck = w.stuck ∧ e.stuckCount = w.stuckCount := by
  obtain h | ⟨_, _, h⟩ := ovenEnd_cases k c i o
  · rw [he, hw, h]
    exact ⟨rfl, rfl, rfl, rfl, rfl, rfl, rfl, rfl, rfl, rfl⟩
  · obtain ⟨h1, _, h2, h3, _, h4, h5⟩ := movedOven_keeps (cfg c) .isolated (anyRemoved c i) (ovenDone k c i o)
    obtain ⟨h6, h7, h8, h9, h10⟩ := movedOven_samples (cfg c) .isolated (anyRemoved c i) (ovenDone k c i o)
    rw [he, hw, h]
    exact ⟨h1, h2, h3, h4, h5, h6, h7, h8, h9, h10⟩

/-- Only from ISOLATING is isolation reported. -/
theorem ovenEnd_of_ne {k : Cycle} {c : Controller} {i : Nat} {o : Oven} (h : o.mode ≠ .isolating) :
    ovenEnd k c i o = ovenDone k c i o := by
  obtain he | ⟨_, hb, _⟩ := ovenEnd_cases k c i o
  · exact he
  · exact absurd (becomesIsolated_shut rfl hb).1 h

/-! ## The events -/

/-- The ovens of which p holds are counted pointwise. -/
theorem ovensWhere_eq {p : Oven → Oven → Prop} [DecidableRel p] {g : Nat → Oven → Oven} {q : Nat → Oven → Bool} {c d : Controller}
    (hd : ∀ j, j < c.table.ovens.length → ovenAt d j = (ovenAt c j).map (g j)) (hq : ∀ j o, q j o = decide (p o (g j o))) :
    ovensWhere p c d = (List.range c.table.ovens.length).countP fun j => (ovenAt c j).any (q j) := by
  refine List.countP_congr fun j hj => ?_
  rw [hd j (List.mem_range.mp hj)]
  cases ovenAt c j with
  | none => rfl
  | some o => simp [hq]

theorem invalid_of_sample (g : Config) (z : Channel) (x : Option Nat) (o : Oven) :
    (o.takePressure g z x).invalid = 0 ∨ (o.takePressure g z x).invalid = min 255 (o.invalid + 1) := by
  cases x with
  | none => exact .inr rfl
  | some v => exact .inl rfl

/-- SENSOR INVALID is counted where the invalid count goes from 2 to 3 (R154). -/
theorem sensorInvalid_eq (k : Cycle) (c : Controller) (i : Nat) (o : Oven) :
    sensorInvalid o (ovenDone k c i o) = decide (o.invalid = 2 ∧ (ovenEnd k c i o).invalid = 3) := by
  obtain ⟨_, _, _, _, _, _, hinv, _⟩ := ovenEnd_keeps _ _ (rfl : ovenEnd k c i o = _) rfl
  obtain ⟨_, _, _, _, _, _, hw, _⟩ := ovenCompletion_keeps _ (rfl : ovenDone k c i o = _)
  have hcases := invalid_of_sample (cfg c) (channelOf (cfg c) (i + 1)) (sampleAt k (i + 1)) o
  rw [← hw] at hcases
  rw [hinv, Bool.eq_iff_iff]
  simp only [sensorInvalid, Bool.and_eq_true, beq_iff_eq, bne_iff_ne, decide_eq_true_eq]
  omega

/-- VALVE STUCK is counted where the flag is set (R167). -/
theorem turnsStuck_eq (k : Cycle) (c : Controller) (i : Nat) (o : Oven) :
    turnsStuck o (ovenDone k c i o) = decide (o.stuck = false ∧ (ovenEnd k c i o).stuck = true) := by
  obtain ⟨_, _, _, _, _, _, _, _, hstuck, _⟩ := ovenEnd_keeps _ _ (rfl : ovenEnd k c i o = _) rfl
  rw [hstuck, turnsStuck]
  cases o.stuck <;> cases (ovenDone k c i o).stuck <;> rfl

/-- The no-draw count of a completion: as it was, cleared, or one higher (R165). -/
theorem noDraw_cases (g : Config) (z : Channel) (leaking : Bool) (main : MainRecord) (x f : Option Nat) (o : Oven) :
    (ovenCompletion g z leaking main x f o).noDraw = o.noDraw ∨ (ovenCompletion g z leaking main x f o).noDraw = 0
      ∨ (ovenCompletion g z leaking main x f o).noDraw = min 255 (o.noDraw + 1) := by
  have hcompute (leaking : Bool) (main : Option Int) (s : Oven) : (s.compute g leaking main).noDraw = s.noDraw
      ∨ (s.compute g leaking main).noDraw = 0 ∨ (s.compute g leaking main).noDraw = min 255 (s.noDraw + 1) := by
    unfold Oven.compute
    split
    · dsimp only
      split
      · exact .inr (.inl rfl)
      · exact .inr (.inr rfl)
    · exact .inl rfl
  obtain ⟨hm, _, _, hn, _⟩ := sampled_mode _ (rfl : o.sampled g z x f = _)
  by_cases h : ((o.sampled g z x f).mode = .hold ∨ (o.sampled g z x f).mode = .regulate) ∧ (x.isSome && !main.stale) = true
  · rw [ovenCompletion_eq, h.2, worked_trusted h.1, ← hn]
    exact hcompute leaking main.value _
  · rw [ovenCompletion_eq, worked_noDraw h, hn]
    exact .inl rfl

/-- NO DRAW is counted where the count goes from 9 to 10 (R165). -/
theorem reachesNoDraw_eq (k : Cycle) (c : Controller) (i : Nat) (o : Oven) :
    reachesNoDraw o (ovenDone k c i o) = decide (o.noDraw = 9 ∧ (ovenEnd k c i o).noDraw = 10) := by
  have hcases : (ovenDone k c i o).noDraw = o.noDraw ∨ (ovenDone k c i o).noDraw = 0
      ∨ (ovenDone k c i o).noDraw = min 255 (o.noDraw + 1) := noDraw_cases _ _ _ _ _ _ _
  rw [Bool.eq_iff_iff]
  simp only [reachesNoDraw, Bool.and_eq_true, beq_iff_eq, bne_iff_ne, decide_eq_true_eq]
  by_cases hm : o.mode = .isolating
  · have hmode : o.mode ≠ .hold ∧ o.mode ≠ .regulate := by
      rw [hm]
      exact ⟨fun hx => (by cases hx), fun hx => by cases hx⟩
    have hsame : (ovenDone k c i o).noDraw = o.noDraw := ovenCompletion_noDraw hmode
    have hend : (ovenEnd k c i o).noDraw = o.noDraw ∨ (ovenEnd k c i o).noDraw = 0 := by
      obtain he | ⟨_, _, he⟩ := ovenEnd_cases k c i o
      · rw [he]
        exact .inl hsame
      · rw [he]
        unfold movedOven
        split
        · exact .inl hsame
        · exact .inr rfl
    omega
  · rw [ovenEnd_of_ne hm]
    omega

end Sys2Proof.Machine
end

section
/-! SUPPORT. The completion of a converter cycle, settled. -/

-- The lemmas are checked one after another, as the tests are.
set_option Elab.async false

namespace Sys2Proof.Machine

open Sys2Proof

/-- The report of isolation complete that the push job takes (R77, R168). -/
theorem isolationReported_iff {k : Cycle} {c : Controller} {i : Nat} {o : Oven} (hc : o.isoCount ≤ 2) :
    (isolatedReport c i = true ∧ becomesIsolated o (ovenDone k (mainTaken k c) i o) = true)
      ↔ IsolationReported c i o (sampleAt k (i + 9)) := by
  have hreport : isolatedReport c i = true ↔ c.job.state = .claimed ∧ receiving c = true ∧ jobIndex c = some i := by
    simp only [isolatedReport, jobRuns, isJobOven, Bool.and_eq_true, beq_iff_eq]
    exact ⟨fun ⟨⟨hr, hi⟩, hs⟩ => ⟨hs, hr, hi⟩, fun ⟨hs, hr, hi⟩ => ⟨⟨hr, hi⟩, hs⟩⟩
  have hshut : shutFeedback (cfg c) (sampleAt k (i + 9)) o
      ↔ o.command ≤ (cfg c).riso ∧ ∃ v, sampleAt k (i + 9) = some v ∧ scaleFeedback v ≤ 10 :=
    and_congr (by omega) Iff.rfl
  rw [hreport]
  constructor
  · rintro ⟨⟨hs, hr, hi⟩, hb⟩
    obtain ⟨hm, hf, hone⟩ := becomesIsolated_shut rfl hb
    obtain ⟨hle, hfb⟩ := hshut.mp hf
    exact ⟨hs, hr, hi, hm, hone hc, hle, hfb⟩
  · rintro ⟨hs, hr, hi, hm, hone, hle, hfb⟩
    exact ⟨⟨hs, hr, hi⟩, becomesIsolated_of_shut rfl hm (hshut.mpr ⟨hle, hfb⟩) hone⟩

/-- The record of an ISOLATING oven that enters ISOLATED, no door of it REMOVED (R156). -/
theorem movedOven_isolated (g : Config) (o : Oven) : movedOven g .isolated false o =
    { o with phase := .isolated, stage := none, mode := .closed, command := 0, integrator := 0, isoCount := 0, noDraw := 0 } := rfl

/-- Settles O26: the main record is taken, then the ovens one after another; only the oven of a CLAIMED job can be told of
isolation. -/
theorem completionWorks : Obligations.CompletionWorks := by
  intro q c k i o x f hp hdue hk ho hx hf
  obtain ⟨d, hstep, hdone⟩ := cycleCompleted (q := q) hp hdue hk
  obtain ⟨t, ht⟩ : ∃ t, t = mainTaken k c := ⟨_, rfl⟩
  obtain ⟨w, hw⟩ : ∃ w, w = ovenDone k t i o := ⟨_, rfl⟩
  obtain ⟨e, he⟩ : ∃ e, e = ovenEnd k t i o := ⟨_, rfl⟩
  have hlt : i < c.table.ovens.length := (List.getElem?_eq_some_iff.mp ho).1
  have hcfg : cfg t = cfg c := by rw [ht]; rfl
  have hoven : ovenAt d i = some e := by rw [hdone.ovens i hlt, ho, he, ht]; rfl
  have hcompletion : w = ovenCompletion (cfg c) (channelOf (cfg c) (i + 1)) (anyLeaking c i) (mainAfter k c) x f o := by
    rw [hw, ht, hx, hf]
    rfl
  obtain ⟨knumber, kminutes, ktarget, kinhibited, khard, kfiltered, kinvalid, kfeedback, kstuck, kcount⟩ := ovenEnd_keeps e w he hw
  obtain ⟨wnumber, wphase, wminutes, wtarget, winhibited, whard, winvalid, wfiltered, wfeedback, wstuck, wcount⟩ :=
    ovenCompletion_keeps w hcompletion
  have hne (h : o.mode ≠ .isolating) : e = w := by rw [he, hw]; exact ovenEnd_of_ne h
  have hreport : isolatedReport t i = isolatedReport c i := isolatedReport_congr (by rw [ht]; rfl) (by rw [ht]; rfl) i
  have hcount (hc : CountersInv c) : o.isoCount ≤ 2 := by
    obtain ⟨_, _, _, hovens, _⟩ := hc
    obtain ⟨_, _, _, hiso, _⟩ := hovens o (List.mem_of_getElem? ho)
    exact hiso
  have hunreported (hc : CountersInv c) (h : ¬ IsolationReported c i o f) : e = w := by
    rw [he, hw]
    obtain h' | ⟨hr, hb, _⟩ := ovenEnd_cases k t i o
    · exact h'
    · refine absurd ?_ h
      rw [hf]
      exact (isolationReported_iff (hcount hc)).mp ⟨hreport.symm.trans hr, ht ▸ hb⟩
  have hstale : d.reg.main.stale = (mainAfter k c).stale := by rw [hdone.main]
  have hvalue : d.reg.main.value = (mainAfter k c).value := by rw [hdone.main]
  have hinvalid : d.reg.main.invalid = (mainAfter k c).invalid := by rw [hdone.main]
  have hthirty (hc : CountersInv c) : thirtyEntries c := hc.1
  have hovens (j : Nat) (hj : j < c.table.ovens.length) : ovenAt d j = (ovenAt c j).map (ovenEnd k (mainTaken k c) j) := hdone.ovens j hj
  have hregulates {p : Prop} (h : o.mode = .hold ∨ o.mode = .regulate) (hp : o.mode ≠ .isolating → p) : p := by
    refine hp fun hx => ?_
    rw [hx] at h
    obtain h | h := h <;> cases h
  refine ⟨d, e, hstep, hoven, hdone.offers, fun hno hon hfr => hdone.frame (fun j => ?_) hon hfr, fun htap => ?_,
    fun v htap hv => ?_, fun htap hv => ?_, fun hc => ?_, fun hc => ?_, knumber.trans wnumber, kminutes.trans wminutes,
    ktarget.trans wtarget, kinhibited.trans winhibited, khard.trans whard, fun v hv => ?_, fun hv => ?_, fun v hv => ?_, fun hv => ?_,
    fun hv => ?_, fun v hv => ?_, fun hc h => ?_, fun hm => ?_, fun hm => ?_, fun hm hc h => ?_, fun hm => ?_, fun hm hu => ?_,
    fun hm hxn hs => ?_, fun pf mv er former row hm hxn hs hpf hmv hrow her hformer => ?_, fun h hr => ?_⟩
  · obtain hs | hn := hno
    · simp [isolatedReport, hs]
    · simp [isolatedReport, isJobOven, jobIndex, hn]
  · rw [hdone.main, mainAfter, if_neg (by rw [htap]; exact Bool.false_ne_true)]
  · rw [hstale, hinvalid, hvalue, mainAfter, if_pos htap, hv]
    exact ⟨rfl, rfl, rfl⟩
  · rw [hstale, hinvalid, hvalue]
    exact mainAfter_of_none htap hv
  · rw [hdone.sensor.count (hthirty hc) (entry_count_le hc 28), ovensWhere_eq hovens (sensorInvalid_eq k _),
      ovensWhere_eq hovens (turnsStuck_eq k _), Nat.add_assoc]
  · rw [hdone.draw.count (hthirty hc) (entry_count_le hc 29), ovensWhere_eq hovens (reachesNoDraw_eq k _), hstale]
    have hturns : (mainTurnsStale k c).toNat = if c.reg.main.stale = false ∧ (mainAfter k c).stale = true then 1 else 0 := by
      rw [mainTurnsStale]
      cases c.reg.main.stale <;> cases (mainAfter k c).stale <;> rfl
    rw [hturns]
    omega
  · subst hv
    exact ⟨kinvalid.trans winvalid, kfiltered.trans wfiltered⟩
  · subst hv
    exact ⟨kinvalid.trans winvalid, kfiltered.trans wfiltered⟩
  · subst hv
    exact kfeedback.trans wfeedback
  · subst hv
    exact kfeedback.trans wfeedback
  · obtain ⟨_, hs, hn⟩ := (sampled_feedback (cfg c) (channelOf (cfg c) (i + 1)) x f o).2 hv
    exact ⟨kstuck.trans (wstuck.trans hs), kcount.trans (wcount.trans hn)⟩
  · subst hv
    obtain ⟨hs, hn⟩ := sampled_stuck (g := cfg c) (z := channelOf (cfg c) (i + 1)) (press := x) (v := v) (o := o)
    rw [kstuck.trans (wstuck.trans hs), kcount.trans (wcount.trans hn)]
    refine ⟨fun h => stuckCheck_agrees h.symm, fun h => stuckCheck_differs ?_⟩
    rw [h, deviates, ← decide_not]
    exact decide_eq_decide.mpr Nat.not_le.symm
  · rw [hunreported hc h]
    exact wphase
  · rw [hne (by rw [hm]; exact fun hx => by cases hx), hcompletion]
    exact ovenCompletion_closed hm
  · rw [hne (by rw [hm]; exact fun hx => by cases hx), hcompletion]
    exact ovenCompletion_forced hm
  · rw [hunreported hc h, hcompletion]
    obtain ⟨hmode, hcommand, hshut, hopen⟩ := ovenCompletion_isolating (g := cfg c) (z := channelOf (cfg c) (i + 1))
      (leaking := anyLeaking c i) (main := mainAfter k c) (x := x) (f := f) hm
    rw [hcommand]
    exact ⟨hmode, rfl, hshut, hopen⟩
  · rw [hne hm, hcompletion]
    exact ovenCompletion_isoCount hm
  · rw [hregulates hm hne, hcompletion]
    exact ovenCompletion_hold hm (hstale ▸ hu)
  · rw [hregulates hm hne, hcompletion]
    exact ovenCompletion_regulate hm hxn (hstale.symm.trans hs)
  · have hew := hregulates hm hne
    rw [hew] at hpf ⊢
    exact ovenCompletion_computed hcompletion hm hxn (hstale.symm.trans hs) hpf (hvalue.symm.trans hmv) hrow her hformer
  · have hc : o.isoCount ≤ 2 := by
      obtain ⟨_, _, _, _, hone, _⟩ := h
      omega
    obtain ⟨hreported, hbecomes⟩ := (isolationReported_iff (k := k) hc).mpr (hf ▸ h)
    have hmoved : e = movedOven (cfg c) .isolated false w := by
      have hremoved : anyRemoved t i = false := by rw [ht]; exact hr
      rw [he, ovenEnd, hreport, hreported, ht, hbecomes, ← ht, hcfg, hremoved, hw]
      rfl
    have htel (n : Nat) : phaseTelegram n e = phaseTelegram n { w with phase := .isolated } := by
      rw [hmoved, movedOven_isolated]
      exact phaseTelegram_congr rfl rfl rfl rfl
    obtain ⟨hjob, hwaits⟩ := hdone.isolated i o hreported ho hbecomes
    rw [← ht, ← hw] at hwaits
    simp only [htel]
    rw [hmoved, movedOven_isolated]
    exact ⟨rfl, rfl, rfl, rfl, rfl, rfl, hjob, hwaits⟩

end Sys2Proof.Machine
end
